-- ==== Sys2Proof/Word.lean ====
section
/-! DEFINITION. The word types of the part: bytes, 64-bit register words, and the plainest arithmetic on them. -/

namespace Sys2Proof

/-- One byte. -/
abbrev Byte := BitVec 8

/-- One register or stored word of 64 bits (R15, R16). -/
abbrev Word := BitVec 64

/-- The `w` bits of the number `n` that start at bit `lo`. -/
def bitsOf (n lo w : Nat) : Nat := (n >>> lo) % 2 ^ w

/-- Whether bit `i` of the number `n` is 1. -/
def bitAt (n i : Nat) : Bool := n.testBit i

/-- A number of 0 or 1 from a truth value. -/
def b2n (b : Bool) : Nat := if b then 1 else 0

/-- The number with value `v` placed at bit `lo` in a field of `w` bits. -/
def atBits (v lo w : Nat) : Nat := (v % 2 ^ w) <<< lo

/-- Division of natural numbers rounded up; 0 for a divisor of 0. -/
def ceilDiv (a b : Nat) : Nat := (a + b - 1) / b

end Sys2Proof
end

