-- ==== Sys2Proof/Machine/RegMap.lean ====
section
/-! DEFINITION. The register map: every register the manual gives the part, with its place, its width, and its fields
with their access code, change class and reset value (21_register_map.md R535, R537 and the register tables of
chapters 02 to 21). A register's KEY is its byte offset in BAR0 of the management function (R535). The data-mover
function's own registers (R302, R333) have keys of their own above that space: BAR 0 pages at 0x800_0000, BAR 4 of
virtual switch v at 0x1000_0000 + v * 0x1_0000 (log entry 8). -/

namespace Sys2Proof.Machine

/-- Access codes of R8. -/
inductive Acc where
  | ro | rw | rc | w1c | w1s
  deriving DecidableEq, Repr

/-- Change classes of R14 (`none` for a field the manual gives no class). -/
inductive Cls where
  | none | live | sh | quiesce
  deriving DecidableEq, Repr

/-- Where a field's reset value comes from (R13, R455): a number, the personality image, the OTP, or a rule. -/
inductive Rst where
  | val (n : Nat) | img | otp | special
  deriving DecidableEq, Repr

/-- One field of a register: bits [hi:lo], access code, whether LK applies, change class, reset value. -/
structure FieldDef where
  hi : Nat
  lo : Nat
  acc : Acc
  lk : Bool
  cls : Cls
  rst : Rst
  deriving DecidableEq, Repr

/-- One register, or an array of them: the first instance's key, (stride, count) for each index, width in bits,
and the fields that are not reserved. -/
structure RegDef where
  base : Nat
  dims : List (Nat × Nat)
  width : Nat
  fields : List FieldDef
  deriving DecidableEq, Repr

/-- A field's place within its register. -/
structure Fld where
  hi : Nat
  lo : Nat
  deriving DecidableEq, Repr

/-! ### Keys, by the manual's register names -/

namespace R

/-- CTL_BASE: 02 R45. -/
def CTL_BASE (r : Nat) : Nat := 0x40000 + 0x40 * r
/-- CTL_CFG: 02 R45. -/
def CTL_CFG (r : Nat) : Nat := 0x40008 + 0x40 * r
/-- CTL_PI: 02 R45. -/
def CTL_PI (r : Nat) : Nat := 0x40010 + 0x40 * r
/-- CTL_CI: 02 R45. -/
def CTL_CI (r : Nat) : Nat := 0x40018 + 0x40 * r
/-- CTL_STAT: 02 R45. -/
def CTL_STAT (r : Nat) : Nat := 0x40020 + 0x40 * r
/-- CTL_EPOCH: 02 R45. -/
def CTL_EPOCH : Nat := 0x40200
/-- CTL_CFG_ERR: 02 R45. -/
def CTL_CFG_ERR : Nat := 0x40208
/-- CTL_COMMIT_CFG: 02 R45. -/
def CTL_COMMIT_CFG : Nat := 0x40210
/-- CTL_SHADOW_POOL: 02 R45. -/
def CTL_SHADOW_POOL : Nat := 0x40218
/-- XBC_CFG: 03 R95. -/
def XBC_CFG : Nat := 0x280000
/-- XBC_ALPHA: 03 R95. -/
def XBC_ALPHA : Nat := 0x280008
/-- XBC_SHARED: 03 R95. -/
def XBC_SHARED : Nat := 0x280010
/-- XBC_AGE_LIMIT_TC: 03 R95. -/
def XBC_AGE_LIMIT_TC (t : Nat) : Nat := 0x280040 + 0x8 * t
/-- XBC_CNT: 03 R95. -/
def XBC_CNT (k : Nat) : Nat := 0x280100 + 0x8 * k
/-- XBC_PORT_SPEED: 03 R95. -/
def XBC_PORT_SPEED (p : Nat) : Nat := 0x280400 + 0x8 * p
/-- XBC_SMP_CFG: 03 R95. -/
def XBC_SMP_CFG (p : Nat) : Nat := 0x280800 + 0x8 * p
/-- XBC_ACCT: 03 R95. -/
def XBC_ACCT (a t : Nat) : Nat := 0x281000 + 0x40 * a + 0x8 * t
/-- XBC_OCC: 03 R95. -/
def XBC_OCC (a t : Nat) : Nat := 0x284000 + 0x40 * a + 0x8 * t
/-- MCE_STAT: 04 R124. -/
def MCE_STAT : Nat := 0x2C0000
/-- MCE_CNT: 04 R124. -/
def MCE_CNT (k : Nat) : Nat := 0x2C0100 + 0x8 * k
/-- CMT_CFG: 04 R124. -/
def CMT_CFG : Nat := 0x2C1000
/-- CMT_STAT: 04 R124. -/
def CMT_STAT : Nat := 0x2C1008
/-- CMT_CNT: 04 R124. -/
def CMT_CNT (k : Nat) : Nat := 0x2C1100 + 0x8 * k
/-- RTE_CFG: 05 R154. -/
def RTE_CFG : Nat := 0x300000
/-- RTE_TC_VC: 05 R154. -/
def RTE_TC_VC : Nat := 0x300008
/-- RTE_ESC_THR: 05 R154. -/
def RTE_ESC_THR : Nat := 0x300010
/-- RTE_FLOW_CFG: 05 R154. -/
def RTE_FLOW_CFG : Nat := 0x300018
/-- RTE_STAT: 05 R154. -/
def RTE_STAT : Nat := 0x300020
/-- RTE_GAP_TMO_TC: 05 R154. -/
def RTE_GAP_TMO_TC (t : Nat) : Nat := 0x300040 + 0x8 * t
/-- RTE_CNT: 05 R154. -/
def RTE_CNT (k : Nat) : Nat := 0x300100 + 0x8 * k
/-- RTE_BUNDLE: 05 R154. -/
def RTE_BUNDLE (b : Nat) : Nat := 0x300200 + 0x8 * b
/-- RTE_SRC_FID: 05 R154. -/
def RTE_SRC_FID (i : Nat) : Nat := 0x300800 + 0x8 * i
/-- TMG_CFG: 06 R177. -/
def TMG_CFG : Nat := 0x340000
/-- TMG_CAL_CFG: 06 R177. -/
def TMG_CAL_CFG : Nat := 0x340008
/-- TMG_HIST_CFG: 06 R177. -/
def TMG_HIST_CFG : Nat := 0x340010
/-- TMG_SNAP_SEL: 06 R177. -/
def TMG_SNAP_SEL : Nat := 0x340018
/-- TMG_SNAP_Q: 06 R177. -/
def TMG_SNAP_Q : Nat := 0x340020
/-- TMG_CAL_STAT: 06 R177. -/
def TMG_CAL_STAT (q : Nat) : Nat := 0x340040 + 0x8 * q
/-- TMG_SNAP_DEPTH: 06 R177. -/
def TMG_SNAP_DEPTH (k : Nat) : Nat := 0x340100 + 0x8 * k
/-- TMG_SNAP_DELAY: 06 R177. -/
def TMG_SNAP_DELAY (k : Nat) : Nat := 0x340180 + 0x8 * k
/-- TMG_CNT: 06 R177. -/
def TMG_CNT (k : Nat) : Nat := 0x340200 + 0x8 * k
/-- TMG_FID_VH: 06 R177. -/
def TMG_FID_VH (i : Nat) : Nat := 0x341000 + 0x8 * i
/-- BRG_CFG: 07 R215. -/
def BRG_CFG : Nat := 0x380000
/-- BRG_TRK_CFG: 07 R215. -/
def BRG_TRK_CFG : Nat := 0x380008
/-- BRG_TRK_STAT: 07 R215. -/
def BRG_TRK_STAT : Nat := 0x380010
/-- BRG_LOCK_CFG: 07 R215. -/
def BRG_LOCK_CFG : Nat := 0x380018
/-- BRG_LOCK_STAT: 07 R215. -/
def BRG_LOCK_STAT : Nat := 0x380020
/-- BRG_CNT: 07 R215. -/
def BRG_CNT (k : Nat) : Nat := 0x380100 + 0x8 * k
/-- BRG_WINBAR: 07 R215. -/
def BRG_WINBAR (v : Nat) : Nat := 0x380400 + 0x8 * v
/-- BRG_WIN_BASE: 07 R215. -/
def BRG_WIN_BASE (w : Nat) : Nat := 0x381000 + 0x20 * w
/-- BRG_WIN_CFG: 07 R215. -/
def BRG_WIN_CFG (w : Nat) : Nat := 0x381008 + 0x20 * w
/-- BRG_WIN_XLT: 07 R215. -/
def BRG_WIN_XLT (w : Nat) : Nat := 0x381010 + 0x20 * w
/-- BRG_WIN_PFDROP: 07 R215. -/
def BRG_WIN_PFDROP (w : Nat) : Nat := 0x381018 + 0x20 * w
/-- BRG_INB_CFG: 07 R215. -/
def BRG_INB_CFG (i : Nat) : Nat := 0x392000 + 0x20 * i
/-- BRG_INB_OFF: 07 R215. -/
def BRG_INB_OFF (i : Nat) : Nat := 0x392008 + 0x20 * i
/-- BRG_INB_HOST: 07 R215. -/
def BRG_INB_HOST (i : Nat) : Nat := 0x392010 + 0x20 * i
/-- PCP_PORT_CFG: 08 R242. -/
def PCP_PORT_CFG (g s : Nat) : Nat := 0xC80000 + 0x40000 * g + 0x2000 * s
/-- PCP_LINK_STAT: 08 R242. -/
def PCP_LINK_STAT (g s : Nat) : Nat := 0xC80008 + 0x40000 * g + 0x2000 * s
/-- PCP_FC: 08 R242. -/
def PCP_FC (g s : Nat) : Nat := 0xC80010 + 0x40000 * g + 0x2000 * s
/-- PCP_FC_ADV: 08 R242. -/
def PCP_FC_ADV (g s : Nat) : Nat := 0xC80018 + 0x40000 * g + 0x2000 * s
/-- PCP_PM_CFG: 08 R242. -/
def PCP_PM_CFG (g s : Nat) : Nat := 0xC80020 + 0x40000 * g + 0x2000 * s
/-- PCP_SLOT_CFG: 08 R242. -/
def PCP_SLOT_CFG (g s : Nat) : Nat := 0xC80028 + 0x40000 * g + 0x2000 * s
/-- PCP_CFGRQ: 08 R242. -/
def PCP_CFGRQ (g s : Nat) : Nat := 0xC80040 + 0x40000 * g + 0x2000 * s
/-- PCP_CFGRQ_DATA: 08 R242. -/
def PCP_CFGRQ_DATA (g s : Nat) : Nat := 0xC80048 + 0x40000 * g + 0x2000 * s
/-- PCP_CNT: 08 R242. -/
def PCP_CNT (g s k : Nat) : Nat := 0xC80100 + 0x40000 * g + 0x2000 * s + 0x8 * k
/-- SGL_CFG: 09 R276. -/
def SGL_CFG (g s : Nat) : Nat := 0xC88000 + 0x40000 * g + 0x2000 * s
/-- SGL_LINK_STAT: 09 R276. -/
def SGL_LINK_STAT (g s : Nat) : Nat := 0xC88008 + 0x40000 * g + 0x2000 * s
/-- SGL_SWAP_CMD: 09 R276. -/
def SGL_SWAP_CMD (g s : Nat) : Nat := 0xC88010 + 0x40000 * g + 0x2000 * s
/-- SGL_CRED: 09 R276. -/
def SGL_CRED (g s p : Nat) : Nat := 0xC88100 + 0x40000 * g + 0x2000 * s + 0x8 * p
/-- SGL_CNT: 09 R276. -/
def SGL_CNT (g s k : Nat) : Nat := 0xC88200 + 0x40000 * g + 0x2000 * s + 0x8 * k
/-- SGL_SPARE: 09 R276. -/
def SGL_SPARE (g : Nat) : Nat := 0xC8FF00 + 0x40000 * g
/-- LG_CFG: 10 R299. -/
def LG_CFG (g : Nat) : Nat := 0x480000 + 0x40000 * g
/-- LG_BRINGUP: 10 R299. -/
def LG_BRINGUP (g : Nat) : Nat := 0x480008 + 0x40000 * g
/-- LG_BITSLIP: 10 R299. -/
def LG_BITSLIP (g : Nat) : Nat := 0x480010 + 0x40000 * g
/-- LG_ADAPT_CFG: 10 R299. -/
def LG_ADAPT_CFG (g : Nat) : Nat := 0x480018 + 0x40000 * g
/-- LG_EYE_CFG: 10 R299. -/
def LG_EYE_CFG (g : Nat) : Nat := 0x480020 + 0x40000 * g
/-- LG_EYE_STAT: 10 R299. -/
def LG_EYE_STAT (g : Nat) : Nat := 0x480028 + 0x40000 * g
/-- LG_TXEQ: 10 R299. -/
def LG_TXEQ (g l : Nat) : Nat := 0x480100 + 0x40000 * g + 0x20 * l
/-- LG_TEST: 10 R299. -/
def LG_TEST (g l : Nat) : Nat := 0x480108 + 0x40000 * g + 0x20 * l
/-- LG_PRBS_ERR: 10 R299. -/
def LG_PRBS_ERR (g l : Nat) : Nat := 0x480110 + 0x40000 * g + 0x20 * l
/-- LG_LANE_STAT: 10 R299. -/
def LG_LANE_STAT (g l : Nat) : Nat := 0x480118 + 0x40000 * g + 0x20 * l
/-- DMV_STAT: 11 R334. -/
def DMV_STAT : Nat := 0x3C0000
/-- DMV_CNT: 11 R334. -/
def DMV_CNT (k : Nat) : Nat := 0x3C0100 + 0x8 * k
/-- DMV_SLICE_MAP: 11 R334. -/
def DMV_SLICE_MAP (i : Nat) : Nat := 0x3D0000 + 0x8 * i
/-- DMV_SLICE_STAT: 11 R334. -/
def DMV_SLICE_STAT (i : Nat) : Nat := 0x3E0000 + 0x8 * i
/-- WLG_CFG: 11 R336. -/
def WLG_CFG : Nat := 0x400000
/-- WLG_REGION: 11 R336. -/
def WLG_REGION : Nat := 0x400008
/-- WLG_STAT: 11 R336. -/
def WLG_STAT : Nat := 0x400010
/-- WLG_CNT: 11 R336. -/
def WLG_CNT (k : Nat) : Nat := 0x400100 + 0x8 * k
/-- WLG_CTX_CFG: 11 R336. -/
def WLG_CTX_CFG (c : Nat) : Nat := 0x410000 + 0x20 * c
/-- WLG_CTX_HOST: 11 R336. -/
def WLG_CTX_HOST (c : Nat) : Nat := 0x410008 + 0x20 * c
/-- WLG_CTX_BMP: 11 R336. -/
def WLG_CTX_BMP (c : Nat) : Nat := 0x410010 + 0x20 * c
/-- WLG_CTX_STAT: 11 R336. -/
def WLG_CTX_STAT (c : Nat) : Nat := 0x410018 + 0x20 * c
/-- DCT_CFG: 12 R357. -/
def DCT_CFG : Nat := 0x440000
/-- DCT_ARM: 12 R357. -/
def DCT_ARM : Nat := 0x440008
/-- DCT_KEEP: 12 R357. -/
def DCT_KEEP : Nat := 0x440010
/-- DCT_STAT: 12 R357. -/
def DCT_STAT : Nat := 0x440018
/-- DCT_LAST: 12 R357. -/
def DCT_LAST : Nat := 0x440020
/-- DCT_CNT: 12 R357. -/
def DCT_CNT (k : Nat) : Nat := 0x440100 + 0x8 * k
/-- DCT_FLUSH: 12 R357. -/
def DCT_FLUSH (p : Nat) : Nat := 0x441000 + 0x8 * p
/-- PWR_CFG: 13 R380. -/
def PWR_CFG : Nat := 0x100000
/-- PWR_STAT: 13 R380. -/
def PWR_STAT : Nat := 0x100008
/-- PWR_RUN_MASK: 13 R380. -/
def PWR_RUN_MASK : Nat := 0x100010
/-- PWR_ON: 13 R380. -/
def PWR_ON : Nat := 0x100018
/-- PWR_LAST: 13 R380. -/
def PWR_LAST : Nat := 0x100020
/-- PWR_WAKE_CFG: 13 R380. -/
def PWR_WAKE_CFG : Nat := 0x100028
/-- PWR_PAD_HOLD: 13 R380. -/
def PWR_PAD_HOLD (k : Nat) : Nat := 0x100040 + 0x8 * k
/-- PWR_CNT: 13 R380. -/
def PWR_CNT (k : Nat) : Nat := 0x100100 + 0x8 * k
/-- SPC_ENABLE: 14 R396. -/
def SPC_ENABLE (n : Nat) : Nat := 0x1480000 + 0x40000 * n
/-- SPC_TIMING: 14 R396. -/
def SPC_TIMING (n : Nat) : Nat := 0x1480008 + 0x40000 * n
/-- SPC_STAT: 14 R396. -/
def SPC_STAT (n : Nat) : Nat := 0x1480010 + 0x40000 * n
/-- SPC_RAIL_CFG: 14 R396. -/
def SPC_RAIL_CFG (n r : Nat) : Nat := 0x1480040 + 0x40000 * n + 0x10 * r
/-- SPC_RAIL_MEAS: 14 R396. -/
def SPC_RAIL_MEAS (n r : Nat) : Nat := 0x1480048 + 0x40000 * n + 0x10 * r
/-- SPC_CNT: 14 R396. -/
def SPC_CNT (n k : Nat) : Nat := 0x1480100 + 0x40000 * n + 0x8 * k
/-- FCR_CFG: 15 R423. -/
def FCR_CFG : Nat := 0x80000
/-- FCR_STAT: 15 R423. -/
def FCR_STAT : Nat := 0x80008
/-- FCR_FIRST: 15 R423. -/
def FCR_FIRST : Nat := 0x80010
/-- FCR_FIRST_TIME: 15 R423. -/
def FCR_FIRST_TIME : Nat := 0x80018
/-- FCR_FORCE_CFG: 15 R423. -/
def FCR_FORCE_CFG : Nat := 0x80020
/-- FCR_CONTAINED_VS: 15 R423. -/
def FCR_CONTAINED_VS : Nat := 0x80028
/-- FCR_CONTAINED: 15 R423. -/
def FCR_CONTAINED (k : Nat) : Nat := 0x80030 + 0x8 * k
/-- FCR_CNT: 15 R423. -/
def FCR_CNT (k : Nat) : Nat := 0x80100 + 0x8 * k
/-- FCR_STICKY: 15 R423. -/
def FCR_STICKY (j : Nat) : Nat := 0x80400 + 0x8 * j
/-- FCR_FORCE: 15 R423. -/
def FCR_FORCE (j : Nat) : Nat := 0x80500 + 0x8 * j
/-- FCR_RXN: 15 R423. -/
def FCR_RXN (f : Nat) : Nat := 0x82000 + 0x8 * f
/-- TBM_CFG: 16 R451. -/
def TBM_CFG : Nat := 0x240000
/-- TBM_STAT: 16 R451. -/
def TBM_STAT : Nat := 0x240008
/-- TBM_CNT: 16 R451. -/
def TBM_CNT (k : Nat) : Nat := 0x240100 + 0x8 * k
/-- TBM_REGION: 16 R451. -/
def TBM_REGION (k : Nat) : Nat := 0x240400 + 0x8 * k
/-- TM_ARB_CFG: 16 R451. -/
def TM_ARB_CFG (d : Nat) : Nat := 0x2080000 + 0x40000 * d
/-- TM_LFSR: 16 R451. -/
def TM_LFSR (d : Nat) : Nat := 0x2080008 + 0x40000 * d
/-- TM_STAT: 16 R451. -/
def TM_STAT (d : Nat) : Nat := 0x2080010 + 0x40000 * d
/-- TM_ARB_REQ: 16 R451. -/
def TM_ARB_REQ (d r : Nat) : Nat := 0x2080100 + 0x40000 * d + 0x8 * r
/-- TM_CNT: 16 R451. -/
def TM_CNT (d k : Nat) : Nat := 0x2080200 + 0x40000 * d + 0x8 * k
/-- SEC_STAT: 17 R483. -/
def SEC_STAT : Nat := 0x180000
/-- SEC_BOOT: 17 R483. -/
def SEC_BOOT : Nat := 0x180008
/-- SEC_LC_NONCE: 17 R483. -/
def SEC_LC_NONCE : Nat := 0x180010
/-- SEC_LC_CMD: 17 R483. -/
def SEC_LC_CMD : Nat := 0x180018
/-- SEC_LC_AUTH: 17 R483. -/
def SEC_LC_AUTH : Nat := 0x180020
/-- SEC_FLASH_CMD: 17 R483. -/
def SEC_FLASH_CMD : Nat := 0x180028
/-- SEC_FLASH_ADDR: 17 R483. -/
def SEC_FLASH_ADDR : Nat := 0x180030
/-- SEC_IDE_REQ: 17 R483. -/
def SEC_IDE_REQ (k : Nat) : Nat := 0x180040 + 0x8 * k
/-- SEC_SVN: 17 R483. -/
def SEC_SVN (k : Nat) : Nat := 0x180100 + 0x8 * k
/-- MPU_VIOL: 17 R485. -/
def MPU_VIOL : Nat := 0xC0000
/-- MPU_VIOL_TIME: 17 R485. -/
def MPU_VIOL_TIME : Nat := 0xC0008
/-- MPU_CNT: 17 R485. -/
def MPU_CNT : Nat := 0xC0010
/-- MPU_SLOT: 17 R485. -/
def MPU_SLOT (n : Nat) : Nat := 0xC0400 + 0x8 * n
/-- AGE_CFG: 18 R501. -/
def AGE_CFG : Nat := 0x1C0000
/-- AGE_MARGIN_CFG: 18 R501. -/
def AGE_MARGIN_CFG : Nat := 0x1C0008
/-- AGE_STAT: 18 R501. -/
def AGE_STAT : Nat := 0x1C0010
/-- AGE_CAL_SEC: 18 R501. -/
def AGE_CAL_SEC : Nat := 0x1C0018
/-- AGE_LEDGER_SEL: 18 R501. -/
def AGE_LEDGER_SEL : Nat := 0x1C0020
/-- AGE_LEDGER_DATA: 18 R501. -/
def AGE_LEDGER_DATA (k : Nat) : Nat := 0x1C0040 + 0x8 * k
/-- AGE_EC: 18 R501. -/
def AGE_EC (c : Nat) : Nat := 0x1C0100 + 0x8 * c
/-- AGE_EC_RETIRED: 18 R501. -/
def AGE_EC_RETIRED (k : Nat) : Nat := 0x1C0200 + 0x8 * k
/-- AGE_LANE_RETIRED: 18 R501. -/
def AGE_LANE_RETIRED (k : Nat) : Nat := 0x1C0220 + 0x8 * k
/-- AGE_ROWS: 18 R501. -/
def AGE_ROWS (d : Nat) : Nat := 0x1C0300 + 0x8 * d
/-- AGE_RATE_PLAN: 18 R501. -/
def AGE_RATE_PLAN (p : Nat) : Nat := 0x1C0400 + 0x8 * p
/-- AGE_PDM: 18 R501. -/
def AGE_PDM (k : Nat) : Nat := 0x1C1000 + 0x8 * k
/-- AGE_RO: 18 R501. -/
def AGE_RO (k : Nat) : Nat := 0x1C2000 + 0x8 * k
/-- PMC_CFG: 19 R518. -/
def PMC_CFG : Nat := 0x200000
/-- PMC_STAT: 19 R518. -/
def PMC_STAT : Nat := 0x200008
/-- PMC_DUMP_CFG: 19 R518. -/
def PMC_DUMP_CFG : Nat := 0x200010
/-- PMC_SMP_CFG: 19 R518. -/
def PMC_SMP_CFG : Nat := 0x200018
/-- PMC_OVF: 19 R518. -/
def PMC_OVF (j : Nat) : Nat := 0x200100 + 0x8 * j
/-- PMC_SEL: 19 R518. -/
def PMC_SEL (k : Nat) : Nat := 0x210000 + 0x8 * k
/-- PMC_CNT: 19 R518. -/
def PMC_CNT (k : Nat) : Nat := 0x214000 + 0x8 * k
/-- PMC_TDP: 19 R518. -/
def PMC_TDP (p m : Nat) : Nat := 0x218000 + 0x28 * p + 0x8 * m
/-- PMC_TDE: 19 R518. -/
def PMC_TDE (e m : Nat) : Nat := 0x21A000 + 0x28 * e + 0x8 * m
/-- PMC_UWIN: 19 R518. -/
def PMC_UWIN (i : Nat) : Nat := 0x220000 + 0x8 * i
/-- CLK_CFG: 20 R532. -/
def CLK_CFG : Nat := 0x140000
/-- CLK_STAT: 20 R532. -/
def CLK_STAT : Nat := 0x140008
/-- CLK_DOMAIN_RUN: 20 R532. -/
def CLK_DOMAIN_RUN : Nat := 0x140010
/-- CLK_RESET: 20 R532. -/
def CLK_RESET : Nat := 0x140018
/-- CLK_BOOT_STAT: 20 R532. -/
def CLK_BOOT_STAT : Nat := 0x140020
/-- CLK_BOOT_T0: 20 R532. -/
def CLK_BOOT_T0 : Nat := 0x140028
/-- CLK_BOOT_T1: 20 R532. -/
def CLK_BOOT_T1 : Nat := 0x140030
/-- CLK_TS: 20 R532. -/
def CLK_TS : Nat := 0x140038
/-- CLK_PTM_CFG: 20 R532. -/
def CLK_PTM_CFG : Nat := 0x140040
/-- CLK_PTM_LOCAL: 20 R532. -/
def CLK_PTM_LOCAL : Nat := 0x140048
/-- CLK_PTM_MASTER: 20 R532. -/
def CLK_PTM_MASTER : Nat := 0x140050
/-- DEV_ID: 21 R537. -/
def DEV_ID : Nat := 0x0
/-- DEV_VARIANT: 21 R537. -/
def DEV_VARIANT : Nat := 0x8
/-- DEV_SERIAL: 21 R537. -/
def DEV_SERIAL : Nat := 0x10
/-- DEV_STATUS: 21 R537. -/
def DEV_STATUS : Nat := 0x18
/-- DEV_IMG: 21 R537. -/
def DEV_IMG : Nat := 0x20
/-- DEV_IMG_WARN: 21 R537. -/
def DEV_IMG_WARN : Nat := 0x28
/-- DEV_TEMP: 21 R537. -/
def DEV_TEMP : Nat := 0x80
/-- DEV_THERM_CFG: 21 R537. -/
def DEV_THERM_CFG : Nat := 0x88
/-- DEV_GPIO_CFG: 21 R537. -/
def DEV_GPIO_CFG : Nat := 0x100
/-- DEV_GPIO_DATA: 21 R537. -/
def DEV_GPIO_DATA : Nat := 0x108
/-- DEV_SCRATCH: 21 R537. -/
def DEV_SCRATCH (k : Nat) : Nat := 0x30 + 0x8 * k
/-- EC_STAT: 21 R544. -/
def EC_STAT (c : Nat) : Nat := 0x1C80000 + 0x40000 * c
/-- DMV_SQ_BASE: 11 R333. -/
def DMV_SQ_BASE (i : Nat) : Nat := 0x9000000 + 0x1000 * i
/-- DMV_SQ_CFG: 11 R333. -/
def DMV_SQ_CFG (i : Nat) : Nat := 0x9000008 + 0x1000 * i
/-- DMV_CQ_BASE: 11 R333. -/
def DMV_CQ_BASE (i : Nat) : Nat := 0x9000010 + 0x1000 * i
/-- DMV_CQ_CFG: 11 R333. -/
def DMV_CQ_CFG (i : Nat) : Nat := 0x9000018 + 0x1000 * i
/-- DMV_SLICE_CTL: 11 R333. -/
def DMV_SLICE_CTL (i : Nat) : Nat := 0x9000020 + 0x1000 * i
/-- DMV_DB_SQ_PI: 11 R333. -/
def DMV_DB_SQ_PI (i : Nat) : Nat := 0x8000000 + 0x1000 * i
/-- DMV_DB_CQ_CI: 11 R333. -/
def DMV_DB_CQ_CI (i : Nat) : Nat := 0x8000008 + 0x1000 * i
/-- DMV_DB_STAT: 11 R333. -/
def DMV_DB_STAT (i : Nat) : Nat := 0x8000010 + 0x1000 * i
/-- DMV_FAIL_BASE: 11 R333. -/
def DMV_FAIL_BASE (v : Nat) : Nat := 0x10000000 + 0x10000 * v
/-- DMV_FAIL_CFG: 11 R333. -/
def DMV_FAIL_CFG (v : Nat) : Nat := 0x10000008 + 0x10000 * v
/-- DMV_FAIL_PI: 11 R333. -/
def DMV_FAIL_PI (v : Nat) : Nat := 0x10000010 + 0x10000 * v
/-- DMV_FAIL_CI: 11 R333. -/
def DMV_FAIL_CI (v : Nat) : Nat := 0x10000018 + 0x10000 * v
/-- DMV_FAIL_STAT: 11 R333. -/
def DMV_FAIL_STAT (v : Nat) : Nat := 0x10000020 + 0x10000 * v
/-- DMV_SLICE_OWN: 11 R333. -/
def DMV_SLICE_OWN (v j : Nat) : Nat := 0x10000100 + 0x10000 * v + 0x8 * j

end R

/-! ### Fields, by the manual's register and field names -/

namespace F

def CTL_BASE_BASE : Fld := ⟨63, 12⟩
def CTL_CFG_EN : Fld := ⟨31, 31⟩
def CTL_CFG_IRQ_TIME : Fld := ⟨27, 16⟩
def CTL_CFG_IRQ_COUNT : Fld := ⟨15, 8⟩
def CTL_CFG_LOG2_SIZE : Fld := ⟨4, 0⟩
def CTL_PI_INDEX : Fld := ⟨16, 0⟩
def CTL_CI_INDEX : Fld := ⟨16, 0⟩
def CTL_STAT_STOPPED : Fld := ⟨31, 31⟩
def CTL_STAT_OVF : Fld := ⟨30, 30⟩
def CTL_STAT_LOST : Fld := ⟨15, 0⟩
def CTL_EPOCH_DRAINING : Fld := ⟨63, 63⟩
def CTL_EPOCH_EPOCH : Fld := ⟨31, 0⟩
def CTL_CFG_ERR_VALID : Fld := ⟨63, 63⟩
def CTL_CFG_ERR_OVF : Fld := ⟨62, 62⟩
def CTL_CFG_ERR_CODE : Fld := ⟨55, 48⟩
def CTL_CFG_ERR_SLOT : Fld := ⟨47, 40⟩
def CTL_CFG_ERR_OFFSET : Fld := ⟨17, 0⟩
def CTL_COMMIT_CFG_WAIT_MAX : Fld := ⟨31, 16⟩
def CTL_SHADOW_POOL_FREE : Fld := ⟨31, 16⟩
def CTL_SHADOW_POOL_SIZE : Fld := ⟨15, 0⟩
def XBC_CFG_CT_EN : Fld := ⟨31, 31⟩
def XBC_CFG_CT_STALL_MAX : Fld := ⟨27, 16⟩
def XBC_CFG_SWEEP_US : Fld := ⟨9, 0⟩
def XBC_ALPHA_ALPHA_TC (i : Nat) : Fld := ⟨8 * i + 6, 8 * i + 0⟩
def XBC_SHARED_SIZE : Fld := ⟨52, 32⟩
def XBC_SHARED_FREE : Fld := ⟨20, 0⟩
def XBC_AGE_LIMIT_TC_LIMIT : Fld := ⟨17, 0⟩
def XBC_CNT_COUNT : Fld := ⟨47, 0⟩
def XBC_PORT_SPEED_UP : Fld := ⟨31, 31⟩
def XBC_PORT_SPEED_SPEED : Fld := ⟨19, 0⟩
def XBC_SMP_CFG_EN : Fld := ⟨31, 31⟩
def XBC_SMP_CFG_JITTER : Fld := ⟨30, 30⟩
def XBC_SMP_CFG_N : Fld := ⟨15, 0⟩
def XBC_ACCT_HDRM : Fld := ⟨52, 32⟩
def XBC_ACCT_MIN : Fld := ⟨20, 0⟩
def XBC_OCC_HDRM_USED : Fld := ⟨62, 42⟩
def XBC_OCC_SHARED_USED : Fld := ⟨41, 21⟩
def XBC_OCC_MIN_USED : Fld := ⟨20, 0⟩
def MCE_STAT_FANOUT_USED : Fld := ⟨48, 32⟩
def MCE_CNT_COUNT : Fld := ⟨47, 0⟩
def CMT_CFG_VDM_EN : Fld := ⟨31, 31⟩
def CMT_CFG_FLUSH_TMO_DEF : Fld := ⟨15, 0⟩
def CMT_STAT_FLOW_USED : Fld := ⟨60, 48⟩
def CMT_STAT_PENDING : Fld := ⟨45, 32⟩
def CMT_STAT_IN_FLIGHT : Fld := ⟨13, 0⟩
def CMT_CNT_COUNT : Fld := ⟨47, 0⟩
def RTE_CFG_RING : Fld := ⟨31, 31⟩
def RTE_CFG_STRICT_UPDOWN : Fld := ⟨30, 30⟩
def RTE_CFG_SALVAGE_EN : Fld := ⟨29, 29⟩
def RTE_CFG_SKIP_EN : Fld := ⟨28, 28⟩
def RTE_CFG_TTL_INIT : Fld := ⟨20, 16⟩
def RTE_TC_VC_VC_TC (i : Nat) : Fld := ⟨2 * i + 1, 2 * i + 0⟩
def RTE_ESC_THR_ESC_EN : Fld := ⟨31, 31⟩
def RTE_ESC_THR_THR_NS : Fld := ⟨19, 0⟩
def RTE_FLOW_CFG_IDLE_MS : Fld := ⟨9, 0⟩
def RTE_STAT_STAMP_USED : Fld := ⟨63, 46⟩
def RTE_STAT_RSQ_FLOWS : Fld := ⟨45, 29⟩
def RTE_STAT_RSQ_SLOTS : Fld := ⟨28, 14⟩
def RTE_GAP_TMO_TC_TMO : Fld := ⟨9, 0⟩
def RTE_CNT_COUNT : Fld := ⟨47, 0⟩
def RTE_BUNDLE_EN (i : Nat) : Fld := ⟨8 * i + 7, 8 * i + 7⟩
def RTE_BUNDLE_PORT (i : Nat) : Fld := ⟨8 * i + 6, 8 * i + 0⟩
def RTE_SRC_FID_VALID : Fld := ⟨31, 31⟩
def RTE_SRC_FID_FID : Fld := ⟨11, 0⟩
def TMG_CFG_RED_EN : Fld := ⟨31, 31⟩
def TMG_CFG_POLICE_EN : Fld := ⟨30, 30⟩
def TMG_CFG_RED_FREE_MIN : Fld := ⟨20, 0⟩
def TMG_CAL_CFG_SHAPE_EN : Fld := ⟨31, 31⟩
def TMG_HIST_CFG_EN : Fld := ⟨31, 31⟩
def TMG_HIST_CFG_INTERVAL_NS : Fld := ⟨19, 0⟩
def TMG_SNAP_SEL_CLR : Fld := ⟨31, 31⟩
def TMG_SNAP_SEL_QUEUE : Fld := ⟨14, 0⟩
def TMG_SNAP_Q_VALID : Fld := ⟨63, 63⟩
def TMG_SNAP_Q_ON_WHEEL : Fld := ⟨62, 62⟩
def TMG_SNAP_Q_ELIGIBLE : Fld := ⟨61, 61⟩
def TMG_SNAP_Q_DEFICIT : Fld := ⟨38, 21⟩
def TMG_SNAP_Q_DEPTH : Fld := ⟨20, 0⟩
def TMG_CAL_STAT_LATE_MAX : Fld := ⟨47, 32⟩
def TMG_CAL_STAT_ENTRIES : Fld := ⟨12, 0⟩
def TMG_SNAP_DEPTH_BIN : Fld := ⟨23, 0⟩
def TMG_SNAP_DELAY_BIN : Fld := ⟨23, 0⟩
def TMG_CNT_COUNT : Fld := ⟨47, 0⟩
def TMG_FID_VH_VALID (i : Nat) : Fld := ⟨8 * i + 7, 8 * i + 7⟩
def TMG_FID_VH_VH (i : Nat) : Fld := ⟨8 * i + 4, 8 * i + 0⟩
def BRG_CFG_PWF_EVR : Fld := ⟨31, 31⟩
def BRG_CFG_EPT_TMO : Fld := ⟨29, 16⟩
def BRG_CFG_TMO_DEF : Fld := ⟨15, 0⟩
def BRG_TRK_CFG_OUT_RSV : Fld := ⟨47, 32⟩
def BRG_TRK_CFG_INB_RSV : Fld := ⟨31, 16⟩
def BRG_TRK_STAT_OUT_USED : Fld := ⟨63, 48⟩
def BRG_TRK_STAT_INB_USED : Fld := ⟨47, 32⟩
def BRG_TRK_STAT_QUARANTINED : Fld := ⟨31, 16⟩
def BRG_LOCK_CFG_LOCK_EN : Fld := ⟨31, 31⟩
def BRG_LOCK_CFG_ARBITER : Fld := ⟨30, 30⟩
def BRG_LOCK_CFG_ARB_FID : Fld := ⟨11, 0⟩
def BRG_LOCK_STAT_PATH : Fld := ⟨63, 63⟩
def BRG_LOCK_STAT_GRANTED : Fld := ⟨62, 62⟩
def BRG_LOCK_STAT_QUEUED : Fld := ⟨61, 56⟩
def BRG_LOCK_STAT_OWNER_FID : Fld := ⟨51, 40⟩
def BRG_LOCK_STAT_TARGET_FID : Fld := ⟨39, 28⟩
def BRG_LOCK_STAT_LOCK_ID : Fld := ⟨15, 0⟩
def BRG_CNT_COUNT : Fld := ⟨47, 0⟩
def BRG_WINBAR_SIZE_LOG2 : Fld := ⟨5, 0⟩
def BRG_WIN_BASE_BASE : Fld := ⟨63, 21⟩
def BRG_WIN_CFG_EN : Fld := ⟨63, 63⟩
def BRG_WIN_CFG_SEF : Fld := ⟨62, 62⟩
def BRG_WIN_CFG_PF_EN : Fld := ⟨61, 61⟩
def BRG_WIN_CFG_VS : Fld := ⟨60, 56⟩
def BRG_WIN_CFG_CPL_TMO : Fld := ⟨47, 32⟩
def BRG_WIN_CFG_SIZE : Fld := ⟨25, 0⟩
def BRG_WIN_XLT_TBL_BASE : Fld := ⟨24, 0⟩
def BRG_WIN_PFDROP_COUNT : Fld := ⟨47, 0⟩
def BRG_INB_CFG_EN : Fld := ⟨63, 63⟩
def BRG_INB_CFG_RD : Fld := ⟨62, 62⟩
def BRG_INB_CFG_WR : Fld := ⟨61, 61⟩
def BRG_INB_CFG_VS : Fld := ⟨60, 56⟩
def BRG_INB_CFG_SRC_FID : Fld := ⟨55, 44⟩
def BRG_INB_CFG_SRC_MASK : Fld := ⟨43, 32⟩
def BRG_INB_CFG_SIZE : Fld := ⟨27, 0⟩
def BRG_INB_OFF_OFF_BASE : Fld := ⟨51, 12⟩
def BRG_INB_HOST_HOST_BASE : Fld := ⟨63, 12⟩
def PCP_PORT_CFG_PRESENT : Fld := ⟨63, 63⟩
def PCP_PORT_CFG_ROLE : Fld := ⟨62, 61⟩
def PCP_PORT_CFG_PORT : Fld := ⟨60, 54⟩
def PCP_PORT_CFG_VS : Fld := ⟨53, 49⟩
def PCP_PORT_CFG_WIDTH : Fld := ⟨48, 47⟩
def PCP_PORT_CFG_MAX_RATE : Fld := ⟨46, 44⟩
def PCP_PORT_CFG_INB_TAG : Fld := ⟨43, 42⟩
def PCP_PORT_CFG_ATTR_STRIP : Fld := ⟨40, 40⟩
def PCP_PORT_CFG_TC_EN : Fld := ⟨39, 32⟩
def PCP_PORT_CFG_NP_HOLD : Fld := ⟨21, 16⟩
def PCP_LINK_STAT_UP : Fld := ⟨63, 63⟩
def PCP_LINK_STAT_DL_ACTIVE : Fld := ⟨62, 62⟩
def PCP_LINK_STAT_FLIT : Fld := ⟨61, 61⟩
def PCP_LINK_STAT_IDE_LINK : Fld := ⟨60, 60⟩
def PCP_LINK_STAT_RATE : Fld := ⟨58, 56⟩
def PCP_LINK_STAT_WIDTH_NEG : Fld := ⟨55, 51⟩
def PCP_LINK_STAT_PM : Fld := ⟨50, 48⟩
def PCP_FC_PH : Fld := ⟨63, 57⟩
def PCP_FC_NPH : Fld := ⟨56, 50⟩
def PCP_FC_CPLH : Fld := ⟨49, 43⟩
def PCP_FC_PD : Fld := ⟨42, 32⟩
def PCP_FC_NPD : Fld := ⟨31, 21⟩
def PCP_FC_CPLD : Fld := ⟨20, 10⟩
def PCP_FC_ADV_PH : Fld := ⟨63, 57⟩
def PCP_FC_ADV_NPH : Fld := ⟨56, 50⟩
def PCP_FC_ADV_CPLH : Fld := ⟨49, 43⟩
def PCP_FC_ADV_PD : Fld := ⟨42, 32⟩
def PCP_FC_ADV_NPD : Fld := ⟨31, 21⟩
def PCP_FC_ADV_CPLD : Fld := ⟨20, 10⟩
def PCP_FC_ADV_NO_FIT : Fld := ⟨1, 1⟩
def PCP_FC_ADV_CLAMPED : Fld := ⟨0, 0⟩
def PCP_PM_CFG_L1_IDLE : Fld := ⟨31, 16⟩
def PCP_PM_CFG_L0P_IDLE : Fld := ⟨15, 8⟩
def PCP_PM_CFG_ASPM_L1 : Fld := ⟨1, 1⟩
def PCP_PM_CFG_L0P_EN : Fld := ⟨0, 0⟩
def PCP_SLOT_CFG_SLOT_EN : Fld := ⟨31, 31⟩
def PCP_SLOT_CFG_SPC_IDX : Fld := ⟨30, 26⟩
def PCP_SLOT_CFG_PWR_CTL : Fld := ⟨25, 25⟩
def PCP_SLOT_CFG_PERST_ASSERT : Fld := ⟨24, 24⟩
def PCP_SLOT_CFG_PERST_DLY : Fld := ⟨15, 0⟩
def PCP_CFGRQ_GO : Fld := ⟨63, 63⟩
def PCP_CFGRQ_BUSY : Fld := ⟨62, 62⟩
def PCP_CFGRQ_STATUS : Fld := ⟨61, 59⟩
def PCP_CFGRQ_WRITE : Fld := ⟨58, 58⟩
def PCP_CFGRQ_BE : Fld := ⟨57, 54⟩
def PCP_CFGRQ_BDF : Fld := ⟨43, 28⟩
def PCP_CFGRQ_DW : Fld := ⟨11, 2⟩
def PCP_CFGRQ_DATA_DATA : Fld := ⟨31, 0⟩
def PCP_CNT_COUNT : Fld := ⟨47, 0⟩
def SGL_CFG_PRESENT : Fld := ⟨63, 63⟩
def SGL_CFG_PORT : Fld := ⟨62, 56⟩
def SGL_CFG_WIDTH : Fld := ⟨55, 54⟩
def SGL_CFG_RATE : Fld := ⟨53, 52⟩
def SGL_CFG_ADMIN_UP : Fld := ⟨51, 51⟩
def SGL_CFG_FALLBACK_EN : Fld := ⟨50, 50⟩
def SGL_CFG_SWAP_EN : Fld := ⟨49, 49⟩
def SGL_CFG_REPLAY_MAX : Fld := ⟨47, 44⟩
def SGL_CFG_RETRAIN_MAX : Fld := ⟨43, 40⟩
def SGL_CFG_REPLAY_TMR : Fld := ⟨31, 16⟩
def SGL_CFG_SWAP_THR : Fld := ⟨15, 0⟩
def SGL_LINK_STAT_STATE : Fld := ⟨63, 61⟩
def SGL_LINK_STAT_RATE : Fld := ⟨60, 59⟩
def SGL_LINK_STAT_CLAMPED : Fld := ⟨58, 58⟩
def SGL_LINK_STAT_NO_FIT : Fld := ⟨57, 57⟩
def SGL_LINK_STAT_RX_SPARED : Fld := ⟨56, 56⟩
def SGL_LINK_STAT_RX_SPARE_LANE : Fld := ⟨55, 52⟩
def SGL_LINK_STAT_TX_SPARED : Fld := ⟨51, 51⟩
def SGL_LINK_STAT_TX_SPARE_LANE : Fld := ⟨50, 47⟩
def SGL_LINK_STAT_PARTNER_FID : Fld := ⟨46, 35⟩
def SGL_LINK_STAT_PARTNER_PORT : Fld := ⟨34, 28⟩
def SGL_LINK_STAT_UNACKED : Fld := ⟨25, 16⟩
def SGL_SWAP_CMD_GO : Fld := ⟨31, 31⟩
def SGL_SWAP_CMD_RESULT : Fld := ⟨30, 28⟩
def SGL_SWAP_CMD_LANE : Fld := ⟨3, 0⟩
def SGL_CRED_ADV_HDR : Fld := ⟨63, 52⟩
def SGL_CRED_ADV_DATA : Fld := ⟨51, 36⟩
def SGL_CRED_HDR : Fld := ⟨27, 16⟩
def SGL_CRED_DATA : Fld := ⟨15, 0⟩
def SGL_CNT_COUNT : Fld := ⟨47, 0⟩
def SGL_SPARE_OWNER : Fld := ⟨31, 31⟩
def LG_CFG_MODE : Fld := ⟨31, 31⟩
def LG_CFG_TX_INIT_PRESET : Fld := ⟨3, 0⟩
def LG_BRINGUP_MANUAL : Fld := ⟨63, 63⟩
def LG_BRINGUP_STEP : Fld := ⟨62, 60⟩
def LG_BRINGUP_CDR_LOCK : Fld := ⟨59, 51⟩
def LG_BRINGUP_BLOCK_LOCK : Fld := ⟨50, 42⟩
def LG_BRINGUP_FAILED : Fld := ⟨41, 33⟩
def LG_BRINGUP_SPARE_USED : Fld := ⟨32, 32⟩
def LG_BRINGUP_SPARE_FOR : Fld := ⟨31, 28⟩
def LG_BITSLIP_DONE : Fld := ⟨31, 31⟩
def LG_BITSLIP_LANE : Fld := ⟨30, 27⟩
def LG_BITSLIP_POS : Fld := ⟨26, 20⟩
def LG_BITSLIP_MATCH : Fld := ⟨19, 19⟩
def LG_ADAPT_CFG_SNAP_EN : Fld := ⟨31, 31⟩
def LG_ADAPT_CFG_DRIFT_MAX : Fld := ⟨23, 16⟩
def LG_ADAPT_CFG_ERR_FLOOR : Fld := ⟨15, 0⟩
def LG_EYE_CFG_GO : Fld := ⟨63, 63⟩
def LG_EYE_CFG_LANE : Fld := ⟨62, 59⟩
def LG_EYE_CFG_EYE : Fld := ⟨58, 57⟩
def LG_EYE_CFG_H : Fld := ⟨56, 50⟩
def LG_EYE_CFG_V : Fld := ⟨49, 44⟩
def LG_EYE_CFG_DWELL : Fld := ⟨43, 38⟩
def LG_EYE_STAT_BUSY : Fld := ⟨63, 63⟩
def LG_EYE_STAT_DONE : Fld := ⟨62, 62⟩
def LG_EYE_STAT_ABORTED : Fld := ⟨61, 61⟩
def LG_EYE_STAT_ERRORS : Fld := ⟨47, 0⟩
def LG_TXEQ_OVERRIDE : Fld := ⟨31, 31⟩
def LG_TXEQ_PRESET : Fld := ⟨30, 27⟩
def LG_TXEQ_SRC : Fld := ⟨26, 25⟩
def LG_TXEQ_C_PRE : Fld := ⟨20, 16⟩
def LG_TXEQ_C_POST : Fld := ⟨12, 8⟩
def LG_TXEQ_C_MAIN : Fld := ⟨6, 0⟩
def LG_TEST_MODE : Fld := ⟨31, 28⟩
def LG_TEST_INJ : Fld := ⟨27, 27⟩
def LG_TEST_INJ_RATE : Fld := ⟨26, 22⟩
def LG_TEST_LOCK : Fld := ⟨21, 21⟩
def LG_TEST_PREEMPTED : Fld := ⟨20, 20⟩
def LG_PRBS_ERR_COUNT : Fld := ⟨47, 0⟩
def LG_LANE_STAT_ADAPTED : Fld := ⟨63, 63⟩
def LG_LANE_STAT_FROZEN : Fld := ⟨62, 62⟩
def LG_LANE_STAT_PINNED : Fld := ⟨61, 61⟩
def LG_LANE_STAT_REVERTS : Fld := ⟨55, 48⟩
def LG_LANE_STAT_DRIFT : Fld := ⟨47, 32⟩
def LG_LANE_STAT_ERR_LAST : Fld := ⟨31, 0⟩
def DMV_STAT_SLICES_RUN : Fld := ⟨63, 51⟩
def DMV_STAT_READS_OUT : Fld := ⟨50, 35⟩
def DMV_STAT_CELLS_USED : Fld := ⟨34, 14⟩
def DMV_CNT_COUNT : Fld := ⟨47, 0⟩
def DMV_SLICE_MAP_VALID : Fld := ⟨63, 63⟩
def DMV_SLICE_MAP_VS : Fld := ⟨62, 58⟩
def DMV_SLICE_MAP_DEPTH_MAX : Fld := ⟨55, 48⟩
def DMV_SLICE_MAP_QUANTUM : Fld := ⟨47, 32⟩
def DMV_SLICE_MAP_TRK_MAX : Fld := ⟨31, 19⟩
def DMV_SLICE_MAP_CELL_MAX : Fld := ⟨18, 0⟩
def DMV_SLICE_STAT_STATE : Fld := ⟨63, 61⟩
def DMV_SLICE_STAT_DEPTH_USED : Fld := ⟨60, 52⟩
def DMV_SLICE_STAT_TRK_USED : Fld := ⟨51, 39⟩
def DMV_SLICE_STAT_CELLS_USED : Fld := ⟨38, 19⟩
def WLG_CFG_FLUSH_TMO : Fld := ⟨9, 0⟩
def WLG_REGION_SIZE : Fld := ⟨39, 32⟩
def WLG_REGION_BASE : Fld := ⟨22, 0⟩
def WLG_STAT_CACHE_USED : Fld := ⟨63, 51⟩
def WLG_STAT_CTX_READY : Fld := ⟨50, 40⟩
def WLG_STAT_HARVEST_BUSY : Fld := ⟨39, 39⟩
def WLG_CNT_COUNT : Fld := ⟨47, 0⟩
def WLG_CTX_CFG_EN : Fld := ⟨63, 63⟩
def WLG_CTX_CFG_KIND : Fld := ⟨62, 62⟩
def WLG_CTX_CFG_VS : Fld := ⟨61, 57⟩
def WLG_CTX_CFG_MASK : Fld := ⟨51, 32⟩
def WLG_CTX_CFG_KEY : Fld := ⟨19, 0⟩
def WLG_CTX_HOST_HOST_BASE : Fld := ⟨63, 12⟩
def WLG_CTX_BMP_PAGES : Fld := ⟨63, 32⟩
def WLG_CTX_BMP_BMP_OFF : Fld := ⟨31, 0⟩
def WLG_CTX_STAT_READY : Fld := ⟨63, 63⟩
def WLG_CTX_STAT_CLEARING : Fld := ⟨62, 62⟩
def WLG_CTX_STAT_LOST : Fld := ⟨61, 61⟩
def WLG_CTX_STAT_MORE : Fld := ⟨60, 60⟩
def WLG_CTX_STAT_GEN : Fld := ⟨59, 59⟩
def WLG_CTX_STAT_CUT_SEQ : Fld := ⟨31, 0⟩
def DCT_CFG_DEGLITCH : Fld := ⟨31, 28⟩
def DCT_CFG_FLUSH_US : Fld := ⟨27, 16⟩
def DCT_CFG_BUDGET_US : Fld := ⟨15, 0⟩
def DCT_ARM_ARMED : Fld := ⟨31, 31⟩
def DCT_ARM_MODE : Fld := ⟨30, 29⟩
def DCT_KEEP_KEEP_MAX_H : Fld := ⟨15, 0⟩
def DCT_STAT_ACTIVE : Fld := ⟨63, 63⟩
def DCT_STAT_PHASE : Fld := ⟨62, 60⟩
def DCT_STAT_LAST_EXIT : Fld := ⟨59, 56⟩
def DCT_STAT_TM_RETAIN : Fld := ⟨55, 55⟩
def DCT_STAT_VAUX_OK : Fld := ⟨54, 54⟩
def DCT_STAT_LIST_OVF : Fld := ⟨53, 53⟩
def DCT_STAT_TM_LOST : Fld := ⟨52, 50⟩
def DCT_STAT_LIST_PENDING : Fld := ⟨49, 34⟩
def DCT_LAST_DRAIN_END : Fld := ⟨63, 48⟩
def DCT_LAST_FLUSH_END : Fld := ⟨47, 32⟩
def DCT_LAST_SAVE_END : Fld := ⟨31, 16⟩
def DCT_LAST_KEEP_ENTRY : Fld := ⟨15, 0⟩
def DCT_CNT_COUNT : Fld := ⟨47, 0⟩
def DCT_FLUSH_EN : Fld := ⟨63, 63⟩
def DCT_FLUSH_ADDR : Fld := ⟨51, 2⟩
def PWR_CFG_STOP_TMO_US : Fld := ⟨15, 0⟩
def PWR_STAT_STATE : Fld := ⟨63, 62⟩
def PWR_STAT_PADS_HELD : Fld := ⟨61, 61⟩
def PWR_RUN_MASK_MASK : Fld := ⟨63, 0⟩
def PWR_ON_MASK : Fld := ⟨63, 0⟩
def PWR_LAST_RESULT : Fld := ⟨63, 0⟩
def PWR_WAKE_CFG_WAKE_EN : Fld := ⟨31, 31⟩
def PWR_WAKE_CFG_WAKE_POL : Fld := ⟨30, 30⟩
def PWR_WAKE_CFG_WAKE_GPIO : Fld := ⟨29, 27⟩
def PWR_WAKE_CFG_MAIN_EN_EN : Fld := ⟨26, 26⟩
def PWR_WAKE_CFG_MAIN_EN_GPIO : Fld := ⟨25, 23⟩
def PWR_PAD_HOLD_HELD : Fld := ⟨63, 0⟩
def PWR_CNT_COUNT : Fld := ⟨47, 0⟩
def SPC_ENABLE_AUTO_ON : Fld := ⟨31, 31⟩
def SPC_ENABLE_EN_SRC : Fld := ⟨30, 30⟩
def SPC_ENABLE_EN : Fld := ⟨29, 29⟩
def SPC_ENABLE_PORT : Fld := ⟨6, 0⟩
def SPC_TIMING_INS_DLY_MS : Fld := ⟨63, 52⟩
def SPC_TIMING_REARM_MS : Fld := ⟨51, 40⟩
def SPC_TIMING_RAMP_MS : Fld := ⟨39, 32⟩
def SPC_TIMING_PG_TMO_MS : Fld := ⟨31, 24⟩
def SPC_TIMING_FLT_TMO_US : Fld := ⟨15, 0⟩
def SPC_STAT_STATE : Fld := ⟨63, 61⟩
def SPC_STAT_PG : Fld := ⟨60, 60⟩
def SPC_STAT_PRESENT : Fld := ⟨59, 59⟩
def SPC_STAT_IN_WINDOW : Fld := ⟨58, 58⟩
def SPC_STAT_IN_LIMIT : Fld := ⟨57, 57⟩
def SPC_STAT_CAUSE : Fld := ⟨55, 52⟩
def SPC_STAT_COUNT : Fld := ⟨47, 32⟩
def SPC_RAIL_CFG_EN : Fld := ⟨63, 63⟩
def SPC_RAIL_CFG_LIM : Fld := ⟨55, 48⟩
def SPC_RAIL_CFG_FAST : Fld := ⟨47, 40⟩
def SPC_RAIL_CFG_UV : Fld := ⟨35, 24⟩
def SPC_RAIL_CFG_OV : Fld := ⟨23, 12⟩
def SPC_RAIL_CFG_PG : Fld := ⟨11, 0⟩
def SPC_RAIL_MEAS_VIN : Fld := ⟨63, 48⟩
def SPC_RAIL_MEAS_VOUT : Fld := ⟨47, 32⟩
def SPC_RAIL_MEAS_SENSE : Fld := ⟨31, 16⟩
def SPC_CNT_COUNT : Fld := ⟨47, 0⟩
def FCR_CFG_MODE : Fld := ⟨31, 31⟩
def FCR_CFG_FIRST_VALID : Fld := ⟨30, 30⟩
def FCR_CFG_FIRST_OVF : Fld := ⟨29, 29⟩
def FCR_STAT_SAFE : Fld := ⟨63, 63⟩
def FCR_STAT_PEND_OVF : Fld := ⟨62, 62⟩
def FCR_STAT_PENDING : Fld := ⟨58, 48⟩
def FCR_STAT_COUNTING : Fld := ⟨44, 32⟩
def FCR_STAT_NEXT_SEQ : Fld := ⟨31, 0⟩
def FCR_FIRST_VALUE : Fld := ⟨63, 0⟩
def FCR_FIRST_TIME_VALUE : Fld := ⟨63, 0⟩
def FCR_FORCE_CFG_KIND : Fld := ⟨31, 27⟩
def FCR_CONTAINED_VS_UNITS : Fld := ⟨31, 0⟩
def FCR_CONTAINED_UNITS : Fld := ⟨63, 0⟩
def FCR_CNT_COUNT : Fld := ⟨47, 0⟩
def FCR_STICKY_BITS : Fld := ⟨63, 0⟩
def FCR_FORCE_BITS : Fld := ⟨63, 0⟩
def FCR_RXN_COUNT_EN : Fld := ⟨63, 63⟩
def FCR_RXN_ESC_EN : Fld := ⟨62, 62⟩
def FCR_RXN_LEVEL : Fld := ⟨61, 60⟩
def FCR_RXN_SEV_LEVEL : Fld := ⟨59, 58⟩
def FCR_RXN_CLASS : Fld := ⟨57, 56⟩
def FCR_RXN_SCOPE : Fld := ⟨55, 54⟩
def FCR_RXN_N : Fld := ⟨47, 32⟩
def FCR_RXN_W_UNIT : Fld := ⟨17, 16⟩
def FCR_RXN_W : Fld := ⟨15, 0⟩
def TBM_CFG_SCRUB_EN : Fld := ⟨31, 31⟩
def TBM_CFG_PASS_H : Fld := ⟨23, 16⟩
def TBM_CFG_ONDIE_PASS_MS : Fld := ⟨15, 0⟩
def TBM_STAT_DEGRADED : Fld := ⟨63, 63⟩
def TBM_STAT_OUT_DIE : Fld := ⟨62, 61⟩
def TBM_STAT_RELOC_BUSY : Fld := ⟨60, 60⟩
def TBM_STAT_RETAIN_DIE : Fld := ⟨59, 58⟩
def TBM_STAT_POISONED : Fld := ⟨57, 49⟩
def TBM_CNT_COUNT : Fld := ⟨47, 0⟩
def TBM_REGION_VALID : Fld := ⟨63, 63⟩
def TBM_REGION_KIND : Fld := ⟨62, 59⟩
def TBM_REGION_DIE : Fld := ⟨58, 57⟩
def TBM_REGION_SIZE : Fld := ⟨45, 23⟩
def TBM_REGION_BASE : Fld := ⟨22, 0⟩
def TM_ARB_CFG_REQ_EN : Fld := ⟨63, 32⟩
def TM_ARB_CFG_STARVE : Fld := ⟨15, 0⟩
def TM_LFSR_STATE : Fld := ⟨31, 0⟩
def TM_STAT_UP : Fld := ⟨63, 63⟩
def TM_STAT_FILLING : Fld := ⟨62, 62⟩
def TM_STAT_SPARED_OUT : Fld := ⟨61, 61⟩
def TM_STAT_FALLBACK : Fld := ⟨60, 60⟩
def TM_STAT_MODE : Fld := ⟨59, 59⟩
def TM_STAT_OWNER_VALID : Fld := ⟨58, 58⟩
def TM_STAT_OWNER : Fld := ⟨57, 53⟩
def TM_STAT_WAITING : Fld := ⟨31, 0⟩
def TM_ARB_REQ_TICKETS : Fld := ⟨31, 24⟩
def TM_ARB_REQ_PRIO : Fld := ⟨23, 19⟩
def TM_ARB_REQ_BACKOFF : Fld := ⟨10, 0⟩
def TM_CNT_COUNT : Fld := ⟨47, 0⟩
def SEC_STAT_LC : Fld := ⟨63, 61⟩
def SEC_STAT_CURVE : Fld := ⟨60, 60⟩
def SEC_STAT_DEBUG_OPEN : Fld := ⟨59, 59⟩
def SEC_STAT_CORE_DEBUG_USED : Fld := ⟨58, 58⟩
def SEC_STAT_SELFTEST_OK : Fld := ⟨57, 57⟩
def SEC_STAT_OWNER_KEYS : Fld := ⟨55, 52⟩
def SEC_STAT_SESSIONS : Fld := ⟨51, 48⟩
def SEC_BOOT_BANK : Fld := ⟨63, 63⟩
def SEC_BOOT_FALLBACK : Fld := ⟨62, 62⟩
def SEC_BOOT_RECOVERY : Fld := ⟨61, 61⟩
def SEC_BOOT_WIPED : Fld := ⟨60, 60⟩
def SEC_BOOT_CAUSE : Fld := ⟨59, 56⟩
def SEC_BOOT_IMAGE : Fld := ⟨55, 48⟩
def SEC_LC_NONCE_NONCE : Fld := ⟨63, 0⟩
def SEC_LC_CMD_GO : Fld := ⟨31, 31⟩
def SEC_LC_CMD_BUSY : Fld := ⟨30, 30⟩
def SEC_LC_CMD_TARGET : Fld := ⟨29, 27⟩
def SEC_LC_CMD_RESULT : Fld := ⟨26, 24⟩
def SEC_LC_AUTH_ADDR : Fld := ⟨63, 6⟩
def SEC_FLASH_CMD_GO : Fld := ⟨31, 31⟩
def SEC_FLASH_CMD_BUSY : Fld := ⟨30, 30⟩
def SEC_FLASH_CMD_OP : Fld := ⟨29, 28⟩
def SEC_FLASH_CMD_RESULT : Fld := ⟨27, 25⟩
def SEC_FLASH_CMD_SECTOR : Fld := ⟨12, 0⟩
def SEC_FLASH_ADDR_ADDR : Fld := ⟨63, 12⟩
def SEC_IDE_REQ_PORTS : Fld := ⟨63, 0⟩
def SEC_SVN_VALUE : Fld := ⟨7, 0⟩
def MPU_VIOL_VALID : Fld := ⟨63, 63⟩
def MPU_VIOL_SLOT : Fld := ⟨55, 48⟩
def MPU_VIOL_CLASS : Fld := ⟨47, 46⟩
def MPU_VIOL_WRITE : Fld := ⟨45, 45⟩
def MPU_VIOL_LK_WRITE : Fld := ⟨44, 44⟩
def MPU_VIOL_SIZE : Fld := ⟨43, 42⟩
def MPU_VIOL_OFFSET : Fld := ⟨17, 0⟩
def MPU_VIOL_TIME_TIME : Fld := ⟨63, 0⟩
def MPU_CNT_COUNT : Fld := ⟨47, 0⟩
def MPU_SLOT_LOCK : Fld := ⟨31, 31⟩
def MPU_SLOT_RIGHTS : Fld := ⟨7, 0⟩
def AGE_CFG_CUP_EN : Fld := ⟨31, 31⟩
def AGE_CFG_RATE_AUTO : Fld := ⟨30, 30⟩
def AGE_CFG_GB_CLR : Fld := ⟨29, 29⟩
def AGE_CFG_PERIOD_MIN : Fld := ⟨10, 0⟩
def AGE_MARGIN_CFG_SLACK_MIN : Fld := ⟨63, 56⟩
def AGE_MARGIN_CFG_SLACK_CRIT : Fld := ⟨55, 48⟩
def AGE_MARGIN_CFG_GB_MAX : Fld := ⟨47, 40⟩
def AGE_MARGIN_CFG_EYE_MIN : Fld := ⟨39, 32⟩
def AGE_MARGIN_CFG_RETIRE_SWAPS : Fld := ⟨31, 28⟩
def AGE_MARGIN_CFG_ROW_COR_MAX : Fld := ⟨27, 20⟩
def AGE_STAT_CAL_VALID : Fld := ⟨63, 63⟩
def AGE_STAT_SPARES_FREE : Fld := ⟨62, 58⟩
def AGE_STAT_GB_MV : Fld := ⟨57, 50⟩
def AGE_STAT_VCORE_MV : Fld := ⟨49, 38⟩
def AGE_STAT_WORST_SLACK : Fld := ⟨37, 30⟩
def AGE_STAT_ROUNDS : Fld := ⟨29, 0⟩
def AGE_CAL_SEC_SECONDS : Fld := ⟨47, 0⟩
def AGE_LEDGER_SEL_GO : Fld := ⟨31, 31⟩
def AGE_LEDGER_SEL_ERR : Fld := ⟨30, 30⟩
def AGE_LEDGER_SEL_INDEX : Fld := ⟨10, 0⟩
def AGE_LEDGER_DATA_BYTES : Fld := ⟨63, 0⟩
def AGE_EC_HOST (i : Nat) : Fld := ⟨8 * i + 7, 8 * i + 0⟩
def AGE_EC_RETIRED_BITS : Fld := ⟨63, 0⟩
def AGE_LANE_RETIRED_BITS : Fld := ⟨63, 0⟩
def AGE_ROWS_USED : Fld := ⟨31, 24⟩
def AGE_RATE_PLAN_VALID : Fld := ⟨31, 31⟩
def AGE_RATE_PLAN_PLAN : Fld := ⟨30, 29⟩
def AGE_RATE_PLAN_EYE_WORST : Fld := ⟨7, 0⟩
def AGE_PDM_VALID : Fld := ⟨31, 31⟩
def AGE_PDM_VALUE : Fld := ⟨19, 0⟩
def AGE_RO_VALID : Fld := ⟨31, 31⟩
def AGE_RO_VALUE : Fld := ⟨19, 0⟩
def PMC_CFG_FREEZE : Fld := ⟨31, 31⟩
def PMC_STAT_BUSY : Fld := ⟨63, 63⟩
def PMC_STAT_SKIPPED : Fld := ⟨62, 48⟩
def PMC_STAT_SMP_LOST : Fld := ⟨47, 32⟩
def PMC_STAT_DUMP_SEQ : Fld := ⟨31, 0⟩
def PMC_DUMP_CFG_EN : Fld := ⟨63, 63⟩
def PMC_DUMP_CFG_CLEAR : Fld := ⟨62, 62⟩
def PMC_DUMP_CFG_SET : Fld := ⟨61, 59⟩
def PMC_DUMP_CFG_PERIOD_US : Fld := ⟨23, 0⟩
def PMC_SMP_CFG_EN : Fld := ⟨63, 63⟩
def PMC_SMP_CFG_COUNTER : Fld := ⟨42, 32⟩
def PMC_SMP_CFG_PERIOD : Fld := ⟨31, 0⟩
def PMC_OVF_BITS : Fld := ⟨63, 0⟩
def PMC_SEL_EN : Fld := ⟨63, 63⟩
def PMC_SEL_CLR : Fld := ⟨62, 62⟩
def PMC_SEL_MODE : Fld := ⟨61, 60⟩
def PMC_SEL_EVENT : Fld := ⟨47, 32⟩
def PMC_SEL_FILTER_EN : Fld := ⟨31, 31⟩
def PMC_SEL_UNIT : Fld := ⟨27, 16⟩
def PMC_SEL_TC_MASK : Fld := ⟨15, 8⟩
def PMC_CNT_COUNT : Fld := ⟨47, 0⟩
def PMC_TDP_COUNT : Fld := ⟨47, 0⟩
def PMC_TDE_COUNT : Fld := ⟨47, 0⟩
def PMC_UWIN_EN : Fld := ⟨63, 63⟩
def PMC_UWIN_FIRST : Fld := ⟨43, 32⟩
def PMC_UWIN_COUNT : Fld := ⟨8, 0⟩
def CLK_CFG_SSC : Fld := ⟨31, 31⟩
def CLK_STAT_REF_OK : Fld := ⟨63, 63⟩
def CLK_STAT_PLL_LOCK : Fld := ⟨62, 62⟩
def CLK_STAT_HOLDOVER : Fld := ⟨61, 61⟩
def CLK_STAT_XTAL_OK : Fld := ⟨60, 60⟩
def CLK_DOMAIN_RUN_RUN : Fld := ⟨39, 0⟩
def CLK_RESET_WARM : Fld := ⟨31, 31⟩
def CLK_RESET_CAUSE : Fld := ⟨30, 28⟩
def CLK_BOOT_STAT_READY : Fld := ⟨63, 63⟩
def CLK_BOOT_STAT_WAKE_FAIL : Fld := ⟨62, 62⟩
def CLK_BOOT_STAT_WAKE_STAGE : Fld := ⟨61, 60⟩
def CLK_BOOT_STAT_RETRIED : Fld := ⟨59, 59⟩
def CLK_BOOT_STAT_REG_TICKS : Fld := ⟨15, 0⟩
def CLK_BOOT_T0_LOGIC_READY : Fld := ⟨63, 32⟩
def CLK_BOOT_T0_FILL_DONE : Fld := ⟨31, 0⟩
def CLK_BOOT_T1_IMG_DONE : Fld := ⟨63, 32⟩
def CLK_BOOT_T1_READY : Fld := ⟨31, 0⟩
def CLK_TS_TIME : Fld := ⟨63, 0⟩
def CLK_PTM_CFG_EN : Fld := ⟨31, 31⟩
def CLK_PTM_CFG_PORT : Fld := ⟨6, 0⟩
def CLK_PTM_LOCAL_TIME : Fld := ⟨63, 0⟩
def CLK_PTM_MASTER_TIME : Fld := ⟨63, 0⟩
def DEV_ID_VENDOR_ID : Fld := ⟨63, 48⟩
def DEV_ID_DEVICE_ID : Fld := ⟨47, 32⟩
def DEV_ID_REVISION_ID : Fld := ⟨31, 24⟩
def DEV_VARIANT_TEMP_GRADE : Fld := ⟨63, 62⟩
def DEV_VARIANT_LANE_GROUPS : Fld := ⟨55, 48⟩
def DEV_VARIANT_ENGINES : Fld := ⟨47, 40⟩
def DEV_VARIANT_TM_DIES : Fld := ⟨39, 32⟩
def DEV_SERIAL_SERIAL : Fld := ⟨63, 0⟩
def DEV_STATUS_CFG_READY : Fld := ⟨63, 63⟩
def DEV_STATUS_SAFE : Fld := ⟨62, 62⟩
def DEV_STATUS_TBM_DEGRADED : Fld := ⟨61, 61⟩
def DEV_STATUS_RECOVERY : Fld := ⟨60, 60⟩
def DEV_STATUS_DECANT_ACTIVE : Fld := ⟨59, 59⟩
def DEV_STATUS_LC : Fld := ⟨58, 56⟩
def DEV_STATUS_MGR_VS : Fld := ⟨52, 48⟩
def DEV_STATUS_MGR_FID : Fld := ⟨43, 32⟩
def DEV_IMG_BUILD : Fld := ⟨63, 32⟩
def DEV_IMG_SVN : Fld := ⟨31, 24⟩
def DEV_IMG_FORMAT : Fld := ⟨23, 16⟩
def DEV_IMG_WARN_WARN : Fld := ⟨63, 63⟩
def DEV_IMG_WARN_IGNORED : Fld := ⟨61, 48⟩
def DEV_IMG_WARN_FIRST : Fld := ⟨47, 32⟩
def DEV_TEMP_TJ_MAX : Fld := ⟨63, 48⟩
def DEV_TEMP_SENSOR : Fld := ⟨43, 40⟩
def DEV_TEMP_TJ_PEAK : Fld := ⟨31, 16⟩
def DEV_THERM_CFG_WARN_EN : Fld := ⟨31, 31⟩
def DEV_THERM_CFG_WARN_C : Fld := ⟨15, 8⟩
def DEV_THERM_CFG_HYST_C : Fld := ⟨4, 0⟩
def DEV_GPIO_CFG_OWNED : Fld := ⟨31, 24⟩
def DEV_GPIO_CFG_OE : Fld := ⟨23, 16⟩
def DEV_GPIO_DATA_IN : Fld := ⟨31, 24⟩
def DEV_GPIO_DATA_OUT : Fld := ⟨23, 16⟩
def DEV_SCRATCH_VALUE : Fld := ⟨63, 0⟩
def EC_STAT_POWERED : Fld := ⟨63, 63⟩
def EC_STAT_RUNNING : Fld := ⟨62, 54⟩
def EC_STAT_RETIRED : Fld := ⟨53, 45⟩
def EC_STAT_SPARE_BUSY : Fld := ⟨44, 44⟩
def EC_STAT_SPARE_CLUSTER : Fld := ⟨43, 40⟩
def EC_STAT_SPARE_ROLE : Fld := ⟨39, 37⟩
def DMV_SQ_BASE_BASE : Fld := ⟨63, 12⟩
def DMV_SQ_CFG_PASID_EN : Fld := ⟨31, 31⟩
def DMV_SQ_CFG_PASID : Fld := ⟨27, 8⟩
def DMV_SQ_CFG_LOG2_SIZE : Fld := ⟨4, 0⟩
def DMV_CQ_BASE_BASE : Fld := ⟨63, 12⟩
def DMV_CQ_CFG_VECTOR : Fld := ⟨58, 48⟩
def DMV_CQ_CFG_IRQ_TIME : Fld := ⟨43, 32⟩
def DMV_CQ_CFG_IRQ_COUNT : Fld := ⟨15, 8⟩
def DMV_CQ_CFG_LOG2_SIZE : Fld := ⟨4, 0⟩
def DMV_SLICE_CTL_EN : Fld := ⟨31, 31⟩
def DMV_SLICE_CTL_ABORT : Fld := ⟨30, 30⟩
def DMV_SLICE_CTL_STATE : Fld := ⟨29, 27⟩
def DMV_SLICE_CTL_ERR : Fld := ⟨7, 0⟩
def DMV_DB_SQ_PI_INDEX : Fld := ⟨16, 0⟩
def DMV_DB_CQ_CI_INDEX : Fld := ⟨16, 0⟩
def DMV_DB_STAT_STATE : Fld := ⟨31, 29⟩
def DMV_DB_STAT_SQ_CI : Fld := ⟨16, 0⟩
def DMV_FAIL_BASE_BASE : Fld := ⟨63, 12⟩
def DMV_FAIL_CFG_EN : Fld := ⟨31, 31⟩
def DMV_FAIL_CFG_IRQ_TIME : Fld := ⟨27, 16⟩
def DMV_FAIL_CFG_IRQ_COUNT : Fld := ⟨15, 8⟩
def DMV_FAIL_CFG_LOG2_SIZE : Fld := ⟨4, 0⟩
def DMV_FAIL_PI_INDEX : Fld := ⟨16, 0⟩
def DMV_FAIL_CI_INDEX : Fld := ⟨16, 0⟩
def DMV_FAIL_STAT_STOPPED : Fld := ⟨31, 31⟩
def DMV_FAIL_STAT_OVF : Fld := ⟨30, 30⟩
def DMV_FAIL_STAT_LOST : Fld := ⟨15, 0⟩
def DMV_SLICE_OWN_OWN : Fld := ⟨63, 0⟩

end F

/-- The registers of the ctl slot. -/
def regs_ctl : List RegDef := [
  -- CTL_BASE
  ⟨0x40000, [(0x40, 5)], 64,
    [⟨63, 12, .rw, false, .quiesce, .val 0⟩]⟩,
  -- CTL_CFG
  ⟨0x40008, [(0x40, 5)], 32,
    [⟨31, 31, .rw, false, .live, .val 0⟩, ⟨27, 16, .rw, false, .live, .val 0x10⟩, 
     ⟨15, 8, .rw, false, .live, .val 1⟩, ⟨4, 0, .rw, false, .quiesce, .val 6⟩]⟩,
  -- CTL_PI
  ⟨0x40010, [(0x40, 5)], 32,
    [⟨16, 0, .rw, false, .live, .val 0⟩]⟩,
  -- CTL_CI
  ⟨0x40018, [(0x40, 5)], 32,
    [⟨16, 0, .rw, false, .live, .val 0⟩]⟩,
  -- CTL_STAT
  ⟨0x40020, [(0x40, 5)], 32,
    [⟨31, 31, .ro, false, .none, .val 1⟩, ⟨30, 30, .w1c, false, .none, .val 0⟩, 
     ⟨15, 0, .rc, false, .none, .val 0⟩]⟩,
  -- CTL_EPOCH
  ⟨0x40200, [], 64,
    [⟨63, 63, .ro, false, .none, .val 0⟩, ⟨31, 0, .ro, false, .none, .val 0⟩]⟩,
  -- CTL_CFG_ERR
  ⟨0x40208, [], 64,
    [⟨63, 63, .w1c, false, .none, .val 0⟩, ⟨62, 62, .w1c, false, .none, .val 0⟩, 
     ⟨55, 48, .ro, false, .none, .val 0⟩, ⟨47, 40, .ro, false, .none, .val 0⟩, 
     ⟨17, 0, .ro, false, .none, .val 0⟩]⟩,
  -- CTL_COMMIT_CFG
  ⟨0x40210, [], 32,
    [⟨31, 16, .rw, false, .live, .val 0x12C⟩]⟩,
  -- CTL_SHADOW_POOL
  ⟨0x40218, [], 32,
    [⟨31, 16, .ro, false, .none, .img⟩, ⟨15, 0, .ro, false, .none, .img⟩]⟩]

/-- The registers of the xbc slot. -/
def regs_xbc : List RegDef := [
  -- XBC_CFG
  ⟨0x280000, [], 32,
    [⟨31, 31, .rw, true, .live, .val 1⟩, ⟨27, 16, .rw, true, .live, .val 4⟩, 
     ⟨9, 0, .rw, true, .live, .val 0x64⟩]⟩,
  -- XBC_ALPHA
  ⟨0x280008, [], 64,
    [⟨62, 56, .rw, true, .sh, .img⟩, ⟨54, 48, .rw, true, .sh, .img⟩, ⟨46, 40, .rw, true, .sh, .img⟩, 
     ⟨38, 32, .rw, true, .sh, .img⟩, ⟨30, 24, .rw, true, .sh, .img⟩, ⟨22, 16, .rw, true, .sh, .img⟩, 
     ⟨14, 8, .rw, true, .sh, .img⟩, ⟨6, 0, .rw, true, .sh, .img⟩]⟩,
  -- XBC_SHARED
  ⟨0x280010, [], 64,
    [⟨52, 32, .ro, false, .none, .img⟩, ⟨20, 0, .ro, false, .none, .img⟩]⟩,
  -- XBC_AGE_LIMIT_TC
  ⟨0x280040, [(0x8, 8)], 32,
    [⟨17, 0, .rw, true, .sh, .val 0x3E8⟩]⟩,
  -- XBC_CNT
  ⟨0x280100, [(0x8, 9)], 64,
    [⟨47, 0, .rc, false, .none, .val 0⟩]⟩,
  -- XBC_PORT_SPEED
  ⟨0x280400, [(0x8, 128)], 32,
    [⟨31, 31, .ro, false, .none, .val 0⟩, ⟨19, 0, .ro, false, .none, .val 0⟩]⟩,
  -- XBC_SMP_CFG
  ⟨0x280800, [(0x8, 128)], 32,
    [⟨31, 31, .rw, true, .live, .val 0⟩, ⟨30, 30, .rw, true, .live, .val 0⟩, 
     ⟨15, 0, .rw, true, .live, .val 0xFFFF⟩]⟩,
  -- XBC_ACCT
  ⟨0x281000, [(0x40, 131), (0x8, 8)], 64,
    [⟨52, 32, .rw, true, .quiesce, .img⟩, ⟨20, 0, .rw, true, .sh, .img⟩]⟩,
  -- XBC_OCC
  ⟨0x284000, [(0x40, 131), (0x8, 8)], 64,
    [⟨62, 42, .ro, false, .none, .val 0⟩, ⟨41, 21, .ro, false, .none, .val 0⟩, 
     ⟨20, 0, .ro, false, .none, .val 0⟩]⟩]

/-- The registers of the mce slot. -/
def regs_mce : List RegDef := [
  -- MCE_STAT
  ⟨0x2C0000, [], 64,
    [⟨48, 32, .ro, false, .none, .val 0⟩]⟩,
  -- MCE_CNT
  ⟨0x2C0100, [(0x8, 7)], 64,
    [⟨47, 0, .rc, false, .none, .val 0⟩]⟩,
  -- CMT_CFG
  ⟨0x2C1000, [], 32,
    [⟨31, 31, .rw, true, .live, .val 1⟩, ⟨15, 0, .rw, true, .live, .val 0x7D0⟩]⟩,
  -- CMT_STAT
  ⟨0x2C1008, [], 64,
    [⟨60, 48, .ro, false, .none, .val 0⟩, ⟨45, 32, .ro, false, .none, .val 0⟩, 
     ⟨13, 0, .ro, false, .none, .val 0⟩]⟩,
  -- CMT_CNT
  ⟨0x2C1100, [(0x8, 7)], 64,
    [⟨47, 0, .rc, false, .none, .val 0⟩]⟩]

/-- The registers of the rte slot. -/
def regs_rte : List RegDef := [
  -- RTE_CFG
  ⟨0x300000, [], 32,
    [⟨31, 31, .rw, true, .sh, .img⟩, ⟨30, 30, .rw, true, .sh, .img⟩, 
     ⟨29, 29, .rw, true, .live, .val 1⟩, ⟨28, 28, .rw, true, .live, .val 1⟩, 
     ⟨20, 16, .rw, true, .sh, .val 0x10⟩]⟩,
  -- RTE_TC_VC
  ⟨0x300008, [], 32,
    [⟨15, 14, .rw, true, .sh, .img⟩, ⟨13, 12, .rw, true, .sh, .img⟩, ⟨11, 10, .rw, true, .sh, .img⟩, 
     ⟨9, 8, .rw, true, .sh, .img⟩, ⟨7, 6, .rw, true, .sh, .img⟩, ⟨5, 4, .rw, true, .sh, .img⟩, 
     ⟨3, 2, .rw, true, .sh, .img⟩, ⟨1, 0, .rw, true, .sh, .img⟩]⟩,
  -- RTE_ESC_THR
  ⟨0x300010, [], 32,
    [⟨31, 31, .rw, true, .live, .val 1⟩, ⟨19, 0, .rw, true, .live, .val 0x7D0⟩]⟩,
  -- RTE_FLOW_CFG
  ⟨0x300018, [], 32,
    [⟨9, 0, .rw, true, .live, .val 0x12C⟩]⟩,
  -- RTE_STAT
  ⟨0x300020, [], 64,
    [⟨63, 46, .ro, false, .none, .val 0⟩, ⟨45, 29, .ro, false, .none, .val 0⟩, 
     ⟨28, 14, .ro, false, .none, .val 0⟩]⟩,
  -- RTE_GAP_TMO_TC
  ⟨0x300040, [(0x8, 8)], 32,
    [⟨9, 0, .rw, true, .sh, .val 0x14⟩]⟩,
  -- RTE_CNT
  ⟨0x300100, [(0x8, 15)], 64,
    [⟨47, 0, .rc, false, .none, .val 0⟩]⟩,
  -- RTE_BUNDLE
  ⟨0x300200, [(0x8, 64)], 64,
    [⟨63, 63, .rw, true, .sh, .img⟩, ⟨62, 56, .rw, true, .sh, .img⟩, ⟨55, 55, .rw, true, .sh, .img⟩, 
     ⟨54, 48, .rw, true, .sh, .img⟩, ⟨47, 47, .rw, true, .sh, .img⟩, ⟨46, 40, .rw, true, .sh, .img⟩, 
     ⟨39, 39, .rw, true, .sh, .img⟩, ⟨38, 32, .rw, true, .sh, .img⟩, ⟨31, 31, .rw, true, .sh, .img⟩, 
     ⟨30, 24, .rw, true, .sh, .img⟩, ⟨23, 23, .rw, true, .sh, .img⟩, ⟨22, 16, .rw, true, .sh, .img⟩, 
     ⟨15, 15, .rw, true, .sh, .img⟩, ⟨14, 8, .rw, true, .sh, .img⟩, ⟨7, 7, .rw, true, .sh, .img⟩, 
     ⟨6, 0, .rw, true, .sh, .img⟩]⟩,
  -- RTE_SRC_FID
  ⟨0x300800, [(0x8, 161)], 32,
    [⟨31, 31, .ro, false, .none, .img⟩, ⟨11, 0, .ro, false, .none, .img⟩]⟩]

/-- The registers of the tmg slot. -/
def regs_tmg : List RegDef := [
  -- TMG_CFG
  ⟨0x340000, [], 32,
    [⟨31, 31, .rw, true, .live, .val 1⟩, ⟨30, 30, .rw, true, .live, .val 1⟩, 
     ⟨20, 0, .rw, true, .live, .val 0x4000⟩]⟩,
  -- TMG_CAL_CFG
  ⟨0x340008, [], 32,
    [⟨31, 31, .rw, true, .live, .val 1⟩]⟩,
  -- TMG_HIST_CFG
  ⟨0x340010, [], 32,
    [⟨31, 31, .rw, true, .live, .val 0⟩, ⟨19, 0, .rw, true, .live, .val 0x3E8⟩]⟩,
  -- TMG_SNAP_SEL
  ⟨0x340018, [], 32,
    [⟨31, 31, .rw, false, .live, .val 0⟩, ⟨14, 0, .rw, false, .live, .val 0⟩]⟩,
  -- TMG_SNAP_Q
  ⟨0x340020, [], 64,
    [⟨63, 63, .ro, false, .none, .val 0⟩, ⟨62, 62, .ro, false, .none, .val 0⟩, 
     ⟨61, 61, .ro, false, .none, .val 0⟩, ⟨38, 21, .ro, false, .none, .val 0⟩, 
     ⟨20, 0, .ro, false, .none, .val 0⟩]⟩,
  -- TMG_CAL_STAT
  ⟨0x340040, [(0x8, 8)], 64,
    [⟨47, 32, .rc, false, .none, .val 0⟩, ⟨12, 0, .ro, false, .none, .val 0⟩]⟩,
  -- TMG_SNAP_DEPTH
  ⟨0x340100, [(0x8, 16)], 32,
    [⟨23, 0, .ro, false, .none, .val 0⟩]⟩,
  -- TMG_SNAP_DELAY
  ⟨0x340180, [(0x8, 16)], 32,
    [⟨23, 0, .ro, false, .none, .val 0⟩]⟩,
  -- TMG_CNT
  ⟨0x340200, [(0x8, 7)], 64,
    [⟨47, 0, .rc, false, .none, .val 0⟩]⟩,
  -- TMG_FID_VH
  ⟨0x341000, [(0x8, 512)], 64,
    [⟨63, 63, .rw, true, .sh, .img⟩, ⟨60, 56, .rw, true, .sh, .img⟩, ⟨55, 55, .rw, true, .sh, .img⟩, 
     ⟨52, 48, .rw, true, .sh, .img⟩, ⟨47, 47, .rw, true, .sh, .img⟩, ⟨44, 40, .rw, true, .sh, .img⟩, 
     ⟨39, 39, .rw, true, .sh, .img⟩, ⟨36, 32, .rw, true, .sh, .img⟩, ⟨31, 31, .rw, true, .sh, .img⟩, 
     ⟨28, 24, .rw, true, .sh, .img⟩, ⟨23, 23, .rw, true, .sh, .img⟩, ⟨20, 16, .rw, true, .sh, .img⟩, 
     ⟨15, 15, .rw, true, .sh, .img⟩, ⟨12, 8, .rw, true, .sh, .img⟩, ⟨7, 7, .rw, true, .sh, .img⟩, 
     ⟨4, 0, .rw, true, .sh, .img⟩]⟩]

/-- Registers of the brg slot, part 0. -/
def regs_brg_0 : List RegDef := [
  -- BRG_CFG
  ⟨0x380000, [], 32,
    [⟨31, 31, .rw, true, .live, .val 1⟩, ⟨29, 16, .rw, true, .live, .val 0x5DC⟩, 
     ⟨15, 0, .rw, true, .live, .val 0x7D0⟩]⟩,
  -- BRG_TRK_CFG
  ⟨0x380008, [], 64,
    [⟨47, 32, .rw, true, .live, .val 0x2000⟩, ⟨31, 16, .rw, true, .live, .val 0x1000⟩]⟩,
  -- BRG_TRK_STAT
  ⟨0x380010, [], 64,
    [⟨63, 48, .ro, false, .none, .val 0⟩, ⟨47, 32, .ro, false, .none, .val 0⟩, 
     ⟨31, 16, .ro, false, .none, .val 0⟩]⟩,
  -- BRG_LOCK_CFG
  ⟨0x380018, [], 32,
    [⟨31, 31, .rw, true, .live, .img⟩, ⟨30, 30, .rw, true, .sh, .img⟩, ⟨11, 0, .rw, true, .sh, .img⟩]⟩,
  -- BRG_LOCK_STAT
  ⟨0x380020, [], 64,
    [⟨63, 63, .ro, false, .none, .val 0⟩, ⟨62, 62, .ro, false, .none, .val 0⟩, 
     ⟨61, 56, .ro, false, .none, .val 0⟩, ⟨51, 40, .ro, false, .none, .val 0⟩, 
     ⟨39, 28, .ro, false, .none, .val 0⟩, ⟨15, 0, .ro, false, .none, .val 0⟩]⟩,
  -- BRG_CNT
  ⟨0x380100, [(0x8, 16)], 64,
    [⟨47, 0, .rc, false, .none, .val 0⟩]⟩,
  -- BRG_WINBAR
  ⟨0x380400, [(0x8, 32)], 32,
    [⟨5, 0, .ro, false, .none, .img⟩]⟩,
  -- BRG_WIN_BASE
  ⟨0x381000, [(0x20, 2048)], 64,
    [⟨63, 21, .rw, true, .sh, .img⟩]⟩,
  -- BRG_WIN_CFG
  ⟨0x381008, [(0x20, 2048)], 64,
    [⟨63, 63, .rw, true, .sh, .img⟩, ⟨62, 62, .rw, true, .sh, .img⟩, ⟨61, 61, .rw, true, .sh, .img⟩, 
     ⟨60, 56, .rw, true, .sh, .img⟩, ⟨47, 32, .rw, true, .sh, .img⟩, ⟨25, 0, .rw, true, .sh, .img⟩]⟩,
  -- BRG_WIN_XLT
  ⟨0x381010, [(0x20, 2048)], 64,
    [⟨24, 0, .rw, true, .sh, .img⟩]⟩,
  -- BRG_WIN_PFDROP
  ⟨0x381018, [(0x20, 2048)], 64,
    [⟨47, 0, .rc, false, .none, .val 0⟩]⟩,
  -- BRG_INB_CFG
  ⟨0x392000, [(0x20, 256)], 64,
    [⟨63, 63, .rw, true, .sh, .img⟩, ⟨62, 62, .rw, true, .sh, .img⟩, ⟨61, 61, .rw, true, .sh, .img⟩, 
     ⟨60, 56, .rw, true, .sh, .img⟩, ⟨55, 44, .rw, true, .sh, .img⟩, ⟨43, 32, .rw, true, .sh, .img⟩, 
     ⟨27, 0, .rw, true, .sh, .img⟩]⟩]

/-- Registers of the brg slot, part 1. -/
def regs_brg_1 : List RegDef := [
  -- BRG_INB_OFF
  ⟨0x392008, [(0x20, 256)], 64,
    [⟨51, 12, .rw, true, .sh, .img⟩]⟩,
  -- BRG_INB_HOST
  ⟨0x392010, [(0x20, 256)], 64,
    [⟨63, 12, .rw, true, .sh, .img⟩]⟩]

/-- The registers of the brg slot. -/
def regs_brg : List RegDef := regs_brg_0 ++ regs_brg_1

/-- Registers of the port slot, part 0. -/
def regs_port_0 : List RegDef := [
  -- PCP_PORT_CFG
  ⟨0xC80000, [(0x40000, 32), (0x2000, 4)], 64,
    [⟨63, 63, .ro, false, .none, .img⟩, ⟨62, 61, .ro, false, .none, .img⟩, 
     ⟨60, 54, .ro, false, .none, .img⟩, ⟨53, 49, .ro, false, .none, .img⟩, 
     ⟨48, 47, .ro, false, .none, .img⟩, ⟨46, 44, .ro, false, .none, .img⟩, 
     ⟨43, 42, .rw, true, .quiesce, .img⟩, ⟨40, 40, .rw, true, .live, .val 0⟩, 
     ⟨39, 32, .rw, true, .quiesce, .img⟩, ⟨21, 16, .rw, true, .quiesce, .val 0x20⟩]⟩,
  -- PCP_LINK_STAT
  ⟨0xC80008, [(0x40000, 32), (0x2000, 4)], 64,
    [⟨63, 63, .ro, false, .none, .val 0⟩, ⟨62, 62, .ro, false, .none, .val 0⟩, 
     ⟨61, 61, .ro, false, .none, .val 0⟩, ⟨60, 60, .ro, false, .none, .val 0⟩, 
     ⟨58, 56, .ro, false, .none, .val 0⟩, ⟨55, 51, .ro, false, .none, .val 0⟩, 
     ⟨50, 48, .ro, false, .none, .val 7⟩]⟩,
  -- PCP_FC
  ⟨0xC80010, [(0x40000, 32), (0x2000, 4)], 64,
    [⟨63, 57, .rw, true, .quiesce, .img⟩, ⟨56, 50, .rw, true, .quiesce, .img⟩, 
     ⟨49, 43, .rw, true, .quiesce, .img⟩, ⟨42, 32, .rw, true, .quiesce, .img⟩, 
     ⟨31, 21, .rw, true, .quiesce, .img⟩, ⟨20, 10, .rw, true, .quiesce, .img⟩]⟩,
  -- PCP_FC_ADV
  ⟨0xC80018, [(0x40000, 32), (0x2000, 4)], 64,
    [⟨63, 57, .ro, false, .none, .val 0⟩, ⟨56, 50, .ro, false, .none, .val 0⟩, 
     ⟨49, 43, .ro, false, .none, .val 0⟩, ⟨42, 32, .ro, false, .none, .val 0⟩, 
     ⟨31, 21, .ro, false, .none, .val 0⟩, ⟨20, 10, .ro, false, .none, .val 0⟩, 
     ⟨1, 1, .ro, false, .none, .val 0⟩, ⟨0, 0, .ro, false, .none, .val 0⟩]⟩,
  -- PCP_PM_CFG
  ⟨0xC80020, [(0x40000, 32), (0x2000, 4)], 32,
    [⟨31, 16, .rw, true, .live, .val 0x20⟩, ⟨15, 8, .rw, true, .live, .val 8⟩, 
     ⟨1, 1, .rw, true, .live, .val 0⟩, ⟨0, 0, .rw, true, .live, .val 0⟩]⟩,
  -- PCP_SLOT_CFG
  ⟨0xC80028, [(0x40000, 32), (0x2000, 4)], 32,
    [⟨31, 31, .ro, false, .none, .img⟩, ⟨30, 26, .ro, false, .none, .img⟩, 
     ⟨25, 25, .rw, true, .live, .val 0⟩, ⟨24, 24, .rw, true, .live, .val 1⟩, 
     ⟨15, 0, .rw, true, .live, .val 0x64⟩]⟩,
  -- PCP_CFGRQ
  ⟨0xC80040, [(0x40000, 32), (0x2000, 4)], 64,
    [⟨63, 63, .w1s, false, .live, .val 0⟩, ⟨62, 62, .ro, false, .none, .val 0⟩, 
     ⟨61, 59, .ro, false, .none, .val 0⟩, ⟨58, 58, .rw, true, .live, .val 0⟩, 
     ⟨57, 54, .rw, true, .live, .val 0xF⟩, ⟨43, 28, .rw, true, .live, .val 0⟩, 
     ⟨11, 2, .rw, true, .live, .val 0⟩]⟩,
  -- PCP_CFGRQ_DATA
  ⟨0xC80048, [(0x40000, 32), (0x2000, 4)], 32,
    [⟨31, 0, .rw, true, .live, .val 0⟩]⟩,
  -- PCP_CNT
  ⟨0xC80100, [(0x40000, 32), (0x2000, 4), (0x8, 8)], 64,
    [⟨47, 0, .rc, false, .none, .val 0⟩]⟩,
  -- SGL_CFG
  ⟨0xC88000, [(0x40000, 32), (0x2000, 4)], 64,
    [⟨63, 63, .ro, false, .none, .img⟩, ⟨62, 56, .ro, false, .none, .img⟩, 
     ⟨55, 54, .ro, false, .none, .img⟩, ⟨53, 52, .rw, true, .quiesce, .img⟩, 
     ⟨51, 51, .rw, true, .live, .val 1⟩, ⟨50, 50, .rw, true, .live, .val 1⟩, 
     ⟨49, 49, .rw, true, .live, .val 1⟩, ⟨47, 44, .rw, true, .live, .val 4⟩, 
     ⟨43, 40, .rw, true, .live, .val 3⟩, ⟨31, 16, .rw, true, .live, .val 0x7D0⟩, 
     ⟨15, 0, .rw, true, .live, .val 0x400⟩]⟩,
  -- SGL_LINK_STAT
  ⟨0xC88008, [(0x40000, 32), (0x2000, 4)], 64,
    [⟨63, 61, .ro, false, .none, .val 0⟩, ⟨60, 59, .ro, false, .none, .val 0⟩, 
     ⟨58, 58, .ro, false, .none, .val 0⟩, ⟨57, 57, .ro, false, .none, .val 0⟩, 
     ⟨56, 56, .ro, false, .none, .val 0⟩, ⟨55, 52, .ro, false, .none, .val 0⟩, 
     ⟨51, 51, .ro, false, .none, .val 0⟩, ⟨50, 47, .ro, false, .none, .val 0⟩, 
     ⟨46, 35, .ro, false, .none, .val 0⟩, ⟨34, 28, .ro, false, .none, .val 0⟩, 
     ⟨25, 16, .ro, false, .none, .val 0⟩]⟩,
  -- SGL_SWAP_CMD
  ⟨0xC88010, [(0x40000, 32), (0x2000, 4)], 32,
    [⟨31, 31, .w1s, false, .live, .val 0⟩, ⟨30, 28, .ro, false, .none, .val 0⟩, 
     ⟨3, 0, .rw, true, .live, .val 0⟩]⟩]

/-- Registers of the port slot, part 1. -/
def regs_port_1 : List RegDef := [
  -- SGL_CRED
  ⟨0xC88100, [(0x40000, 32), (0x2000, 4), (0x8, 24)], 64,
    [⟨63, 52, .ro, false, .none, .val 0⟩, ⟨51, 36, .ro, false, .none, .val 0⟩, 
     ⟨27, 16, .rw, true, .quiesce, .img⟩, ⟨15, 0, .rw, true, .quiesce, .img⟩]⟩,
  -- SGL_CNT
  ⟨0xC88200, [(0x40000, 32), (0x2000, 4), (0x8, 12)], 64,
    [⟨47, 0, .rc, false, .none, .val 0⟩]⟩,
  -- SGL_SPARE
  ⟨0xC8FF00, [(0x40000, 32)], 32,
    [⟨31, 31, .rw, true, .quiesce, .img⟩]⟩]

/-- The registers of the port slot. -/
def regs_port : List RegDef := regs_port_0 ++ regs_port_1

/-- The registers of the lg slot. -/
def regs_lg : List RegDef := [
  -- LG_CFG
  ⟨0x480000, [(0x40000, 32)], 32,
    [⟨31, 31, .ro, false, .none, .img⟩, ⟨3, 0, .rw, true, .quiesce, .img⟩]⟩,
  -- LG_BRINGUP
  ⟨0x480008, [(0x40000, 32)], 64,
    [⟨63, 63, .rw, true, .live, .val 0⟩, ⟨62, 60, .ro, false, .none, .val 0⟩, 
     ⟨59, 51, .ro, false, .none, .val 0⟩, ⟨50, 42, .ro, false, .none, .val 0⟩, 
     ⟨41, 33, .ro, false, .none, .val 0⟩, ⟨32, 32, .ro, false, .none, .val 0⟩, 
     ⟨31, 28, .ro, false, .none, .val 0⟩]⟩,
  -- LG_BITSLIP
  ⟨0x480010, [(0x40000, 32)], 32,
    [⟨31, 31, .w1s, false, .live, .val 0⟩, ⟨30, 27, .rw, false, .live, .val 0⟩, 
     ⟨26, 20, .rw, true, .live, .val 0⟩, ⟨19, 19, .ro, false, .none, .val 0⟩]⟩,
  -- LG_ADAPT_CFG
  ⟨0x480018, [(0x40000, 32)], 32,
    [⟨31, 31, .rw, true, .live, .val 1⟩, ⟨23, 16, .rw, true, .live, .val 0x18⟩, 
     ⟨15, 0, .rw, true, .live, .val 0x40⟩]⟩,
  -- LG_EYE_CFG
  ⟨0x480020, [(0x40000, 32)], 64,
    [⟨63, 63, .w1s, false, .live, .val 0⟩, ⟨62, 59, .rw, true, .live, .val 0⟩, 
     ⟨58, 57, .rw, true, .live, .val 0⟩, ⟨56, 50, .rw, true, .live, .val 0⟩, 
     ⟨49, 44, .rw, true, .live, .val 0⟩, ⟨43, 38, .rw, true, .live, .val 0x14⟩]⟩,
  -- LG_EYE_STAT
  ⟨0x480028, [(0x40000, 32)], 64,
    [⟨63, 63, .ro, false, .none, .val 0⟩, ⟨62, 62, .ro, false, .none, .val 0⟩, 
     ⟨61, 61, .ro, false, .none, .val 0⟩, ⟨47, 0, .ro, false, .none, .val 0⟩]⟩,
  -- LG_TXEQ
  ⟨0x480100, [(0x40000, 32), (0x20, 9)], 32,
    [⟨31, 31, .rw, true, .quiesce, .val 0⟩, ⟨30, 27, .ro, false, .none, .val 0xF⟩, 
     ⟨26, 25, .ro, false, .none, .val 0⟩, ⟨20, 16, .rw, true, .quiesce, .val 0⟩, 
     ⟨12, 8, .rw, true, .quiesce, .val 0⟩, ⟨6, 0, .ro, false, .none, .val 0x40⟩]⟩,
  -- LG_TEST
  ⟨0x480108, [(0x40000, 32), (0x20, 9)], 32,
    [⟨31, 28, .rw, true, .quiesce, .val 0⟩, ⟨27, 27, .w1s, false, .live, .val 0⟩, 
     ⟨26, 22, .rw, true, .quiesce, .val 0⟩, ⟨21, 21, .ro, false, .none, .val 0⟩, 
     ⟨20, 20, .w1c, false, .none, .val 0⟩]⟩,
  -- LG_PRBS_ERR
  ⟨0x480110, [(0x40000, 32), (0x20, 9)], 64,
    [⟨47, 0, .rc, false, .none, .val 0⟩]⟩,
  -- LG_LANE_STAT
  ⟨0x480118, [(0x40000, 32), (0x20, 9)], 64,
    [⟨63, 63, .ro, false, .none, .val 0⟩, ⟨62, 62, .ro, false, .none, .val 0⟩, 
     ⟨61, 61, .ro, false, .none, .val 0⟩, ⟨55, 48, .rc, false, .none, .val 0⟩, 
     ⟨47, 32, .ro, false, .none, .val 0⟩, ⟨31, 0, .ro, false, .none, .val 0⟩]⟩]

/-- The registers of the dmv slot. -/
def regs_dmv : List RegDef := [
  -- DMV_STAT
  ⟨0x3C0000, [], 64,
    [⟨63, 51, .ro, false, .none, .val 0⟩, ⟨50, 35, .ro, false, .none, .val 0⟩, 
     ⟨34, 14, .ro, false, .none, .val 0⟩]⟩,
  -- DMV_CNT
  ⟨0x3C0100, [(0x8, 8)], 64,
    [⟨47, 0, .rc, false, .none, .val 0⟩]⟩,
  -- DMV_SLICE_MAP
  ⟨0x3D0000, [(0x8, 4096)], 64,
    [⟨63, 63, .rw, true, .quiesce, .img⟩, ⟨62, 58, .rw, true, .quiesce, .img⟩, 
     ⟨55, 48, .rw, true, .live, .img⟩, ⟨47, 32, .rw, true, .live, .img⟩, 
     ⟨31, 19, .rw, true, .live, .img⟩, ⟨18, 0, .rw, true, .live, .img⟩]⟩,
  -- DMV_SLICE_STAT
  ⟨0x3E0000, [(0x8, 4096)], 64,
    [⟨63, 61, .ro, false, .none, .val 0⟩, ⟨60, 52, .ro, false, .none, .val 0⟩, 
     ⟨51, 39, .ro, false, .none, .val 0⟩, ⟨38, 19, .ro, false, .none, .val 0⟩]⟩]

/-- The registers of the wlg slot. -/
def regs_wlg : List RegDef := [
  -- WLG_CFG
  ⟨0x400000, [], 32,
    [⟨9, 0, .rw, true, .live, .val 0xA⟩]⟩,
  -- WLG_REGION
  ⟨0x400008, [], 64,
    [⟨39, 32, .ro, false, .none, .img⟩, ⟨22, 0, .ro, false, .none, .img⟩]⟩,
  -- WLG_STAT
  ⟨0x400010, [], 64,
    [⟨63, 51, .ro, false, .none, .val 0⟩, ⟨50, 40, .ro, false, .none, .val 0⟩, 
     ⟨39, 39, .ro, false, .none, .val 0⟩]⟩,
  -- WLG_CNT
  ⟨0x400100, [(0x8, 6)], 64,
    [⟨47, 0, .rc, false, .none, .val 0⟩]⟩,
  -- WLG_CTX_CFG
  ⟨0x410000, [(0x20, 1024)], 64,
    [⟨63, 63, .rw, true, .live, .val 0⟩, ⟨62, 62, .rw, true, .quiesce, .val 0⟩, 
     ⟨61, 57, .rw, true, .quiesce, .val 0⟩, ⟨51, 32, .rw, true, .quiesce, .val 0⟩, 
     ⟨19, 0, .rw, true, .quiesce, .val 0⟩]⟩,
  -- WLG_CTX_HOST
  ⟨0x410008, [(0x20, 1024)], 64,
    [⟨63, 12, .rw, true, .quiesce, .val 0⟩]⟩,
  -- WLG_CTX_BMP
  ⟨0x410010, [(0x20, 1024)], 64,
    [⟨63, 32, .rw, true, .quiesce, .val 0⟩, ⟨31, 0, .rw, true, .quiesce, .val 0⟩]⟩,
  -- WLG_CTX_STAT
  ⟨0x410018, [(0x20, 1024)], 64,
    [⟨63, 63, .ro, false, .none, .val 0⟩, ⟨62, 62, .ro, false, .none, .val 0⟩, 
     ⟨61, 61, .ro, false, .none, .val 0⟩, ⟨60, 60, .ro, false, .none, .val 0⟩, 
     ⟨59, 59, .ro, false, .none, .val 0⟩, ⟨31, 0, .ro, false, .none, .val 0⟩]⟩]

/-- The registers of the dct slot. -/
def regs_dct : List RegDef := [
  -- DCT_CFG
  ⟨0x440000, [], 32,
    [⟨31, 28, .rw, true, .live, .val 5⟩, ⟨27, 16, .rw, true, .live, .val 0x64⟩, 
     ⟨15, 0, .rw, true, .live, .val 0x190⟩]⟩,
  -- DCT_ARM
  ⟨0x440008, [], 32,
    [⟨31, 31, .ro, false, .none, .val 0⟩, ⟨30, 29, .ro, false, .none, .val 0⟩]⟩,
  -- DCT_KEEP
  ⟨0x440010, [], 32,
    [⟨15, 0, .rw, true, .live, .val 0⟩]⟩,
  -- DCT_STAT
  ⟨0x440018, [], 64,
    [⟨63, 63, .ro, false, .none, .val 0⟩, ⟨62, 60, .ro, false, .none, .val 0⟩, 
     ⟨59, 56, .ro, false, .none, .val 0⟩, ⟨55, 55, .ro, false, .none, .val 1⟩, 
     ⟨54, 54, .ro, false, .none, .val 0⟩, ⟨53, 53, .w1c, false, .none, .val 0⟩, 
     ⟨52, 50, .w1c, false, .none, .val 0⟩, ⟨49, 34, .ro, false, .none, .val 0⟩]⟩,
  -- DCT_LAST
  ⟨0x440020, [], 64,
    [⟨63, 48, .ro, false, .none, .val 0⟩, ⟨47, 32, .ro, false, .none, .val 0⟩, 
     ⟨31, 16, .ro, false, .none, .val 0⟩, ⟨15, 0, .ro, false, .none, .val 0⟩]⟩,
  -- DCT_CNT
  ⟨0x440100, [(0x8, 8)], 64,
    [⟨47, 0, .rc, false, .none, .val 0⟩]⟩,
  -- DCT_FLUSH
  ⟨0x441000, [(0x8, 128)], 64,
    [⟨63, 63, .rw, true, .live, .img⟩, ⟨51, 2, .rw, true, .live, .img⟩]⟩]

/-- The registers of the pwr slot. -/
def regs_pwr : List RegDef := [
  -- PWR_CFG
  ⟨0x100000, [], 32,
    [⟨15, 0, .rw, true, .live, .val 0x3E8⟩]⟩,
  -- PWR_STAT
  ⟨0x100008, [], 64,
    [⟨63, 62, .ro, false, .none, .val 0⟩, ⟨61, 61, .ro, false, .none, .val 0⟩]⟩,
  -- PWR_RUN_MASK
  ⟨0x100010, [], 64,
    [⟨63, 0, .ro, false, .none, .img⟩]⟩,
  -- PWR_ON
  ⟨0x100018, [], 64,
    [⟨63, 0, .ro, false, .none, .special⟩]⟩,
  -- PWR_LAST
  ⟨0x100020, [], 64,
    [⟨63, 0, .ro, false, .none, .val 0xFF00000000000000⟩]⟩,
  -- PWR_WAKE_CFG
  ⟨0x100028, [], 32,
    [⟨31, 31, .rw, true, .live, .img⟩, ⟨30, 30, .rw, true, .live, .img⟩, 
     ⟨29, 27, .rw, true, .live, .img⟩, ⟨26, 26, .rw, true, .live, .img⟩, 
     ⟨25, 23, .rw, true, .live, .img⟩]⟩,
  -- PWR_PAD_HOLD
  ⟨0x100040, [(0x8, 2)], 64,
    [⟨63, 0, .w1c, false, .none, .val 0⟩]⟩,
  -- PWR_CNT
  ⟨0x100100, [(0x8, 5)], 64,
    [⟨47, 0, .rc, false, .none, .val 0⟩]⟩]

/-- The registers of the spc slot. -/
def regs_spc : List RegDef := [
  -- SPC_ENABLE
  ⟨0x1480000, [(0x40000, 32)], 32,
    [⟨31, 31, .ro, false, .none, .img⟩, ⟨30, 30, .ro, false, .none, .img⟩, 
     ⟨29, 29, .ro, false, .none, .val 0⟩, ⟨6, 0, .ro, false, .none, .img⟩]⟩,
  -- SPC_TIMING
  ⟨0x1480008, [(0x40000, 32)], 64,
    [⟨63, 52, .rw, true, .quiesce, .val 0x64⟩, ⟨51, 40, .rw, true, .quiesce, .val 0xC8⟩, 
     ⟨39, 32, .rw, true, .quiesce, .val 0xA⟩, ⟨31, 24, .rw, true, .quiesce, .val 0x32⟩, 
     ⟨15, 0, .rw, true, .quiesce, .val 0x7D0⟩]⟩,
  -- SPC_STAT
  ⟨0x1480010, [(0x40000, 32)], 64,
    [⟨63, 61, .ro, false, .none, .val 0⟩, ⟨60, 60, .ro, false, .none, .val 0⟩, 
     ⟨59, 59, .ro, false, .none, .val 0⟩, ⟨58, 58, .ro, false, .none, .val 0⟩, 
     ⟨57, 57, .ro, false, .none, .val 0⟩, ⟨55, 52, .ro, false, .none, .val 0⟩, 
     ⟨47, 32, .ro, false, .none, .val 0⟩]⟩,
  -- SPC_RAIL_CFG
  ⟨0x1480040, [(0x40000, 32), (0x10, 2)], 64,
    [⟨63, 63, .rw, true, .quiesce, .img⟩, ⟨55, 48, .rw, true, .quiesce, .img⟩, 
     ⟨47, 40, .rw, true, .quiesce, .img⟩, ⟨35, 24, .rw, true, .quiesce, .special⟩, 
     ⟨23, 12, .rw, true, .quiesce, .special⟩, ⟨11, 0, .rw, true, .quiesce, .special⟩]⟩,
  -- SPC_RAIL_MEAS
  ⟨0x1480048, [(0x40000, 32), (0x10, 2)], 64,
    [⟨63, 48, .ro, false, .none, .val 0⟩, ⟨47, 32, .ro, false, .none, .val 0⟩, 
     ⟨31, 16, .ro, false, .none, .val 0⟩]⟩,
  -- SPC_CNT
  ⟨0x1480100, [(0x40000, 32), (0x8, 6)], 64,
    [⟨47, 0, .rc, false, .none, .val 0⟩]⟩]

/-- The registers of the fcr slot. -/
def regs_fcr : List RegDef := [
  -- FCR_CFG
  ⟨0x80000, [], 32,
    [⟨31, 31, .rw, true, .live, .val 1⟩, ⟨30, 30, .w1c, false, .none, .val 0⟩, 
     ⟨29, 29, .w1c, false, .none, .val 0⟩]⟩,
  -- FCR_STAT
  ⟨0x80008, [], 64,
    [⟨63, 63, .ro, false, .none, .val 0⟩, ⟨62, 62, .w1c, false, .none, .val 0⟩, 
     ⟨58, 48, .ro, false, .none, .val 0⟩, ⟨44, 32, .ro, false, .none, .val 0⟩, 
     ⟨31, 0, .ro, false, .none, .val 0⟩]⟩,
  -- FCR_FIRST
  ⟨0x80010, [], 64,
    [⟨63, 0, .ro, false, .none, .val 0⟩]⟩,
  -- FCR_FIRST_TIME
  ⟨0x80018, [], 64,
    [⟨63, 0, .ro, false, .none, .val 0⟩]⟩,
  -- FCR_FORCE_CFG
  ⟨0x80020, [], 32,
    [⟨31, 27, .rw, true, .live, .val 0⟩]⟩,
  -- FCR_CONTAINED_VS
  ⟨0x80028, [], 32,
    [⟨31, 0, .ro, false, .none, .val 0⟩]⟩,
  -- FCR_CONTAINED
  ⟨0x80030, [(0x8, 2)], 64,
    [⟨63, 0, .ro, false, .none, .val 0⟩]⟩,
  -- FCR_CNT
  ⟨0x80100, [(0x8, 8)], 64,
    [⟨47, 0, .rc, false, .none, .val 0⟩]⟩,
  -- FCR_STICKY
  ⟨0x80400, [(0x8, 24)], 64,
    [⟨63, 0, .w1c, false, .none, .val 0⟩]⟩,
  -- FCR_FORCE
  ⟨0x80500, [(0x8, 24)], 64,
    [⟨63, 0, .w1s, false, .live, .val 0⟩]⟩,
  -- FCR_RXN
  ⟨0x82000, [(0x8, 992)], 64,
    [⟨63, 63, .rw, true, .live, .img⟩, ⟨62, 62, .rw, true, .live, .val 1⟩, 
     ⟨61, 60, .rw, true, .live, .special⟩, ⟨59, 58, .rw, true, .live, .img⟩, 
     ⟨57, 56, .ro, false, .none, .special⟩, ⟨55, 54, .ro, false, .none, .special⟩, 
     ⟨47, 32, .rw, true, .live, .img⟩, ⟨17, 16, .rw, true, .live, .img⟩, 
     ⟨15, 0, .rw, true, .live, .img⟩]⟩]

/-- The registers of the tbm slot. -/
def regs_tbm : List RegDef := [
  -- TBM_CFG
  ⟨0x240000, [], 32,
    [⟨31, 31, .rw, true, .live, .val 1⟩, ⟨23, 16, .rw, true, .live, .val 0x18⟩, 
     ⟨15, 0, .rw, true, .live, .val 0x64⟩]⟩,
  -- TBM_STAT
  ⟨0x240008, [], 64,
    [⟨63, 63, .ro, false, .none, .val 0⟩, ⟨62, 61, .ro, false, .none, .val 0⟩, 
     ⟨60, 60, .ro, false, .none, .val 0⟩, ⟨59, 58, .ro, false, .none, .val 0⟩, 
     ⟨57, 49, .ro, false, .none, .val 0⟩]⟩,
  -- TBM_CNT
  ⟨0x240100, [(0x8, 5)], 64,
    [⟨47, 0, .rc, false, .none, .val 0⟩]⟩,
  -- TBM_REGION
  ⟨0x240400, [(0x8, 16)], 64,
    [⟨63, 63, .ro, false, .none, .img⟩, ⟨62, 59, .ro, false, .none, .img⟩, 
     ⟨58, 57, .ro, false, .none, .img⟩, ⟨45, 23, .ro, false, .none, .img⟩, 
     ⟨22, 0, .ro, false, .none, .img⟩]⟩]

/-- The registers of the tm slot. -/
def regs_tm : List RegDef := [
  -- TM_ARB_CFG
  ⟨0x2080000, [(0x40000, 4)], 64,
    [⟨63, 32, .rw, true, .sh, .img⟩, ⟨15, 0, .rw, true, .live, .val 0x400⟩]⟩,
  -- TM_LFSR
  ⟨0x2080008, [(0x40000, 4)], 32,
    [⟨31, 0, .ro, false, .none, .img⟩]⟩,
  -- TM_STAT
  ⟨0x2080010, [(0x40000, 4)], 64,
    [⟨63, 63, .ro, false, .none, .val 0⟩, ⟨62, 62, .ro, false, .none, .val 0⟩, 
     ⟨61, 61, .ro, false, .none, .val 0⟩, ⟨60, 60, .ro, false, .none, .val 0⟩, 
     ⟨59, 59, .ro, false, .none, .val 0⟩, ⟨58, 58, .ro, false, .none, .val 0⟩, 
     ⟨57, 53, .ro, false, .none, .val 0⟩, ⟨31, 0, .ro, false, .none, .val 0⟩]⟩,
  -- TM_ARB_REQ
  ⟨0x2080100, [(0x40000, 4), (0x8, 32)], 32,
    [⟨31, 24, .rw, true, .sh, .img⟩, ⟨23, 19, .rw, true, .sh, .img⟩, 
     ⟨10, 0, .ro, false, .none, .val 0⟩]⟩,
  -- TM_CNT
  ⟨0x2080200, [(0x40000, 4), (0x8, 6)], 64,
    [⟨47, 0, .rc, false, .none, .val 0⟩]⟩]

/-- The registers of the sec slot. -/
def regs_sec : List RegDef := [
  -- SEC_STAT
  ⟨0x180000, [], 64,
    [⟨63, 61, .ro, false, .none, .otp⟩, ⟨60, 60, .ro, false, .none, .otp⟩, 
     ⟨59, 59, .ro, false, .none, .val 0⟩, ⟨58, 58, .ro, false, .none, .val 0⟩, 
     ⟨57, 57, .ro, false, .none, .val 0⟩, ⟨55, 52, .ro, false, .none, .otp⟩, 
     ⟨51, 48, .ro, false, .none, .val 0⟩]⟩,
  -- SEC_BOOT
  ⟨0x180008, [], 64,
    [⟨63, 63, .ro, false, .none, .val 0⟩, ⟨62, 62, .ro, false, .none, .val 0⟩, 
     ⟨61, 61, .ro, false, .none, .val 0⟩, ⟨60, 60, .ro, false, .none, .val 0⟩, 
     ⟨59, 56, .ro, false, .none, .val 0⟩, ⟨55, 48, .ro, false, .none, .val 0⟩]⟩,
  -- SEC_LC_NONCE
  ⟨0x180010, [], 64,
    [⟨63, 0, .ro, false, .none, .val 0⟩]⟩,
  -- SEC_LC_CMD
  ⟨0x180018, [], 32,
    [⟨31, 31, .w1s, true, .live, .val 0⟩, ⟨30, 30, .ro, false, .none, .val 0⟩, 
     ⟨29, 27, .rw, true, .live, .val 0⟩, ⟨26, 24, .ro, false, .none, .val 0⟩]⟩,
  -- SEC_LC_AUTH
  ⟨0x180020, [], 64,
    [⟨63, 6, .rw, true, .live, .val 0⟩]⟩,
  -- SEC_FLASH_CMD
  ⟨0x180028, [], 32,
    [⟨31, 31, .w1s, true, .live, .val 0⟩, ⟨30, 30, .ro, false, .none, .val 0⟩, 
     ⟨29, 28, .rw, true, .live, .val 0⟩, ⟨27, 25, .ro, false, .none, .val 0⟩, 
     ⟨12, 0, .rw, true, .live, .val 0⟩]⟩,
  -- SEC_FLASH_ADDR
  ⟨0x180030, [], 64,
    [⟨63, 12, .rw, true, .live, .val 0⟩]⟩,
  -- SEC_IDE_REQ
  ⟨0x180040, [(0x8, 2)], 64,
    [⟨63, 0, .ro, false, .none, .img⟩]⟩,
  -- SEC_SVN
  ⟨0x180100, [(0x8, 64)], 32,
    [⟨7, 0, .ro, false, .none, .otp⟩]⟩]

/-- The registers of the mpu slot. -/
def regs_mpu : List RegDef := [
  -- MPU_VIOL
  ⟨0xC0000, [], 64,
    [⟨63, 63, .w1c, false, .none, .val 0⟩, ⟨55, 48, .ro, false, .none, .val 0⟩, 
     ⟨47, 46, .ro, false, .none, .val 0⟩, ⟨45, 45, .ro, false, .none, .val 0⟩, 
     ⟨44, 44, .ro, false, .none, .val 0⟩, ⟨43, 42, .ro, false, .none, .val 0⟩, 
     ⟨17, 0, .ro, false, .none, .val 0⟩]⟩,
  -- MPU_VIOL_TIME
  ⟨0xC0008, [], 64,
    [⟨63, 0, .ro, false, .none, .val 0⟩]⟩,
  -- MPU_CNT
  ⟨0xC0010, [], 64,
    [⟨47, 0, .rc, false, .none, .val 0⟩]⟩,
  -- MPU_SLOT
  ⟨0xC0400, [(0x8, 256)], 32,
    [⟨31, 31, .w1s, false, .live, .img⟩, ⟨7, 0, .rw, true, .live, .img⟩]⟩]

/-- Registers of the age slot, part 0. -/
def regs_age_0 : List RegDef := [
  -- AGE_CFG
  ⟨0x1C0000, [], 32,
    [⟨31, 31, .rw, true, .live, .val 1⟩, ⟨30, 30, .rw, true, .live, .val 0⟩, 
     ⟨29, 29, .w1s, false, .live, .val 0⟩, ⟨10, 0, .rw, true, .live, .val 0x3C⟩]⟩,
  -- AGE_MARGIN_CFG
  ⟨0x1C0008, [], 64,
    [⟨63, 56, .rw, true, .live, .val 0x18⟩, ⟨55, 48, .rw, true, .live, .val 0xA⟩, 
     ⟨47, 40, .rw, true, .live, .val 0x32⟩, ⟨39, 32, .rw, true, .live, .val 0x10⟩, 
     ⟨31, 28, .rw, true, .live, .val 3⟩, ⟨27, 20, .rw, true, .live, .val 0x10⟩]⟩,
  -- AGE_STAT
  ⟨0x1C0010, [], 64,
    [⟨63, 63, .ro, false, .none, .val 0⟩, ⟨62, 58, .ro, false, .none, .val 0x10⟩, 
     ⟨57, 50, .ro, false, .none, .val 0⟩, ⟨49, 38, .ro, false, .none, .val 0⟩, 
     ⟨37, 30, .ro, false, .none, .val 0⟩, ⟨29, 0, .ro, false, .none, .val 0⟩]⟩,
  -- AGE_CAL_SEC
  ⟨0x1C0018, [], 64,
    [⟨47, 0, .rw, true, .live, .val 0⟩]⟩,
  -- AGE_LEDGER_SEL
  ⟨0x1C0020, [], 32,
    [⟨31, 31, .w1s, false, .live, .val 0⟩, ⟨30, 30, .ro, false, .none, .val 0⟩, 
     ⟨10, 0, .rw, false, .live, .val 0⟩]⟩,
  -- AGE_LEDGER_DATA
  ⟨0x1C0040, [(0x8, 8)], 64,
    [⟨63, 0, .ro, false, .none, .val 0⟩]⟩,
  -- AGE_EC
  ⟨0x1C0100, [(0x8, 16)], 64,
    [⟨63, 56, .ro, false, .none, .special⟩, ⟨55, 48, .ro, false, .none, .special⟩, 
     ⟨47, 40, .ro, false, .none, .special⟩, ⟨39, 32, .ro, false, .none, .special⟩, 
     ⟨31, 24, .ro, false, .none, .special⟩, ⟨23, 16, .ro, false, .none, .special⟩, 
     ⟨15, 8, .ro, false, .none, .special⟩, ⟨7, 0, .ro, false, .none, .special⟩]⟩,
  -- AGE_EC_RETIRED
  ⟨0x1C0200, [(0x8, 3)], 64,
    [⟨63, 0, .ro, false, .none, .special⟩]⟩,
  -- AGE_LANE_RETIRED
  ⟨0x1C0220, [(0x8, 5)], 64,
    [⟨63, 0, .ro, false, .none, .special⟩]⟩,
  -- AGE_ROWS
  ⟨0x1C0300, [(0x8, 4)], 32,
    [⟨31, 24, .ro, false, .none, .special⟩]⟩,
  -- AGE_RATE_PLAN
  ⟨0x1C0400, [(0x8, 128)], 32,
    [⟨31, 31, .rw, true, .live, .val 0⟩, ⟨30, 29, .ro, false, .none, .val 0⟩, 
     ⟨7, 0, .ro, false, .none, .val 0⟩]⟩,
  -- AGE_PDM
  ⟨0x1C1000, [(0x8, 512)], 32,
    [⟨31, 31, .ro, false, .none, .val 0⟩, ⟨19, 0, .ro, false, .none, .val 0⟩]⟩]

/-- Registers of the age slot, part 1. -/
def regs_age_1 : List RegDef := [
  -- AGE_RO
  ⟨0x1C2000, [(0x8, 68)], 32,
    [⟨31, 31, .ro, false, .none, .val 0⟩, ⟨19, 0, .ro, false, .none, .val 0⟩]⟩]

/-- The registers of the age slot. -/
def regs_age : List RegDef := regs_age_0 ++ regs_age_1

/-- The registers of the pmc slot. -/
def regs_pmc : List RegDef := [
  -- PMC_CFG
  ⟨0x200000, [], 32,
    [⟨31, 31, .rw, true, .live, .val 0⟩]⟩,
  -- PMC_STAT
  ⟨0x200008, [], 64,
    [⟨63, 63, .ro, false, .none, .val 0⟩, ⟨62, 48, .rc, false, .none, .val 0⟩, 
     ⟨47, 32, .rc, false, .none, .val 0⟩, ⟨31, 0, .ro, false, .none, .val 0⟩]⟩,
  -- PMC_DUMP_CFG
  ⟨0x200010, [], 64,
    [⟨63, 63, .rw, true, .live, .val 0⟩, ⟨62, 62, .rw, true, .live, .val 0⟩, 
     ⟨61, 59, .rw, true, .live, .val 7⟩, ⟨23, 0, .rw, true, .live, .val 0xF4240⟩]⟩,
  -- PMC_SMP_CFG
  ⟨0x200018, [], 64,
    [⟨63, 63, .rw, true, .live, .val 0⟩, ⟨42, 32, .rw, true, .live, .val 0⟩, 
     ⟨31, 0, .rw, true, .live, .val 0xF4240⟩]⟩,
  -- PMC_OVF
  ⟨0x200100, [(0x8, 54)], 64,
    [⟨63, 0, .w1c, false, .none, .val 0⟩]⟩,
  -- PMC_SEL
  ⟨0x210000, [(0x8, 2048)], 64,
    [⟨63, 63, .rw, true, .live, .val 0⟩, ⟨62, 62, .w1s, false, .live, .val 0⟩, 
     ⟨61, 60, .rw, true, .live, .val 0⟩, ⟨47, 32, .rw, true, .live, .val 0⟩, 
     ⟨31, 31, .rw, true, .live, .val 0⟩, ⟨27, 16, .rw, true, .live, .val 0⟩, 
     ⟨15, 8, .rw, true, .live, .val 0xFF⟩]⟩,
  -- PMC_CNT
  ⟨0x214000, [(0x8, 2048)], 64,
    [⟨47, 0, .ro, false, .none, .val 0⟩]⟩,
  -- PMC_TDP
  ⟨0x218000, [(0x28, 128), (0x8, 5)], 64,
    [⟨47, 0, .ro, false, .none, .val 0⟩]⟩,
  -- PMC_TDE
  ⟨0x21A000, [(0x28, 144), (0x8, 5)], 64,
    [⟨47, 0, .ro, false, .none, .val 0⟩]⟩,
  -- PMC_UWIN
  ⟨0x220000, [(0x8, 4096)], 64,
    [⟨63, 63, .rw, true, .live, .val 0⟩, ⟨43, 32, .rw, true, .live, .val 0⟩, 
     ⟨8, 0, .rw, true, .live, .val 0⟩]⟩]

/-- The registers of the clk slot. -/
def regs_clk : List RegDef := [
  -- CLK_CFG
  ⟨0x140000, [], 32,
    [⟨31, 31, .ro, false, .none, .img⟩]⟩,
  -- CLK_STAT
  ⟨0x140008, [], 64,
    [⟨63, 63, .ro, false, .none, .val 0⟩, ⟨62, 62, .ro, false, .none, .val 0⟩, 
     ⟨61, 61, .ro, false, .none, .val 0⟩, ⟨60, 60, .ro, false, .none, .val 0⟩]⟩,
  -- CLK_DOMAIN_RUN
  ⟨0x140010, [], 64,
    [⟨39, 0, .ro, false, .none, .val 0⟩]⟩,
  -- CLK_RESET
  ⟨0x140018, [], 32,
    [⟨31, 31, .w1s, false, .live, .val 0⟩, ⟨30, 28, .ro, false, .none, .val 0⟩]⟩,
  -- CLK_BOOT_STAT
  ⟨0x140020, [], 64,
    [⟨63, 63, .ro, false, .none, .val 0⟩, ⟨62, 62, .ro, false, .none, .val 0⟩, 
     ⟨61, 60, .ro, false, .none, .val 0⟩, ⟨59, 59, .ro, false, .none, .val 0⟩, 
     ⟨15, 0, .ro, false, .none, .val 0⟩]⟩,
  -- CLK_BOOT_T0
  ⟨0x140028, [], 64,
    [⟨63, 32, .ro, false, .none, .val 0⟩, ⟨31, 0, .ro, false, .none, .val 0⟩]⟩,
  -- CLK_BOOT_T1
  ⟨0x140030, [], 64,
    [⟨63, 32, .ro, false, .none, .val 0⟩, ⟨31, 0, .ro, false, .none, .val 0⟩]⟩,
  -- CLK_TS
  ⟨0x140038, [], 64,
    [⟨63, 0, .ro, false, .none, .val 0⟩]⟩,
  -- CLK_PTM_CFG
  ⟨0x140040, [], 32,
    [⟨31, 31, .rw, true, .live, .val 0⟩, ⟨6, 0, .rw, true, .live, .img⟩]⟩,
  -- CLK_PTM_LOCAL
  ⟨0x140048, [], 64,
    [⟨63, 0, .ro, false, .none, .val 0⟩]⟩,
  -- CLK_PTM_MASTER
  ⟨0x140050, [], 64,
    [⟨63, 0, .ro, false, .none, .val 0⟩]⟩]

/-- The registers of the dev slot. -/
def regs_dev : List RegDef := [
  -- DEV_ID
  ⟨0x0, [], 64,
    [⟨63, 48, .ro, false, .none, .val 0x1F3A⟩, ⟨47, 32, .ro, false, .none, .val 0x2881⟩, 
     ⟨31, 24, .ro, false, .none, .val 0xB0⟩]⟩,
  -- DEV_VARIANT
  ⟨0x8, [], 64,
    [⟨63, 62, .ro, false, .none, .otp⟩, ⟨55, 48, .ro, false, .none, .val 0x20⟩, 
     ⟨47, 40, .ro, false, .none, .val 0x90⟩, ⟨39, 32, .ro, false, .none, .val 4⟩]⟩,
  -- DEV_SERIAL
  ⟨0x10, [], 64,
    [⟨63, 0, .ro, false, .none, .otp⟩]⟩,
  -- DEV_STATUS
  ⟨0x18, [], 64,
    [⟨63, 63, .ro, false, .none, .val 1⟩, ⟨62, 62, .ro, false, .none, .val 0⟩, 
     ⟨61, 61, .ro, false, .none, .val 0⟩, ⟨60, 60, .ro, false, .none, .val 0⟩, 
     ⟨59, 59, .ro, false, .none, .val 0⟩, ⟨58, 56, .ro, false, .none, .otp⟩, 
     ⟨52, 48, .ro, false, .none, .img⟩, ⟨43, 32, .ro, false, .none, .img⟩]⟩,
  -- DEV_IMG
  ⟨0x20, [], 64,
    [⟨63, 32, .ro, false, .none, .img⟩, ⟨31, 24, .ro, false, .none, .img⟩, 
     ⟨23, 16, .ro, false, .none, .img⟩]⟩,
  -- DEV_IMG_WARN
  ⟨0x28, [], 64,
    [⟨63, 63, .w1c, false, .none, .img⟩, ⟨61, 48, .ro, false, .none, .img⟩, 
     ⟨47, 32, .ro, false, .none, .img⟩]⟩,
  -- DEV_TEMP
  ⟨0x80, [], 64,
    [⟨63, 48, .ro, false, .none, .val 0⟩, ⟨43, 40, .ro, false, .none, .val 0⟩, 
     ⟨31, 16, .rc, false, .none, .val 0⟩]⟩,
  -- DEV_THERM_CFG
  ⟨0x88, [], 32,
    [⟨31, 31, .rw, true, .live, .val 1⟩, ⟨15, 8, .rw, true, .live, .val 0x5F⟩, 
     ⟨4, 0, .rw, true, .live, .val 5⟩]⟩,
  -- DEV_GPIO_CFG
  ⟨0x100, [], 32,
    [⟨31, 24, .ro, false, .none, .img⟩, ⟨23, 16, .rw, true, .live, .val 0⟩]⟩,
  -- DEV_GPIO_DATA
  ⟨0x108, [], 32,
    [⟨31, 24, .ro, false, .none, .val 0⟩, ⟨23, 16, .rw, true, .live, .val 0⟩]⟩,
  -- DEV_SCRATCH
  ⟨0x30, [(0x8, 4)], 64,
    [⟨63, 0, .rw, true, .live, .val 0⟩]⟩]

/-- The registers of the ec slot. -/
def regs_ec : List RegDef := [
  -- EC_STAT
  ⟨0x1C80000, [(0x40000, 16)], 64,
    [⟨63, 63, .ro, false, .none, .val 1⟩, ⟨62, 54, .ro, false, .none, .special⟩, 
     ⟨53, 45, .ro, false, .none, .special⟩, ⟨44, 44, .ro, false, .none, .val 0⟩, 
     ⟨43, 40, .ro, false, .none, .val 0⟩, ⟨39, 37, .ro, false, .none, .val 0⟩]⟩]

/-- The registers of the dmvPage slot. -/
def regs_dmvPage : List RegDef := [
  -- DMV_SQ_BASE
  ⟨0x9000000, [(0x1000, 4096)], 64,
    [⟨63, 12, .rw, false, .quiesce, .val 0⟩]⟩,
  -- DMV_SQ_CFG
  ⟨0x9000008, [(0x1000, 4096)], 32,
    [⟨31, 31, .rw, false, .quiesce, .val 0⟩, ⟨27, 8, .rw, false, .quiesce, .val 0⟩, 
     ⟨4, 0, .rw, false, .quiesce, .val 6⟩]⟩,
  -- DMV_CQ_BASE
  ⟨0x9000010, [(0x1000, 4096)], 64,
    [⟨63, 12, .rw, false, .quiesce, .val 0⟩]⟩,
  -- DMV_CQ_CFG
  ⟨0x9000018, [(0x1000, 4096)], 64,
    [⟨58, 48, .rw, false, .live, .val 0⟩, ⟨43, 32, .rw, false, .live, .val 0x10⟩, 
     ⟨15, 8, .rw, false, .live, .val 1⟩, ⟨4, 0, .rw, false, .quiesce, .val 6⟩]⟩,
  -- DMV_SLICE_CTL
  ⟨0x9000020, [(0x1000, 4096)], 32,
    [⟨31, 31, .rw, false, .live, .val 0⟩, ⟨30, 30, .w1s, false, .live, .val 0⟩, 
     ⟨29, 27, .ro, false, .none, .val 0⟩, ⟨7, 0, .ro, false, .none, .val 0⟩]⟩,
  -- DMV_DB_SQ_PI
  ⟨0x8000000, [(0x1000, 4096)], 32,
    [⟨16, 0, .rw, false, .live, .val 0⟩]⟩,
  -- DMV_DB_CQ_CI
  ⟨0x8000008, [(0x1000, 4096)], 32,
    [⟨16, 0, .rw, false, .live, .val 0⟩]⟩,
  -- DMV_DB_STAT
  ⟨0x8000010, [(0x1000, 4096)], 32,
    [⟨31, 29, .ro, false, .none, .val 0⟩, ⟨16, 0, .ro, false, .none, .val 0⟩]⟩]

/-- The registers of the dmvFn slot. -/
def regs_dmvFn : List RegDef := [
  -- DMV_FAIL_BASE
  ⟨0x10000000, [(0x10000, 32)], 64,
    [⟨63, 12, .rw, false, .quiesce, .val 0⟩]⟩,
  -- DMV_FAIL_CFG
  ⟨0x10000008, [(0x10000, 32)], 32,
    [⟨31, 31, .rw, false, .live, .val 0⟩, ⟨27, 16, .rw, false, .live, .val 0x10⟩, 
     ⟨15, 8, .rw, false, .live, .val 1⟩, ⟨4, 0, .rw, false, .quiesce, .val 6⟩]⟩,
  -- DMV_FAIL_PI
  ⟨0x10000010, [(0x10000, 32)], 32,
    [⟨16, 0, .rw, false, .live, .val 0⟩]⟩,
  -- DMV_FAIL_CI
  ⟨0x10000018, [(0x10000, 32)], 32,
    [⟨16, 0, .rw, false, .live, .val 0⟩]⟩,
  -- DMV_FAIL_STAT
  ⟨0x10000020, [(0x10000, 32)], 32,
    [⟨31, 31, .ro, false, .none, .val 1⟩, ⟨30, 30, .w1c, false, .none, .val 0⟩, 
     ⟨15, 0, .rc, false, .none, .val 0⟩]⟩,
  -- DMV_SLICE_OWN
  ⟨0x10000100, [(0x10000, 32), (0x8, 64)], 64,
    [⟨63, 0, .ro, false, .none, .img⟩]⟩]

/-- The registers that may lie at a key, by the slot the key lies in (R535). -/
def regsNear (key : Nat) : List RegDef :=
  if key ≥ 0x10000000 then regs_dmvFn
  else if key ≥ 0x8000000 then regs_dmvPage
  else
    let n := key / 0x40000
    if n = 0x00 then regs_dev else if n = 0x01 then regs_ctl else if n = 0x02 then regs_fcr
    else if n = 0x03 then regs_mpu else if n = 0x04 then regs_pwr else if n = 0x05 then regs_clk
    else if n = 0x06 then regs_sec else if n = 0x07 then regs_age else if n = 0x08 then regs_pmc
    else if n = 0x09 then regs_tbm else if n = 0x0A then regs_xbc else if n = 0x0B then regs_mce
    else if n = 0x0C then regs_rte else if n = 0x0D then regs_tmg else if n = 0x0E then regs_brg
    else if n = 0x0F then regs_dmv else if n = 0x10 then regs_wlg else if n = 0x11 then regs_dct
    else if n < 0x32 then regs_lg else if n < 0x52 then regs_port else if n < 0x72 then regs_spc
    else if n < 0x82 then regs_ec else if n < 0x86 then regs_tm else []

/-- Whether an offset from a register array's base is exactly one of its instances. -/
def atInstance : List (Nat × Nat) → Nat → Bool
  | [], off => off == 0
  | (stride, count) :: ds, off => off / stride < count && atInstance ds (off % stride)

/-- The register at a key, if the map lists one there (R536). -/
def regAt (key : Nat) : Option RegDef :=
  (regsNear key).find? fun d => d.base ≤ key && atInstance d.dims (key - d.base)

/-- A fault the part can raise: its first source number (the instance number is added to it) and its KIND (R399, R400). -/
structure FaultKind where
  source : Nat
  kind : Nat
  deriving DecidableEq, Repr

/-! ### The faults by name (R402, R403, R404 and the fault tables of the owning chapters) -/

namespace Flt

def LG_ALIGN_FAIL : FaultKind := ⟨0x0, 0⟩
def LG_ADAPT_REVERT : FaultKind := ⟨0x0, 1⟩
def LG_CDR_LOST : FaultKind := ⟨0x0, 2⟩
def PCP_RX_COR : FaultKind := ⟨0x120, 0⟩
def PCP_FC_PROTO : FaultKind := ⟨0x120, 1⟩
def PCP_DLP : FaultKind := ⟨0x120, 2⟩
def PCP_SURPRISE : FaultKind := ⟨0x120, 3⟩
def PCP_FC_NOFIT : FaultKind := ⟨0x120, 4⟩
def SGL_FLIT_BAD : FaultKind := ⟨0x120, 16⟩
def SGL_REPLAY_ECC : FaultKind := ⟨0x120, 17⟩
def SGL_FC_NOFIT : FaultKind := ⟨0x120, 18⟩
def SGL_LANE_SWAP : FaultKind := ⟨0x120, 19⟩
def SGL_RETRAIN : FaultKind := ⟨0x120, 20⟩
def SGL_LINK_DOWN : FaultKind := ⟨0x120, 21⟩
def SGL_PROTO : FaultKind := ⟨0x120, 22⟩
def SGL_FC_PROTO : FaultKind := ⟨0x120, 23⟩
def PCP_MALFORMED : FaultKind := ⟨0x1A0, 0⟩
def PCP_OVERFLOW : FaultKind := ⟨0x1A0, 1⟩
def PCP_ECRC : FaultKind := ⟨0x1A0, 2⟩
def PCP_ACS : FaultKind := ⟨0x1A0, 3⟩
def PCP_IDE_FAIL : FaultKind := ⟨0x1A0, 4⟩
def SGL_OVERFLOW : FaultKind := ⟨0x1A0, 16⟩
def SGL_CC_OVERFLOW : FaultKind := ⟨0x1A0, 17⟩
def SGL_FRAMING : FaultKind := ⟨0x1A0, 18⟩
def DMV_FETCH_ERR : FaultKind := ⟨0x220, 0⟩
def DMV_FAIL_LOST : FaultKind := ⟨0x220, 1⟩
def BRG_PWF : FaultKind := ⟨0x220, 2⟩
def CMT_REC_DROP : FaultKind := ⟨0x220, 3⟩
def SPC_FAST_TRIP : FaultKind := ⟨0x240, 0⟩
def SPC_TIMER_TRIP : FaultKind := ⟨0x240, 1⟩
def SPC_RAMP_TMO : FaultKind := ⟨0x240, 2⟩
def SPC_INPUT : FaultKind := ⟨0x240, 3⟩
def SPC_ANALOG : FaultKind := ⟨0x240, 4⟩
def EC_MEM_COR : FaultKind := ⟨0x260, 0⟩
def EC_MEM_ECC : FaultKind := ⟨0x260, 1⟩
def EC_WATCHDOG : FaultKind := ⟨0x260, 2⟩
def EC_SHARED_COR : FaultKind := ⟨0x2F0, 0⟩
def EC_SHARED_ECC : FaultKind := ⟨0x2F0, 1⟩
def FCR_RING_LOST : FaultKind := ⟨0x340, 0⟩
def FCR_PEND_OVF : FaultKind := ⟨0x341, 0⟩
def PWR_REFUSED : FaultKind := ⟨0x380, 0⟩
def PWR_WAKE_FAIL : FaultKind := ⟨0x381, 0⟩
def XBC_HDR_PARITY : FaultKind := ⟨0x440, 0⟩
def XBC_DATA_PARITY : FaultKind := ⟨0x441, 0⟩
def XBC_SB_PARITY : FaultKind := ⟨0x442, 0⟩
def MCE_REC_PARITY : FaultKind := ⟨0x460, 0⟩
def CMT_FLOW_PARITY : FaultKind := ⟨0x461, 0⟩
def RTE_HDR_BAD : FaultKind := ⟨0x480, 0⟩
def RTE_TTL : FaultKind := ⟨0x481, 0⟩
def RTE_NO_ROUTE : FaultKind := ⟨0x482, 0⟩
def RTE_UPDOWN : FaultKind := ⟨0x483, 0⟩
def RTE_RSQ_FULL : FaultKind := ⟨0x484, 0⟩
def RTE_SEQ_ADOPT : FaultKind := ⟨0x485, 0⟩
def RTE_GAP_LOST : FaultKind := ⟨0x486, 0⟩
def RTE_TBL_PARITY : FaultKind := ⟨0x487, 0⟩
def TMG_TBL_PARITY : FaultKind := ⟨0x4A0, 0⟩
def BRG_XLT_ECC : FaultKind := ⟨0x4C0, 0⟩
def BRG_CPL_TMO : FaultKind := ⟨0x4C1, 0⟩
def BRG_LATE_CPL : FaultKind := ⟨0x4C2, 0⟩
def BRG_UNEXP_CPL : FaultKind := ⟨0x4C3, 0⟩
def BRG_TRK_ECC : FaultKind := ⟨0x4C4, 0⟩
def BRG_LOCK_BROKEN : FaultKind := ⟨0x4C5, 0⟩
def BRG_SB_PARITY : FaultKind := ⟨0x4C6, 0⟩
def BRG_BAD_STATUS : FaultKind := ⟨0x4C7, 0⟩
def WLG_CACHE_PARITY : FaultKind := ⟨0x500, 0⟩
def WLG_BMP_ECC : FaultKind := ⟨0x501, 0⟩
def WLG_LOST : FaultKind := ⟨0x502, 0⟩
def WLG_FLUSH_FAIL : FaultKind := ⟨0x503, 0⟩
def DCT_DECANT : FaultKind := ⟨0x520, 0⟩
def DCT_PWRFAIL_IGNORED : FaultKind := ⟨0x521, 0⟩
def DCT_FLUSH_FAIL : FaultKind := ⟨0x522, 0⟩
def DCT_LIST_OVF : FaultKind := ⟨0x523, 0⟩
def DCT_FALLBACK : FaultKind := ⟨0x524, 0⟩
def LG_REF_DIST : FaultKind := ⟨0x540, 0⟩
def LG_CAL_FAIL : FaultKind := ⟨0x541, 0⟩
def PCP_CFG_PARITY : FaultKind := ⟨0x560, 0⟩
def SGL_CC_QUEUE_PARITY : FaultKind := ⟨0x580, 0⟩
def SPC_ANALOG_DIE : FaultKind := ⟨0x5A0, 0⟩
def EC_XBAR_ECC : FaultKind := ⟨0x5C0, 0⟩
def EC_FW_ECC : FaultKind := ⟨0x5C1, 0⟩
def TBM_COR : FaultKind := ⟨0x420, 0⟩
def TBM_UNCORR : FaultKind := ⟨0x421, 0⟩
def TBM_ONDIE_PARITY : FaultKind := ⟨0x422, 0⟩
def TBM_STARVE : FaultKind := ⟨0x423, 0⟩
def TBM_DIE_FAIL : FaultKind := ⟨0x424, 0⟩
def TBM_SPARED : FaultKind := ⟨0x425, 0⟩
def TBM_RELOC_FAIL : FaultKind := ⟨0x426, 0⟩
def MPU_VIOLATION : FaultKind := ⟨0x360, 0⟩
def SEC_BOOT_FALLBACK : FaultKind := ⟨0x3C0, 0⟩
def SEC_RECOVERY : FaultKind := ⟨0x3C1, 0⟩
def SEC_SELFTEST : FaultKind := ⟨0x3C2, 0⟩
def SEC_DEBUG_UNLOCK : FaultKind := ⟨0x3C3, 0⟩
def SEC_AUTH_REJECT : FaultKind := ⟨0x3C4, 0⟩
def SEC_IDE_KEY_LOST : FaultKind := ⟨0x3C5, 0⟩
def AGE_MARGIN_LOW : FaultKind := ⟨0x3E0, 0⟩
def AGE_ENGINE_SPARED : FaultKind := ⟨0x3E1, 0⟩
def AGE_ENGINE_EXHAUSTED : FaultKind := ⟨0x3E2, 0⟩
def AGE_LANE_RETIRED : FaultKind := ⟨0x3E3, 0⟩
def AGE_LANE_NOSPARE : FaultKind := ⟨0x3E4, 0⟩
def AGE_ROW_SPARED : FaultKind := ⟨0x3E5, 0⟩
def AGE_ROWS_OUT : FaultKind := ⟨0x3E6, 0⟩
def AGE_LEDGER_ERR : FaultKind := ⟨0x3E7, 0⟩
def PMC_DUMP_SKIP : FaultKind := ⟨0x400, 0⟩
def CLK_REF_LOST : FaultKind := ⟨0x3A0, 0⟩
def CLK_PLL_UNLOCK : FaultKind := ⟨0x3A1, 0⟩
def CLK_XTAL_FAIL : FaultKind := ⟨0x3A2, 0⟩
def CLK_WAKE_RETRY : FaultKind := ⟨0x3A3, 0⟩
def DEV_IMG_WARN : FaultKind := ⟨0x300, 0⟩
def DEV_THERM_WARN : FaultKind := ⟨0x301, 0⟩
def DEV_THERM_CRIT : FaultKind := ⟨0x302, 0⟩

end Flt

/-- Fault ID, class (0 CORRECTED, 1 DATA, 2 LINK, 3 STATE) and reset level, part 0 (R402 to R404). -/
def faultTable_0 : List (Nat × Nat × Nat) :=
  [(0, 2, 0), (1, 0, 0), (2, 2, 0), (32, 0, 0), (33, 2, 1), (34, 2, 1), (35, 2, 1), (36, 2, 1),
   (48, 0, 0), (49, 2, 1), (50, 2, 1), (51, 0, 1), (52, 0, 0), (53, 2, 1), (54, 2, 1), (55, 2, 1),
   (64, 1, 1), (65, 1, 2), (66, 1, 1), (67, 1, 1), (68, 1, 1), (80, 1, 1), (81, 1, 1), (82, 1, 1),
   (96, 1, 1), (97, 1, 1), (98, 1, 0), (99, 1, 1), (128, 2, 1), (129, 2, 1)]

/-- Fault ID, class (0 CORRECTED, 1 DATA, 2 LINK, 3 STATE) and reset level, part 1 (R402 to R404). -/
def faultTable_1 : List (Nat × Nat × Nat) :=
  [(130, 2, 1), (131, 2, 0), (132, 3, 1), (160, 0, 0), (161, 3, 1), (162, 3, 1), (192, 0, 0), (193, 3, 1),
   (224, 3, 0), (225, 3, 1), (226, 3, 3), (288, 1, 0), (289, 3, 1), (320, 1, 0), (352, 3, 0), (353, 3, 1),
   (384, 3, 3), (385, 3, 3), (386, 3, 1), (387, 3, 1), (416, 3, 1), (417, 3, 1), (418, 3, 1), (419, 3, 1),
   (420, 1, 0), (421, 2, 0), (448, 3, 1), (449, 3, 1), (450, 3, 3), (451, 2, 1)]

/-- Fault ID, class (0 CORRECTED, 1 DATA, 2 LINK, 3 STATE) and reset level, part 2 (R402 to R404). -/
def faultTable_2 : List (Nat × Nat × Nat) :=
  [(452, 2, 1), (453, 0, 0), (454, 3, 1), (455, 3, 1), (480, 1, 0), (512, 0, 0), (513, 1, 1), (514, 3, 1),
   (515, 0, 0), (516, 3, 1), (517, 3, 1), (518, 3, 1), (544, 1, 0), (545, 1, 0), (546, 3, 1), (576, 1, 1),
   (577, 1, 1), (608, 1, 1), (609, 1, 1), (610, 1, 0), (611, 3, 1), (612, 3, 1), (613, 1, 0), (614, 1, 1),
   (615, 3, 1), (640, 3, 1), (672, 1, 1), (673, 1, 0), (674, 1, 0), (675, 1, 0)]

/-- Fault ID, class (0 CORRECTED, 1 DATA, 2 LINK, 3 STATE) and reset level, part 3 (R402 to R404). -/
def faultTable_3 : List (Nat × Nat × Nat) :=
  [(676, 3, 1), (677, 1, 1), (678, 1, 1), (679, 1, 0), (736, 1, 0), (737, 1, 1), (738, 1, 1), (739, 1, 0),
   (768, 3, 0), (769, 3, 1), (770, 1, 0), (771, 1, 0), (772, 3, 1), (800, 3, 1), (801, 2, 1), (832, 3, 1),
   (864, 1, 1), (896, 3, 1), (928, 3, 1), (929, 3, 1)]

/-- Fault ID, class and reset level of every assigned fault. -/
def faultTable : List (Nat × Nat × Nat) := faultTable_0 ++ faultTable_1 ++ faultTable_2 ++ faultTable_3

end Sys2Proof.Machine
end

