-- ==== Sys2Proof/Config.lean ====
section
/-! DEFINITION. What one part fixes and the manual leaves open: the free values. Each is opaque: nothing in Lean can
evaluate it, so a claim about it holds for every value. -/

namespace Sys2Proof

/-- The source of fresh values that the manual leaves open (log entry 5): the random reload of the sampling counter
(R91), the nonces (R470) and the signatures and random fields of SPDM answers. It is applied to the counter
`State.freeCtr`, which each use advances. -/
opaque Config.freeWord : Nat → BitVec 64

/-- Cryptographic results whose algorithm the manual names but does not state (signatures, digests): free values of
the data they cover (log entry 7). -/
opaque Config.digest : List (BitVec 8) → List (BitVec 8)

/-- The PCI Express message code that stands for a slot event of R207, which the manual does not state (log entry 20). -/
opaque Config.slotMessage : Nat → BitVec 8

end Sys2Proof
end

