-- ==== Sys2Proof/Syntax.lean ====
section
/-! DEFINITION. The commands of the part: what packets, descriptors and register accesses look like when they reach it,
and the ONE inductive `Instr`, one constructor for each row of spec/opcode_table.json. -/

namespace Sys2Proof.Machine

/-! ### Packets -/

/-- Packet kinds: those of R126, and the two PCI Express request kinds that never enter the fabric (R226). -/
inductive PktKind where
  | mwr | mrd | atomic | mrdlk | cpl | cpld | cpldlk | msg | io | cfg
  deriving DecidableEq, Repr, Inhabited

/-- How a PCI Express message, completion or request is routed inside a virtual switch (Base Specification). -/
inductive TlpRoute where
  | address | id | toRoot | broadcast | localRx
  deriving DecidableEq, Repr, Inhabited

/-- A packet header: the fields of the Scango header of R126, and for a TLP the fields the part reads.
`fab` says that the packet is in Scango form. -/
structure Hdr where
  kind : PktKind := .mwr
  fab : Bool := false
  dst : Nat := 0
  src : Nat := 0
  seq : Nat := 0
  tc : Nat := 0
  colour : Nat := 0
  ro : Bool := false
  ido : Bool := false
  poison : Bool := false
  byp : Bool := false
  sync : Bool := false
  esc : Bool := false
  dl : Bool := false
  down : Bool := false
  ttl : Nat := 0
  len : Nat := 0
  offset : Nat := 0
  tag : Nat := 0
  reqId : Nat := 0
  fbe : Nat := 15
  lbe : Nat := 0
  status : Nat := 0
  byteCnt : Nat := 0
  subcode : Nat := 0
  pasid : Option Nat := none
  salv : Bool := false
  flush : Bool := false
  /-- Version bits and raw kind of a Scango header that R127 refuses. -/
  badVer : Option (Nat × Nat) := none
  /-- PCI Express address, or the ID a TLP is routed by; of a configuration request the ID it names, its doubleword being
  `offset` and its type `subcode`. -/
  addr : Nat := 0
  route : TlpRoute := .address
  cplId : Nat := 0
  /-- Header bytes of the TLP as it lies on the link. -/
  hlen : Nat := 16
  /-- The TLP belongs to a selective IDE stream (R220). -/
  sel : Bool := false
  /-- A configuration or I/O write. -/
  write : Bool := false
  deriving DecidableEq, Repr, Inhabited

/-- What the data-link and transaction layers found in a received TLP (R241). The Base Specification defines the
checks; their verdicts are inputs. -/
structure TlpVerdict where
  malformed : Bool := false
  overflow : Bool := false
  ecrcBad : Bool := false
  acs : Bool := false
  ideFail : Bool := false
  deriving DecidableEq, Repr, Inhabited

/-- What arrives on a PCI Express port in one step (R241). -/
inductive PcieRx where
  /-- A TLP, whole or with its first payload bytes only; `raw` is its first 64 bytes as received. -/
  | tlp (h : Hdr) (payload : List Byte) (whole : Bool) (raw : List Byte) (linkIde : Bool) (v : TlpVerdict)
  /-- Further payload of the TLP in progress. -/
  | more (payload : List Byte) (last : Bool)
  /-- The TLP in progress is discarded by the port controller before its last cell (R75). -/
  | discard
  /-- A flit, TLP or DLLP that fails its CRC (R241). -/
  | crcError (dllp : Bool)
  /-- A flow-control update: type 0 posted, 1 non-posted, 2 completion, with its header and data credits. -/
  | fcUpdate (ty hdr data : Nat) (beyond : Bool)
  /-- An acknowledgement, of a number never sent or not. -/
  | ack (neverSent : Bool)
  /-- A negative acknowledgement. -/
  | nak
  /-- The partner below asks for L2/L3 Ready (PM_Enter_L23). -/
  | enterL23
  deriving DecidableEq, Repr, Inhabited

/-- A bit of a stored cell that has been upset since it was written: the cell's place in its packet, the part of the
cell (0 data, 1 sideband) or 2 for the packet descriptor, and the bit (R87 to R90). -/
structure Upset where
  cell : Nat
  part : Nat
  bit : Nat
  deriving DecidableEq, Repr, Inhabited

/-- What a FAULT_MESSAGE brings: the next message that waits; a fault of a unit whose inside is not modelled, with its
SOURCE, KIND, BLOCK and INFO (R399, R404); a stored entry of a protected on-die structure that is upset, which nothing
reports until it is read or scrubbed. Stores 2, 4, 5 and 6 are the on-die tables in force, 0x12, 0x14, 0x15 and 0x16
their shadow copies; 0xE7 to 0xE9 are data, sideband and descriptor of the packet that port p is sending, cell k, as
64p + k; 0xE0 to 0xF1 otherwise those of `State.upsets`. -/
inductive FaultEvent where
  | next
  | raised (source kind block info : Nat)
  | strike (store index : Nat)
  deriving DecidableEq, Repr, Inhabited

/-- What a partner asks of a transmitter in a round of transmit equalisation (R289, R290). -/
inductive TxEqReq where
  | none
  /-- REQ_PRE and REQ_POST of a Scango training block. -/
  | scango (pre post : Nat)
  /-- A PCI Express coefficient request, in 1/63 of FS. -/
  | coef (pre post : Nat)
  /-- A PCI Express preset request. -/
  | preset (k : Nat)
  deriving DecidableEq, Repr, Inhabited

/-- What a 1 µs sample of a slot power controller sees on one rail: input and output in mV, and the shunt voltage in 10 µV
units, at which its loop may be capping (R390, R392). -/
structure RailIn where
  vin : Nat := 0
  vout : Nat := 0
  shunt : Nat := 0
  deriving DecidableEq, Repr, Inhabited

/-- A 1 µs sample of a slot power controller: PRSNT_N low, the rails 12 V and 3.3 V, and at the end of a millisecond the
averages of each rail: VIN, VOUT and SENSE (R386, R391, R396). -/
structure SpcIn where
  present : Bool := false
  r12 : RailIn := {}
  r3 : RailIn := {}
  avg : Option ((Nat × Nat × Nat) × (Nat × Nat × Nat)) := none
  deriving DecidableEq, Repr, Inhabited

/-- A request that arrives at a table-memory die's arbiter: the requester, the table words it moves, whether it writes
them, or reads, corrects and rewrites them (R438, R439). -/
structure TmAsk where
  num : Nat := 0
  words : Nat := 1
  write : Bool := false
  rmw : Bool := false
  deriving DecidableEq, Repr, Inhabited

/-- What a cupping round reads: path monitors and their slack in ps, ring oscillators and their counts, lanes that are up
with the width of their eye in 1/64 UI. A monitor of a domain that is off is not listed. -/
structure Cup where
  slack : List (Nat × Int) := []
  rings : List (Nat × Nat) := []
  eyes : List (Nat × Nat) := []
  deriving DecidableEq, Repr, Inhabited

/-! ### Cold boot (R456, R457, R529) -/

/-- A sparse table: (key, value) pairs with strictly rising keys; a key not listed has the table's default. -/
abbrev Tbl (α : Type) := List (Nat × α)

/-- A port of the personality image (R19, R20): kind, lane group and place of its registers, role (0 upstream,
1 downstream, 2 fabric endpoint, 3 Scango link), virtual switch and lanes. -/
structure PortInfo where
  scango : Bool := false
  group : Nat := 0
  inst : Nat := 0
  role : Nat := 0
  vs : Nat := 0
  lanes : Nat := 8
  deriving DecidableEq, Repr, Inhabited

/-- An overlay entry of the personality image (R223): function class (0 upstream, 1 external downstream, 2 internal
downstream), a port, or a virtual switch for class 2, or all of them, byte offset of a doubleword, mask and value. -/
structure Overlay where
  cls : Nat := 0
  port : Option Nat := none
  offset : Nat := 0
  mask : Nat := 0
  value : Nat := 0
  deriving DecidableEq, Repr, Inhabited

/-- A personality image's contents: the IMG reset values by register key, the ports, and the overlay entries in order
(R223). Requester IDs of fabric endpoint ports and the balls of attention buttons stand among the values (log entry 16). -/
structure Personality where
  regs : Tbl Word := []
  ports : Tbl PortInfo := []
  overlay : List Overlay := []
  deriving DecidableEq, Repr, Inhabited

/-- What the boot chain finds of one image (R456): its header, and the verdicts of digest and signature. -/
structure ImageIn where
  magicOk : Bool := true
  typ : Nat := 0
  key : Nat := 0
  advance : Bool := false
  svnIndex : Nat := 0
  svn : Nat := 0
  length : Nat := 0
  digestOk : Bool := true
  sigOk : Bool := true
  digest : List Byte := []
  deriving DecidableEq, Repr, Inhabited

/-- One bank of the SPI flash (R456). -/
structure BankIn where
  fw : ImageIn := {}
  eng : ImageIn := {}
  pers : ImageIn := {}
  image : Personality := {}
  deriving DecidableEq, Repr, Inhabited

/-- What a cold boot or a keep-warm exit meets (R378, R457, R529): the wake stage that fails at the first try and at the
retry; the milestones: the regulator stage in AON ticks, and LOGIC_READY, FILL_DONE, IMG_DONE and READY in µs from PLL_LOCK;
the known-answer tests; the two banks; whether the life ledger can be read; the bits of stored codewords, as (byte address,
bit 0 to 12), that were upset through keep-warm in the retained die and in the carafe SRAM (R428, R429). -/
structure BootIn where
  fail1 : Option (Fin 4) := none
  fail2 : Option (Fin 4) := none
  regTicks : Nat := 0
  logicAt : Nat := 0
  fillAt : Nat := 0
  imgAt : Nat := 0
  readyAt : Nat := 0
  selftest : Bool := true
  a : BankIn := {}
  b : BankIn := {}
  ledgerOk : Bool := true
  kept : List (Nat × Nat) := []
  sram : List (Nat × Nat) := []
  deriving DecidableEq, Repr, Inhabited

/-! ### Rings and register accesses -/

/-- The rings of R37, and the failure ring of a virtual switch's data-mover function (R321). -/
inductive RingId where
  | mcr | evr | ftr | smr | cdr
  | fail (vs : Fin 32)
  deriving DecidableEq, Repr, Inhabited

/-- A ring, or the completion queue of a slice, whose interrupt moderation R44 governs (R309). -/
inductive IrqSrc where
  | ring (r : RingId)
  | cq (slice : Fin 4096)
  deriving DecidableEq, Repr, Inhabited

/-- The four master classes of R474. -/
inductive Master where
  | manager | firmware | engine | debug
  deriving DecidableEq, Repr, Inhabited

/-- The FLAGS and TAG of a fetched MCR descriptor (R47). -/
structure Desc where
  irq : Bool := false
  tag : Nat := 0
  deriving DecidableEq, Repr, Inhabited

/-- Operands of TABLE_WRITE and TABLE_READ (R50). -/
structure TableOp where
  tableId : Nat
  copy : Nat
  first : Nat
  count : Nat
  addr : Nat
  deriving DecidableEq, Repr, Inhabited

/-- Where a packet entered. -/
inductive Ingress where
  | port (p : Nat)
  | dmv (slice : Nat)
  | internal
  deriving DecidableEq, Repr, Inhabited

/-- Where a register access goes: BAR0 of the management function, or BAR 0 and BAR 4 of the data-mover function of a virtual
switch (R15, R302). -/
inductive RegSpace where
  | mgmt
  | dmv0 (vs : Nat)
  | dmv4 (vs : Nat)
  deriving DecidableEq, Repr, Inhabited

/-- Operands of HARVEST (R327): context, FLAGS, MAX_ENTRIES, ADDR. -/
structure HarvestOp where
  ctx : Nat
  flags : Nat
  maxEnt : Nat
  addr : Nat
  deriving DecidableEq, Repr, Inhabited

/-- Operands of POWER_STATE (R365). -/
structure PowerOp where
  flags : Nat
  drainMs : Nat
  wakeAfter : Nat
  deriving DecidableEq, Repr, Inhabited

/-- The fields of a PWF_NOTE message (R197). -/
structure NoteOp where
  cause : Nat
  dst : Nat
  src : Nat
  tc : Nat
  seq : Nat
  length : Nat
  offset : Nat
  reqId : Nat
  reporter : Nat
  pasid : Option Nat
  deriving DecidableEq, Repr, Inhabited

/-- What a PCI Express link comes up with (R229): rate, lanes, flit mode, and the partner's credits. -/
structure LinkUpOp where
  rate : Nat
  lanes : Nat
  flit : Bool
  ph : Nat
  pd : Nat
  nph : Nat
  npd : Nat
  ch : Nat
  cd : Nat
  deriving DecidableEq, Repr, Inhabited

/-- An IDE_KM message in a session (R466): the session, the port's index, key set, substream and direction. -/
structure IdeOp where
  session : Nat
  index : Nat
  set : Nat
  sub : Nat
  dir : Nat
  deriving DecidableEq, Repr, Inhabited

/-- PATTERN as the receivers of a port have it: the port, and the number of its lanes that saw it in two consecutive block
times (R283). -/
structure PatternSeen where
  port : Nat
  lanes : Nat
  deriving DecidableEq, Repr, Inhabited

/-- What a position of the slip search has shown (R284, R285): the block found three times, 64 blocks apart, and by how many ps
it stands behind the earliest lane of the port. -/
structure SlipSeen where
  blk : List Byte
  skew : Nat
  deriving DecidableEq, Repr, Inhabited

/-- A rail of a slot power controller whose shunt voltage, in 10 µV units, the analog half has compared with FAST (R392). -/
structure FastSeen where
  ctl : Nat
  rail : Nat
  shunt : Nat
  deriving DecidableEq, Repr, Inhabited

/-- The link of slot power controllers' digital halves to the analog die is lost: the time passed before it, in steps of 5 ns,
and the controllers, by bit; all 32 where the die's VAUX leaves its range (R393, R404). -/
structure AnalogLost where
  dt : Nat
  ctls : Nat
  deriving DecidableEq, Repr, Inhabited

/-- A point of an eye scan (R294). -/
structure EyeOp where
  lane : Nat
  eye : Nat
  h : Nat
  v : Nat
  dwell : Nat
  deriving DecidableEq, Repr, Inhabited

/-- A configuration request of a fabric endpoint port (R225). -/
structure CfgrqOp where
  write : Bool
  be : Nat
  bdf : Nat
  dw : Nat
  deriving DecidableEq, Repr, Inhabited

/-- Operands of a commit fence (R107). -/
structure FenceOp where
  fenceId : Nat
  group : Nat
  recordAddr : Nat
  deriving DecidableEq, Repr, Inhabited

end Sys2Proof.Machine

namespace Sys2Proof
open Machine

/-- The commands, one constructor for each row of spec/opcode_table.json. The first operand of each, `dt`, is the time that
has passed since the command before it, in steps of 5 ns (log entry 4). -/
inductive Instr where
  /-- MCR_DOORBELL: a master writes CTL_MCR_PI (R40). -/
  | mcrDoorbell (dt : Nat) (m : Master) (index : Nat)
  /-- RING_CI_WRITE: the consumer index of a device-written ring is written (R40). -/
  | ringCiWrite (dt : Nat) (m : Master) (r : RingId) (index : Nat)
  /-- RING_ENABLE: CFG of a ring is written with EN = 1 (R38, R43). -/
  | ringEnable (dt : Nat) (m : Master) (r : RingId) (v : Word)
  /-- RING_DISABLE: CFG of a ring is written with EN = 0 (R43). -/
  | ringDisable (dt : Nat) (m : Master) (r : RingId) (v : Word)
  /-- RING_STOPPED: work begun on a disabled ring has finished (R43). -/
  | ringStopped (dt : Nat) (r : RingId)
  /-- IRQ_TIME_EXPIRY: IRQ_TIME has passed since the first unsignalled record or entry (R44, R309). -/
  | irqTimeExpiry (dt : Nat) (src : IrqSrc)
  /-- RING_OVF_CLEAR: OVF of a ring is cleared (R568). -/
  | ringOvfClear (dt : Nat) (m : Master) (r : RingId)
  /-- HELD_RECORD_WRITE: a record held for a full ring is written once a slot is free (R42). -/
  | heldRecordWrite (dt : Nat) (r : RingId)
  /-- NOP: NOP (R49). -/
  | nop (dt : Nat) (d : Desc)
  /-- TABLE_WRITE: TABLE_WRITE; `data` is what the read of ADDR returns, none for an error or poisoned data (R50 to R52). -/
  | tableWrite (dt : Nat) (d : Desc) (op : TableOp) (data : Option (List Byte))
  /-- TABLE_READ: TABLE_READ (R50). -/
  | tableRead (dt : Nat) (d : Desc) (op : TableOp)
  /-- COMMIT: COMMIT is fetched (R60). -/
  | commit (dt : Nat) (d : Desc)
  /-- EPOCH_STUCK: WAIT_MAX has passed with DRAINING still 1 (R60). -/
  | epochStuck (dt : Nat)
  /-- COMMIT_CHECKS: the shadow set is checked and installed (R60, R61). -/
  | commitChecks (dt : Nat)
  /-- PORT_ADOPT_EPOCH: a port adopts the new epoch (R60). -/
  | portAdoptEpoch (dt : Nat) (p : Nat)
  /-- EPOCH_DRAINED: the previous epoch has drained (R60). -/
  | epochDrained (dt : Nat)
  /-- SHADOW_DISCARD: SHADOW_DISCARD (R49). -/
  | shadowDiscard (dt : Nat) (d : Desc)
  /-- HARVEST: HARVEST (R327). -/
  | harvest (dt : Nat) (d : Desc) (op : HarvestOp)
  /-- POWER_STATE_TRIM: POWER_STATE with TARGET RUN or TRIM (R365, R368). -/
  | powerStateTrim (dt : Nat) (d : Desc) (target : Nat) (onMask : Nat)
  /-- POWER_STATE_KEEP_WARM: POWER_STATE with TARGET KEEP_WARM (R375). -/
  | powerStateKeepWarm (dt : Nat) (d : Desc) (op : PowerOp)
  /-- POWER_STATE_OFF: POWER_STATE with TARGET OFF (R377). -/
  | powerStateOff (dt : Nat) (d : Desc) (op : PowerOp)
  /-- DECANT_ARM: DECANT_ARM (R338). -/
  | decantArm (dt : Nat) (d : Desc) (mode : Nat)
  /-- COUNTER_DUMP: COUNTER_DUMP (R511). -/
  | counterDump (dt : Nat) (d : Desc) (set : Nat) (clear : Bool)
  /-- FAULT_ACK: FAULT_ACK (R419). -/
  | faultAck (dt : Nat) (d : Desc) (first : Nat) (n : Nat) (flags : Nat)
  /-- UNLISTED_OPCODE: an MCR descriptor with an unlisted opcode (R49). -/
  | unlistedOpcode (dt : Nat) (d : Desc) (op : Nat)
  /-- DESCRIPTOR_READ_ERROR: the read of an MCR descriptor fails (R48). -/
  | descriptorReadError (dt : Nat)
  /-- REGISTER_WRITE: a register write (R8 to R14, R46, R58). -/
  | registerWrite (dt : Nat) (m : Master) (sp : RegSpace) (addr : Nat) (bytes : List Byte)
  /-- READ_CLEAR: a register read; RC fields are cleared (R8, R11). -/
  | readClear (dt : Nat) (m : Master) (sp : RegSpace) (addr : Nat) (len : Nat)
  /-- TLP_RECEIVE: something arrives on a PCI Express port (R241). -/
  | tlpReceive (dt : Nat) (p : Nat) (x : PcieRx)
  /-- LOOKUP_RESUME: the waiting lookups of an ingress and class are taken up (R103). -/
  | lookupResume (dt : Nat) (ing : Ingress) (tc : Nat)
  /-- EGRESS_SELECT: a port selects a queue and starts a packet; `ups` are upsets of its stored cells (R83, R87 to R90, R162). -/
  | egressSelect (dt : Nat) (p : Nat) (ups : List Upset)
  /-- EGRESS_SEND_DONE: the packet that a port or link is sending has been read to its end (R71). -/
  | egressSendDone (dt : Nat) (p : Nat)
  /-- CT_STALL_TIMEOUT: CT_STALL_MAX has passed without the next cell (R75). -/
  | ctStallTimeout (dt : Nat) (p : Nat)
  /-- AGE_SWEEP: the age test of a quadrant (R83). -/
  | ageSweep (dt : Nat) (q : Nat)
  /-- SB_RECLAIM: the scan of R90 is complete. -/
  | sbReclaim (dt : Nat)
  /-- SAMPLE_WRITE: the oldest sample goes to the SMR (R93). -/
  | sampleWrite (dt : Nat)
  /-- SAMPLING_ENABLE: XBC_SMP_CFG_p is written with EN = 1 (R91). -/
  | samplingEnable (dt : Nat) (m : Master) (p : Nat) (v : Word)
  /-- FENCE_MESSAGE: a commit-fence message at the data-mover function of a virtual switch (R108). -/
  | fenceMessage (dt : Nat) (v : Nat) (tc : Nat) (lenDw : Nat) (op : FenceOp)
  /-- FENCE_TAKE: fence `n`, by arrival, is taken (R112). -/
  | fenceTake (dt : Nat) (n : Nat)
  /-- FLUSH_SEND: the flush of a replica of a fence is sent, or the replica fails (R113). -/
  | flushSend (dt : Nat) (n : Nat) (r : Nat)
  /-- FLUSH_COMPLETION: the oldest answer to a flush sets its replica's cause (R116). -/
  | flushCompletion (dt : Nat)
  /-- FENCE_RECORD_WRITE: the record of a finished fence is written (R119). -/
  | fenceRecordWrite (dt : Nat) (n : Nat)
  /-- GAP_TIMEOUT: the gap timer of a resequencer entry (R142). -/
  | gapTimeout (dt : Nat) (w : Nat)
  /-- SEQ_SKIP: SEQ_SKIP arrives on a link (R146). -/
  | seqSkip (dt : Nat) (p : Nat) (src : Nat) (dst : Nat) (tc : Nat) (seq : Nat)
  /-- ESCAPE: THR_NS has passed at the head of a Scango queue (R148). -/
  | escape (dt : Nat) (q : Nat)
  /-- WHEEL_SLOT: a timing wheel reaches a slot (R165). -/
  | wheelSlot (dt : Nat) (q : Nat) (slot : Nat)
  /-- POSTED_DELAY: a red write held at its lookup is metered again (R170). -/
  | postedDelay (dt : Nat) (n : Nat)
  /-- HISTOGRAM_SAMPLE: the queues of a quadrant are sampled (R171). -/
  | histogramSample (dt : Nat) (q : Nat)
  /-- SNAPSHOT: TMG_SNAP_SEL is written (R172). -/
  | snapshot (dt : Nat) (m : Master) (clr : Bool) (q : Nat)
  /-- XLT_MISS: the table read of a translation miss is complete (R184). -/
  | xltMiss (dt : Nat) (n : Nat)
  /-- BUSY_RETRY: the back-off of a tracker entry ends (R190). -/
  | busyRetry (dt : Nat) (k : Nat)
  /-- CPL_TIMEOUT: the completion timeout of a tracker entry (R192). -/
  | cplTimeout (dt : Nat) (k : Nat)
  /-- QUARANTINE_END: the time of a quarantined tag ends (R194). -/
  | quarantineEnd (dt : Nat) (inb : Bool) (unit : Nat) (tag : Nat)
  /-- PWF_NOTE: PWF_NOTE arrives on a link (R197, R198). -/
  | pwfNote (dt : Nat) (p : Nat) (op : NoteOp)
  /-- FAIL_RING_WRITE: a queued failure record is written (R321). -/
  | failRingWrite (dt : Nat) (v : Fin 32)
  /-- LOCK_REQ: LOCK_REQ arrives on a link (R200). -/
  | lockReq (dt : Nat) (p : Nat) (owner : Nat) (target : Nat)
  /-- LOCK_GRANT: LOCK_GRANT arrives on a link (R200). -/
  | lockGrant (dt : Nat) (p : Nat) (owner : Nat) (target : Nat) (id : Nat)
  /-- LOCK_RELEASE: LOCK_RELEASE arrives on a link (R200). -/
  | lockRelease (dt : Nat) (p : Nat) (owner : Nat) (target : Nat) (id : Nat)
  /-- LOCK_BREAK: LOCK_BREAK arrives on a link (R202). -/
  | lockBreak (dt : Nat) (p : Nat) (reason : Nat) (owner : Nat) (target : Nat) (id : Nat)
  /-- LOCK_TIMER: the arbiter's lock timer (R202). -/
  | lockTimer (dt : Nat)
  /-- LOCK_GRANT_TIMEOUT: a virtual switch has waited 10 ms for LOCK_GRANT (R202). -/
  | lockGrantTimeout (dt : Nat) (v : Nat)
  /-- PREFETCH_FILL: the oldest answer to a prefetch fills its entry (R205). -/
  | prefetchFill (dt : Nat)
  /-- PREFETCH_EXPIRY: a prefetch entry has gone unused for 50 µs (R206). -/
  | prefetchExpiry (dt : Nat) (j : Nat)
  /-- SIDEBAND_RATE_SEND: RATE has passed for a status value of the sideband bridge (R211). -/
  | sidebandRateSend (dt : Nat) (id : Nat)
  /-- CFGRQ_GO: PCPgg_CFGRQ_s is written with GO = 1 (R225). -/
  | cfgrqGo (dt : Nat) (m : Master) (p : Nat) (op : CfgrqOp)
  /-- CFGRQ_DONE: the completion of a configuration request (R225). -/
  | cfgrqDone (dt : Nat) (p : Nat) (st : Nat) (data : Nat)
  /-- CFGRQ_TIMEOUT: 50 ms have passed without it (R225). -/
  | cfgrqTimeout (dt : Nat) (p : Nat)
  /-- PCIE_LINK_UP: a link comes up (R229). -/
  | pcieLinkUp (dt : Nat) (p : Nat) (x : LinkUpOp)
  /-- PCIE_LINK_DOWN: a link goes down (R230). -/
  | pcieLinkDown (dt : Nat) (p : Nat)
  /-- ASPM_L1_ENTRY: a port enters L1 (R231). -/
  | aspmL1Entry (dt : Nat) (p : Nat)
  /-- L0P_NARROW: a port narrows under L0p (R233). -/
  | l0pNarrow (dt : Nat) (p : Nat) (lanes : Nat)
  /-- PERST_N: PERST_N of an upstream port falls or rises (R224, R234). -/
  | perstN (dt : Nat) (p : Nat) (low : Bool)
  /-- HOT_RESET: hot reset on an upstream port (R234). -/
  | hotReset (dt : Nat) (p : Nat)
  /-- SECONDARY_BUS_RESET: Secondary Bus Reset of a downstream port is set (R234). -/
  | secondaryBusReset (dt : Nat) (p : Nat)
  /-- VS_READY: a virtual switch is ready (R224). -/
  | vsReady (dt : Nat) (v : Nat)
  /-- MGMT_FLR: Function Level Reset of the management function (R65, R235). -/
  | mgmtFlr (dt : Nat)
  /-- BUS_MASTER_CLEAR: Bus Master Enable of a switch function is cleared (R236). -/
  | busMasterClear (dt : Nat) (p : Nat)
  /-- DPC_RELEASE: DPC Trigger Status is cleared (R240). -/
  | dpcRelease (dt : Nat) (p : Nat)
  /-- SLOT_PERST_DEASSERT: PERST_DLY has passed since power-good (R238). -/
  | slotPerstDeassert (dt : Nat) (p : Nat)
  /-- PCIE_REPLAY_TIMEOUT: a replay timer expires, or the replay number rolls over (R241). -/
  | pcieReplayTimeout (dt : Nat) (p : Nat) (rollover : Bool)
  /-- FLIT_SEND: a transmitter starts a flit; `bad` is an error of the data read for it (R256, R262). -/
  | flitSend (dt : Nat) (p : Nat) (bad : Bool)
  /-- FLIT_RECEIVE: the 256 bytes of a flit arrive (R252). -/
  | flitReceive (dt : Nat) (p : Nat) (raw : List Byte)
  /-- ACK: a standalone ACK or NAK (R254). -/
  | ack (dt : Nat) (p : Nat) (nak : Bool) (a : Nat)
  /-- REPLAY_TIMER: the replay timer (R255). -/
  | replayTimer (dt : Nat) (p : Nat)
  /-- CREDIT: a CREDIT message (R260). -/
  | credit (dt : Nat) (p : Nat) (first : Nat) (cc : Nat) (vals : List (Nat × Nat))
  /-- CREDIT_INIT: a CREDIT_INIT message (R265). -/
  | creditInit (dt : Nat) (p : Nat) (first : Nat) (cc : Nat) (vals : List (Nat × Nat))
  /-- LINK_PARAM: a LINK_PARAM message (R265). -/
  | linkParam (dt : Nat) (p : Nat) (fid : Nat) (partner : Nat)
  /-- LINK_INIT_TIMEOUT: 10 µs have passed in INIT (R265). -/
  | linkInitTimeout (dt : Nat) (p : Nat)
  /-- SWAP_CMD: SGLgg_SWAP_CMD_s is written with GO = 1 (R267). -/
  | swapCmd (dt : Nat) (m : Master) (p : Nat) (lane : Nat)
  /-- LANE_SWAP: LANE_SWAP arrives (R268). -/
  | laneSwap (dt : Nat) (p : Nat) (lane : Nat)
  /-- LANE_SWAP_ACK: LANE_SWAP_ACK arrives (R268). -/
  | laneSwapAck (dt : Nat) (p : Nat) (lane : Nat) (result : Nat) (fsn : Nat)
  /-- LANE_SWAP_DONE: LANE_SWAP_DONE arrives (R268). -/
  | laneSwapDone (dt : Nat) (p : Nat) (lane : Nat)
  /-- LANE_SWAP_TIMEOUT: 50 µs have passed without an acknowledgement (R269). -/
  | laneSwapTimeout (dt : Nat) (p : Nat)
  /-- RETRAIN_PATTERN: PATTERN in two consecutive block times on a number of a port's lanes (R283). -/
  | retrainPattern (dt : Nat) (op : PatternSeen)
  /-- RETRAIN_DONE: a retrain completes (R288). -/
  | retrainDone (dt : Nat) (p : Nat)
  /-- RETRAIN_TIMEOUT: a retrain overruns, or too many follow each other (R270). -/
  | retrainTimeout (dt : Nat) (p : Nat)
  /-- ALIGNMENT_LOSS: a receiver loses alignment, on one lane or on more (R271). -/
  | alignmentLoss (dt : Nat) (p : Nat) (lane : Nat) (more : Bool)
  /-- BRINGUP_RETRY: a down link tries bring-up again (R273). -/
  | bringupRetry (dt : Nat) (p : Nat)
  /-- ADMIN_DOWN: ADMIN_UP is written 0 (R272). -/
  | adminDown (dt : Nat) (m : Master) (p : Nat)
  /-- ADMIN_UP: ADMIN_UP is written 1 (R273). -/
  | adminUp (dt : Nat) (m : Master) (p : Nat)
  /-- CDR_LOCK: CDR locks on a lane (R284). -/
  | cdrLock (dt : Nat) (g : Nat) (l : Nat)
  /-- ADAPTED: receiver adaptation converges to coefficients (R284). -/
  | adapted (dt : Nat) (g : Nat) (l : Nat) (coef : List Int)
  /-- BITSLIP_TRY: a position of the bit-slip search has been tried; the block found there three times, if any (R285). -/
  | bitslipTry (dt : Nat) (g : Nat) (l : Nat) (seen : SlipSeen)
  /-- BITSLIP_DONE: LGgg_BITSLIP is written with DONE = 1 (R286). -/
  | bitslipDone (dt : Nat) (m : Master) (g : Nat)
  /-- TXEQ_ROUND: a round of transmit equalisation ends (R289, R290). -/
  | txeqRound (dt : Nat) (g : Nat) (l : Nat) (req : TxEqReq) (best : Bool)
  /-- ALIGN_DONE: alignment is done; `tx` is the partner's SPARE_FOR (R284). -/
  | alignDone (dt : Nat) (p : Nat) (tx : Option Nat)
  /-- BRINGUP_TIMEOUT: a step of bring-up overruns (R284). -/
  | bringupTimeout (dt : Nat) (p : Nat)
  /-- DRIFT_CHECK: a lane's adaptation is compared with its snapshot (R293). -/
  | driftCheck (dt : Nat) (g : Nat) (l : Nat) (coef : List Int) (e : Nat)
  /-- FREEZE_END: the freeze after a revert ends (R293). -/
  | freezeEnd (dt : Nat) (g : Nat) (l : Nat)
  /-- EYE_SCAN_GO: LGgg_EYE_CFG is written with GO = 1 (R294). -/
  | eyeScanGo (dt : Nat) (m : Master) (g : Nat) (op : EyeOp) (margined : Bool)
  /-- EYE_POINT_DONE: an eye-scan point ends (R294). -/
  | eyePointDone (dt : Nat) (g : Nat) (errors : Nat) (aborted : Bool)
  /-- PRBS_INJECT: LGgg_TEST_l is written with INJ = 1 (R296). -/
  | prbsInject (dt : Nat) (m : Master) (g : Nat) (l : Nat)
  /-- CDR_LOST: a lane loses CDR lock (R301). -/
  | cdrLost (dt : Nat) (g : Nat) (l : Nat)
  /-- PRBS_CHECKER_LOCK: a PRBS checker locks (R296). -/
  | prbsCheckerLock (dt : Nat) (g : Nat) (l : Nat)
  /-- PRBS_CHECKER_UNLOCK: a PRBS checker unlocks, having counted errors (R296). -/
  | prbsCheckerUnlock (dt : Nat) (g : Nat) (l : Nat) (errors : Nat)
  /-- SQ_DOORBELL: the host writes a submission producer index (R307). -/
  | sqDoorbell (dt : Nat) (n : Nat) (index : Nat)
  /-- CQ_DOORBELL: the host writes a completion consumer index (R307). -/
  | cqDoorbell (dt : Nat) (n : Nat) (index : Nat)
  /-- SLICE_ENABLE: EN of a slice is set (R307). -/
  | sliceEnable (dt : Nat) (n : Nat)
  /-- SLICE_DISABLE: EN of a slice is cleared (R318). -/
  | sliceDisable (dt : Nat) (n : Nat)
  /-- SLICE_ABORT: ABORT of a slice is written (R318). -/
  | sliceAbort (dt : Nat) (n : Nat)
  /-- DESCRIPTOR_FETCH: a descriptor fetch completes with 64 bytes, or fails (R317). -/
  | descriptorFetch (dt : Nat) (n : Nat) (bytes : List Byte) (err : Bool)
  /-- DESC_NOP: a NOP descriptor runs (R310). -/
  | descNop (dt : Nat) (n : Nat)
  /-- DESC_COPY: a COPY descriptor starts (R311). -/
  | descCopy (dt : Nat) (n : Nat)
  /-- DESC_FILL: a FILL descriptor starts (R311). -/
  | descFill (dt : Nat) (n : Nat)
  /-- DESC_COMPARE: a COMPARE descriptor starts (R311). -/
  | descCompare (dt : Nat) (n : Nat)
  /-- DESC_FENCE: a FENCE descriptor hands its fence over (R109). -/
  | descFence (dt : Nat) (n : Nat)
  /-- DESC_CHECKSUM: a CHECKSUM descriptor starts (R311). -/
  | descChecksum (dt : Nat) (n : Nat)
  /-- SLICE_ISSUE: the slice that wins the round robin issues a request (R306). -/
  | sliceIssue (dt : Nat)
  /-- DMV_READ_COMPLETION: the oldest answer to a read of a slice is used (R314). -/
  | dmvReadCompletion (dt : Nat)
  /-- DMV_READ_TIMEOUT: a read of a slice has reached its timeout (R312). -/
  | dmvReadTimeout (dt : Nat) (n : Nat) (d : Nat) (part : Nat)
  /-- CQ_ENTRY_WRITE: the entry of a finished descriptor is written (R313). -/
  | cqEntryWrite (dt : Nat) (n : Nat)
  /-- DMV_FLR: Function Level Reset of a data-mover function (R320). -/
  | dmvFlr (dt : Nat) (v : Nat)
  /-- DMV_BUS_MASTER_CLEAR: its Bus Master Enable is cleared (R319). -/
  | dmvBusMasterClear (dt : Nat) (v : Nat)
  /-- DMV_BUS_MASTER_SET: its Bus Master Enable is set again (R319). -/
  | dmvBusMasterSet (dt : Nat) (v : Nat)
  /-- CACHE_MERGE: an idle entry of the coalescing cache is merged (R326). -/
  | cacheMerge (dt : Nat)
  /-- CONTEXT_ENABLE: WLG_CTX_CFG_c is written with EN = 1 (R325). -/
  | contextEnable (dt : Nat) (m : Master) (c : Nat) (v : Word)
  /-- CONTEXT_READY: the bitmaps of a context are clear (R325). -/
  | contextReady (dt : Nat) (c : Nat)
  /-- CONTEXT_DISABLE: WLG_CTX_CFG_c is written with EN = 0 (R325). -/
  | contextDisable (dt : Nat) (m : Master) (c : Nat) (v : Word)
  /-- HARVEST_DRAINED: the writes of the old generation have left (R327). -/
  | harvestDrained (dt : Nat)
  /-- HARVEST_FLUSH_DONE: the flush read of a harvest is answered (R327). -/
  | harvestFlushDone (dt : Nat)
  /-- HARVEST_FLUSH_TIMEOUT: FLUSH_TMO has passed (R327). -/
  | harvestFlushTimeout (dt : Nat)
  /-- PWRFAIL_FALL: PWRFAIL_N falls (R339). -/
  | pwrfailFall (dt : Nat)
  /-- PWRFAIL_CONFIRM: PWRFAIL_N has stayed low for DEGLITCH; `vaux`: VAUX is within range (R339, R342). -/
  | pwrfailConfirm (dt : Nat) (vaux : Bool)
  /-- DRAIN_END: no drainable write is left (R344). -/
  | drainEnd (dt : Nat)
  /-- DRAIN_DEADLINE: the drain deadline passes (R342). -/
  | drainDeadline (dt : Nat)
  /-- PORT_FLUSH: the decant flush of a persistent port is sent (R346). -/
  | portFlush (dt : Nat) (p : Nat)
  /-- DECANT_FLUSH_ANSWER: the oldest answer to a decant flush (R347). -/
  | decantFlushAnswer (dt : Nat)
  /-- BUDGET_END: the flushes are answered, or BUDGET_US has passed (R342). -/
  | budgetEnd (dt : Nat)
  /-- SEAL: the carafe is saved and sealed (R351). -/
  | seal (dt : Nat)
  /-- KEEP_WARM_ENTRY: pads are latched and the core goes off (R342). -/
  | keepWarmEntry (dt : Nat)
  /-- KEEP_EXPIRED: KEEP_MAX_H hours have passed (R353). -/
  | keepExpired (dt : Nat)
  /-- KEEP_WARM_EXIT: the exit from keep-warm; `macOk`: the seal holds, `falls`: PWRFAIL_N falls again (R354, R355). -/
  | keepWarmExit (dt : Nat) (x : BootIn) (macOk : Bool) (falls : Bool)
  /-- DECANT_ABANDONED: an entry of the abandoned-work list is delivered (R349). -/
  | decantAbandoned (dt : Nat)
  /-- STOP_ANSWER: a block answers STOP (R368). -/
  | stopAnswer (dt : Nat)
  /-- STOP_TIMEOUT: a block does not answer STOP (R368). -/
  | stopTimeout (dt : Nat)
  /-- DOMAIN_WAKE_READY: a ready signal arrives; `test` is the outcome of the memory test (R371). -/
  | domainWakeReady (dt : Nat) (test : Bool)
  /-- WAKE_TIMEOUT: a ready signal is late (R372). -/
  | wakeTimeout (dt : Nat)
  /-- PAD_RELEASE: ones are written to HELD (R374). -/
  | padRelease (dt : Nat) (m : Master) (k : Nat) (bits : Nat)
  /-- WAKE_GPIO: the WAKE ball reaches its active level (R376). -/
  | wakeGpio (dt : Nat)
  /-- CALENDAR_WAKE: WAKE_AFTER_S has passed (R376). -/
  | calendarWake (dt : Nat)
  /-- PWRFAIL_RISE: PWRFAIL_N rises (R376). -/
  | pwrfailRise (dt : Nat)
  /-- SPC_SAMPLE: a 1 µs sample (R391). -/
  | spcSample (dt : Nat) (n : Nat) (x : SpcIn)
  /-- FAST_TRIP: a rail reaches FAST (R392). -/
  | fastTrip (dt : Nat) (seen : FastSeen)
  /-- TIMER_TRIP: a sample in which the current-limit count reaches its bound (R391). -/
  | timerTrip (dt : Nat) (n : Nat) (x : SpcIn)
  /-- RAMP_TMO: a sample at which the ramp has overrun PG_TMO_MS (R391). -/
  | rampTmo (dt : Nat) (n : Nat) (x : SpcIn)
  /-- INPUT_TURN_OFF: the fourth sample with an input outside its window (R393). -/
  | inputTurnOff (dt : Nat) (n : Nat) (x : SpcIn)
  /-- PRESENCE_LOST: the eighth sample with PRSNT_N high (R386). -/
  | presenceLost (dt : Nat) (n : Nat) (x : SpcIn)
  /-- INSERTION_DELAY_END: a sample at which the insertion delay has passed (R388). -/
  | insertionDelayEnd (dt : Nat) (n : Nat) (x : SpcIn)
  /-- REARM_HOLD_END: a sample at which REARM_MS has passed (R387). -/
  | rearmHoldEnd (dt : Nat) (n : Nat) (x : SpcIn)
  /-- SLOT_ENABLE: the enable becomes 1 (R387). -/
  | slotEnable (dt : Nat) (n : Nat)
  /-- SLOT_DISABLE: the enable becomes 0 (R387). -/
  | slotDisable (dt : Nat) (n : Nat)
  /-- ANALOG_LOSS: the link to the analog die is lost (R393). -/
  | analogLoss (lost : AnalogLost)
  /-- ATTENTION_BUTTON_PRESSED: a slot's attention button is pressed (R237). -/
  | attentionButtonPressed (dt : Nat) (n : Nat)
  /-- FAULT_MESSAGE: FCR takes a fault message (R407). -/
  | faultMessage (dt : Nat) (x : FaultEvent)
  /-- COUNT_WINDOW_CLOSE: the windows of counting entries that are over close (R408). -/
  | countWindowClose (dt : Nat)
  /-- FAULT_FORCE: ones are written to FCR_FORCE_j (R421). -/
  | faultForce (dt : Nat) (m : Master) (j : Nat) (bits : Nat)
  /-- LATCH_REARM: a 1 is written to FIRST_VALID (R405). -/
  | latchRearm (dt : Nat) (m : Master)
  /-- ARBITRATION_PHASE: an arbitration phase of a die after some TBL cycles, with new requests (R441). -/
  | arbitrationPhase (dt : Nat) (d : Nat) (cycles : Nat) (asks : List TmAsk)
  /-- URGENT: a requester has waited STARVE cycles (R442). -/
  | urgent (dt : Nat) (d : Nat) (r : Nat) (cycles : Nat)
  /-- TABLE_WORD_READ: a table word is read, after upsets of stored bits (R431). -/
  | tableWordRead (dt : Nat) (r : Nat) (a : Nat) (strikes : List (Nat × Nat))
  /-- PATROL_SCRUB: the scrubber reads a block or a revisit address (R434). -/
  | patrolScrub (dt : Nat) (d : Nat) (strikes : List (Nat × Nat))
  /-- ONDIE_SCRUB: the on-die tables are checked (R436). -/
  | ondieScrub (dt : Nat)
  /-- FILL_DONE: the fill of a die is done (R437). -/
  | fillDone (dt : Nat) (d : Nat)
  /-- DIE_FAIL: the interface of a die has failed (R445). -/
  | dieFail (dt : Nat) (d : Nat)
  /-- RELOC_BLOCK: the copier finishes a block (R446). -/
  | relocBlock (dt : Nat)
  /-- NONCE_READ: SEC_LC_NONCE is read (R470). -/
  | nonceRead (dt : Nat) (m : Master)
  /-- LIFECYCLE_GO: SEC_LC_CMD is written with GO = 1 (R473). -/
  | lifecycleGo (dt : Nat) (m : Master) (target : Nat)
  /-- LIFECYCLE_CHECK_DONE: the check of an object ends; none: its read failed (R473). -/
  | lifecycleCheckDone (dt : Nat) (obj : Option (List Byte)) (sigOk : Bool)
  /-- FLASH_ERASE: SEC_FLASH_CMD is written with GO = 1 and OP erase (R459). -/
  | flashErase (dt : Nat) (m : Master) (sector : Nat)
  /-- FLASH_PROGRAM: with OP program (R459). -/
  | flashProgram (dt : Nat) (m : Master) (sector : Nat)
  /-- FLASH_READ: with OP read (R459). -/
  | flashRead (dt : Nat) (m : Master) (sector : Nat)
  /-- FLASH_DONE: a flash operation finishes; `data` is what the host buffer gave (R459). -/
  | flashDone (dt : Nat) (data : Option (List Byte)) (err : Bool)
  /-- GET_VERSION: GET_VERSION (R462). -/
  | getVersion (dt : Nat) (via : Nat)
  /-- GET_CAPABILITIES: GET_CAPABILITIES (R462). -/
  | getCapabilities (dt : Nat) (via : Nat)
  /-- NEGOTIATE_ALGORITHMS: NEGOTIATE_ALGORITHMS (R462). -/
  | negotiateAlgorithms (dt : Nat) (via : Nat)
  /-- GET_DIGESTS: GET_DIGESTS (R465). -/
  | getDigests (dt : Nat) (via : Nat)
  /-- GET_CERTIFICATE: GET_CERTIFICATE (R461). -/
  | getCertificate (dt : Nat) (via : Nat) (slot : Nat) (off : Nat) (len : Nat)
  /-- GET_MEASUREMENTS: GET_MEASUREMENTS (R464). -/
  | getMeasurements (dt : Nat) (via : Nat) (index : Nat) (sign : Bool) (nonce : List Byte)
  /-- KEY_EXCHANGE: KEY_EXCHANGE (R462). -/
  | keyExchange (dt : Nat) (via : Nat) (share : List Byte)
  /-- QUERY: QUERY of IDE_KM (R466). -/
  | query (dt : Nat) (session : Nat) (index : Nat)
  /-- KEY_PROG: KEY_PROG (R466). -/
  | keyProg (dt : Nat) (op : IdeOp) (key : List Byte)
  /-- K_SET_GO: K_SET_GO (R466). -/
  | kSetGo (dt : Nat) (op : IdeOp)
  /-- K_SET_STOP: K_SET_STOP (R466). -/
  | kSetStop (dt : Nat) (op : IdeOp)
  /-- EXTEST: EXTEST (R479). -/
  | extest (dt : Nat)
  /-- SAMPLE_PRELOAD: SAMPLE/PRELOAD (R479). -/
  | samplePreload (dt : Nat)
  /-- IDCODE: IDCODE (R479). -/
  | idcode (dt : Nat)
  /-- MEM_ACCESS: a MEM_ACCESS burst (R480). -/
  | memAccess (dt : Nat) (write : Bool) (offset : Nat) (len : Nat) (words : List Nat)
  /-- UNLOCK_CHALLENGE: UNLOCK_CHALLENGE (R470). -/
  | unlockChallenge (dt : Nat)
  /-- UNLOCK: UNLOCK, with the verdict on the signature (R479). -/
  | unlock (dt : Nat) (obj : List Byte) (sigOk : Bool)
  /-- CORE_DEBUG: CORE_DEBUG (R481). -/
  | coreDebug (dt : Nat)
  /-- BYPASS: BYPASS, or an instruction that is not available (R479). -/
  | bypass (dt : Nat)
  /-- MPU_LOCK: a 1 is written to LOCK of MPU_SLOT_n (R478). -/
  | mpuLock (dt : Nat) (m : Master) (n : Nat)
  /-- VIOLATION_REARM: a 1 is written to VALID of MPU_VIOL (R477). -/
  | violationRearm (dt : Nat) (m : Master)
  /-- CHALLENGE: CHALLENGE (R462). -/
  | challenge (dt : Nat) (via : Nat) (slot : Nat) (nonce : List Byte)
  /-- SPDM_SESSION_END: a session ends or is lost (R467). -/
  | spdmSessionEnd (dt : Nat) (session : Nat) (lost : Bool)
  /-- CUPPING_ROUND: a cupping round; `ok`: the regulator accepts a frame (R488). -/
  | cuppingRound (dt : Nat) (x : Cup) (ok : Bool)
  /-- SLACK_SAMPLE: the 1 ms slack sample (R489). -/
  | slackSample (dt : Nat) (worst : Int) (ok : Bool)
  /-- GB_CLR: AGE_CFG is written with GB_CLR = 1 (R490). -/
  | gbClr (dt : Nat) (m : Master)
  /-- ENGINE_WATCHDOG: an engine misses its watchdog (R402). -/
  | engineWatchdog (dt : Nat) (e : Nat)
  /-- ENGINE_STOP: a stopped engine's role passes on; `loaded`: the firmware held for spares passes its code (R492). -/
  | engineStop (dt : Nat) (loaded : Bool)
  /-- ROW_REPAIR_DONE: a row has been copied to a spare (R495). -/
  | rowRepairDone (dt : Nat)
  /-- LEDGER_SUMMARY: 24 h of power-on time have passed (R498). -/
  | ledgerSummary (dt : Nat)
  /-- LEDGER_READ: AGE_LEDGER_SEL is written with GO = 1 (R497). -/
  | ledgerRead (dt : Nat) (m : Master) (index : Nat)
  /-- CALENDAR_SET: AGE_CAL_SEC is written (R500). -/
  | calendarSet (dt : Nat) (m : Master) (seconds : Nat)
  /-- COUNTER_CLEAR: PMC_SEL_k is written with CLR = 1 (R507). -/
  | counterClear (dt : Nat) (m : Master) (k : Nat)
  /-- PERIODIC_DUMP: PERIOD_US has passed (R511). -/
  | periodicDump (dt : Nat)
  /-- ENGINE_SAMPLE: PERIOD increments have been counted (R514). -/
  | engineSample (dt : Nat) (skid : Nat) (work : Nat) (addr : Nat)
  /-- COLD_BOOT: a cold boot; `first`: AON was unpowered before (R529). -/
  | coldBoot (dt : Nat) (first : Bool) (x : BootIn)
  /-- RESET_N: RESET_N has been low for `low` steps of 5 ns (R527). -/
  | resetN (dt : Nat) (low : Nat)
  /-- WARM_RESET: CLK_RESET is written with WARM = 1 (R528). -/
  | warmReset (dt : Nat) (m : Master) (engOk : Bool)
  /-- REF_LOST: REF or the lock of the PLL is lost (R524). -/
  | refLost (dt : Nat) (pll : Bool)
  /-- HOLDOVER_END: lock has not returned within 1 ms (R524). -/
  | holdoverEnd (dt : Nat)
  /-- XTAL_FAIL: the crystal has stopped for 1 s (R522). -/
  | xtalFail (dt : Nat)
  /-- PTM_CAPTURE: a PTM dialogue completes (R525). -/
  | ptmCapture (dt : Nat) (p : Nat) (master : Nat)
  /-- THERMAL_SAMPLE: the sensors are read, in 1/16 °C (R540). -/
  | thermalSample (dt : Nat) (temps : List Int)
  /-- MAIN_SUPPLY_LOSS: the main supplies fall or leave range (R362). -/
  | mainSupplyLoss (dt : Nat)
  /-- VAUX_DROP: VAUX drops (R355). -/
  | vauxDrop (dt : Nat)
  /-- REF_RETURN: REF returns (R524). -/
  | refReturn (dt : Nat) (x : BootIn)
  /-- XTAL_RESTART: the crystal runs again (R522). -/
  | xtalRestart (dt : Nat)
  /-- ASPM_L1_EXIT: a port leaves L1 (R231). -/
  | aspmL1Exit (dt : Nat) (p : Nat)
  deriving DecidableEq, Repr

end Sys2Proof
end

