-- ==== Sys2Proof/Machine/State.lean ====
section
/-! DEFINITION. The state of the part as plain data: every register, FIFO, buffer, counter, mode and pin the manual
gives it, the queue of commands waiting, and the state after reset (R13: configuration-ready). -/

namespace Sys2Proof.Machine

/-- No command of this model ends in a fault: what the part itself reports is a fault message, a status or a
completion, all of which are states. The one constructor is never raised (safe). -/
inductive Fault where
  /-- Never raised by any command (safe). -/
  | none
  deriving DecidableEq, Repr

/-- Why a command has no meaning. -/
inductive Refusal where
  /-- A row of the opcode table that has no meaning yet: raised by its arm of `exec` (safe: the machine stops). -/
  | notModelled (mnemonic : String)
  deriving DecidableEq, Repr

/-- An addressed memory: (address, byte) pairs with strictly rising addresses, none of them the byte that an unlisted
address reads as. -/
abbrev Mem := List Host.Cell

/-! ### What the part sends -/

/-- A function of the part that hosts see: the management function, the data-mover function or a switch function of
a virtual switch (R21). -/
inductive Fn where
  | mgmt
  | dmv (vs : Nat)
  | port (p : Nat)
  /-- The internal downstream port of a virtual switch. -/
  | internal (vs : Nat)
  deriving DecidableEq, Repr, Inhabited

/-- Error messages of AER (R199, R241, R411). -/
inductive AerErr where
  | completerAbort | unsupported | malformed | unexpectedCpl | overflow | ecrc | acs | flowControl | dataLink
  | surpriseDown | badTlp | badDllp | replayRollover | replayTimeout | internal | corrInternal
  deriving DecidableEq, Repr, Inhabited

/-- Something the part has sent or driven. -/
inductive Out where
  /-- A 64-byte record handed to the switch core for slot `slot` of a ring, at its address (R41); the packet that carries it
  goes its way through the buffer (R76, R415). -/
  | record (r : RingId) (slot addr : Nat) (bytes : List Byte)
  /-- A memory write to a host by a function of the part, in a traffic class, handed to the switch core likewise. -/
  | hostWrite (fn : Fn) (addr : Nat) (bytes : List Byte) (tc : Nat := 0)
  /-- A read of host memory handed to the switch core. -/
  | hostRead (fn : Fn) (addr len : Nat)
  /-- An MSI-X vector is signalled. -/
  | msix (fn : Fn) (vector : Nat)
  /-- A TLP sent whole on a port, and one ended unfinished (R75). -/
  | tlp (port : Nat) (h : Hdr) (payload : List Byte)
  | nullified (port : Nat) (h : Hdr)
  /-- A Scango flit (R244). -/
  | flit (port : Nat) (bytes : List Byte)
  /-- What a flit puts on its port lanes: of each lane the scrambled 128-bit blocks that its PCS passes on (R279, R281). -/
  | blocks (port : Nat) (lanes : List (List (List Byte)))
  /-- The training block that a lane sends (R282): `times` of them, or every 64th block until the next of these, at 0. -/
  | training (group lane : Nat) (block : List Byte) (times : Nat)
  /-- An error logged under AER by a function, unmasked, and the code of the ERR_* message that it sends (R199, R241,
  R411). -/
  | aer (fn : Fn) (e : AerErr) (h : Option Hdr) (msg : Nat)
  /-- A configuration request on a fabric endpoint port (R225). -/
  | cfgReq (port bdf dw be : Nat) (write : Option Nat)
  /-- A link-layer action of a PCI Express port: replay, negative acknowledgement, retrain, width or state change. -/
  | link (port : Nat) (what : String)
  /-- A level driven on a pin. -/
  | pin (name : String) (index : Nat) (level : Bool)
  /-- An output of a slot power controller begins its ramp: the controller, the rail, RAMP_MS, and the thresholds LIM and FAST
  that the analog half holds it to (R390, R392). -/
  | ramp (ctl rail ms lim fast : Nat)
  /-- What a register read returned. -/
  | regData (addr : Nat) (bytes : List Byte)
  /-- A frame to the VCORE regulator (R557). -/
  | vid (code : Nat)
  /-- An answer on the security message channel or the debug port. -/
  | spdm (port : Nat) (code : Nat) (fields : List Nat) (bytes : List Byte)
  | jtag (bits : Nat) (width : Nat)
  /-- A copy of bytes to flash or OTP is listed where the store is state; this is a line driven to a lane. -/
  | lane (group lane : Nat) (what : String)
  deriving DecidableEq, Repr, Inhabited

/-! ### Rings and commands (02) -/

/-- A record waiting to be written: the EVR's events, the held completions. -/
structure Rec where
  code : Nat := 0
  status : Nat := 0
  tag : Nat := 0
  slot : Nat := 0
  result : Nat := 0
  detail : Nat := 0
  data : List Byte := []
  irq : Bool := false
  deriving DecidableEq, Repr, Inhabited

/-- What a device-written or command ring needs beside its registers (R38 to R44). -/
structure Ring where
  /-- Records written since the last interrupt, and the time of the first of them. -/
  count : Nat := 0
  first : Nat := 0
  /-- Time threshold running. -/
  timing : Bool := false
  deriving DecidableEq, Repr, Inhabited

/-- A COMMIT in progress (R60). -/
structure CommitSt where
  desc : Desc := {}
  slot : Nat := 0
  since : Nat := 0
  /-- 1: waits for the drain; 4: flipped, ports adopting. -/
  step : Nat := 1
  /-- The shadow values as they stood when it was fetched (R59). -/
  set : Tbl Word := []
  deriving DecidableEq, Repr, Inhabited

/-- CTL: rings, command processing, the epoch (02). -/
structure CtlSt where
  rings : Tbl Ring := []
  /-- Events waiting for EVR room, oldest first: at most 256 (R42). -/
  evq : List Rec := []
  /-- A completion held for EVR room; the MCR fetches nothing meanwhile (R42). -/
  held : List Rec := []
  /-- RING_OVERFLOW of the EVR itself, held in a flag of its own (R568). -/
  evrOvfFlag : Bool := false
  commit : Option CommitSt := none
  /-- MCR slot and tag of a HARVEST, POWER_STATE or COUNTER_DUMP in progress. -/
  busyCmd : Option (Nat × Nat × Desc) := none
  /-- Ports that have not yet adopted the new epoch (R60 step 4). -/
  adopting : List Nat := []
  /-- CMD_DONE of the flip not yet written (R60 step 5 before step 6). -/
  epochDone : Bool := true
  /-- The MCR index up to which descriptors have been fetched (R40, R42). -/
  fetched : Nat := 0
  deriving DecidableEq, Repr, Inhabited

/-- The values of the previous epoch, kept while DRAINING (R60 to R63). -/
structure PrevEpoch where
  epoch : Nat := 0
  regs : Tbl Word := []
  onDie : Mem := []
  tm : Mem := []
  faulty : List (Nat × Nat) := []
  deriving DecidableEq, Repr, Inhabited

/-- Configuration state: registers in force, shadow values, the previous epoch, the tables (R9, R51, R57, R60). -/
structure CfgSt where
  /-- Registers in force that differ from their reset values, by key. -/
  regs : Tbl Word := []
  /-- Shadow values of registers with SH fields, by key (R9). -/
  shadow : Tbl Word := []
  /-- IMG reset values of the personality image, by key (R13), and OTP reset values (R455). -/
  img : Tbl Word := []
  otp : Tbl Word := []
  /-- The ports the image assigns, by port number (R20), and its overlay entries (R223). -/
  ports : Tbl PortInfo := []
  overlay : List Overlay := []
  /-- On-die tables 2, 4, 5 and 6 in force and shadow; byte a of table t at 2^24 * t + a (R51). -/
  onDie : Mem := []
  onDieSh : Mem := []
  /-- Entries (table, index) whose stored parity fails, in force and shadow (R436). -/
  faulty : List (Nat × Nat) := []
  faultySh : List (Nat × Nat) := []
  /-- Table memory, byte addressed by logical address, and the shadow blocks of 4 KiB by table and block (R51). -/
  tm : Mem := []
  tmSh : Mem := []
  shBlocks : List Nat := []
  prevBlocks : Nat := 0
  /-- The blocks of the shadow pool that shadow blocks lie in, and those that the previous epoch still holds. -/
  shPlace : Tbl Nat := []
  prevPlace : List Nat := []
  /-- Ranges (table, first entry, entries) of on-die tables written since the last COMMIT or SHADOW_DISCARD (R436). -/
  dirty : List (Nat × Nat × Nat) := []
  prev : Option PrevEpoch := none
  epoch : Nat := 0
  deriving DecidableEq, Repr, Inhabited

/-! ### Packets in the shared buffer (03) -/

/-- Who inside the part asked for a packet and gets its answer (R84, R116, R205, R314, R327, R347). -/
inductive Origin where
  | none
  | slice (i desc part : Nat)
  | fence (slot rep : Nat)
  | prefetch (entry : Nat)
  | harvest
  | decant (port : Nat)
  /-- A read that a function issues for an engine, whose data the command brings that uses it (log entry 12). -/
  | own (fn : Fn)
  deriving DecidableEq, Repr, Inhabited

/-- A completion status and data that has come back to its origin inside the part, not yet used: a step of its own
uses it (log entry 12). -/
structure Answer where
  origin : Origin := .none
  status : Nat := 0
  data : List Byte := []
  /-- The answer is a timeout or a closed tracker entry (R116). -/
  lost : Bool := false
  deriving DecidableEq, Repr, Inhabited

/-- Progress of one destination of a packet. -/
inductive DestSt where
  | queued | held | parked | npHold | sending (link : Nat) | done
  deriving DecidableEq, Repr, Inhabited

/-- One destination of a packet: its queue, the header it leaves with, its replica (R102, R157). -/
structure Dest where
  port : Nat := 0
  queue : Nat := 0
  hdr : Hdr := {}
  rep : Option Nat := none
  /-- CMT flow (source, FID, TC as a key) and generation of a mirrored copy (R111). -/
  flow : Option (Nat × Nat) := none
  st : DestSt := .queued
  enq : Nat := 0
  /-- The Scango header of a copy that this device delivers to a PCI Express port (R185). -/
  fab : Option Hdr := none
  /-- The copy still counts in its CMT flow (R111); a salvaged one no longer does. -/
  counted : Bool := true
  deriving DecidableEq, Repr, Inhabited

/-- Why an ingress lookup waits (R103, R136, R170, R184, R189, R205, R326); `behind` an earlier packet of its ingress
and TC. -/
inductive Stall where
  | fanout | stamp | tracker | xlt (index : Nat) | posted | prefetch (entry : Nat) | cache | lock | behind
  deriving DecidableEq, Repr, Inhabited

/-- One 64-byte cell with its parity, sideband word and sideband parity (R69). -/
structure Cell where
  data : List Byte := []
  parity : Nat := 0
  side : Nat := 0
  sidePar : Nat := 0
  deriving DecidableEq, Repr, Inhabited

/-- A packet in the buffer: its descriptor (R70), its stamps (R31) and its progress. -/
structure Pkt where
  /-- Number of the header cell. -/
  id : Nat := 0
  ingress : Ingress := .internal
  origin : Origin := .none
  /-- Descriptor fields ACCT, TC, CHG, LEN, READERS and ERA (R70); `descPar` is the descriptor's stored parity less the
  parity of its fields, one bit a byte: 0 while it is sound (R90). -/
  acct : Nat := 0
  tc : Nat := 0
  chg : Nat := 0
  cells : List Nat := []
  ncells : Nat := 0
  descPar : Nat := 0
  readers : Nat := 0
  /-- Arrival in ns; the AGE and ERA stamps are bits of arr / 1000 (R82). -/
  arr : Nat := 0
  epoch : Nat := 0
  hdr : Hdr := {}
  /-- The header as it arrived, and the Scango header of a packet released at the last device (`far`). -/
  orig : Hdr := {}
  fab : Hdr := {}
  far : Bool := false
  /-- The Scango credit pool that it consumed on arrival, to which its credits return (R78, R260); at a PCI Express port the
  credit type, 0 posted, 1 non-posted, 2 completion, with the data credits in `arrD` (R228). -/
  pool : Nat := 0
  arrD : Nat := 0
  /-- Link-up of its ingress port that it came in. -/
  life : Nat := 0
  /-- Header bytes stored: 32 where the header cell holds the Scango header (R69). -/
  hoff : Nat := 16
  /-- First 64 bytes as received, for a sample (R92). -/
  raw : List Byte := []
  linkIde : Bool := false
  /-- The LAST cell has been written (R72), and when the last cell written was (R75). -/
  whole : Bool := true
  /-- A flush released while its flow's loss mark was set (R115). -/
  lossHit : Bool := false
  /-- Made by the device itself: an answer, or a packet of account 129 (not metered, waits behind no other). -/
  own : Bool := false
  lastWr : Nat := 0
  /-- Bytes received so far of a packet still arriving, and those of them that fill no whole cell yet (the last cell is
  written when it is complete). -/
  rxLen : Nat := 0
  tail : List Byte := []
  /-- A data error found before the header left (R89), and a sideband error (R90). -/
  poisoned : Bool := false
  arrivedPoisoned : Bool := false
  /-- Mirror group of a member write (R99), its fan-out record taken (R102). -/
  group : Option Nat := none
  /-- Host address of the write's first byte (R196 HOST_ADDR). -/
  hostAddr : Option Nat := none
  vs : Nat := 0
  vh : Nat := 0
  window : Option Nat := none
  /-- Tracker entries the packet holds: outbound and inbound. -/
  trkOut : Option Nat := none
  trkIn : Option Nat := none
  outcome : Nat := 1
  stall : Option Stall := none
  /-- Destinations released by the resequencer (packet * 8 + destination) whose delivery waits (R322, R326). -/
  relD : List Nat := []
  /-- Metered already by this device's policer (R170). -/
  metered : Bool := false
  /-- The packet has held the lookup of its port and class: it waits behind no other (R103, R170). -/
  held : Bool := false
  /-- What its lookup has last waited for, other than a turn: one wait counts once. -/
  why : Option Stall := none
  /-- Contexts and generations that the write, or copies of it, are logged in (R327). -/
  wl : List (Nat × Nat) := []
  /-- Its chain cannot be trusted: its cells wait for the scan of R90. -/
  scan : Bool := false
  dests : List Dest := []
  deriving DecidableEq, Repr, Inhabited

/-- Occupancy of one account and TC (R77, R78). -/
structure Occ where
  hdrm : Nat := 0
  min : Nat := 0
  shared : Nat := 0
  deriving DecidableEq, Repr, Inhabited

/-- A sample waiting for the SMR (R93). -/
structure Sample where
  metaWord : Nat := 0
  time : Nat := 0
  bytes : List Byte := []
  cells : Nat := 1
  /-- The metadata is complete: the lookup of its packet is done. -/
  sealed : Bool := false
  deriving DecidableEq, Repr, Inhabited

/-- What an egress is sending (R71, R75): the packet, its destination, the port or link. -/
structure Sending where
  pkt : Nat := 0
  dest : Nat := 0
  link : Nat := 0
  /-- Cells that had been written, and so were checked, when the header left (R89). -/
  chk : Nat := 0
  deriving DecidableEq, Repr, Inhabited

/-- Work begun inside a command and ended before the command ends: a packet at its ingress lookup, a packet that the
resequencer has released (packet * 8 + destination), a packet of account 128 or 129 that waits for admission (R80) with its payload, a request
that has reached a register BAR of an internal function (the packet's number, the function and the BAR), a packet to be
sampled once its lookup is done (R91). -/
inductive Job where
  | enter (i : Nat)
  | release (n : Nat)
  | make (p : Pkt) (payload : List Byte)
  | bar (i : Nat) (fn : Fn) (bar : Nat)
  | sample (i arr : Nat) (x : Sample)
  /-- An ERR_* message from below triggers DPC at a port, for a reason, from a requester ID (R240). -/
  | dpc (port reason src : Nat)
  /-- A Scango link goes down (R271). -/
  | linkLost (port : Nat)
  /-- A request of the part itself to host memory, by a function, charged to an account (R76, R415): a write of bytes, or a
  read of `rd` bytes. -/
  | own (fn : Fn) (addr : Nat) (bytes : List Byte) (rd tc : Nat) (pasid : Option Nat) (acct : Nat)
  /-- A vector of a function's MSI-X table is signalled. -/
  | msix (fn : Fn) (vector : Nat)
  /-- A function of a virtual switch sends an ERR_* message (R76, R411). -/
  | errMsg (fn : Fn) (code : Nat)
  deriving DecidableEq, Repr, Inhabited

/-- XBC, the shared buffer (03). -/
structure XbcSt where
  cells : Tbl Cell := []
  pkts : Tbl Pkt := []
  occ : Tbl Occ := []
  sharedUsed : Nat := 0
  /-- Account served last by the retries of R79. -/
  retryLast : Nat := 130
  /-- Sampling down-counters per port (R91), the samples waiting (R94) and SEQ (R93). -/
  smpCnt : Tbl Nat := []
  samples : List Sample := []
  smpSeq : Nat := 0
  /-- Samples not yet copied from their ports: the lookup of their packet waits (packet, its arrival, the sample). -/
  smpWait : List (Nat × Nat × Sample) := []
  /-- Time of the last sweep of each quadrant (R83). -/
  swept : Tbl Nat := []
  /-- Packets being sent, oldest first. -/
  sending : List Sending := []
  /-- Packet in progress at each ingress port (its later cells still to come). -/
  rxCur : Tbl Nat := []
  /-- Work in hand; producers refused admission (R80); packets whose lookup waits, in arrival order. -/
  jobs : List Job := []
  refused : List Job := []
  stalled : List Nat := []
  /-- Header cell number whose chain the scan of R90 is to free. -/
  reclaim : List Nat := []
  deriving DecidableEq, Repr, Inhabited

/-! ### Mirroring and fences (04) -/

/-- A CMT flow entry (R111), keyed by its flow (source, destination FID, TC). -/
structure CmtFlow where
  gen : Nat := 0
  c0 : Nat := 0
  c1 : Nat := 0
  f0 : Nat := 0
  f1 : Nat := 0
  refs : Nat := 0
  deriving DecidableEq, Repr, Inhabited

/-- One replica of a fence in flight. -/
structure FenceRep where
  fid : Nat := 0
  addr : Nat := 0
  gen : Nat := 0
  /-- 15 not required; 16 no cause yet; else the cause of R118. -/
  cause : Nat := 15
  /-- 0 waits for C = 0; 1 flush sent; 2 done. -/
  st : Nat := 2
  deriving DecidableEq, Repr, Inhabited

/-- A fence slot (R107, R112, R117). -/
structure Fence where
  id : Nat := 0
  group : Nat := 0
  recordAddr : Nat := 0
  src : Nat := 0
  vs : Nat := 0
  tc : Nat := 0
  slice : Option (Nat × Nat) := none
  /-- 0 waits for a slot; 1 pending; 2 taken; 3 all causes known. -/
  st : Nat := 1
  take : Nat := 0
  /-- Flush timeout of its group in ns; 0: FLUSH_TMO_DEF as it stands when the flush is sent (R125). -/
  tmo : Nat := 0
  reps : List FenceRep := []
  /-- STATUS fixed at once for BAD_FENCE and TABLE_ERROR, and for a fence that a decant found not taken. -/
  bad : Option Nat := none
  /-- Saved in the carafe: its record goes before any new fence is taken (R123). -/
  saved : Bool := false
  deriving DecidableEq, Repr, Inhabited

/-- MCE and CMT (04). -/
structure MceSt where
  /-- Packets that hold a fan-out record (R102). -/
  fanout : List Nat := []
  flows : Tbl CmtFlow := []
  /-- Fences by arrival number (R112), and the next arrival number. -/
  fences : Tbl Fence := []
  nextFence : Nat := 0
  deriving DecidableEq, Repr, Inhabited

/-! ### Routing and resequencing (05) -/

/-- A flow stamp entry: flow key, next number, time of the last stamp (R136). -/
structure Stamp where
  flow : Nat := 0
  next : Nat := 0
  last : Nat := 0
  deriving DecidableEq, Repr, Inhabited

/-- A resequencer entry (R139): `slots` holds (number, packet * 8 + destination) with none for a skip
marker; `park` packets (in the same form) in arrival order. -/
structure Rsq where
  flow : Nat := 0
  exp : Nat := 0
  loss : Bool := false
  timer : Option Nat := none
  tmo : Nat := 0
  slots : List (Nat × Option Nat) := []
  park : List Nat := []
  last : Nat := 0
  deriving DecidableEq, Repr, Inhabited

/-- RTE (05). Stamp entries by 8 * set + way, resequencer entries by 8 * set + way. -/
structure RteSt where
  stamps : Tbl Stamp := []
  rsq : Tbl Rsq := []
  /-- cur weights by (route entry, quadrant, hop), and rr by (entry, hop) (R133). -/
  cur : Tbl Int := []
  rr : Tbl Nat := []
  /-- Time in ns for which the gap timers have stood still (R152). -/
  stood : Nat := 0
  deriving DecidableEq, Repr, Inhabited

/-! ### Traffic management (06) -/

/-- One queue (R157, R162, R163): members are (packet, destination index), oldest first. -/
structure Queue where
  mem : List (Nat × Nat) := []
  deficit : Int := 0
  /-- TAT in 2^-20 ns, and the B × I of its last update: what it was worked out with stands until the next (R163, R173). -/
  tat : Nat := 0
  bi : Nat := 0
  /-- Timing-wheel slot and round count while it waits (R165), and its NET in 2^-20 ns. -/
  wheel : Option (Nat × Nat × Nat) := none
  /-- Time the present head came to the head, and when an eligible link last had credit for it (R148). -/
  headAt : Nat := 0
  creditAt : Nat := 0
  /-- Words W0 and W1 last had by a sub-queue whose VALID was cleared (R160). -/
  kept : Option (Nat × Nat) := none
  deriving DecidableEq, Repr, Inhabited

/-- A level of the scheduler of one port: the member that holds the turn, and the deficits of the classes (R162). -/
structure Sched where
  cur : Nat := 0
  defs : Tbl Int := []
  sub : Tbl Nat := []
  deriving DecidableEq, Repr, Inhabited

/-- Policer entry state (R168). A bucket's level is held as the time that would fill it, level * I in 2^-20 ns, beside
the rate I it was held at (log entry 15), or in bytes while I is 0; `last` is in the same unit of time. -/
structure Policer where
  tc : Nat := 0
  tcI : Nat := 0
  tp : Nat := 0
  tpI : Nat := 0
  last : Nat := 0
  deriving DecidableEq, Repr, Inhabited

/-- TMG (06). -/
structure TmgSt where
  queues : Tbl Queue := []
  ports : Tbl Sched := []
  pol : Tbl Policer := []
  /-- Histograms by queue: 16 depth bins, then 16 delay bins (R171). -/
  hist : Tbl (List Nat) := []
  /-- Entries of TABLE_ID 0x05 and 0x06 already found bad, until they are repaired or replaced (R175). -/
  found : List (Nat × Nat) := []
  /-- By quadrant: the 8 ns tick that its wheel was last at (R165), and the time of its last histogram sample (R171). -/
  wheelAt : Tbl Nat := []
  histAt : Tbl Nat := []
  deriving DecidableEq, Repr, Inhabited

/-! ### The bridge (07) -/

/-- A tracker entry (R187). -/
structure Trk where
  inbound : Bool := false
  vs : Nat := 0
  port : Nat := 0
  reqId : Nat := 0
  tag : Nat := 0
  myTag : Nat := 0
  src : Nat := 0
  dst : Nat := 0
  tc : Nat := 0
  due : Nat := 0
  deadline : Nat := 0
  tmo : Nat := 0
  epoch : Nat := 0
  locked : Bool := false
  origin : Origin := .none
  /-- The request as sent, for a re-send after BUSY (R190). -/
  req : Hdr := {}
  data : List Byte := []
  /-- Data of an internal request that has come back so far, and whether any of it was poisoned. -/
  acc : List Byte := []
  bad : Bool := false
  /-- Time of the next re-send while it backs off, and the present back-off in ns. -/
  retryAt : Option Nat := none
  backoff : Nat := 0
  ingress : Ingress := .internal
  deriving DecidableEq, Repr, Inhabited

/-- A read that the part itself has issued on PCI Express: who asked, and the data that has come back so far. -/
structure Loc where
  origin : Origin := .none
  acc : List Byte := []
  bad : Bool := false
  /-- When it was issued. -/
  since : Nat := 0
  deriving DecidableEq, Repr, Inhabited

/-- A quarantined tag (R194). -/
structure Quar where
  inbound : Bool := false
  unit : Nat := 0
  tag : Nat := 0
  until_ : Nat := 0
  src : Nat := 0
  tc : Nat := 0
  deriving DecidableEq, Repr, Inhabited

/-- A prefetch buffer entry (R205). -/
structure Pf where
  fid : Nat := 0
  addr : Nat := 0
  len : Nat := 0
  win : Nat := 0
  filled : Bool := false
  data : List Byte := []
  last : Nat := 0
  read : Bool := false
  /-- Number of the prefetch, which its answer names. -/
  id : Nat := 0
  deriving DecidableEq, Repr, Inhabited

/-- A locked sequence as this device sees it (R200). -/
structure Lock where
  /-- First device: 0 none, 1 waiting for LOCK_GRANT, 2 granted, 3 broken. -/
  st : Nat := 0
  owner : Nat := 0
  target : Nat := 0
  id : Nat := 0
  since : Nat := 0
  pkt : Option Nat := none
  deriving DecidableEq, Repr, Inhabited

/-- A port that a locked sequence holds, at its last device (R200, R201). -/
structure LockedPort where
  port : Nat := 0
  owner : Nat := 0
  target : Nat := 0
  /-- Requester ID of the locked read. -/
  reqId : Nat := 0
  /-- LOCK_ID, where this device knows it. -/
  id : Option Nat := none
  deriving DecidableEq, Repr, Inhabited

/-- A latest-value entry of the sideband bridge (R211). -/
structure SbVal where
  /-- The latest value, or data of the latest message with its requester ID. -/
  data : List Byte := []
  reqId : Nat := 0
  pending : Bool := false
  lastSend : Nat := 0
  sent : Bool := false
  deriving DecidableEq, Repr, Inhabited

/-- An entry of the translation cache (R184): table index, the epoch whose copy it was read from, the entry. -/
structure XltEnt where
  idx : Nat := 0
  epoch : Nat := 0
  val : Nat := 0
  /-- Read before a COMMIT that left its block unchanged: it serves both epochs. -/
  both : Bool := false
  deriving DecidableEq, Repr, Inhabited

/-- BRG (07). -/
structure BrgSt where
  /-- The translation cache, oldest entry first. -/
  cache : List XltEnt := []
  trk : Tbl Trk := []
  /-- Reads that the device itself has issued on PCI Express, by unit (a virtual switch, or 32 + a port) * 16384 + tag. -/
  loc : Tbl Loc := []
  quar : List Quar := []
  pf : Tbl Pf := []
  pfNext : Nat := 0
  /-- First-device locks by virtual switch, the locked ports of the last device, the lock in force at the arbiter
  (owner, target, LOCK_ID, time of the grant), its queue (owner, target) and its last LOCK_ID. -/
  locks : Tbl Lock := []
  lockedPorts : List LockedPort := []
  arb : Option (Nat × Nat × Nat × Nat) := none
  arbQ : List (Nat × Nat) := []
  lockId : Nat := 0
  sb : Tbl SbVal := []
  /-- Tracker entries freed without a completion whose requester inside the part still waits for its own timeout, by the
  number the entry had (R195). -/
  lost : List (Nat × Trk) := []
  /-- Time in ns for which the timers of BRG have stood still in a decant (R214). -/
  stood : Nat := 0
  /-- INTx counts by (DST_PORT, DST_ID, pin) as a key (R210). -/
  intx : Tbl Nat := []
  deriving DecidableEq, Repr, Inhabited

/-! ### PCI Express ports (08) -/

/-- A PCI Express port (R225 to R241). -/
structure PcpSt where
  up : Bool := false
  /-- Number of the present link-up, or of the last one. -/
  life : Nat := 0
  /-- Partner credits left: posted, non-posted, completion headers and data. -/
  ph : Nat := 0
  pd : Nat := 0
  nph : Nat := 0
  npd : Nat := 0
  ch : Nat := 0
  cd : Nat := 0
  /-- Credits of this side withheld and returned are in XBC's headroom; held non-posted requests (R230). -/
  hold : List (Nat × Nat) := []
  dpc : Bool := false
  ready : Bool := true
  l1 : Bool := false
  narrow : Bool := false
  /-- Lanes that were negotiated at link-up, for the return from L0p (R233). -/
  lanes : Nat := 0
  cfgSince : Nat := 0
  /-- Slot state the functions report: PERST_N output, presence, events. -/
  perst : Bool := true
  pgSince : Option Nat := none
  present : Bool := false
  idleSince : Nat := 0
  /-- Time of the last link-up, and the bytes sent by µs, newest first (R233). -/
  upAt : Nat := 0
  sent : Tbl Nat := []
  /-- Streams made Insecure (R241). -/
  insecure : Bool := false
  /-- Downstream ports whose PME_TO_Ack the upstream port still gathers (Base Specification). -/
  pme : List Nat := []
  /-- PERST_N input of an upstream port is asserted (R234, R553). -/
  perstIn : Bool := false
  deriving DecidableEq, Repr, Inhabited

/-! ### Scango links (09) -/

/-- A flit kept for replay (R256): FSN, bytes, whether it is a CREMA flit. -/
structure TxFlit where
  fsn : Nat := 0
  bytes : List Byte := []
  crema : Bool := false
  deriving DecidableEq, Repr, Inhabited

/-- A packet started on a link: bytes still to be put into flits, whether more are to come (R246, R247). -/
structure TxPkt where
  pkt : Nat := 0
  dest : Nat := 0
  /-- The header it leaves with, and the payload bytes handed over so far. -/
  hdr : Hdr := {}
  data : List Byte := []
  bytes : List Byte := []
  more : Bool := false
  abort : Bool := false
  started : Bool := false
  /-- FSN of the flit that carries its first byte. -/
  first : Nat := 0
  deriving DecidableEq, Repr, Inhabited

/-- A packet sent on a link whose flits are not all acknowledged (R144): the packet and destination as they stood when it
started, its bytes after the header, and the FSNs of its first and last flit. -/
structure SentPkt where
  pkt : Pkt := {}
  dest : Dest := {}
  data : List Byte := []
  first : Nat := 0
  last : Nat := 0
  deriving DecidableEq, Repr, Inhabited

/-- Credit state of one pool (R260). -/
structure Pool where
  init : Nat := 0
  cons : Nat := 0
  cr : Nat := 0
  initD : Nat := 0
  consD : Nat := 0
  crD : Nat := 0
  /-- What this side has returned, header and data, and whether a return is unreported. -/
  ret : Nat := 0
  retD : Nat := 0
  unrep : Bool := false
  /-- What the partner has consumed here. -/
  used : Nat := 0
  usedD : Nat := 0
  deriving DecidableEq, Repr, Inhabited

/-- A lane swap in progress or held (R268): the receive lane swapped; the one requested with why (0 the manager, 1 its
corrections, 2 its alignment, 3 replays); the transmit lane swapped, and whether it is still driven on both lanes. -/
structure Swap where
  rx : Option Nat := none
  rxPending : Option (Nat × Nat) := none
  tx : Option Nat := none
  txBoth : Bool := false
  deriving DecidableEq, Repr, Inhabited

/-- A Scango link (09). -/
structure SglSt where
  /-- STATE of SGLgg_LINK_STAT (0 DOWN, 1 BRINGUP, 2 INIT, 3 UP, 4 RETRAIN, 6 DISABLED). -/
  st : Nat := 0
  /-- Number of the present link-up, or of the last one: credits return to the partner only within the one that their packet
  came in (R260, R272). -/
  life : Nat := 0
  txFsn : Nat := 0
  oldest : Nat := 0
  buf : List TxFlit := []
  /-- Flits of the buffer still to be replayed (their count from the end of `buf`). -/
  replay : Option Nat := none
  replayCnt : Nat := 0
  /-- Start of the replay timer, and the REPLAY_TMR it runs with (R255, R277). -/
  timer : Nat := 0
  tmo : Nat := 0
  exp : Nat := 0
  /-- EXP for which the last NAK went out and when; a NAK is due (R254). -/
  nakFor : Option (Nat × Nat) := none
  nakDue : Bool := false
  cremaRun : Nat := 3
  /-- Crema messages to send: link messages first, then routed ones, each with the link whose crema credit it holds
  (R262, R263). -/
  linkMsgs : List (List Byte) := []
  routed : List (Option Nat × List Byte) := []
  cc : Nat := 0
  ccCons : Nat := 0
  ccRet : Nat := 0
  ccUsed : Nat := 0
  ccUnrep : Bool := false
  ccIn : Nat := 0
  pools : Tbl Pool := []
  tx : List TxPkt := []
  sent : List SentPkt := []
  /-- Bytes received of the packet in progress and not yet in the buffer, bytes of it still to come, and whether parsing
  is discarding to the next START. -/
  rx : List Byte := []
  rxLeft : Nat := 0
  rxSkip : Bool := false
  goodRun : Nat := 0
  gotInit : List Nat := []
  gotParam : Bool := false
  /-- The partner's management FID and port number, as its LINK_PARAM gave them (R265). -/
  partner : Nat × Nat := (0, 0)
  /-- Own initialisation messages: put in the queue, and the FSN of the flit that carries the last of them (R265). -/
  initSent : Bool := false
  initFsn : Option Nat := none
  initSince : Nat := 0
  /-- Flits sent since the last IDLE flit (R521). -/
  run : Nat := 0
  /-- Times of the retrains of the last second; where a retrain returns to, and since when it runs (R270). -/
  retrains : List Nat := []
  back : Nat := 3
  retrainSince : Nat := 0
  fails : Nat := 0
  rateIdx : Nat := 0
  /-- Step of R284 and since when it runs; the scramblers of its transmit lanes (R281). -/
  bstep : Nat := 0
  bsince : Nat := 0
  scr : List Nat := []
  /-- Groups whose slip search software runs, as MANUAL stood when bring-up started (R286, R299). -/
  manual : List Nat := []
  /-- The lanes arrive in reverse order, and the receiver reverses them (R282). -/
  rev : Bool := false
  /-- Corrections by lane in the present 1 ms window, the window's number, and corrections since the first of the replays
  counted (R267). -/
  corr : Tbl Nat := []
  corrSince : Nat := 0
  corrR : Tbl Nat := []
  /-- When the link went down, or bring-up was last tried (R273). -/
  downSince : Nat := 0
  swap : Swap := {}
  swapSince : Nat := 0
  deriving DecidableEq, Repr, Inhabited

/-! ### Write logging (11) -/

/-- An entry of the coalescing cache (R326): context, generation, word index, pages as a mask of 512 bits, last use, and
whether it is to be merged to make room. -/
structure WlEnt where
  ctx : Nat := 0
  gen : Nat := 0
  word : Nat := 0
  mask : Nat := 0
  last : Nat := 0
  evict : Bool := false
  deriving DecidableEq, Repr, Inhabited

/-- A HARVEST in progress (R327): its operands, MCR slot and descriptor, the old generation, the cut, and where it
stands: 3 waits for the writes of the old generation, 4 waits for its flush read. -/
structure Harvest where
  ctx : Nat := 0
  cont : Bool := false
  flush : Bool := false
  target : Bool := false
  maxEnt : Nat := 0
  addr : Nat := 0
  slot : Nat := 0
  desc : Desc := {}
  gen : Nat := 0
  lost : Bool := false
  fail : Bool := false
  step : Nat := 3
  /-- When the flush read was sent, and the FLUSH_TMO that then stood (R337). -/
  since : Nat := 0
  tmo : Nat := 0
  deriving DecidableEq, Repr, Inhabited

/-- WLG (11). -/
structure WlgSt where
  cache : List WlEnt := []
  harvest : Option Harvest := none
  /-- CUT_TIME of the last cut, by context. -/
  cutTime : Tbl Nat := []
  deriving DecidableEq, Repr, Inhabited

/-! ### Faults (15) -/

/-- A fault message on its way to FCR (R399, R406): the word, its detection time and epoch, whether it was forced, and
whether it was detected from step 2 of a decant on (R422). -/
structure FaultIn where
  word : Nat := 0
  time : Nat := 0
  epoch : Nat := 0
  forced : Bool := false
  quiet : Bool := false
  deriving DecidableEq, Repr, Inhabited

/-- A pending record (R409): its SEQ, level, class, unit (scope 0 device, 1 port, 2 virtual switch, and number), source and
fault ID. -/
structure PendRec where
  seq : Nat := 0
  level : Nat := 0
  cls : Nat := 0
  unit : Nat × Nat := (0, 0)
  source : Nat := 0
  fault : Nat := 0
  deriving DecidableEq, Repr, Inhabited

/-- A counting entry (R408): its pair, when its window opened and its length in ns, whether the window is open, the count,
the time of the last message, whether it is severe. -/
structure CountEnt where
  source : Nat := 0
  fault : Nat := 0
  start : Nat := 0
  len : Nat := 0
  opened : Bool := true
  n : Nat := 0
  last : Nat := 0
  severe : Bool := false
  deriving DecidableEq, Repr, Inhabited

/-- FCR (15). -/
structure FcrSt where
  inbox : List FaultIn := []
  safe : Bool := false
  seq : Nat := 0
  pending : List PendRec := []
  counts : List CountEnt := []
  /-- FCR_PEND_OVF has been raised since the set last had room. -/
  full : Bool := false
  /-- FTR records that wait (at most 512), and the run of losses not yet summed up: first SEQ and number (R418). -/
  queue : List (List Byte) := []
  lost : Option (Nat × Nat) := none
  /-- Containments decided in the safe state (R415), and ports in DPC through one of their virtual switch (R412). -/
  deferred : List (Nat × Nat) := []
  viaVs : List Nat := []
  deriving DecidableEq, Repr, Inhabited

/-! ### Lanes (10) -/

/-- A lane (R284 to R293): how far its bring-up has come, its slip position, its equalisation, its adaptation. -/
structure LaneSt where
  cdr : Bool := false
  adapted : Bool := false
  locked : Bool := false
  pos : Nat := 0
  hit : Bool := false
  eqOk : Bool := false
  rounds : Nat := 0
  /-- The last request round ended then (R289). -/
  roundAt : Nat := 0
  /-- The received stream is the complement of what was sent and is inverted; LANE of the training blocks found (R282), and
  how late they stand, in ps, behind the port's earliest (R284 step 5). -/
  inv : Bool := false
  rxLane : Nat := 0
  skew : Nat := 0
  /-- POS at which the slip search began (R288). -/
  slipAt : Nat := 0
  /-- Pre- and post-cursor in force; the registers' fields hold what was written (R291, R299). -/
  pre : Nat := 0
  post : Nat := 0
  /-- The signal of a Scango lane that was up is lost (R292). -/
  lost : Bool := false
  /-- Coefficients in force, and the last good snapshot with its errors (none before the first). -/
  coef : List Int := []
  snap : Option (List Int × Nat) := none
  frozenAt : Option Nat := none
  /-- Time of the last drift check (R293). -/
  checked : Option Nat := none
  /-- Times of the reverts of the last second. -/
  reverts : List Nat := []
  /-- FEC corrections attributed to the lane since the last check (R293). -/
  errs : Nat := 0
  deriving DecidableEq, Repr, Inhabited

/-- LG: the lanes by global lane number (R18); the lane, and the times, of swaps and pinnings (kind 0, 1) not yet taken up
by AGE (R494). -/
structure LgSt where
  lanes : Tbl LaneSt := []
  events : List (Nat × Nat × Nat) := []
  deriving DecidableEq, Repr, Inhabited

/-! ### Decanting and keep-warm (12) -/

/-- A fence saved in the carafe (R123), a fetched command that a decant abandons (R66): its MCR slot and descriptor, and
with them its status. -/
structure Owed where
  slot : Nat := 0
  desc : Desc := {}
  status : Nat := 8
  result : Nat := 0
  detail : Nat := 0
  deriving DecidableEq, Repr, Inhabited

/-- What the carafe holds once sealed (R350). -/
structure Carafe where
  format : Nat := 0
  counter : Nat := 0
  /-- Digest of the personality image in force. -/
  digest : List Byte := []
  sealed : Bool := false
  /-- DCT_ARM. -/
  mode : Nat := 0
  regs : Tbl Word := []
  epoch : Nat := 0
  /-- DRAINING was 1 at step 2; the completions owed at step 8 of the exit (R66): those of commands that had finished, which
  come before EPOCH_DRAINED (R60), and the others. -/
  draining : Bool := false
  finished : List Owed := []
  owed : List Owed := []
  onDie : Mem := []
  fences : Tbl Fence := []
  nextFence : Nat := 0
  /-- Last good adaptation snapshots by global lane, and spare assignments: port, lane received on the spare, lane sent on
  it. -/
  snaps : Tbl (List Int × Nat) := []
  spares : List (Nat × Option Nat × Option Nat) := []
  list : List (Nat × List Byte) := []
  summ : Tbl (Nat × Nat) := []
  /-- LIST_OVF, and the sources that have an error to log after the exit (R349). -/
  listOvf : Nat := 0
  aer : List Nat := []
  /-- Pad banks held when the carafe was sealed (R374). -/
  held : Nat := 0
  /-- Table memory in retention: the retained die, its bytes and its upset bits, and dies that held table regions. -/
  die : Option Nat := none
  tm : Mem := []
  flips : Tbl Nat := []
  lostDies : Nat := 0
  /-- A relocation was in progress (R450). -/
  reloc : Bool := false
  deriving DecidableEq, Repr, Inhabited

/-- DCT. `active` from step 1 of R342, `quiet` from step 2 (the producers are frozen). -/
structure DctSt where
  active : Bool := false
  quiet : Bool := false
  /-- Step 3 of R342 is running: TMG selects under R344. -/
  drain : Bool := false
  /-- PHASE of DCT_STAT: 0 idle; 2 drain; 3 flush wait; 4 save; 5 keep-warm entry; 6 exit delivery is pending. -/
  phase : Nat := 0
  /-- The moment PWRFAIL_N fell, or the command was accepted; drain deadline and end of the flush wait, in ns after it. -/
  t0 : Nat := 0
  deadline : Nat := 0
  budget : Nat := 0
  /-- VAUX within range when the assertion was confirmed, and the carafe key present (R341, R481). -/
  vauxOk : Bool := true
  /-- By POWER_STATE KEEP_WARM or OFF (R375, R377): its MCR slot and descriptor, ABANDON_OK, OFF, WAKE_AFTER_S. -/
  cmd : Option (Nat × Desc) := none
  /-- A Function Level Reset has taken away its completion (R65, R379). -/
  cmdQuiet : Bool := false
  abandonOk : Bool := false
  off : Bool := false
  wakeAfter : Nat := 0
  /-- Flushes by port: 0 sent, 1 answered Successful Completion, 2 entered in the list (R346, R347). -/
  flushes : Tbl Nat := []
  /-- Completions owed after the exit (R66), and whether DRAINING was 1 at step 2. -/
  owed : List Owed := []
  draining : Bool := false
  /-- Entries of the abandoned-work list, oldest first, each with its source (a virtual switch, 32 the management function;
  R348), and the summaries by source as count and time of the first write summed up. -/
  list : List (Nat × List Byte) := []
  summ : Tbl (Nat × Nat) := []
  /-- At the exit: DECANT_EXIT still to be written, with TM_LOST, and the virtual
  switches whose DMV function has an error to log once its upstream port is up (R349, R354). -/
  exitDue : Bool := false
  lost : Nat := 0
  aerDue : List Nat := []
  deriving DecidableEq, Repr, Inhabited

/-- The AON island (12, 13, 18, 20): what runs from VAUX. -/
structure AonSt where
  /-- 0 RUN or TRIM; 1 keep-warm; 2 OFF, safe quiet or no supply; 3 held in reset. -/
  mode : Nat := 0
  /-- Main supplies within range, VAUX within range, level of PWRFAIL_N (true: high). -/
  main : Bool := true
  vaux : Bool := true
  pwrfail : Bool := true
  /-- When PWRFAIL_N last fell, and whether that assertion has been confirmed. -/
  fellAt : Nat := 0
  confirmed : Bool := false
  /-- An assertion confirmed while disarmed (R339). -/
  ignored : Bool := false
  /-- Cause of the reset that holds the device (R531), and the LAST_EXIT that the next cold boot reports (R355). -/
  cause : Nat := 0
  exitCode : Nat := 0
  saveCtr : Nat := 0
  /-- Timestamp and AON tick count recorded at step 7 (R526). -/
  tsRec : Nat := 0
  tickRec : Nat := 0
  /-- Time counted by the crystal, in ns (its tick count is 32,768 times that over 10^9), and whether it runs. -/
  ns : Nat := 0
  xtal : Bool := true
  /-- VAUX dropped during keep-warm; KEEP_MAX_H has passed. -/
  vauxDrop : Bool := false
  keepExpired : Bool := false
  /-- A start that failed its wake retry, with the stage (R530). -/
  wakeFail : Option Nat := none
  /-- Keep-warm: AON time of the entry, KEEP_MAX_H, entered by command, WAKE_AFTER_S, a wake event has come, PWR_WAKE_CFG. -/
  entered : Nat := 0
  keepMax : Nat := 0
  byCmd : Bool := false
  wakeAfter : Nat := 0
  wake : Bool := false
  wakeCfg : Word := 0
  /-- AON time at which the core last stopped. -/
  offNs : Nat := 0
  carafe : Option Carafe := none
  /-- DCT_CNT_7 (R355). -/
  fallbacks : Nat := 0
  /-- The calendar (R500): its seconds at AON time `calAt`, and CAL_VALID. -/
  cal : Nat := 0
  calAt : Nat := 0
  calValid : Bool := false
  deriving DecidableEq, Repr, Inhabited

/-! ### Power domains (13) -/

/-- A POWER_STATE in progress (R368 to R372): MCR slot and descriptor, TARGET, ON_MASK, the domains to be stopped and those
stopped so far in order, the domains to wake and the stage of the first of them, and since when the present answer or ready
signal is waited for. `quiet`: it writes no completion (R65, R379). -/
structure PwrCmd where
  slot : Nat := 0
  desc : Desc := {}
  target : Nat := 0
  stops : List Nat := []
  stopped : List Nat := []
  wakes : List Nat := []
  stage : Nat := 0
  since : Nat := 0
  quiet : Bool := false
  deriving DecidableEq, Repr, Inhabited

/-- PWR. `latched` holds the levels of the inputs of held pad banks (bank, level). -/
structure PwrSt where
  cmd : Option PwrCmd := none
  latched : Tbl Nat := []
  deriving DecidableEq, Repr, Inhabited

/-! ### Slot power (14) -/

/-- A slot power controller (R386 to R393). Times are ns of the device timestamp. -/
structure SpcSt where
  /-- STATE of SPCnn_STAT: 0 OFF, 1 WAIT, 2 RAMP, 3 ON, 4 LATCHED, 5 HOLD. -/
  st : Nat := 0
  pg : Bool := false
  present : Bool := false
  /-- Enable in force (EN). -/
  en : Bool := false
  inWindow : Bool := false
  inLimit : Bool := false
  cause : Nat := 0
  count : Nat := 0
  /-- Consecutive samples with PRSNT_N high, and with the input of each rail at or outside its window. -/
  highs : Nat := 0
  outs : Nat × Nat := (0, 0)
  gained : Nat := 0
  /-- When the gates last turned off; before the timestamp's present 0, where the part has started since. -/
  offAt : Option Int := none
  rampAt : Nat := 0
  samples : Nat := 0
  deriving DecidableEq, Repr, Inhabited

/-! ### Security (17) -/

/-- The OTP of the Yelmulek complex (R454). -/
structure OtpSt where
  uds : List Byte := []
  curve : Bool := false
  /-- Life-cycle state and the state at the last completed wipe: 0 BLANK, 1 DEVELOPMENT, 2 PRODUCTION, 3 RETURN,
  4 SCRAPPED. -/
  lc : Nat := 0
  wiped : Nat := 0
  /-- Owner key hashes by slot, and the revoke bits. -/
  owners : Tbl (List Byte) := []
  revoked : Nat := 0
  uthelRevoked : Nat := 0
  /-- Anti-rollback counters, by number. -/
  svn : Tbl Nat := []
  recovery : Nat := 0
  serial : Nat := 0
  grade : Nat := 0
  certHash : List Byte := []
  deriving DecidableEq, Repr, Inhabited

/-- A secured SPDM session: its number and the transport it runs over: 32 for SMBus, else the virtual switch of its DOE. -/
structure Session where
  id : Nat := 0
  via : Nat := 32
  deriving DecidableEq, Repr, Inhabited

/-- The link IDE keys of a port (R466): key sets programmed, and key sets active, each as (key set, substream, direction). -/
structure IdeKeys where
  keys : List (Nat × Nat × Nat × List Byte) := []
  active : List (Nat × Nat × Nat) := []
  deriving DecidableEq, Repr, Inhabited

/-- SEC, the debug port, and the SPI flash. -/
structure SecSt where
  otp : OtpSt := {}
  /-- SPI flash; a byte not listed reads 0xFF (log entry 26). -/
  flash : Mem := []
  /-- The nonces of the register channel and of the debug port (R470). -/
  nonce : Option Word := none
  jtagNonce : Option Word := none
  sessions : List Session := []
  nextSession : Nat := 0
  keys : Tbl IdeKeys := []
  /-- The boot key material is in the working store (R481). -/
  keyStore : Bool := true
  /-- Digests of the images booted: Yelmulek firmware, engine firmware, personality (R464). -/
  digests : List (List Byte) := []
  rom : Nat := 0
  /-- The debug port: instruction register, and EXTEST holds the pads. -/
  ir : Nat := 0xFF
  extest : Bool := false
  /-- Answer of the last MEM_ACCESS: status and words completed (R480). -/
  mem : Nat × Nat := (0, 0)
  /-- A flash operation in progress: its operation and sector (R459). -/
  flashOp : Option (Nat × Nat) := none
  deriving DecidableEq, Repr, Inhabited

/-! ### Wear (18) -/

/-- AGE. Lanes are global lane numbers; rows are physical rows of 2 KiB (die * 65536 + row). Times are ns of power-on
time. -/
structure AgeSt where
  gb : Nat := 0
  /-- The adaptive base in 5 mV steps above 500 mV (R489, R557), and the last accepted code. -/
  base : Nat := 50
  clr : Bool := false
  lastFast : Option Nat := none
  roundAt : Nat := 0
  /-- Consecutive rounds with a low eye, by port, and with a very low eye, by lane; EYE_WORST stands in its register. -/
  eyeLow : Tbl Nat := []
  eyeBad : Tbl Nat := []
  swaps : Tbl (List Nat) := []
  pins : Tbl (List Nat) := []
  /-- Corrections of rows and of engine memories, as their times. -/
  rowCor : Tbl (List Nat) := []
  engCor : Tbl (List Nat) := []
  /-- Rows that qualify for repair with the fault ID that made them, and rows remapped: (row, spare row of its die). -/
  rowDue : List (Nat × Nat) := []
  remap : Tbl Nat := []
  /-- Engines stopped and not yet replaced, and KIND of the fault of R402 that stopped each. -/
  stopped : List Nat := []
  stopWhy : Tbl Nat := []
  /-- The firmware copy held for loading spares has failed its code and is not yet loaded again (R404). -/
  fwBad : Bool := false
  /-- The life ledger: the records of the active half and of the other half, the next SEQ, records that wait, and
  power-on seconds since manufacture at the last reading. -/
  ledger : List (List Byte) := []
  other : List (List Byte) := []
  seq : Nat := 0
  waiting : List (List Byte) := []
  onNs : Nat := 0
  lastSum : Nat := 0
  /-- Thermal cycles, and the minimum that the next one rises from, in 1/16 degree. -/
  cycles : Nat := 0
  tmin : Option Int := none
  /-- When the last reading of the thermal-cycle count was taken. -/
  tAt : Option Nat := none
  trips : Nat := 0
  retrains : Nat := 0
  repairs : Nat := 0
  deriving DecidableEq, Repr, Inhabited

/-! ### Observability (19) -/

/-- PMC. Counters by their index in the counter space (R504); the fraction of a slot that each port carries, in 1/4000;
slots of each port (at 2 * port, wasted ones at 2 * port + 1) that bytes sent have taken and that are not yet earned; the
event counters whose condition held when last looked at. -/
structure PmcSt where
  cnt : Tbl Nat := []
  frac : Tbl Nat := []
  due : Tbl Nat := []
  held : List Nat := []
  /-- Engine slots so far, and by engine those up to which its accounts have been made up. -/
  engSlots : Nat := 0
  engBase : Tbl Nat := []
  /-- When the last periodic dump was due, and whether dumps are being skipped (R511, R520). -/
  lastDump : Nat := 0
  skipRun : Bool := false
  /-- Increments of the sampled counter since its last sample; the samples that wait, at most 64; their next number. -/
  smpDue : Nat := 0
  samples : List (List Byte) := []
  smpSeq : Nat := 0
  deriving DecidableEq, Repr, Inhabited

/-! ### Clocks and the DEV block (20, 21) -/

/-- CLK: since when the PLL holds over, whether REF and the PLL are good; DEV: the levels at the GPIO balls, whether the
thermal warning and the critical fault stand. -/
structure ClkSt where
  holdover : Option Nat := none
  pins : Nat := 255
  warn : Bool := false
  crit : Bool := false
  /-- TJ_PEAK, none right after a read of it. -/
  peak : Option Int := none
  deriving DecidableEq, Repr, Inhabited

/-! ### The data mover (11) -/

/-- A read that a slice has issued and that is still open: its descriptor, its number, the range it reads of (second of
two, offset and length), its completion timeout, and whether its data is still wanted. -/
structure SRead where
  desc : Nat := 0
  part : Nat := 0
  second : Bool := false
  off : Nat := 0
  len : Nat := 0
  deadline : Option Nat := none
  live : Bool := true
  deriving DecidableEq, Repr, Inhabited

/-- A descriptor that a slice has fetched and whose entry is not written: its 64 bytes, how far its reads and writes
have been issued, the data read and not yet used by offset, and its entry once finished. -/
structure SDesc where
  id : Nat := 0
  slot : Nat := 0
  bytes : List Byte := []
  started : Bool := false
  rd : Nat := 0
  rd2 : Nat := 0
  data : Tbl (List Byte) := []
  data2 : Tbl (List Byte) := []
  /-- Bytes written, compared or summed so far. -/
  wr : Nat := 0
  crc : Nat := 0
  parts : Nat := 0
  /-- COMPARE has found a difference and waits for its last reads (R314). -/
  miss : Bool := false
  fin : Option Nat := none
  detail : Nat := 0
  fstat : Nat := 0
  result : Nat := 0
  done : Nat := 0
  time : Nat := 0
  deriving DecidableEq, Repr, Inhabited

/-- A slice. `st` is STATE of DMV_SLICE_CTL; `back` the state it returns to from HALTED. -/
structure Slice where
  st : Nat := 0
  back : Nat := 0
  sqCi : Nat := 0
  cqPi : Nat := 0
  /-- Entries since the last interrupt, and the time of the first of them (R309). -/
  irq : Ring := {}
  descs : List SDesc := []
  reads : List SRead := []
  nextId : Nat := 0
  deficit : Nat := 0
  deriving DecidableEq, Repr, Inhabited

/-- DMV. -/
structure DmvSt where
  failQ : Tbl (List (List Byte)) := []
  slices : Tbl Slice := []
  /-- The slice that holds the turn of the round robin (R306). -/
  turn : Nat := 0
  /-- MSI-X tables, by function number * 65536 + byte offset, the mask bits inverted (R302), and the vectors signalled while
  masked, by virtual switch * 2048 + vector. -/
  msix : Mem := []
  pba : List Nat := []
  deriving DecidableEq, Repr, Inhabited

/-! ### Table memory (16) -/

/-- A requester that waits for a die or holds it (R438 to R442): its number, the table words it moves and whether it
writes them or rewrites what it read, the words done, since when it waits, its losses and remaining back-off in TBL cycles,
the cycle at which it became urgent, and the TICKETS and PRIO it keeps after a change that disabled it (R444). -/
structure TmReq where
  num : Nat := 0
  words : Nat := 1
  write : Bool := false
  rmw : Bool := false
  done : Nat := 0
  since : Nat := 0
  losses : Nat := 0
  backoff : Nat := 0
  urgent : Option Nat := none
  old : Option (Nat × Nat) := none
  deriving DecidableEq, Repr, Inhabited

/-- A table-memory die: its interface, its fill, its arbiter, the next block of its patrol (R434, R437, R441). `left` is
the data cycles that the owner still holds. -/
structure TmDie where
  up : Bool := true
  filling : Bool := false
  waiting : List TmReq := []
  owner : Option TmReq := none
  left : Nat := 0
  cycle : Nat := 0
  patrol : Nat := 0
  /-- REQ_EN, and TICKETS and PRIO of the 32 requesters, which stay in use until the first phase after a COMMIT that has
  replaced them (R444). -/
  held : Option (Nat × List (Nat × Nat)) := none
  /-- When the patrol last read a block (R434). -/
  patrolAt : Option Nat := none
  deriving DecidableEq, Repr, Inhabited

/-- TBM. `flips` holds, by byte address, the bits of the stored 13-bit codeword that have been upset (R428); the bytes
of shadow blocks stand at 2^30 + address. `revisit` and `poison` hold table-word numbers. `out` is the spared-out die
and `copied` the 4 KiB blocks of its regions that are served from the reserve (R446). -/
structure TbmSt where
  flips : Tbl Nat := []
  revisit : List Nat := []
  poison : List Nat := []
  dies : Tbl TmDie := []
  out : Option Nat := none
  copied : Nat := 0
  /-- Dies whose interface has failed (R445). -/
  gone : List Nat := []
  /-- When the last pass of the on-die table scrub started (R436). -/
  ondieAt : Option Nat := none
  deriving DecidableEq, Repr, Inhabited

/-- The state of the part. -/
structure State where
  /-- Commands waiting, first in first out (the model's own). -/
  pending : List Instr := []
  /-- Device timestamp in ns (R7). -/
  now : Nat := 0
  /-- Free values taken so far (the model's own; log entry 5). -/
  freeCtr : Nat := 0
  /-- Everything sent, oldest first (the model's own view of the outputs). -/
  out : List Out := []
  cfg : CfgSt := {}
  ctl : CtlSt := {}
  xbc : XbcSt := {}
  mce : MceSt := {}
  rte : RteSt := {}
  tmg : TmgSt := {}
  brg : BrgSt := {}
  pcp : Tbl PcpSt := []
  sgl : Tbl SglSt := []
  lg : LgSt := {}
  /-- Configuration space of the functions, by function number * 1024 + doubleword (R222; log entry 16). -/
  pci : Tbl Nat := []
  answers : List Answer := []
  dmv : DmvSt := {}
  wlg : WlgSt := {}
  fcr : FcrSt := {}
  tbm : TbmSt := {}
  /-- Entries of parity- or SEC-DED-protected on-die structures that have been upset and not yet read: (structure,
  index), with structure 0xF0 resequencer, 0xF1 stamp (R571), 0xE0 fan-out record, 0xE1 CMT flow, 0xE3 coalescing cache;
  single bits of 0xE2 tracker entries and 0xE4 flits of Scango replay buffers (512p + place), as 4096 * entry + 16 * byte +
  bit of the byte's codeword (R428); and data that its parity check is to find wrong (R87): 0xE5 cell `k` of the
  next packet from port p on its way into the buffer, 0xE6 on its way into the egress port controller of p, as 64p + k (log entry 151). -/
  upsets : List (Nat × Nat) := []
  dct : DctSt := {}
  aon : AonSt := {}
  pwr : PwrSt := {}
  spc : Tbl SpcSt := []
  sec : SecSt := {}
  age : AgeSt := {}
  pmc : PmcSt := {}
  clk : ClkSt := {}
  deriving DecidableEq, Repr, Inhabited

/-- The values that this model gives the fields with reset value IMG at `State.reset`, where no personality image has been
read (log entry 1): every master class has every right in every slot of the MPU, every power domain is to run, the shadow
pool has its 4,096 blocks; all others are 0. -/
def resetImg : Tbl Word :=
  (R.TBM_REGION 0, 0x9800020000000000#64) :: (List.range 256).map (fun n => (R.MPU_SLOT n, 0xFF#64)) ++ [(R.PWR_RUN_MASK, BitVec.allOnes 64)]

/-- The device right after reset: configuration-ready (R13, R529), its start finished, no port assigned, no command
waiting. Registers stand at the reset values of their tables; the registers listed are those that the start itself has
written: the size of the shared pool (R77), the clocks, the milestones, the known-answer tests. -/
def State.reset : State := {
  cfg := {
    img := resetImg
    regs := [
      (R.CLK_STAT, 0xD000000000000000#64), (R.CLK_DOMAIN_RUN, 0xFFFFFFFFFF#64), (R.CLK_BOOT_STAT, 0x8000000000000000#64),
      (R.SEC_STAT, 0x200000000000000#64), (R.XBC_SHARED, 0x10000000000000#64)] } }

end Sys2Proof.Machine
end

