-- ==== Sys2Proof/Machine/Ops.lean ====
section
/-! DEFINITION. The named operations over tables, memories, registers, rings, events and fault messages that every
command's meaning is written with. -/

namespace Sys2Proof.Machine

/-! ### Sparse tables -/

/-- The value at a key; the default where the table lists none. -/
def tget {α : Type} (d : α) : Tbl α → Nat → α
  | [], _ => d
  | (k, v) :: t, i => if i = k then v else tget d t i

/-- Puts a value at a key, keys strictly rising. -/
def tput {α : Type} : Tbl α → Nat → α → Tbl α
  | [], i, x => [(i, x)]
  | (k, v) :: t, i, x => if i < k then (i, x) :: (k, v) :: t else if i = k then (i, x) :: t else (k, v) :: tput t i x

/-- Removes a key. -/
def tdel {α : Type} : Tbl α → Nat → Tbl α
  | [], _ => []
  | (k, v) :: t, i => if i = k then t else (k, v) :: tdel t i

/-- The value at a key, if the table lists one. -/
def tfind {α : Type} : Tbl α → Nat → Option α
  | [], _ => none
  | (k, v) :: t, i => if i = k then some v else tfind t i

/-- The lowest number from `n` on that a strictly rising list of keys does not list, looking at most `fuel` far. -/
def firstFree {α : Type} : Tbl α → Nat → Nat
  | [], n => n
  | (k, _) :: t, n => if k < n then firstFree t n else if k = n then firstFree t (n + 1) else n

/-- Whether the keys of a table rise strictly. -/
def Tbl.wf {α : Type} : Tbl α → Bool
  | [] => true
  | [_] => true
  | (k, _) :: (k', v') :: t => decide (k < k') && Tbl.wf ((k', v') :: t)

/-! ### Addressed memories -/

/-- The byte at an address; `d` where the memory lists none. -/
def Mem.rd (d : Byte) : Mem → Nat → Byte
  | [], _ => d
  | (k, v) :: m, a => if a = k then v else Mem.rd d m a

/-- Writes a byte; writing the byte an unlisted address reads as removes the entry. -/
def Mem.wr (d : Byte) : Mem → Nat → Byte → Mem
  | [], a, b => if b = d then [] else [(a, b)]
  | (k, v) :: m, a, b =>
    if a < k then (if b = d then (k, v) :: m else (a, b) :: (k, v) :: m)
    else if a = k then (if b = d then m else (a, b) :: m)
    else (k, v) :: Mem.wr d m a b

/-- The canonical form: addresses strictly rising, no byte equal to the default. -/
def Mem.wf (d : Byte) : Mem → Bool
  | [] => true
  | [(_, v)] => decide (v ≠ d)
  | (k, v) :: (k', v') :: m => decide (v ≠ d) && decide (k < k') && Mem.wf d ((k', v') :: m)

/-- `n` bytes from an address on. -/
def Mem.rdN (d : Byte) (m : Mem) (a : Nat) : Nat → List Byte
  | 0 => []
  | n + 1 => Mem.rd d m a :: Mem.rdN d m (a + 1) n

/-- Writes bytes from an address on. -/
def Mem.wrN (d : Byte) : Mem → Nat → List Byte → Mem
  | m, _, [] => m
  | m, a, b :: bs => Mem.wrN d (Mem.wr d m a b) (a + 1) bs

/-! ### Byte order (R6, R126) -/

/-- `n` bytes of a number, least significant first. -/
def leBytes : Nat → Nat → List Byte
  | 0, _ => []
  | n + 1, v => BitVec.ofNat 8 v :: leBytes n (v >>> 8)

/-- The number that bytes spell, least significant first. -/
def ofLe : List Byte → Nat
  | [] => 0
  | b :: bs => b.toNat + 256 * ofLe bs

/-- `n` bytes of a number, most significant first. -/
def beBytes (n v : Nat) : List Byte := (leBytes n v).reverse

/-- The number that bytes spell, most significant first. -/
def ofBe (bs : List Byte) : Nat := ofLe bs.reverse

/-- A list cut or filled with zero bytes to a length. -/
def padTo (n : Nat) (bs : List Byte) : List Byte := bs.take n ++ List.replicate (n - bs.length) 0

/-- Bytes `[a, a + n)` of a list, as a little-endian number. -/
def leAt (bs : List Byte) (a n : Nat) : Nat := ofLe ((bs.drop a).take n)

/-- Bytes `[a, a + n)` of a list, as a big-endian number. -/
def beAt (bs : List Byte) (a n : Nat) : Nat := ofBe ((bs.drop a).take n)

/-! ### Registers (R8 to R16, R57, R60) -/

/-- The mask of the bits of a field. -/
def Fld.mask (f : Fld) : Nat := (2 ^ (f.hi + 1 - f.lo) - 1) <<< f.lo

/-- The bits of a field in a word. -/
def Fld.get (f : Fld) (w : Word) : Nat := bitsOf w.toNat f.lo (f.hi + 1 - f.lo)

/-- A word with a field's bits replaced. -/
def Fld.set (f : Fld) (w : Word) (v : Nat) : Word :=
  (w &&& ~~~(BitVec.ofNat 64 f.mask)) ||| (BitVec.ofNat 64 (atBits v f.lo (f.hi + 1 - f.lo)))

/-- Reset values that a rule gives instead of a number (R402, R403, R423, R396, R501, R380). -/
def specialReset (key : Nat) (lo : Nat) : Nat :=
  if R.FCR_RXN 0 ≤ key ∧ key < R.FCR_RXN 992 then
    let e := (faultTable.find? fun t => t.1 == (key - R.FCR_RXN 0) / 8)
    match e with
    | none => 0
    | some (f, c, l) =>
      if lo = 60 then l else if lo = 56 then c
      else if f < 96 then 1 else if f < 128 then 2 else if f < 160 then 1 else 0
  else if R.SPC_RAIL_CFG 0 0 ≤ key ∧ key < R.SPC_RAIL_CFG 32 0 then
    let r := (key % 0x40000 - 0x40) / 0x10
    if lo = 24 then (if r = 0 then 0x438 else 0x12C)
    else if lo = 12 then (if r = 0 then 0x528 else 0x168)
    else if r = 0 then 0x44C else 0x12C
  else if R.AGE_EC 0 ≤ key ∧ key < R.AGE_EC 16 then 9 * ((key - R.AGE_EC 0) / 8) + lo / 8
  else if R.EC_STAT 0 ≤ key ∧ key < R.EC_STAT 16 then (if lo = 54 then 0xFF else 0)
  else 0

/-- The reset value of a register (R13, R455): numbers of the tables, values of the image and of OTP, and rules. -/
def resetWord (img otp : Tbl Word) (key : Nat) : Word :=
  match regAt key with
  | none => 0
  | some d => d.fields.foldl (init := 0) fun w f =>
    let fl : Fld := ⟨f.hi, f.lo⟩
    match f.rst with
    | .val n => fl.set w n
    | .img => fl.set w (fl.get (tget 0 img key))
    | .otp => fl.set w (fl.get (tget 0 otp key))
    | .special => if key = R.PWR_ON then fl.set w (fl.get (tget 0 img R.PWR_RUN_MASK)) else fl.set w (specialReset key f.lo)

/-- The value in force of a register. -/
def State.raw (s : State) (key : Nat) : Word :=
  match tfind s.cfg.regs key with
  | some w => w
  | none => resetWord s.cfg.img s.cfg.otp key

/-- A state with a register's value in force replaced. -/
def State.setRaw (s : State) (key : Nat) (w : Word) : State :=
  { s with cfg := { s.cfg with regs := tput s.cfg.regs key w } }

/-- A field of a register in force. -/
def State.fld (s : State) (key : Nat) (f : Fld) : Nat := f.get (s.raw key)

/-- Whether a one-bit field in force is 1. -/
def State.flag (s : State) (key : Nat) (f : Fld) : Bool := s.fld key f == 1

/-- Writes a field of a register in force, the part's own write. -/
def State.setFld (s : State) (key : Nat) (f : Fld) (v : Nat) : State := s.setRaw key (f.set (s.raw key) v)

/-- A register's value in the copy of an epoch: the present one, or the previous one while it drains (R62, R63). -/
def State.rawE (s : State) (e key : Nat) : Word :=
  match s.cfg.prev with
  | some p => if e = p.epoch ∧ e ≠ s.cfg.epoch then
      (match tfind p.regs key with | some w => w | none => resetWord s.cfg.img s.cfg.otp key)
    else s.raw key
  | none => s.raw key

/-- A field in the copy of an epoch. -/
def State.fldE (s : State) (e key : Nat) (f : Fld) : Nat := f.get (s.rawE e key)

/-- The value a read of an SH register shows: the shadow value (R9). -/
def State.shadowOf (s : State) (key : Nat) : Word :=
  match tfind s.cfg.shadow key with
  | some w => w
  | none => s.raw key

/-- Adds to a 48-bit saturating event counter, or to any saturating field that fills a register (COUNT fields). -/
def State.count (s : State) (key : Nat) (n : Nat := 1) : State :=
  let c := bitsOf (s.raw key).toNat 0 48
  s.setRaw key (BitVec.ofNat 64 (min (c + n) (2 ^ 48 - 1)))

/-! ### Time -/

/-- Device time in microseconds. -/
def State.us (s : State) : Nat := s.now / 1000

/-- A fresh free value (log entry 5). -/
def State.fresh (s : State) : BitVec 64 × State :=
  (Config.freeWord s.freeCtr, { s with freeCtr := s.freeCtr + 1 })

/-- Sends something. -/
def State.emit (s : State) (o : Out) : State := { s with out := s.out ++ [o] }

/-- Adds work to be done before the command ends. -/
def State.addJob (s : State) (j : Job) : State := { s with xbc := { s.xbc with jobs := s.xbc.jobs ++ [j] } }

/-- A function reads host memory for an engine, or for a slice under its PASID (R308, R415). -/
def State.hostRead (s : State) (f : Fn) (addr len : Nat) (pasid : Option Nat := none) (acct : Nat := 129) : State :=
  (s.emit (.hostRead f addr len)).addJob (.own f addr [] len 0 pasid acct)

/-- A memory write of the device itself to a host, by one of its functions: a packet of account 129, which passes the ingress
lookup and is logged there (R76, R322). -/
def State.hostWrite (s : State) (f : Fn) (a : Nat) (bytes : List Byte) (tc : Nat := 0) : State :=
  (s.emit (.hostWrite f a bytes tc)).addJob (.own f a bytes 0 tc none 129)

/-- A vector of a function is signalled. -/
def State.signal (s : State) (f : Fn) (vector : Nat) : State := (s.emit (.msix f vector)).addJob (.msix f vector)

/-! ### Rings (R37 to R44) -/

/-- Ring index r of R45 and the failure rings of R333. -/
def RingId.base : RingId → Nat
  | .mcr => R.CTL_BASE 0 | .evr => R.CTL_BASE 1 | .ftr => R.CTL_BASE 2 | .smr => R.CTL_BASE 3 | .cdr => R.CTL_BASE 4
  | .fail v => R.DMV_FAIL_BASE v.val

/-- Key of a ring's CFG, PI, CI and STAT registers: all rings share one layout (R45, R333). -/
def RingId.cfg (r : RingId) : Nat := r.base + 0x08
/-- See `RingId.cfg`. -/
def RingId.pi (r : RingId) : Nat := r.base + 0x10
/-- See `RingId.cfg`. -/
def RingId.ci (r : RingId) : Nat := r.base + 0x18
/-- See `RingId.cfg`. -/
def RingId.stat (r : RingId) : Nat := r.base + 0x20

/-- Number of a ring in `CtlSt.rings`. -/
def RingId.num : RingId → Nat
  | .mcr => 0 | .evr => 1 | .ftr => 2 | .smr => 3 | .cdr => 4 | .fail v => 8 + v.val

/-- The function whose MSI-X vector a ring has, and the vector (R44, R321). -/
def RingId.vector : RingId → Fn × Nat
  | .mcr => (.mgmt, 0) | .evr => (.mgmt, 0) | .ftr => (.mgmt, 1) | .smr => (.mgmt, 2) | .cdr => (.mgmt, 3)
  | .fail v => (.dmv v.val, 0)

/-- Ring size in entries (R38). -/
def State.ringSize (s : State) (r : RingId) : Nat := 2 ^ s.fld r.cfg F.CTL_CFG_LOG2_SIZE
/-- Producer index (R39). -/
def State.ringPi (s : State) (r : RingId) : Nat := s.fld r.pi F.CTL_PI_INDEX
/-- Consumer index (R39). -/
def State.ringCi (s : State) (r : RingId) : Nat := s.fld r.ci F.CTL_CI_INDEX
/-- Entries in a ring: the indices count modulo twice its size (R39). -/
def State.ringUsed (s : State) (r : RingId) : Nat :=
  (s.ringPi r + 2 * s.ringSize r - s.ringCi r) % (2 * s.ringSize r)
/-- Whether a ring is enabled. -/
def State.ringOn (s : State) (r : RingId) : Bool := s.flag r.cfg F.CTL_CFG_EN
/-- Free slots of a device-written ring; a disabled ring counts as full (R43). -/
def State.ringRoom (s : State) (r : RingId) : Nat := if s.ringOn r then s.ringSize r - s.ringUsed r else 0
/-- Further state of a ring. -/
def State.ring (s : State) (r : RingId) : Ring := tget {} s.ctl.rings r.num
/-- Replaces it. -/
def State.setRing (s : State) (r : RingId) (x : Ring) : State :=
  { s with ctl := { s.ctl with rings := tput s.ctl.rings r.num x } }

/-- Fires a ring's vector and restarts its moderation; a vector with IRQ_COUNT = 0 never fires (R44). -/
def State.fire (s : State) (r : RingId) : State :=
  let x := s.ring r
  if s.fld r.cfg F.CTL_CFG_IRQ_COUNT = 0 then s
  else (s.setRing r { x with count := 0, timing := false }).signal r.vector.1 r.vector.2

/-- Counts one record for interrupt moderation (R44). -/
def State.moderate (s : State) (r : RingId) (force : Bool) : State :=
  let x := s.ring r
  let x' : Ring := { x with count := x.count + 1, first := if x.count = 0 then s.now else x.first, timing := true }
  let s' := s.setRing r x'
  let c := s.fld r.cfg F.CTL_CFG_IRQ_COUNT
  if c ≠ 0 ∧ (x'.count ≥ c ∨ force) then s'.fire r else s'

/-- PHASE of the slot at a producer index: 1 on the first pass, inverted on each later one (R41). -/
def phaseOf (size idx : Nat) : Nat := 1 - (idx / size) % 2

/-- Writes one 64-byte record to a device-written ring that has room: PHASE in bit 7 of byte 3, one memory write by the ring's
function, the producer index advanced (R41), interrupt moderation (R44). -/
def State.writeRecord (s : State) (r : RingId) (bytes : List Byte) (force : Bool := false) : State :=
  let idx := s.ringPi r
  let size := s.ringSize r
  let ph := BitVec.ofNat 8 (128 * phaseOf size idx)
  let b := padTo 64 bytes
  let b' := b.take 3 ++ [ph] ++ b.drop 4
  let addr := (s.raw r.base).toNat + 64 * (idx % size)
  let s1 := (s.emit (.record r (idx % size) addr b')).addJob (.own r.vector.1 addr b' 0 0 none 129)
  let s2 := s1.setFld r.pi F.CTL_PI_INDEX ((idx + 1) % (2 * size))
  s2.moderate r force

/-! ### Events and completions (R42, R53, R54, R568) -/

/-- The bytes of an EVR record; PHASE is put in when it is written (R53). -/
def Rec.bytes (e : Rec) (time : Nat) : List Byte :=
  leBytes 2 e.code ++ leBytes 1 e.status ++ [0] ++ leBytes 2 e.tag ++ leBytes 2 e.slot ++ leBytes 8 time
    ++ leBytes 8 e.result ++ leBytes 8 e.detail ++ padTo 32 e.data

/-- Writes an EVR record now. TIME is the moment of the write, of a record that was queued or held too: R53 says only that it
is the device timestamp (the model's choice; log entry 133). -/
def State.putEvr (s : State) (e : Rec) : State := s.writeRecord .evr (e.bytes s.now) e.irq

/-- A record lost on a ring: LOST saturates at 0xFFFF, OVF is set; true when OVF went from 0 to 1 (R42, R45). -/
def State.loseRecord (s : State) (r : RingId) (n : Nat := 1) : Bool × State :=
  let was := s.flag r.stat F.CTL_STAT_OVF
  let l := s.fld r.stat F.CTL_STAT_LOST
  let s1 := (s.setFld r.stat F.CTL_STAT_LOST (min (l + n) 0xFFFF)).setFld r.stat F.CTL_STAT_OVF 1
  (!was, s1)

/-- An event other than CMD_DONE: written, or queued while the EVR is full (256 entries), or lost (R42). The EVR's own
RING_OVERFLOW is held in its flag (R568). -/
def State.event (s : State) (e : Rec) : State :=
  if s.ringRoom .evr > 0 ∧ s.ctl.evq = [] ∧ s.ctl.held = [] ∧ ¬ s.ctl.evrOvfFlag then s.putEvr e
  else if s.ctl.evq.length < 256 then { s with ctl := { s.ctl with evq := s.ctl.evq ++ [e] } }
  else
    let (rose, s1) := s.loseRecord .evr
    if rose then { s1 with ctl := { s1.ctl with evrOvfFlag := true } } else s1

/-- A record lost on a ring of R37 other than the EVR: with RING_OVERFLOW when OVF rises (R568). -/
def State.lose (s : State) (r : RingId) (n : Nat := 1) : State :=
  let (rose, s1) := s.loseRecord r n
  if rose ∧ r.num < 5 then s1.event { code := 0x0005, data := leBytes 1 r.num } else s1

/-- CMD_DONE: written, or held until the EVR has room; no completion is ever lost (R42). -/
def State.cmdDone (s : State) (slot : Nat) (d : Desc) (status : Nat) (result : Nat := 0) (detail : Nat := 0) : State :=
  let e : Rec := { code := 0x0001, status := status, tag := d.tag, slot := slot, result := result, detail := detail, irq := d.irq }
  if s.ringRoom .evr > 0 ∧ s.ctl.evq = [] ∧ s.ctl.held = [] ∧ ¬ s.ctl.evrOvfFlag then s.putEvr e
  else { s with ctl := { s.ctl with held := s.ctl.held ++ [e] } }

/-- Status codes of R55. -/
def stSuccess : Nat := 0x00
/-- CFG_BUSY of R55. -/
def stCfgBusy : Nat := 0x01
/-- CFG_MISMATCH of R55. -/
def stCfgMismatch : Nat := 0x02
/-- BAD_OPCODE of R55. -/
def stBadOpcode : Nat := 0x03
/-- BAD_PARAM of R55. -/
def stBadParam : Nat := 0x04
/-- NO_SPACE of R55. -/
def stNoSpace : Nat := 0x05
/-- DMA_ERROR of R55. -/
def stDmaError : Nat := 0x06
/-- DENIED of R55. -/
def stDenied : Nat := 0x07
/-- ABORTED of R55. -/
def stAborted : Nat := 0x08
/-- EPOCH_STUCK of R55. -/
def stEpochStuck : Nat := 0x09
/-- SAFE_STATE of R55. -/
def stSafeState : Nat := 0x0A
/-- TABLE_ECC of R55. -/
def stTableEcc : Nat := 0x0B
/-- REFUSED of R55. -/
def stRefused : Nat := 0x0C

/-- A register-write error: the first is captured in CTL_CFG_ERR, later ones set OVF; each writes its EVR event with
the word of R46. -/
def State.cfgErr (s : State) (code key : Nat) : State :=
  let w := atBits code 48 8 ||| atBits (key / 0x40000) 40 8 ||| atBits (key % 0x40000) 0 18
  let s1 :=
    if s.flag R.CTL_CFG_ERR F.CTL_CFG_ERR_VALID then s.setFld R.CTL_CFG_ERR F.CTL_CFG_ERR_OVF 1
    else
      let ovf := s.fld R.CTL_CFG_ERR F.CTL_CFG_ERR_OVF
      s.setRaw R.CTL_CFG_ERR (BitVec.ofNat 64 (w ||| atBits 1 63 1 ||| atBits ovf 62 1))
  s1.event { code := if code = stCfgBusy then 0x0003 else 0x0004, data := leBytes 8 w }

/-- A register-write error. The word of R46 has room for the registers of BAR0 alone: for those of the DMV functions its
SLOT and OFFSET are free values. -/
def State.regErr (s : State) (code key : Nat) : State :=
  if key < 0x4000000 then s.cfgErr code key
  else
    let (f, s1) := s.fresh
    s1.cfgErr code (f.toNat % 2 ^ 26)

/-- BAD_PARAM for a register write (R46). -/
def State.badParam (s : State) (key : Nat) : State := s.cfgErr stBadParam key

/-! ### Performance counters (R504 to R509) -/

/-- Adds to a counter of the counter space, unless the counters are frozen; a wrap sets its overflow bit (R505). -/
def State.pmcAdd (s : State) (i n : Nat) : State :=
  if n = 0 ∨ s.flag R.PMC_CFG F.PMC_CFG_FREEZE then s
  else
    let c := tget 0 s.pmc.cnt i + n
    let s1 : State := { s with pmc := { s.pmc with cnt := tput s.pmc.cnt i (c % 2 ^ 48) } }
    if c ≥ 2 ^ 48 then s1.setRaw (R.PMC_OVF (i / 64)) (s1.raw (R.PMC_OVF (i / 64)) ||| BitVec.ofNat 64 (2 ^ (i % 64))) else s1

/-- Whether the events of a group carry a traffic class (R506). -/
def evHasTc (g : Nat) : Bool := [1, 2, 3, 4, 6, 9, 10].contains g

/-- Whether the selection of an event counter takes an event of a unit and class (R506). -/
def evTakes (w : Word) (g e mode unit tc : Nat) : Bool :=
  F.PMC_SEL_EN.get w == 1 && F.PMC_SEL_MODE.get w == mode && F.PMC_SEL_EVENT.get w == 4096 * g + e
    && (F.PMC_SEL_FILTER_EN.get w == 0 || (F.PMC_SEL_UNIT.get w == unit && (!evHasTc g || bitAt (F.PMC_SEL_TC_MASK.get w) tc)))

/-- The event counters that a write has given a selection, with it. -/
def State.pmcSels (s : State) : List (Nat × Word) :=
  s.cfg.regs.filterMap fun e => if R.PMC_SEL 0 ≤ e.1 ∧ e.1 < R.PMC_SEL 2048 then some ((e.1 - R.PMC_SEL 0) / 8, e.2) else none

/-- An event occurs `n` times, or with quantity `n`, at a unit in a class (R506). -/
def State.ev (s : State) (g e unit tc : Nat) (n : Nat := 1) : State :=
  (s.pmcSels.filter fun k => evTakes k.2 g e 0 unit tc).foldl (fun s k => s.pmcAdd k.1 n) s

/-- Slots of a port taken by bytes that were delivered (0) or wasted (1), which the slots earned from now on go to first
(R508, R509). -/
def State.slotDue (s : State) (p which bytes : Nat) : State :=
  { s with pmc := { s.pmc with due := tput s.pmc.due (2 * p + which) (tget 0 s.pmc.due (2 * p + which) + ceilDiv bytes 4) } }

/-! ### Fault messages (R399 to R401) -/

/-- The fault ID of a source and KIND (R401). -/
def faultId (source kind : Nat) : Nat :=
  if source ≥ 0x300 then 224 + (source - 0x300)
  else if source ≥ 0x2F0 then 32 * 6 + kind
  else if source ≥ 0x260 then 32 * 5 + kind
  else if source ≥ 0x240 then 32 * 4 + kind
  else if source ≥ 0x220 then 32 * 3 + kind
  else if source ≥ 0x1A0 then 32 * 2 + kind
  else if source ≥ 0x120 then 32 * 1 + kind
  else kind

/-- The class of a fault ID (R402 to R404). -/
def faultClass (f : Nat) : Nat :=
  match faultTable.find? fun t => t.1 == f with
  | some (_, c, _) => c
  | none => 0

/-- A fault message word (R399). -/
def faultWord (source kind block info : Nat) : Nat :=
  atBits source 53 11 ||| atBits kind 48 5 ||| atBits (faultClass (faultId source kind)) 46 2
    ||| atBits block 40 6 ||| atBits info 0 40

/-- Retrains and slot trips that the life ledger sums (R497). -/
def AgeSt.tally (a : AgeSt) (k : FaultKind) : AgeSt :=
  if k = Flt.SGL_RETRAIN then { a with retrains := a.retrains + 1 }
  else if k = Flt.SPC_FAST_TRIP ∨ k = Flt.SPC_TIMER_TRIP ∨ k = Flt.SPC_RAMP_TMO then { a with trips := a.trips + 1 }
  else a

/-- A block raises a fault: its message joins those that FCR takes in, one at each FAULT_MESSAGE (log entry 9). -/
def State.raise (s : State) (k : FaultKind) (inst : Nat := 0) (info : Nat := 0) (block : Nat := 0) : State :=
  { s with age := s.age.tally k, fcr := { s.fcr with inbox := s.fcr.inbox ++
      [{ word := faultWord (k.source + inst) k.kind block info, time := s.now, epoch := s.cfg.epoch, quiet := s.dct.quiet }] } }

/-- An error logged under AER by a function, and its ERR_* message (R199, R241, R411). -/
def State.aer (s : State) (fn : Fn) (e : AerErr) (msg : Nat) (h : Option Hdr := none) : State := (s.emit (.aer fn e h msg)).addJob (.errMsg fn msg)

end Sys2Proof.Machine
end

