-- ==== Sys2Proof/WellFormed.lean ====
section
/-! DEFINITION. Which commands are well formed: the numbers of ports, slices, lanes and so on lie in their ranges. -/

namespace Sys2Proof

/-- Whether every operand of a command lies in the range that the manual gives it. -/
def Instr.wf : Instr → Bool
  | .mcrDoorbell _ _ index => decide (index < 131072)
  | .ringCiWrite _ _ _ index => decide (index < 131072)
  | .ringEnable _ _ _ _ => true
  | .ringDisable _ _ _ _ => true
  | .ringStopped _ _ => true
  | .irqTimeExpiry _ _ => true
  | .ringOvfClear _ _ _ => true
  | .heldRecordWrite _ _ => true
  | .nop _ d => decide (d.tag < 2 ^ 16)
  | .tableWrite _ d _ _ => decide (d.tag < 2 ^ 16)
  | .tableRead _ d _ => decide (d.tag < 2 ^ 16)
  | .commit _ d => decide (d.tag < 2 ^ 16)
  | .epochStuck _ => true
  | .commitChecks _ => true
  | .portAdoptEpoch _ p => decide (p < 128)
  | .epochDrained _ => true
  | .shadowDiscard _ d => decide (d.tag < 2 ^ 16)
  | .harvest _ d _ => decide (d.tag < 2 ^ 16)
  | .powerStateTrim _ d target onMask => decide (d.tag < 2 ^ 16) && decide (target < 256) && decide (onMask < 2 ^ 64)
  | .powerStateKeepWarm _ d _ => decide (d.tag < 2 ^ 16)
  | .powerStateOff _ d _ => decide (d.tag < 2 ^ 16)
  | .decantArm _ d mode => decide (d.tag < 2 ^ 16) && decide (mode < 256)
  | .counterDump _ d set _ => decide (d.tag < 2 ^ 16) && decide (set < 256)
  | .faultAck _ d _ _ flags => decide (d.tag < 2 ^ 16) && decide (flags < 256)
  | .unlistedOpcode _ d op => decide (d.tag < 2 ^ 16) && decide (op < 256)
  | .descriptorReadError _ => true
  | .registerWrite _ _ _ _ _ => true
  | .readClear _ _ _ _ _ => true
  | .tlpReceive _ p _ => decide (p < 128)
  | .lookupResume _ _ tc => decide (tc < 8)
  | .egressSelect _ p _ => decide (p < 128)
  | .egressSendDone _ p => decide (p < 128)
  | .ctStallTimeout _ p => decide (p < 128)
  | .ageSweep _ q => decide (q < 8)
  | .sbReclaim _ => true
  | .sampleWrite _ => true
  | .samplingEnable _ _ p _ => decide (p < 128)
  | .fenceMessage _ v tc _ _ => decide (v < 32) && decide (tc < 8)
  | .fenceTake _ _ => true
  | .flushSend _ _ r => decide (r < 4)
  | .flushCompletion _ => true
  | .fenceRecordWrite _ _ => true
  | .gapTimeout _ w => decide (w < 65536)
  | .seqSkip _ p src dst tc seq => decide (p < 128) && decide (src < 4096) && decide (dst < 4096) && decide (tc < 8) && decide (seq < 65536)
  | .escape _ q => decide (q < 32768)
  | .wheelSlot _ q slot => decide (q < 8) && decide (slot < 65536)
  | .postedDelay _ _ => true
  | .histogramSample _ q => decide (q < 8)
  | .snapshot _ _ _ q => decide (q < 32768)
  | .xltMiss _ _ => true
  | .busyRetry _ _ => true
  | .cplTimeout _ _ => true
  | .quarantineEnd _ _ _ _ => true
  | .pwfNote _ p _ => decide (p < 128)
  | .failRingWrite _ _ => true
  | .lockReq _ p owner target => decide (p < 128) && decide (owner < 4096) && decide (target < 4096)
  | .lockGrant _ p owner target id => decide (p < 128) && decide (owner < 4096) && decide (target < 4096) && decide (id < 65536)
  | .lockRelease _ p owner target id => decide (p < 128) && decide (owner < 4096) && decide (target < 4096) && decide (id < 65536)
  | .lockBreak _ p reason owner target id => decide (p < 128) && decide (reason < 256) && decide (owner < 4096) && decide (target < 4096) && decide (id < 65536)
  | .lockTimer _ => true
  | .lockGrantTimeout _ v => decide (v < 32)
  | .prefetchFill _ => true
  | .prefetchExpiry _ _ => true
  | .sidebandRateSend _ _ => true
  | .cfgrqGo _ _ p _ => decide (p < 128)
  | .cfgrqDone _ p st _ => decide (p < 128) && decide (st < 8)
  | .cfgrqTimeout _ p => decide (p < 128)
  | .pcieLinkUp _ p _ => decide (p < 128)
  | .pcieLinkDown _ p => decide (p < 128)
  | .aspmL1Entry _ p => decide (p < 128)
  | .l0pNarrow _ p _ => decide (p < 128)
  | .perstN _ p _ => decide (p < 128)
  | .hotReset _ p => decide (p < 128)
  | .secondaryBusReset _ p => decide (p < 128)
  | .vsReady _ v => decide (v < 32)
  | .mgmtFlr _ => true
  | .busMasterClear _ p => decide (p < 128)
  | .dpcRelease _ p => decide (p < 128)
  | .slotPerstDeassert _ p => decide (p < 128)
  | .pcieReplayTimeout _ p _ => decide (p < 128)
  | .flitSend _ p _ => decide (p < 128)
  | .flitReceive _ p raw => decide (p < 128) && decide (raw.length = 256)
  | .ack _ p _ a => decide (p < 128) && decide (a < 4096)
  | .replayTimer _ p => decide (p < 128)
  | .credit _ p first cc vals => decide (p < 128) && decide (first < 256) && decide (cc < 256) && decide (vals.length = 6)
  | .creditInit _ p first cc vals => decide (p < 128) && decide (first < 256) && decide (cc < 256) && decide (vals.length = 6)
  | .linkParam _ p fid partner => decide (p < 128) && decide (fid < 4096) && decide (partner < 128)
  | .linkInitTimeout _ p => decide (p < 128)
  | .swapCmd _ _ p lane => decide (p < 128) && decide (lane < 16)
  | .laneSwap _ p lane => decide (p < 128) && decide (lane < 256)
  | .laneSwapAck _ p lane result fsn => decide (p < 128) && decide (lane < 256) && decide (result < 256) && decide (fsn < 4096)
  | .laneSwapDone _ p lane => decide (p < 128) && decide (lane < 256)
  | .laneSwapTimeout _ p => decide (p < 128)
  | .retrainPattern _ op => decide (op.port < 128)
  | .retrainDone _ p => decide (p < 128)
  | .retrainTimeout _ p => decide (p < 128)
  | .alignmentLoss _ p lane _ => decide (p < 128) && decide (lane < 16)
  | .bringupRetry _ p => decide (p < 128)
  | .adminDown _ _ p => decide (p < 128)
  | .adminUp _ _ p => decide (p < 128)
  | .cdrLock _ g l => decide (g < 32) && decide (l < 9)
  | .adapted _ g l _ => decide (g < 32) && decide (l < 9)
  | .bitslipTry _ g l _ => decide (g < 32) && decide (l < 9)
  | .bitslipDone _ _ g => decide (g < 32)
  | .txeqRound _ g l _ _ => decide (g < 32) && decide (l < 9)
  | .alignDone _ p _ => decide (p < 128)
  | .bringupTimeout _ p => decide (p < 128)
  | .driftCheck _ g l _ _ => decide (g < 32) && decide (l < 9)
  | .freezeEnd _ g l => decide (g < 32) && decide (l < 9)
  | .eyeScanGo _ _ g _ _ => decide (g < 32)
  | .eyePointDone _ g _ _ => decide (g < 32)
  | .prbsInject _ _ g l => decide (g < 32) && decide (l < 9)
  | .cdrLost _ g l => decide (g < 32) && decide (l < 9)
  | .prbsCheckerLock _ g l => decide (g < 32) && decide (l < 9)
  | .prbsCheckerUnlock _ g l _ => decide (g < 32) && decide (l < 9)
  | .sqDoorbell _ n index => decide (n < 4096) && decide (index < 131072)
  | .cqDoorbell _ n index => decide (n < 4096) && decide (index < 131072)
  | .sliceEnable _ n => decide (n < 4096)
  | .sliceDisable _ n => decide (n < 4096)
  | .sliceAbort _ n => decide (n < 4096)
  | .descriptorFetch _ n bytes _ => decide (n < 4096) && decide (bytes.length = 64)
  | .descNop _ n => decide (n < 4096)
  | .descCopy _ n => decide (n < 4096)
  | .descFill _ n => decide (n < 4096)
  | .descCompare _ n => decide (n < 4096)
  | .descFence _ n => decide (n < 4096)
  | .descChecksum _ n => decide (n < 4096)
  | .sliceIssue _ => true
  | .dmvReadCompletion _ => true
  | .dmvReadTimeout _ n _ _ => decide (n < 4096)
  | .cqEntryWrite _ n => decide (n < 4096)
  | .dmvFlr _ v => decide (v < 32)
  | .dmvBusMasterClear _ v => decide (v < 32)
  | .dmvBusMasterSet _ v => decide (v < 32)
  | .cacheMerge _ => true
  | .contextEnable _ _ c _ => decide (c < 1024)
  | .contextReady _ c => decide (c < 1024)
  | .contextDisable _ _ c _ => decide (c < 1024)
  | .harvestDrained _ => true
  | .harvestFlushDone _ => true
  | .harvestFlushTimeout _ => true
  | .pwrfailFall _ => true
  | .pwrfailConfirm _ _ => true
  | .drainEnd _ => true
  | .drainDeadline _ => true
  | .portFlush _ p => decide (p < 128)
  | .decantFlushAnswer _ => true
  | .budgetEnd _ => true
  | .seal _ => true
  | .keepWarmEntry _ => true
  | .keepExpired _ => true
  | .keepWarmExit _ _ _ _ => true
  | .decantAbandoned _ => true
  | .stopAnswer _ => true
  | .stopTimeout _ => true
  | .domainWakeReady _ _ => true
  | .wakeTimeout _ => true
  | .padRelease _ _ k bits => decide (k < 2) && decide (bits < 2 ^ 64)
  | .wakeGpio _ => true
  | .calendarWake _ => true
  | .pwrfailRise _ => true
  | .spcSample _ n _ => decide (n < 32)
  | .fastTrip _ x => decide (x.ctl < 32) && decide (x.rail < 2) && decide (x.shunt < 65536)
  | .timerTrip _ n _ => decide (n < 32)
  | .rampTmo _ n _ => decide (n < 32)
  | .inputTurnOff _ n _ => decide (n < 32)
  | .presenceLost _ n _ => decide (n < 32)
  | .insertionDelayEnd _ n _ => decide (n < 32)
  | .rearmHoldEnd _ n _ => decide (n < 32)
  | .slotEnable _ n => decide (n < 32)
  | .slotDisable _ n => decide (n < 32)
  | .analogLoss x => decide (1 ≤ x.ctls ∧ x.ctls < 2 ^ 32)
  | .attentionButtonPressed _ n => decide (n < 32)
  | .faultMessage _ _ => true
  | .countWindowClose _ => true
  | .faultForce _ _ j bits => decide (j < 24) && decide (bits < 2 ^ 64)
  | .latchRearm _ _ => true
  | .arbitrationPhase _ d _ _ => decide (d < 4)
  | .urgent _ d r _ => decide (d < 4) && decide (r < 32)
  | .tableWordRead _ _ _ _ => true
  | .patrolScrub _ d _ => decide (d < 4)
  | .ondieScrub _ => true
  | .fillDone _ d => decide (d < 4)
  | .dieFail _ d => decide (d < 4)
  | .relocBlock _ => true
  | .nonceRead _ _ => true
  | .lifecycleGo _ _ target => decide (target < 8)
  | .lifecycleCheckDone _ _ _ => true
  | .flashErase _ _ sector => decide (sector < 8192)
  | .flashProgram _ _ sector => decide (sector < 8192)
  | .flashRead _ _ sector => decide (sector < 8192)
  | .flashDone _ _ _ => true
  | .getVersion _ via => decide (via < 33)
  | .getCapabilities _ via => decide (via < 33)
  | .negotiateAlgorithms _ via => decide (via < 33)
  | .getDigests _ via => decide (via < 33)
  | .getCertificate _ via _ _ _ => decide (via < 33)
  | .getMeasurements _ via index _ nonce => decide (via < 33) && decide (index < 256) && decide (nonce.length = 32)
  | .keyExchange _ via _ => decide (via < 33)
  | .query _ _ index => decide (index < 256)
  | .keyProg _ _ _ => true
  | .kSetGo _ _ => true
  | .kSetStop _ _ => true
  | .extest _ => true
  | .samplePreload _ => true
  | .idcode _ => true
  | .memAccess _ _ _ _ _ => true
  | .unlockChallenge _ => true
  | .unlock _ _ _ => true
  | .coreDebug _ => true
  | .bypass _ => true
  | .mpuLock _ _ n => decide (n < 256)
  | .violationRearm _ _ => true
  | .challenge _ via _ nonce => decide (via < 33) && decide (nonce.length = 32)
  | .spdmSessionEnd _ _ _ => true
  | .cuppingRound _ _ _ => true
  | .slackSample _ _ _ => true
  | .gbClr _ _ => true
  | .engineWatchdog _ e => decide (e < 144)
  | .engineStop _ _ => true
  | .rowRepairDone _ => true
  | .ledgerSummary _ => true
  | .ledgerRead _ _ index => decide (index < 2048)
  | .calendarSet _ _ seconds => decide (seconds < 2 ^ 48)
  | .counterClear _ _ k => decide (k < 2048)
  | .periodicDump _ => true
  | .engineSample _ _ _ _ => true
  | .coldBoot _ _ _ => true
  | .resetN _ _ => true
  | .warmReset _ _ _ => true
  | .refLost _ _ => true
  | .holdoverEnd _ => true
  | .xtalFail _ => true
  | .ptmCapture _ p master => decide (p < 128) && decide (master < 2 ^ 64)
  | .thermalSample _ _ => true
  | .mainSupplyLoss _ => true
  | .vauxDrop _ => true
  | .refReturn _ _ => true
  | .xtalRestart _ => true
  | .aspmL1Exit _ p => decide (p < 128)

end Sys2Proof
end

