-- ==== Sys2Proof/Decode.lean ====
section
/-! DEFINITION. Words that spell commands: the opcode table gives no row any bits, so none does. The 64 bytes of an MCR
descriptor do spell a command: its layout is read here (R47, R49, R50 and the chapters that own the operands). -/

namespace Sys2Proof
open Machine

/-- The command that a word spells by the table's bits: no row gives any, so no word spells one. -/
def decodeTableWord (_nbits _w : Nat) : Option Instr := none

/-- FLAGS and TAG of a descriptor: bit 0 of byte 1 is IRQ, bytes 2 and 3 are TAG (R47). -/
def descOf (b : List Byte) : Desc := { irq := bitAt (leAt b 1 1) 0, tag := leAt b 2 2 }

/-- Operands of TABLE_WRITE and TABLE_READ (R50). -/
def tableOpOf (b : List Byte) : TableOp :=
  { tableId := leAt b 8 1, copy := leAt b 9 1, first := leAt b 12 4, count := leAt b 16 4, addr := leAt b 24 8 }

/-- Operands of HARVEST (R327). -/
def harvestOpOf (b : List Byte) : HarvestOp :=
  { ctx := leAt b 8 2, flags := leAt b 10 1, maxEnt := leAt b 12 4, addr := leAt b 16 8 }

/-- FLAGS, DRAIN_MS and WAKE_AFTER_S of POWER_STATE (R364). -/
def powerOpOf (b : List Byte) : PowerOp := { flags := leAt b 9 1, drainMs := leAt b 10 2, wakeAfter := leAt b 12 4 }

/-- The command of a fetched MCR descriptor by its OPCODE, byte 0 (R47, R49). `data` is what the read of ADDR returns to a
TABLE_WRITE. A POWER_STATE whose TARGET is above 0x03 is the command of R365 that completes with BAD_PARAM. -/
def mcrCommand (dt : Nat) (b : List Byte) (data : Option (List Byte)) : Instr :=
  let d := descOf b
  let target := leAt b 8 1
  match leAt b 0 1 with
  | 0x00 => .nop dt d
  | 0x01 => .tableWrite dt d (tableOpOf b) data
  | 0x02 => .tableRead dt d (tableOpOf b)
  | 0x03 => .commit dt d
  | 0x04 => .shadowDiscard dt d
  | 0x10 => .harvest dt d (harvestOpOf b)
  | 0x20 =>
    if target = 2 then .powerStateKeepWarm dt d (powerOpOf b)
    else if target = 3 then .powerStateOff dt d (powerOpOf b)
    else .powerStateTrim dt d target (leAt b 16 8)
  | 0x21 => .decantArm dt d (leAt b 8 1)
  | 0x30 => .counterDump dt d (leAt b 8 1 % 8) (bitAt (leAt b 9 1) 0)
  | 0x31 => .faultAck dt d (leAt b 8 4) (leAt b 12 4) (leAt b 16 1)
  | op => .unlistedOpcode dt d op

end Sys2Proof
end

