-- ==== Sys2Proof/Machine/Operands.lean ====
section
/-! DEFINITION. Operand forms: the Scango packet header (R126), flits and their CRC and FEC (R244 to R249), crema
messages (R145, R197, R203, R264), the CRC-32C of R311 and the flow hash (R136). -/

namespace Sys2Proof.Machine

/-! ### CRC-32C and the flow hash -/

/-- One bit of the reflected CRC-32C register (R311). -/
def crc32cBit (r : Nat) : Nat := if r % 2 = 1 then (r / 2) ^^^ 0x82F63B78 else r / 2

/-- One byte of CRC-32C. -/
def crc32cByte (r : Nat) (b : Byte) : Nat :=
  let x := r ^^^ b.toNat
  crc32cBit (crc32cBit (crc32cBit (crc32cBit (crc32cBit (crc32cBit (crc32cBit (crc32cBit x)))))))

/-- CRC-32C of bytes with a SEED: the register starts at SEED XOR 0xFFFF_FFFF and the result is inverted (R311). -/
def crc32c (seed : Nat) (bs : List Byte) : Nat :=
  (bs.foldl crc32cByte (seed % 2 ^ 32 ^^^ 0xFFFFFFFF)) ^^^ 0xFFFFFFFF

/-- The key of a flow: K = SRC_FID * 2^15 + DST_FID * 2^3 + TC (R136). -/
def flowKey (src dst tc : Nat) : Nat := src * 2 ^ 15 + dst * 2 ^ 3 + tc

/-- The flow hash H of R136. -/
def flowHash (key : Nat) : Nat := crc32c 0 (leBytes 4 key)

/-! ### The Scango header (R126) -/

/-- The KIND code of a packet kind (R126). -/
def PktKind.code : PktKind → Nat
  | .mwr => 0 | .mrd => 1 | .atomic => 2 | .mrdlk => 3 | .cpl => 4 | .cpld => 5 | .cpldlk => 6 | .msg => 7
  | .io => 8 | .cfg => 9

/-- The kind that a KIND code of R126 names; none for a reserved code. -/
def kindOf : Nat → Option PktKind
  | 0 => some .mwr | 1 => some .mrd | 2 => some .atomic | 3 => some .mrdlk | 4 => some .cpl | 5 => some .cpld
  | 6 => some .cpldlk | 7 => some .msg | _ => none

/-- Whether a kind is a completion. -/
def PktKind.isCpl : PktKind → Bool
  | .cpl | .cpld | .cpldlk => true
  | _ => false

/-- Whether a kind is a posted request. -/
def PktKind.isPosted : PktKind → Bool
  | .mwr | .msg => true
  | _ => false

/-- Whether a kind is a non-posted request. -/
def PktKind.isNp (k : PktKind) : Bool := !k.isCpl && !k.isPosted

/-- Word W0 of a Scango header (R126). -/
def Hdr.w0 (h : Hdr) : Nat :=
  atBits 1 62 2 ||| atBits h.kind.code 58 4 ||| atBits h.dst 46 12 ||| atBits h.src 34 12 ||| atBits h.seq 18 16
  ||| atBits h.tc 15 3 ||| atBits h.colour 13 2 ||| atBits (b2n h.ro) 12 1 ||| atBits (b2n h.ido) 11 1
  ||| atBits (b2n h.poison) 10 1 ||| atBits (b2n h.byp) 9 1 ||| atBits (b2n h.sync) 8 1 ||| atBits (b2n h.esc) 7 1
  ||| atBits (b2n h.dl) 6 1 ||| atBits (b2n h.down) 5 1 ||| atBits h.ttl 0 5

/-- Whether the header is that of a read, whose length travels in BYTE_CNT, its LEN being 0 (log entry 11). -/
def Hdr.isRead (h : Hdr) : Bool := h.kind == .mrd || h.kind == .mrdlk

/-- Word W1. -/
def Hdr.w1 (h : Hdr) : Nat := atBits (if h.isRead then 0 else h.len) 54 10 ||| atBits h.offset 0 52

/-- Word W2. -/
def Hdr.w2 (h : Hdr) : Nat :=
  atBits h.tag 50 14 ||| atBits h.reqId 34 16 ||| atBits h.fbe 30 4 ||| atBits h.lbe 26 4 ||| atBits h.status 22 4
  ||| atBits (if h.isRead then 4 * h.len else h.byteCnt) 9 13 ||| atBits h.subcode 0 8

/-- Word W3. -/
def Hdr.w3 (h : Hdr) : Nat :=
  (match h.pasid with | some p => atBits p 44 20 ||| atBits 1 43 1 | none => 0)
  ||| atBits (b2n h.salv) 42 1 ||| atBits (b2n h.flush) 41 1

/-- The 32 header bytes, each word most significant byte first (R126). -/
def Hdr.bytes (h : Hdr) : List Byte := beBytes 8 h.w0 ++ beBytes 8 h.w1 ++ beBytes 8 h.w2 ++ beBytes 8 h.w3

/-- A Scango header read from its 32 bytes. Reserved bits are ignored; VER and KIND that R127 refuses are kept in
`badVer`. -/
def readHdr (bs : List Byte) : Hdr :=
  let w0 := beAt bs 0 8
  let w1 := beAt bs 8 8
  let w2 := beAt bs 16 8
  let w3 := beAt bs 24 8
  let ver := bitsOf w0 62 2
  let k := bitsOf w0 58 4
  { kind := (kindOf k).getD .msg, fab := true,
    badVer := if ver = 1 ∧ (kindOf k).isSome then none else some (ver, k),
    dst := bitsOf w0 46 12, src := bitsOf w0 34 12, seq := bitsOf w0 18 16, tc := bitsOf w0 15 3,
    colour := bitsOf w0 13 2, ro := bitAt w0 12, ido := bitAt w0 11, poison := bitAt w0 10, byp := bitAt w0 9,
    sync := bitAt w0 8, esc := bitAt w0 7, dl := bitAt w0 6, down := bitAt w0 5, ttl := bitsOf w0 0 5,
    len := if (k = 1 ∨ k = 3) ∧ bitsOf w1 54 10 = 0 then bitsOf w2 9 13 / 4 else bitsOf w1 54 10,
    offset := bitsOf w1 0 52, tag := bitsOf w2 50 14, reqId := bitsOf w2 34 16,
    fbe := bitsOf w2 30 4, lbe := bitsOf w2 26 4, status := bitsOf w2 22 4, byteCnt := bitsOf w2 9 13,
    subcode := bitsOf w2 0 8, pasid := if bitAt w3 43 then some (bitsOf w3 44 20) else none,
    salv := bitAt w3 42, flush := bitAt w3 41, hlen := 32 }

/-- Whether a packet of this header carries a payload of LEN doublewords. -/
def Hdr.hasData (h : Hdr) : Bool :=
  match h.kind with
  | .mwr | .cpld | .cpldlk => true
  | .msg | .atomic => true
  | .io | .cfg => h.write
  | _ => false

/-- Payload bytes of a packet. A Scango packet of any kind carries LEN doublewords (R126, R246), but a read's LEN
names the bytes asked for, and its packet has no payload. -/
def Hdr.payloadLen (h : Hdr) : Nat := if h.hasData then 4 * h.len else 0

/-- Length L of a packet in bytes, header included (R35). -/
def Hdr.size (h : Hdr) : Nat := (if h.fab then 32 else h.hlen) + h.payloadLen

/-- Cells a packet occupies (R35). -/
def Hdr.cells (h : Hdr) : Nat := max 1 (ceilDiv h.size 64)

/-- Bytes of the first doubleword that a memory request does not ask for, by its byte enables. -/
def Hdr.lead (h : Hdr) : Nat :=
  if h.fbe % 16 = 0 ∨ bitAt h.fbe 0 then 0 else if bitAt h.fbe 1 then 1 else if bitAt h.fbe 2 then 2 else 3

/-- Bytes that a memory read asks for, by its length and byte enables (Base Specification; R191). -/
def Hdr.readBytes (h : Hdr) : Nat :=
  let lead := h.lead
  let be := if h.lbe % 16 = 0 then h.fbe else h.lbe
  let trail := if bitAt be 3 then 0 else if bitAt be 2 then 1 else if bitAt be 1 then 2 else 3
  if h.fbe % 16 = 0 then 1 else 4 * h.len - lead - trail

/-! ### Crema messages (R145, R197, R203, R264) -/

/-- A message of 32 bytes from its first bytes. -/
def crema (bs : List Byte) : List Byte := padTo 32 bs

/-- SEQ_SKIP (R145). -/
def skipMsg (dst src tc seq : Nat) : List Byte :=
  crema ([0x08, 0] ++ beBytes 2 (dst % 4096) ++ beBytes 2 (src % 4096) ++ beBytes 1 (tc % 8) ++ [0] ++ beBytes 2 seq)

/-- A lock message (R203). -/
def lockMsg (ty reason owner target id : Nat) : List Byte :=
  crema (beBytes 1 ty ++ beBytes 1 reason ++ beBytes 2 owner ++ beBytes 2 target ++ beBytes 2 id)

/-- A standalone ACK or NAK (R264). -/
def ackMsg (nak : Bool) (ack : Nat) : List Byte := crema ([0x01] ++ beBytes 1 (b2n nak) ++ beBytes 2 (ack % 4096))

/-! ### CRC-64 and FEC of a flit (R248, R249) -/

/-- One bit of the CRC-64 register, most significant bit first (R248). -/
def crc64Bit (r : Nat) : Nat :=
  if r ≥ 2 ^ 63 then ((2 * r) % 2 ^ 64) ^^^ 0x42F0E1EBA9EA3693 else 2 * r

/-- One byte of CRC-64. -/
def crc64Byte (r : Nat) (b : Byte) : Nat :=
  let x := r ^^^ (b.toNat <<< 56)
  crc64Bit (crc64Bit (crc64Bit (crc64Bit (crc64Bit (crc64Bit (crc64Bit (crc64Bit x)))))))

/-- The CRC of flit bytes 0 to 239: starts at all ones, inverted at the end (R248). -/
def crc64 (bs : List Byte) : Nat := (bs.foldl crc64Byte (2 ^ 64 - 1)) ^^^ (2 ^ 64 - 1)

/-- Multiplication by α = x in GF(2^8) with x^8 + x^4 + x^3 + x^2 + 1 (R249). -/
def gfX (a : Nat) : Nat := if a ≥ 128 then ((2 * a) % 256) ^^^ 0x1D else 2 * a

/-- Product in GF(2^8), by the bits of the second factor from bit `n - 1` down. -/
def gfMulN (a b : Nat) : Nat → Nat
  | 0 => 0
  | n + 1 => (if bitAt b (7 - n) then a else 0) ^^^ gfX (gfMulN a b n)

/-- Product in GF(2^8). -/
def gfMul (a b : Nat) : Nat := gfMulN a b 8

/-- The power α^n. -/
def gfPow : Nat → Nat
  | 0 => 1
  | n + 1 => gfX (gfPow n)

/-- The value of a codeword polynomial at a point, first byte the highest power (log entry 10). -/
def gfEval (x : Nat) (cs : List Nat) : Nat := cs.foldl (fun acc c => gfMul acc x ^^^ c) 0

/-- Bytes of codeword `j` of a list of flit bytes starting at flit byte `i`: those with index ≡ j mod 3 (R249). -/
def codeword (j : Nat) : Nat → List Byte → List Nat
  | _, [] => []
  | i, b :: bs => if i % 3 = j then b.toNat :: codeword j (i + 1) bs else codeword j (i + 1) bs

/-- Number of check bytes of codeword j (R249). -/
def checkBytes (j : Nat) : Nat := if j = 1 then 2 else 3

/-- One step of the division by the generator polynomial with roots α^0 to α^(k-1). -/
def rsStep (k : Nat) (reg : List Nat) (m : Nat) : List Nat :=
  let fb := m ^^^ reg.headD 0
  let g := if k = 2 then [3, 2] else [7, 14, 8]
  ((reg.drop 1 ++ [0]).zip g).map fun (r, c) => r ^^^ gfMul c fb

/-- The check bytes of a codeword's message bytes. -/
def rsCheck (k : Nat) (ms : List Nat) : List Nat := ms.foldl (rsStep k) (List.replicate k 0)

/-- The place of a single error with the given syndromes, counted from the last byte, among `n` bytes. -/
def rsFind (s0 s1 : Nat) : Nat → Option Nat
  | 0 => none
  | n + 1 => match rsFind s0 s1 n with
    | some p => some p
    | none => if gfMul s0 (gfPow n) = s1 then some n else none

/-- Decodes one codeword: the corrected bytes and the index corrected, or none where it does not decode. -/
def rsDecode (k : Nat) (cs : List Nat) : Option (List Nat × Option Nat) :=
  let s0 := gfEval 1 cs
  let s1 := gfEval 2 cs
  let s2 := gfEval 4 cs
  if s0 = 0 ∧ s1 = 0 ∧ (k = 2 ∨ s2 = 0) then some (cs, none)
  else if s0 = 0 then none
  else match rsFind s0 s1 cs.length with
    | none => none
    | some p =>
      if k = 3 ∧ gfMul s1 (gfPow p) ≠ s2 then none
      else
        let i := cs.length - 1 - p
        some (cs.set i ((cs.getD i 0) ^^^ s0), some i)

/-- The FEC check bytes 248 to 255 in flit order: codewords 2, 0, 1, 2, 0, 1, 2, 0 (R249). -/
def fecBytes (bs : List Byte) : List Byte :=
  let c0 := rsCheck 3 (codeword 0 0 bs)
  let c1 := rsCheck 2 (codeword 1 0 bs)
  let c2 := rsCheck 3 (codeword 2 0 bs)
  [c2.getD 0 0, c0.getD 0 0, c1.getD 0 0, c2.getD 1 0, c0.getD 1 0, c1.getD 1 0, c2.getD 2 0, c0.getD 2 0].map (BitVec.ofNat 8)

/-- A whole flit from its header word and payload (R244, R245). -/
def mkFlit (ty fsn ack start : Nat) (payload : List Byte) : List Byte :=
  let hd := beBytes 4 (atBits ty 30 2 ||| atBits fsn 18 12 ||| atBits ack 6 12 ||| atBits start 0 6)
  let body := hd ++ padTo 236 payload
  let c := body ++ beBytes 8 (crc64 body)
  c ++ fecBytes c

/-- Puts corrected codewords back into flit order. -/
def interleave : Nat → List Nat → List Nat → List Nat → Nat → List Byte
  | 0, _, _, _, _ => []
  | n + 1, a, b, c, i =>
    if i % 3 = 0 then BitVec.ofNat 8 (a.headD 0) :: interleave n a.tail b c (i + 1)
    else if i % 3 = 1 then BitVec.ofNat 8 (b.headD 0) :: interleave n a b.tail c (i + 1)
    else BitVec.ofNat 8 (c.headD 0) :: interleave n a b c.tail (i + 1)

/-- Indices of the bytes that FEC corrects in a flit, in every codeword that decodes, whether or not the flit passes (R250). -/
def flitFixes (bs : List Byte) : List Nat :=
  let f := padTo 256 bs
  let fix := fun (n k : Nat) => match rsDecode n (codeword k 0 f) with
    | some (_, i) => i.toList.map fun j => 3 * j + k
    | none => []
  fix 3 0 ++ fix 2 1 ++ fix 3 2

/-- Decodes FEC, then checks the CRC (R250): the corrected flit bytes and the indices of corrected bytes. -/
def decodeFlit (bs : List Byte) : Option (List Byte × List Nat) :=
  let f := padTo 256 bs
  match rsDecode 3 (codeword 0 0 f), rsDecode 2 (codeword 1 0 f), rsDecode 3 (codeword 2 0 f) with
  | some (a, ia), some (b, ib), some (c, ic) =>
    let g := interleave 256 a b c 0
    let fixed := (ia.toList.map fun i => 3 * i) ++ (ib.toList.map fun i => 3 * i + 1) ++ (ic.toList.map fun i => 3 * i + 2)
    if beAt g 240 8 = crc64 (g.take 240) then some (g, fixed) else none
  | _, _, _ => none

end Sys2Proof.Machine
end

