-- ==== Sys2Proof/Machine/Buffer.lean ====
section
/-! DEFINITION. The shared buffer (03_switch_core.md): cells and packets, admission and its retries, credits, the
tables by epoch, and the discard of a packet. -/

namespace Sys2Proof.Machine

/-! ### Epochs and tables -/

/-- Whether an answer is one to a flush of a commit fence (R116). -/
def Answer.ofFence (a : Answer) : Bool := match a.origin with | .fence _ _ => true | _ => false

/-- Whether an answer is one to a prefetch (R205). -/
def Answer.ofPrefetch (a : Answer) : Bool := match a.origin with | .prefetch _ => true | _ => false

/-- Whether an answer is one to a flush of a decant (R347). -/
def Answer.ofDecant (a : Answer) : Bool := match a.origin with | .decant _ => true | _ => false

/-- Whether an answer is one to a read of a slice (R315). -/
def Answer.ofSlice (a : Answer) : Bool := match a.origin with | .slice _ _ part => decide (part ≠ 255) | _ => false

/-- The epoch a port works under: the previous one until it adopts the new (R60 step 4). -/
def State.portEpoch (s : State) (p : Nat) : Nat :=
  if p ∈ s.ctl.adopting then (match s.cfg.prev with | some q => q.epoch | none => s.cfg.epoch) else s.cfg.epoch

/-- Whether an epoch number is that of the previous copy. -/
def State.isPrev (s : State) (e : Nat) : Bool :=
  match s.cfg.prev with | some p => e == p.epoch && e != s.cfg.epoch | none => false

/-- Start of on-die table `t` (R51). -/
def onDieBase (t : Nat) : Nat := t * 2 ^ 24

/-- A little-endian number of `n` bytes in an on-die table's copy of an epoch (R6, R62). -/
def State.onDieAt (s : State) (e t off n : Nat) : Nat :=
  let m := match s.cfg.prev with | some p => if s.isPrev e then p.onDie else s.cfg.onDie | none => s.cfg.onDie
  ofLe (Mem.rdN 0 m (onDieBase t + off) n)

/-- Whether an entry of an on-die table fails its parity in the copy of an epoch (R151, R175, R208). -/
def State.entryFaulty (s : State) (e t i : Nat) : Bool :=
  match s.cfg.prev with
  | some p => if s.isPrev e then p.faulty.contains (t, i) else s.cfg.faulty.contains (t, i)
  | none => s.cfg.faulty.contains (t, i)

/-- A little-endian number of `n` bytes of table memory in the copy of an epoch. -/
def State.tmAt (s : State) (e a n : Nat) : Nat :=
  let m := match s.cfg.prev with | some p => if s.isPrev e then p.tm else s.cfg.tm | none => s.cfg.tm
  ofLe (Mem.rdN 0 m a n)

/-- A port of the image. -/
def State.port (s : State) (p : Nat) : Option PortInfo := tfind s.cfg.ports p

/-- Whether a port is a Scango link. -/
def State.isScango (s : State) (p : Nat) : Bool := match s.port p with | some i => i.scango | none => false

/-- Whether a pad bank is held (R373). -/
def State.bankHeld (s : State) (b : Nat) : Bool := bitAt (s.raw (R.PWR_PAD_HOLD (b / 64))).toNat (b % 64)
/-- Whether the block of a switched domain works: the domain is on, and a POWER_STATE in progress has not stopped it (R367,
R368). -/
def State.domainRuns (s : State) (d : Nat) : Bool :=
  bitAt (s.raw R.PWR_ON).toNat d && !s.pwr.cmd.any fun c => c.stopped.contains d
/-- Whether the lane-group banks of a port are all released, its groups powered, and the pads not taken by EXTEST (R298,
R373, R479). -/
def State.padsFree (s : State) (p : Nat) : Bool :=
  match s.port p with
  | some i =>
    let ok := fun g : Nat => !s.bankHeld g && s.domainRuns g
    !s.sec.extest && ok i.group && (i.lanes < 16 || ok (i.group + 1))
  | none => false
/-- PCI Express state of a port. -/
def State.pcpOf (s : State) (p : Nat) : PcpSt := tget {} s.pcp p
/-- Replaces it. -/
def State.setPcp (s : State) (p : Nat) (x : PcpSt) : State := { s with pcp := tput s.pcp p x }
/-- Scango state of a port. -/
def State.sglOf (s : State) (p : Nat) : SglSt := tget {} s.sgl p
/-- Replaces it. -/
def State.setSgl (s : State) (p : Nat) (x : SglSt) : State := { s with sgl := tput s.sgl p x }

/-- Counts an event in a port's PCP counter (R242). -/
def State.cntPcp (s : State) (p k : Nat) (n : Nat := 1) : State :=
  match s.port p with | some i => s.count (R.PCP_CNT i.group i.inst k) n | none => s
/-- Counts an event in a port's SGL counter (R276). -/
def State.cntSgl (s : State) (p k : Nat) (n : Nat := 1) : State :=
  match s.port p with | some i => s.count (R.SGL_CNT i.group i.inst k) n | none => s

/-- Whether a port's link is up: a Scango link in UP, or in RETRAIN, which keeps its packets and its routes (R270); a
PCI Express link active and not in DPC. -/
def State.linkUp (s : State) (p : Nat) : Bool :=
  match s.port p with
  | none => false
  | some i => if i.scango then (s.sglOf p).st == 3 || (s.sglOf p).st == 4 else (s.pcpOf p).up && !(s.pcpOf p).dpc

/-- Takes an upset of a protected structure, if one stands against it: it has been read and acted on. -/
def State.takeUpset (s : State) (c i : Nat) : Bool × State :=
  (s.upsets.contains (c, i), { s with upsets := s.upsets.filter fun e => e ≠ (c, i) })

/-! ### The stored-data code (R428) -/

/-- Hamming position of bit `i` of a codeword: data bits 0 to 7, then c0 to c4 (R428). -/
def hamPos (i : Nat) : Nat := [3, 5, 6, 7, 9, 10, 11, 12, 1, 2, 4, 8, 0].getD i 0

/-- Syndrome of a set of flipped bits of a codeword; the code is linear, so it does not depend on the data. -/
def syndrome (m : Nat) : Nat := (List.range 13).foldl (fun x i => if bitAt m i then x ^^^ hamPos i else x) 0

/-- Parity of the flipped bits. -/
def flipParity (m : Nat) : Nat := ((List.range 13).filter (bitAt m)).length % 2

/-- What the decoder makes of a codeword with flipped bits `m` (R428). -/
inductive Ecc where
  /-- No error found. -/
  | ok
  /-- One bit corrected; `left` is what is still wrong in the data delivered. -/
  | cor (left : Nat)
  /-- Uncorrectable. -/
  | bad
  deriving DecidableEq, Repr

/-- Whether the decoder corrects a byte. -/
def Ecc.fixes : Ecc → Bool
  | .cor _ => true
  | _ => false

/-- Decodes one byte's codeword (R428). -/
def eccOf (m : Nat) : Ecc :=
  let s := syndrome m
  if flipParity m = 1 then
    if s ≥ 13 then .bad
    else
      let i := ([3, 5, 6, 7, 9, 10, 11, 12, 1, 2, 4, 8, 0].idxOf s)
      .cor ((m ^^^ 2 ^ i) % 256)
  else if s = 0 then .ok else .bad

/-- The flipped bits of byte `b` of an entry of a structure whose bytes carry the code of R428: `State.upsets` lists them as
4096 * entry + 16 * byte + bit. -/
def State.entryFlips (s : State) (c i b : Nat) : Nat :=
  (List.range 13).foldl (fun m k => if s.upsets.contains (c, 4096 * i + 16 * b + k) then m + 2 ^ k else m) 0

/-- Whether a read of an entry of such a structure finds an uncorrectable byte; every other error is corrected (R428, R429). -/
def State.eccBad (s : State) (c i : Nat) : Bool :=
  s.upsets.any fun u => u.1 == c && u.2 / 4096 == i && eccOf (s.entryFlips c i (u.2 / 16 % 256)) == .bad

/-- An entry of such a structure is written, or let go: every codeword of it is good again. -/
def State.eccFresh (s : State) (c i : Nat) : State :=
  { s with upsets := s.upsets.filter fun u => !(u.1 == c && u.2 / 4096 == i) }

/-! ### Packets and cells -/

/-- A packet by its header cell number. -/
def State.pkt (s : State) (i : Nat) : Pkt := tget {} s.xbc.pkts i
/-- Replaces a packet. -/
def State.setPkt (s : State) (p : Pkt) : State := { s with xbc := { s.xbc with pkts := tput s.xbc.pkts p.id p } }
/-- Whether a packet is in the buffer. -/
def State.hasPkt (s : State) (i : Nat) : Bool := (tfind s.xbc.pkts i).isSome

/-- Even parity bit of a byte. -/
def parityBit (n : Nat) : Nat :=
  (bitsOf n 0 1 + bitsOf n 1 1 + bitsOf n 2 1 + bitsOf n 3 1 + bitsOf n 4 1 + bitsOf n 5 1 + bitsOf n 6 1 + bitsOf n 7 1) % 2

/-- The parity bits of bytes, bit i that of byte i (R69). -/
def parityOf : List Byte → Nat
  | [] => 0
  | b :: bs => parityBit b.toNat + 2 * parityOf bs

/-- A cell with its parity (R69). -/
def mkCell (data : List Byte) (side : Nat) : Cell :=
  let d := padTo 64 data
  { data := d, parity := parityOf d, side := side, sidePar := parityOf (leBytes 8 side) }

/-- The sideband word of R69. -/
def sideWord (ty next pkt age epoch colour bad : Nat) : Nat :=
  atBits ty 62 2 ||| atBits next 42 20 ||| atBits pkt 22 20 ||| atBits age 6 16 ||| atBits epoch 4 2
  ||| atBits colour 2 2 ||| atBits bad 1 1

/-- TYPE of the cell at place `i` of `n` (R69). -/
def cellType (i n : Nat) : Nat := if n = 1 then 0 else if i = 0 then 1 else if i + 1 = n then 3 else 2

/-- The lowest free cell number from `c` on, from 0 again beyond the buffer's last. -/
def freeFrom (used : Tbl Cell) (c : Nat) : Nat :=
  let x := firstFree used c
  if x < 2 ^ 20 then x else firstFree used 0

/-- The first free cell from `c` on that lies in another bank than cell `prev` (R68). -/
def freeCell (used : Tbl Cell) (prev : Option Nat) : Nat → Nat → Nat
  | 0, c => freeFrom used c
  | n + 1, c =>
    let x := freeFrom used c
    if prev.any fun p => p % 512 == x % 512 then freeCell used prev n (x + 1) else x

/-- `n` free cell numbers, each in a bank other than the one before it (R68; log entry 13): 2,048 rows bound the search. -/
def allocCells (used : Tbl Cell) (start : Nat) (prev : Option Nat) : Nat → List Nat
  | 0 => []
  | n + 1 =>
    let c := freeCell used prev 2048 start
    c :: allocCells used (c + 1) (some c) n

/-- Cuts bytes into pieces of 64, `n` of them. -/
def chunks : Nat → List Byte → List (List Byte)
  | 0, _ => []
  | n + 1, bs => bs.take 64 :: chunks n (bs.drop 64)

/-- Sideband word of cell `i` of a packet. -/
def Pkt.side (p : Pkt) (i : Nat) (bad : Nat := 0) : Nat :=
  sideWord (cellType i p.ncells) (p.cells.getD (i + 1) 0) p.id (p.arr / 1000) p.epoch p.hdr.colour bad

/-- Whether the parity check at the write of cell `i` of a packet finds its data wrong (R87, R89). -/
def State.writeBad (s : State) (p : Pkt) (i : Nat) : Bool × State :=
  match p.ingress with | .port q => s.takeUpset 0xE5 (64 * q + i) | _ => (false, s)

/-- Writes cells `i` on of a packet from pieces of 64 bytes; one whose data fails its check is marked BAD (R89). -/
def State.writeCells (s : State) (p : Pkt) (i : Nat) : List (List Byte) → State
  | [] => s
  | d :: ds =>
    let (bad, s0) := s.writeBad p i
    let s' : State := { s0 with xbc := { s0.xbc with
      cells := tput s0.xbc.cells (p.cells.getD i 0) (mkCell d (p.side i (b2n bad))) } }
    (s'.ev 1 1 p.acct p.tc).writeCells p (i + 1) ds

/-- The sideband words of a packet's written cells take its stamps as they are now (R31, R69, R168). -/
def State.paint (s : State) (i : Nat) : State :=
  let p := s.pkt i
  let cells := (List.range p.cells.length).foldl (init := s.xbc.cells) fun t k =>
    let c := p.cells.getD k 0
    match tfind t c with
    | some x =>
      if x.data = [] then t
      else
        let w := p.side k (bitsOf x.side 1 1)
        tput t c { x with side := w, sidePar := parityOf (leBytes 8 w) }
    | none => t
  { s with xbc := { s.xbc with cells } }

/-- Cells of a packet written so far. -/
def State.written (s : State) (p : Pkt) : Nat :=
  (p.cells.filter fun c => (tget {} s.xbc.cells c).data ≠ []).length

/-- A byte list with one bit inverted. -/
def flipBit (bs : List Byte) (b : Nat) : List Byte :=
  bs.set (b / 8) (bs.getD (b / 8) 0 ^^^ BitVec.ofNat 8 (2 ^ (b % 8)))

/-- An upset of a stored bit of packet `i`. -/
def State.upsetPkt (s : State) (i : Nat) (u : Upset) : State :=
  let p := s.pkt i
  if u.part = 2 then s.setPkt { p with descPar := p.descPar ^^^ 2 ^ (u.bit / 8 % 3) }
  else
    let c := p.cells.getD u.cell 0
    match tfind s.xbc.cells c with
    | none => s
    | some x =>
      let x' : Cell := if u.part = 0 then { x with data := flipBit x.data (u.bit % 512) }
        else { x with side := x.side ^^^ 2 ^ (u.bit % 64) }
      { s with xbc := { s.xbc with cells := tput s.xbc.cells c x' } }

/-- Whether a cell's data, or its sideband word, fails its parity (R87). -/
def Cell.dataBad (x : Cell) : Bool := x.data != [] && parityOf x.data != x.parity
/-- See `Cell.dataBad`. -/
def Cell.sideBad (x : Cell) : Bool := x.data != [] && parityOf (leBytes 8 x.side) != x.sidePar

/-- Cell number `k` of a packet. -/
def State.cellOf (s : State) (p : Pkt) (k : Nat) : Cell := tget {} s.xbc.cells (p.cells.getD k 0)

/-- What the checks of a packet find: 0 nothing, 1 the header cell's data, 2 a sideband word or the descriptor, 3 data of
another cell (R88 to R90). -/
def State.pktCheck (s : State) (i : Nat) : Nat :=
  let p := s.pkt i
  let bad := fun k => (s.cellOf p k).dataBad || bitAt (s.cellOf p k).side 1
  if p.descPar ≠ 0 ∨ (List.range p.cells.length).any (fun k => (s.cellOf p k).sideBad) then 2
  else if bad 0 then 1
  else if (List.range p.cells.length).any bad then 3
  else 0

/-- The descriptor word of R70. -/
def Pkt.desc (p : Pkt) : Nat :=
  atBits p.acct 16 8 ||| atBits p.tc 13 3 ||| atBits p.chg 11 2 ||| atBits (p.arr / 1000 / 65536) 9 2
  ||| atBits p.readers 6 3 ||| atBits p.ncells 0 6

/-- Stored bytes of a packet, header included, as far as written. -/
def State.pktBytes (s : State) (p : Pkt) : List Byte :=
  ((p.cells.map fun c => (tget {} s.xbc.cells c).data).flatten).take (p.hoff + p.hdr.payloadLen)

/-- Stored payload bytes of a packet. -/
def State.payload (s : State) (p : Pkt) : List Byte := (s.pktBytes p).drop p.hoff

/-- Payload bytes that an egress may read by now: those of the cells written (R72). -/
def State.avail (s : State) (p : Pkt) : List Byte :=
  if p.whole then s.payload p else (s.payload p).take (64 * (p.rxLen / 64) - p.hoff)

/-- Header bytes as stored: those of the Scango header, or the first bytes as received (log entry 14). -/
def Pkt.hdrBytes (p : Pkt) : List Byte := if p.hdr.fab then p.hdr.bytes else padTo p.hoff p.raw

/-- Puts a packet with its first payload bytes into free cells; answers its number. -/
def State.store (s : State) (p : Pkt) (payload : List Byte) : Nat × State :=
  let n := max 1 (ceilDiv (p.hoff + p.hdr.payloadLen) 64)
  let used := s.xbc.cells
  let cs := allocCells used 0 none n
  let id := cs.headD 0
  let p1 : Pkt := { p with id := id, cells := cs, ncells := n, lastWr := s.now }
  let bytes := p1.hdrBytes ++ payload
  let k := if p.whole then n else bytes.length / 64
  let p2 := {
    p1 with
    descPar := 0, rxLen := bytes.length
    tail := if p.whole then [] else bytes.drop (64 * (bytes.length / 64)) }
  -- every allocated cell is listed at once, so that no other packet takes it
  let s0 := { s with xbc := { s.xbc with cells := cs.foldl (fun t c => tput t c {}) used } }
  (id, (s0.setPkt p2).writeCells p2 0 (chunks k bytes))

/-! ### Occupancy, admission and credits (R76 to R81) -/

/-- Occupancy of an account and TC. -/
def State.occOf (s : State) (a t : Nat) : Occ := tget {} s.xbc.occ (8 * a + t)
/-- Replaces it. -/
def State.setOcc (s : State) (a t : Nat) (o : Occ) : State :=
  { s with xbc := { s.xbc with occ := tput s.xbc.occ (8 * a + t) o } }

/-- Tries to charge `n` cells to the minimum or the shared pool under an epoch's values: the charge (2 minimum,
3 shared, 0 refused) and the state (R78, R81). -/
def State.admission (s : State) (a t n e : Nat) : Nat × State :=
  let o := s.occOf a t
  if o.min + n ≤ s.fldE e (R.XBC_ACCT a t) F.XBC_ACCT_MIN then (2, s.setOcc a t { o with min := o.min + n })
  else
    let free := s.fldE e R.XBC_SHARED F.XBC_SHARED_SIZE - s.xbc.sharedUsed
    if o.shared + n ≤ (s.fldE e R.XBC_ALPHA (F.XBC_ALPHA_ALPHA_TC t) * free) / 64 then
      let s1 := s.setOcc a t { o with shared := o.shared + n }
      (3, { s1 with xbc := { s1.xbc with sharedUsed := s1.xbc.sharedUsed + n } })
    else (0, s)

/-- Credit pool of a Scango header (R257). -/
def Hdr.pool (h : Hdr) : Nat := (if h.esc then 16 else if h.dl then 8 else 0) + h.tc

/-- Number of the present link-up of a port. -/
def State.lifeOf (s : State) (p : Nat) : Nat := if s.isScango p then (s.sglOf p).life else (s.pcpOf p).life

/-- Returns the credits that a packet consumed to its ingress partner, where the link-up that it came in still lasts (R78,
R241, R260, R272); from step 2 of decanting on PCI Express ports return none (R343). -/
def State.returnCredits (s : State) (ing : Ingress) (pool cells life : Nat) : State :=
  match ing with
  | .port p =>
    if s.lifeOf p ≠ life then s
    else if s.isScango p then
      let l := s.sglOf p
      let q : Pool := tget {} l.pools pool
      let q' : Pool := { q with ret := (q.ret + 1) % 4096, retD := (q.retD + cells) % 65536, unrep := true }
      s.setSgl p { l with pools := tput l.pools pool q' }
    else if s.dct.quiet then s else s.emit (.link p "UpdateFC")
  | _ => s

/-- Gives a packet's charge back to where it was taken from; for headroom its credits return now (R71, R78). -/
def State.uncharge (s : State) (p : Pkt) : State :=
  let o := s.occOf p.acct p.tc
  if p.chg = 1 then
    (s.setOcc p.acct p.tc { o with hdrm := o.hdrm - p.ncells }).returnCredits p.ingress p.pool p.ncells p.life
  else if p.chg = 2 then s.setOcc p.acct p.tc { o with min := o.min - p.ncells }
  else if p.chg = 3 then
    let s1 := s.setOcc p.acct p.tc { o with shared := o.shared - p.ncells }
    { s1 with xbc := { s1.xbc with sharedUsed := s1.xbc.sharedUsed - p.ncells } }
  else s

/-- Tries to move one packet's headroom charge to the minimum or the shared pool (R78). -/
def State.tryMove (s : State) (i : Nat) : Bool × State :=
  let p := s.pkt i
  match s.admission p.acct p.tc p.ncells p.epoch with
  | (0, _) => (false, s)
  | (c, s1) =>
    let o := s1.occOf p.acct p.tc
    let s2 := (s1.setOcc p.acct p.tc { o with hdrm := o.hdrm - p.ncells }).setPkt { p with chg := c }
    (true, (s2.ev 1 c p.acct p.tc).returnCredits p.ingress p.pool p.ncells p.life)

/-- Puts an item into a list sorted by a key. -/
def insertBy {α : Type} (k : α → Nat) (x : α) : List α → List α
  | [] => [x]
  | y :: ys => if k x < k y then x :: y :: ys else y :: insertBy k x ys

/-- Sorts a list by a key, equal keys kept in order. -/
def sortBy {α : Type} (k : α → Nat) (l : List α) : List α := l.foldl (fun acc x => insertBy k x acc) []

/-- Walks packets charged to headroom in order, stopping in an account and TC at its first refusal (R79). -/
def State.retryList (s : State) (blocked : List Nat) : List Nat → State
  | [] => s
  | i :: is =>
    let p := s.pkt i
    let k := 8 * p.acct + p.tc
    if k ∈ blocked then s.retryList blocked is
    else match s.tryMove i with
      | (true, s1) => ({ s1 with xbc := { s1.xbc with retryLast := p.acct } }).retryList blocked is
      | (false, _) => s.retryList (k :: blocked) is

/-- Retries admission whenever cells are freed: accounts in round robin after the last one served, oldest packets
first (R79). -/
def State.retryAdmission (s : State) : State :=
  let waiting := (s.xbc.pkts.filter fun e => e.2.chg == 1).map (·.1)
  let key := fun i => let p := s.pkt i
    (((p.acct + 131 - (s.xbc.retryLast + 1) % 131) % 131) * 8 + p.tc) * 2 ^ 64 + p.arr
  let s1 := s.retryList [] (sortBy key waiting)
  { s1 with xbc := { s1.xbc with jobs := s1.xbc.jobs ++ s1.xbc.refused, refused := [] } }

/-- The metadata that the lookup of a sample's packet gives: outcome, colour, and the first destination (R93). -/
def Pkt.smpMeta (p : Pkt) : Nat :=
  atBits (p.outcome - 1) 39 2 ||| atBits p.hdr.colour 43 2 ||| atBits (b2n (p.dests.length > 1)) 48 1
    ||| (match p.dests with | y :: _ => if y.st == .held then 0 else atBits 1 49 1 ||| atBits y.port 50 7 | [] => 0)

/-- Completes a sample's metadata from its packet. -/
def Sample.complete (x : Sample) (p : Pkt) : Sample :=
  if x.sealed then x else { x with metaWord := x.metaWord ||| p.smpMeta, sealed := true }

/-- The samples of packet `i` that have not been copied yet keep what its lookup found: it is about to be freed. -/
def State.sealSamples (s : State) (i : Nat) : State :=
  let p := s.pkt i
  let job : Job → Job := fun j => match j with
    | .sample k a x => if k = i ∧ a = p.arr then .sample k a (x.complete p) else j
    | j => j
  { s with xbc := { s.xbc with
    jobs := s.xbc.jobs.map job
    smpWait := s.xbc.smpWait.map fun e => if e.1 = i ∧ e.2.1 = p.arr then (e.1, e.2.1, e.2.2.complete p) else e } }

/-- A packet whose chain cannot be trusted is done with: its cells and its charge are left to the scan of R90. -/
def State.toScan (s : State) (i : Nat) : State :=
  let p := s.pkt i
  let s0 := (s.sealSamples i).setPkt { p with dests := [], readers := 0, relD := [], group := none, stall := some .behind }
  { s0 with
    mce := { s0.mce with fanout := s0.mce.fanout.filter (· ≠ i) }
    xbc := { s0.xbc with
      reclaim := s0.xbc.reclaim ++ [i], stalled := s0.xbc.stalled.filter (· ≠ i)
      rxCur := s0.xbc.rxCur.filter fun e => e.2 ≠ i } }

/-- Frees a packet: its cells return to the free pool and its charge to its account, and admission is retried, that of
refused producers with it (R71, R79, R80). -/
def State.freePkt (s : State) (i : Nat) : State :=
  let p := s.pkt i
  if p.scan then s.toScan i
  else
    let s0 := s.sealSamples i
    let s1 := { s0 with xbc := { s0.xbc with
      cells := p.cells.foldl tdel s0.xbc.cells
      pkts := tdel s0.xbc.pkts i
      rxCur := s0.xbc.rxCur.filter fun e => e.2 ≠ i } }
    let s2 := (s1.uncharge p)
    let s3 := ({ s2 with mce := { s2.mce with fanout := s2.mce.fanout.filter (· ≠ i) } }).retryAdmission
    { s3 with xbc := { s3.xbc with stalled := s3.xbc.stalled.filter (· ≠ i) } }

/-- A packet's destination number `d`. -/
def Pkt.dest (p : Pkt) (d : Nat) : Dest := p.dests.getD d {}

/-- Marks a destination done; when none is left the packet is freed once it has wholly arrived (R71, R75). -/
def State.destDone (s : State) (i d : Nat) : State :=
  let p := s.pkt i
  let ds := p.dests.set d { p.dest d with st := .done }
  let p' := { p with dests := ds, readers := p.readers - 1 }
  let s1 := s.setPkt p'
  if ds.all (fun x => x.st == .done) then s1.freePkt i else s1

/-- A packet is read out, towards an egress or to a unit of the part: data that fails its check makes it poisoned, which is
counted once (R87, R89). -/
def State.readOut (s : State) (i : Nat) : State :=
  let p := s.pkt i
  if s.pktCheck i = 3 ∧ !p.poisoned then ((s.setPkt { p with poisoned := true }).count (R.XBC_CNT 5)).raise Flt.XBC_DATA_PARITY else s

/-- An answer comes back to its origin inside the part (log entry 12). -/
def State.notify (s : State) (o : Origin) (status : Nat) (data : List Byte := []) (lost : Bool := false) : State :=
  match o with
  | .none => s
  | .own _ => s
  | _ => { s with answers := s.answers ++ [{ origin := o, status := status, data := data, lost := lost }] }

/-- Whether the link IDE stream of a port is Secure: a key set is active for each substream and direction (R466, R468). -/
def State.ideSecure (s : State) (p : Nat) : Bool :=
  let k := tget {} s.sec.keys p
  (List.range 6).all fun n => k.active.any fun x => x.2.1 == n % 3 && x.2.2 == n / 3

/-- Whether a port may carry no traffic in the clear and its stream is not Secure (R468). -/
def State.ideShut (s : State) (p : Nat) : Bool := bitAt (s.raw (R.SEC_IDE_REQ (p / 64))).toNat (p % 64) && !s.ideSecure p

/-- Whether FCR contains a port or a virtual switch (R412). -/
def State.portContained (s : State) (p : Nat) : Bool := bitAt (s.raw (R.FCR_CONTAINED (p / 64))).toNat (p % 64)
/-- See `State.portContained`. -/
def State.vsContained (s : State) (v : Nat) : Bool := bitAt (s.raw R.FCR_CONTAINED_VS).toNat v

/-- Whether the part is decanting (R342). -/
def State.decanting (s : State) : Bool := s.dct.active

/-- Time in ns by the timers of BRG, which stop while the part decants (R214). -/
def State.brgNow (s : State) : Nat := s.now - s.brg.stood

/-- Time in ns by the gap timers, which stop while the part decants and in the safe state (R152). -/
def State.gapNow (s : State) : Nat := s.now - s.rte.stood
/-- Whether the part is in the L3 safe state (R414). -/
def State.safe (s : State) : Bool := s.fcr.safe

end Sys2Proof.Machine
end

