-- ==== Sys2Proof/Machine/Traffic.lean ====
section
/-! DEFINITION. TMG, the traffic manager (06_traffic_management.md): virtual hosts, policing, queues, selection by
strict priority and deficit round robin, shaping on the timing wheel, and histograms. -/

namespace Sys2Proof.Machine

/-! ### Virtual hosts and policing (R158, R167 to R170) -/

/-- The virtual host of a FID in the copy of an epoch: that of TMG_FID_VH when VALID, else 0 (R158). -/
def State.fidVh (s : State) (e fid : Nat) : Nat :=
  if s.fldE e (R.TMG_FID_VH (fid / 8)) (F.TMG_FID_VH_VALID (fid % 8)) = 1 then
    s.fldE e (R.TMG_FID_VH (fid / 8)) (F.TMG_FID_VH_VH (fid % 8))
  else 0

/-- The FID of a source: 0 to 31 a virtual switch, 32 + p a port, 160 the management function (R154). -/
def State.srcFid (s : State) (i : Nat) : Nat := s.fld (R.RTE_SRC_FID i) F.RTE_SRC_FID_FID

/-- Policer entry word `w` of entry `i` in the copy of an epoch (R167). -/
def State.polWord (s : State) (e i w : Nat) : Nat := s.onDieAt e 5 (32 * i + 8 * w) 8

/-- Level of one byte in a bucket of rate `i`. -/
def perByte (i : Nat) : Nat := max 1 i

/-- A bucket of `size` bytes at rate `i` after refilling for `dt`, from a level held at rate `oldI`: full when the rate is
0. -/
def refill (level oldI i size dt : Nat) : Nat :=
  if i = 0 then size
  else
    let l := if oldI = i then level else level * i / perByte oldI
    min (size * i) (l + dt)

/-- An entry of TABLE_ID 0x05 or 0x06 fails its check: the first time, it is counted and reported (R175). -/
def State.foundBad (s : State) (t i : Nat) : State :=
  if s.tmg.found.contains (t, i) then s
  else
    let s1 : State := { s with tmg := { s.tmg with found := s.tmg.found ++ [(t, i)] } }
    (s1.count (R.TMG_CNT 6)).raise Flt.TMG_TBL_PARITY 0 (atBits t 32 8 ||| i)

/-- The two-rate three-colour marker of R168: colour (0 green, 1 yellow, 2 red) and state. -/
def State.meter (s : State) (e vh tc len pre : Nat) (scango : Bool) : Nat × State :=
  let i := 8 * vh + tc
  let w0 := s.polWord e i 0
  if s.fld R.TMG_CFG F.TMG_CFG_POLICE_EN = 0 then (0, s)
  else if s.entryFaulty e 5 i then (0, s.foundBad 5 i)
  else if bitAt w0 63 = false then (0, s)
  else
    let cirI := bitsOf w0 0 32
    let pir := bitsOf (s.polWord e i 1) 0 32
    let pirI := if cirI ≠ 0 ∧ pir > cirI then cirI else pir
    let w2 := s.polWord e i 2
    let cbs := max 544 (bitsOf w2 0 24)
    let pbs := max 544 (bitsOf w2 24 24)
    let t := s.now * 2 ^ 20
    let p := match tfind s.tmg.pol i with
      | some p => p
      | none => { tc := cbs * perByte cirI, tcI := cirI, tp := pbs * perByte pirI, tpI := pirI, last := t }
    let tc' := refill p.tc p.tcI cirI cbs (t - p.last)
    let tp' := refill p.tp p.tpI pirI pbs (t - p.last)
    let aware := bitAt w0 62 && scango
    let (col, a, b) :=
      if aware ∧ pre = 2 then (2, tc', tp')
      else if tp' < len * perByte pirI then (2, tc', tp')
      else if (aware ∧ pre = 1) ∨ tc' < len * perByte cirI then (1, tc', tp' - len * perByte pirI)
      else (0, tc' - len * perByte cirI, tp' - len * perByte pirI)
    let q : Policer := { tc := a, tcI := cirI, tp := b, tpI := pirI, last := t }
    (col, ({ s with tmg := { s.tmg with pol := tput s.tmg.pol i q } }).count (R.TMG_CNT col))

/-- Whether a memory write metered red is to be delayed (R170): POSTED_DELAY, and not red on arrival when aware. -/
def State.postedDelay (s : State) (e vh tc pre : Nat) (scango : Bool) : Bool :=
  let w0 := s.polWord e (8 * vh + tc) 0
  bitAt w0 61 && !(bitAt w0 62 && scango && pre == 2)

/-- Whether the peak bucket of an entry holds `len` bytes now (R170). -/
def State.peakHolds (s : State) (e vh tc len : Nat) : Bool :=
  let i := 8 * vh + tc
  let cirI := bitsOf (s.polWord e i 0) 0 32
  let pir := bitsOf (s.polWord e i 1) 0 32
  let pirI := if cirI ≠ 0 ∧ pir > cirI then cirI else pir
  let pbs := max 544 (bitsOf (s.polWord e i 2) 24 24)
  match tfind s.tmg.pol i with
  | some p => decide (refill p.tp p.tpI pirI pbs (s.now * 2 ^ 20 - p.last) ≥ len * perByte pirI)
  | none => true

/-! ### Queues (R157, R159, R160, R169) -/

/-- A queue. -/
def State.queue (s : State) (q : Nat) : Queue := tget {} s.tmg.queues q
/-- Replaces a queue. -/
def State.setQueue (s : State) (q : Nat) (x : Queue) : State :=
  { s with tmg := { s.tmg with queues := tput s.tmg.queues q x } }

/-- Word `w` of a queue parameter entry, under the epoch its port works under (R159, R62). -/
def State.qWord (s : State) (q w : Nat) : Nat := s.onDieAt (s.portEpoch (q / 256)) 6 (16 * q + 8 * w) 8

/-- Whether a queue parameter entry fails its parity (R175). -/
def State.qFaulty (s : State) (q : Nat) : Bool := s.entryFaulty (s.portEpoch (q / 256)) 6 q

/-- Whether a sub-queue is valid; sub-queue 0 always is (R158). -/
def State.qValid (s : State) (q : Nat) : Bool := q % 32 == 0 || bitAt (s.qWord q 0) 63

/-- A word of a sub-queue's parameters: those it last had, once its VALID has been cleared (R160). -/
def State.qLast (s : State) (q w : Nat) : Nat :=
  if s.qValid q then s.qWord q w
  else match (s.queue q).kept with | some (a, b) => if w = 0 then a else b | none => s.qWord q w

/-- The queue of a packet of a virtual host at a port and class (R158). -/
def State.queueFor (s : State) (p t vh : Nat) : Nat :=
  let q := 256 * p + 32 * t + vh
  if s.qValid q then q else 256 * p + 32 * t

/-- Depth of a queue in cells. -/
def State.depth (s : State) (q : Nat) : Nat := (s.queue q).mem.foldl (fun n m => n + (s.pkt m.1).ncells) 0

/-- Free cells of the shared pool (XBC_SHARED.FREE). -/
def State.sharedFree (s : State) : Nat := s.fld R.XBC_SHARED F.XBC_SHARED_SIZE - s.xbc.sharedUsed

/-- Whether a sub-queue is congested for red packets (R169). -/
def State.congested (s : State) (q : Nat) : Bool :=
  let red := bitsOf (s.qWord q 1) 20 21
  (red ≠ 0 && s.depth q ≥ red) || s.sharedFree < s.fld R.TMG_CFG F.TMG_CFG_RED_FREE_MIN

/-- Puts a packet's destination at the end of its queue, whose parameter entry is read and checked (R157, R175). -/
def State.enq (s : State) (i d : Nat) : State :=
  let p := s.pkt i
  let x := p.dest d
  let y := s.queue x.queue
  let s1 := s.setPkt { p with dests := p.dests.set d { x with st := .queued, enq := s.now } }
  let s2 := s1.setQueue x.queue { y with mem := y.mem ++ [(i, d)], headAt := if y.mem = [] then s.now else y.headAt }
  if s2.qFaulty x.queue then s2.foundBad 6 x.queue else s2

/-- A COMMIT fills the buckets of the policers whose VALID it sets (R168): their state is forgotten. -/
def State.fillBuckets (old s : State) : State :=
  let valid := fun (s : State) i => bitAt (s.polWord s.cfg.epoch i 0) 63
  { s with tmg := { s.tmg with pol := s.tmg.pol.filter fun e => valid old e.1 || !valid s e.1 } }

/-- The entry of the sub-queue that a packet of virtual host `vh` looks for at a port and class is read (R175). -/
def State.lookQueue (s : State) (p t vh : Nat) : State :=
  let q := 256 * p + 32 * t + vh
  if s.qFaulty q then s.foundBad 6 q else s

/-- Removes a packet's destination from its queue, wherever it stands. -/
def State.unq (s : State) (i d : Nat) : State :=
  let q := ((s.pkt i).dest d).queue
  let y := s.queue q
  let m := y.mem.filter fun e => e ≠ (i, d)
  s.setQueue q { y with mem := m, headAt := if y.mem.head? = m.head? then y.headAt else s.now }

/-! ### Shaping (R163 to R166) -/

/-- Interval and effective burst of a queue that is shaped now (R159, R163, R175, R176, TMG_CAL_CFG). -/
def State.shape (s : State) (q : Nat) : Option (Nat × Nat) :=
  let w0 := s.qLast q 0
  if bitAt w0 62 ∧ bitsOf w0 0 32 ≠ 0 ∧ s.flag R.TMG_CAL_CFG F.TMG_CAL_CFG_SHAPE_EN ∧ s.decanting = false
      ∧ s.qFaulty q = false then
    some (bitsOf w0 0 32, max 1088 (bitsOf (s.qLast q 1) 0 20))
  else none

/-- Whether a queue waits on the timing wheel (R161). -/
def State.onWheel (s : State) (q : Nat) : Bool := (s.queue q).wheel.isSome && (s.shape q).isSome

/-- Whether shaping holds a queue: it waits on the wheel, or its next eligible time has not come (R161, R163). -/
def State.shapeHolds (s : State) (q : Nat) : Bool :=
  match s.shape q with
  | some _ => (s.queue q).wheel.isSome || decide (s.now * 2 ^ 20 < (s.queue q).tat - (s.queue q).bi)
  | none => false

/-- The queues of a port that are not shaped any more leave the wheel at its next eligibility computation (R166). -/
def State.offWheel (s : State) (p : Nat) : State :=
  (s.tmg.queues.filter fun e => e.1 / 256 == p && e.2.wheel.isSome && (s.shape e.1).isNone).foldl
    (fun s e => s.setQueue e.1 { e.2 with wheel := none }) s

/-- Every wheel entry is released: shaping has been switched off (TMG_CAL_CFG, R177). -/
def State.wheelsOff (s : State) : State :=
  (s.tmg.queues.filter fun e => e.2.wheel.isSome).foldl (fun s e => s.setQueue e.1 { e.2 with wheel := none }) s

/-- Quadrant of a port (R27). -/
def State.quadrant (s : State) (p : Nat) : Nat := match s.port p with | some i => i.group / 4 | none => 0

/-- What sending a packet of `len` bytes does to a shaped queue: TAT, and the wheel when NET lies beyond the end of
the send (R163, R165). -/
def State.shapeSend (s : State) (q len : Nat) : State :=
  match s.shape q with
  | none => let y := s.queue q; s.setQueue q { y with wheel := none }
  | some (i, b) =>
    let y := s.queue q
    let t := s.now * 2 ^ 20
    let tat := max y.tat t + len * i
    let net := tat - b * i
    let speed := max 1 (s.fld (R.XBC_PORT_SPEED (q / 256)) F.XBC_PORT_SPEED_SPEED)
    let fin := t + len * 1000 * 2 ^ 20 / speed
    let tick := ceilDiv net (8 * 2 ^ 20)
    let w := if net > fin then some (tick % 4096, (8 * tick - s.now) / 32768, net) else none
    s.setQueue q { y with tat := tat, bi := b * i, wheel := w }

/-! ### Selection (R162) -/

/-- Deficits of a scheduling level and the member that holds the turn. -/
structure Lv where
  cur : Nat
  defs : Tbl Int
  deriving DecidableEq, Repr

/-- The member after `m` in index order, wrapping. -/
def nextMember (ms : List Nat) (m : Nat) : Nat :=
  match ms.find? (fun x => decide (m < x)) with | some x => x | none => ms.headD 0

/-- `advance` of R162. -/
def Lv.advance (lv : Lv) (ms : List Nat) (backlogged eligible : Nat → Bool) (quantum : Nat → Nat) : Lv :=
  let d1 := if backlogged lv.cur then lv.defs else tput lv.defs lv.cur 0
  let c := nextMember ms lv.cur
  { cur := c, defs := if eligible c then tput d1 c (tget 0 d1 c + (quantum c : Int)) else d1 }

/-- Advances until the member with the turn is eligible and its deficit is above 0 (R162); `fuel` bounds the walk,
which ends within it because each turn adds a quantum of 64 bytes or more to a deficit of −543 or more. -/
def Lv.seek (ms : List Nat) (backlogged eligible : Nat → Bool) (quantum : Nat → Nat) : Nat → Lv → Lv
  | 0, lv => lv
  | n + 1, lv =>
    if eligible lv.cur ∧ tget 0 lv.defs lv.cur > 0 then lv
    else Lv.seek ms backlogged eligible quantum n (lv.advance ms backlogged eligible quantum)

/-- Quantum of a sub-queue: 544 for a faulty entry (R175), the last it had when its VALID was cleared (R160). -/
def State.quantum (s : State) (q : Nat) : Nat :=
  if s.qFaulty q then 544
  else bitsOf (s.qLast q 0) 32 16

/-- Class quantum of a port and class (R159). -/
def State.tcQuantum (s : State) (p t : Nat) : Nat :=
  let q := 256 * p + 32 * t
  if s.qFaulty q then 544 else bitsOf (s.qWord q 1) 48 16

/-- Sub-queues of a port and class that take part: valid, or still holding packets (R160). -/
def State.subQueues (s : State) (p t : Nat) : List Nat :=
  (List.range 32).map (fun v => 256 * p + 32 * t + v) |>.filter fun q => s.qValid q || (s.queue q).mem ≠ []

/-- `pick_sub` of R162: the queue chosen in a class, and the state with the turn and the deficits. -/
def State.pickSub (s : State) (p t : Nat) (ok : Nat → Bool) : Nat × State :=
  let ms := s.subQueues p t
  let sc : Sched := tget {} s.tmg.ports p
  let cur0 := tget (256 * p + 32 * t) sc.sub t
  let lv0 : Lv := ⟨cur0, ms.foldl (fun d q => tput d q (s.queue q).deficit) []⟩
  let lv := lv0.seek ms (fun q => (s.queue q).mem ≠ []) ok s.quantum 1024
  let len := match (s.queue lv.cur).mem with | (i, _) :: _ => (s.pkt i).hdr.size | [] => 0
  let defs := tput lv.defs lv.cur (tget 0 lv.defs lv.cur - (len : Int))
  let s1 := ms.foldl (fun s q => s.setQueue q { s.queue q with deficit := tget 0 defs q }) s
  let sc' : Sched := { sc with sub := tput sc.sub t lv.cur }
  let s2 : State := { s1 with tmg := { s1.tmg with ports := tput s1.tmg.ports p sc' } }
  (lv.cur, if s2.qFaulty lv.cur then s2.foundBad 6 lv.cur else s2)

/-- `select` of R162: class 7 by strict priority, classes 0 to 6 by deficit round robin; `ok` says which queues are
eligible (R161). -/
def State.select (s : State) (p : Nat) (ok : Nat → Bool) : Option (Nat × State) :=
  let cls := fun t => (s.subQueues p t).any ok
  if cls 7 then some (s.pickSub p 7 ok)
  else
    let ms := [0, 1, 2, 3, 4, 5, 6]
    if ms.any cls = false then none
    else
      let sc : Sched := tget {} s.tmg.ports p
      let lv := (Lv.mk sc.cur sc.defs).seek ms (fun t => (s.subQueues p t).any fun q => (s.queue q).mem ≠ [])
        cls (s.tcQuantum p) 512
      -- the entries that hold the quantums of the classes are read (R175)
      let s0 := (ms.filter fun t => cls t && s.qFaulty (256 * p + 32 * t)).foldl (fun s t => s.foundBad 6 (256 * p + 32 * t)) s
      let (q, s1) := s0.pickSub p lv.cur ok
      let len := match (s.queue q).mem with | (i, _) :: _ => (s.pkt i).hdr.size | [] => 0
      let sc1 : Sched := tget {} s1.tmg.ports p
      let sc2 : Sched := { sc1 with cur := lv.cur, defs := tput lv.defs lv.cur (tget 0 lv.defs lv.cur - (len : Int)) }
      some (q, { s1 with tmg := { s1.tmg with ports := tput s1.tmg.ports p sc2 } })

/-! ### Commands: the wheel, histograms -/

/-- Entries of a slot with round count 0 become eligible, the others count down (R165). -/
def State.slotReached (s : State) (quad slot : Nat) : State :=
  s.tmg.queues.foldl (init := s) fun s e =>
    match e.2.wheel with
    | some (sl, rounds, net) =>
      if s.quadrant (e.1 / 256) = quad ∧ sl = slot then
        if rounds = 0 then
          let late := min 0xFFFF (s.now - net / 2 ^ 20)
          let old := s.fld (R.TMG_CAL_STAT quad) F.TMG_CAL_STAT_LATE_MAX
          ((s.setQueue e.1 { e.2 with wheel := none }).setFld (R.TMG_CAL_STAT quad) F.TMG_CAL_STAT_LATE_MAX (max old late)).ev 2 3
            (e.1 / 256) (e.1 / 32 % 8)
        else s.setQueue e.1 { e.2 with wheel := some (sl, rounds - 1, net) }
      else s
    | none => s

/-- WHEEL_SLOT: the wheel of a quadrant reaches a slot, each for 8 ns of a revolution (R165). -/
def State.wheelSlot (s : State) (quad slot : Nat) : State :=
  let k := s.now / 8
  if k % 4096 ≠ slot ∨ tfind s.tmg.wheelAt quad = some k then s
  else ({ s with tmg := { s.tmg with wheelAt := tput s.tmg.wheelAt quad k } } : State).slotReached quad slot

/-- Bin of a depth in cells (R171). -/
def depthBin (d : Nat) : Nat := if d ≤ 1 then d else min 15 (Nat.log2 d + 1)

/-- Bin of a head-of-line delay in ns; none for an empty queue is bin 0 (R171). -/
def delayBin (ns : Nat) : Nat := if ns < 16 then 1 else min 15 (Nat.log2 ns - 2)

/-- Adds 1 to bin `b` of a histogram; bins saturate at 0xFF_FFFF (R171). -/
def bumpBin (h : List Nat) (b : Nat) : List Nat :=
  let h := if h = [] then List.replicate 32 0 else h
  h.set b (min 0xFFFFFF (h.getD b 0 + 1))

/-- Samples one queue (R171). -/
def State.sampleQueue (s : State) (q : Nat) : State :=
  let y := s.queue q
  let h := bumpBin (tget [] s.tmg.hist q) (depthBin (s.depth q))
  let h' := bumpBin h (16 + (if y.mem = [] then 0 else delayBin (s.now - y.headAt)))
  { s with tmg := { s.tmg with hist := tput s.tmg.hist q h' } }

/-- Every valid queue of a quadrant's ports. -/
def State.validQueues (s : State) (quad : Nat) : List Nat :=
  ((s.cfg.ports.filter fun e => e.2.group / 4 == quad).map fun e =>
    ((List.range 256).map fun v => 256 * e.1 + v).filter s.qValid).flatten

/-- HISTOGRAM_SAMPLE (R171): while EN is 1 a quadrant samples every valid queue, once in every period of INTERVAL_NS. -/
def State.doHistogram (s : State) (quad : Nat) : State :=
  let n := s.fld R.TMG_HIST_CFG F.TMG_HIST_CFG_INTERVAL_NS
  let done := match tfind s.tmg.histAt quad with | some t => t / n == s.now / n | none => false
  if s.flag R.TMG_HIST_CFG F.TMG_HIST_CFG_EN ∧ !done then
    (s.validQueues quad).foldl State.sampleQueue { s with tmg := { s.tmg with histAt := tput s.tmg.histAt quad s.now } }
  else s

end Sys2Proof.Machine
end

