-- ==== Sys2Proof/Machine/ConfigSpace.lean ====
section
/-! DEFINITION. Configuration space of the functions that hosts see, and routing inside a virtual switch
(08_pcie_ports.md R221 to R227, R236). The header and capability registers have the layout of the PCI Express Base
Specification, which the manual names without stating it, at the offsets of R222 (log entry 16). -/

namespace Sys2Proof.Machine

/-! ### Registers of a function -/

/-- Number of a function in `State.pci`. -/
def Fn.num : Fn → Nat
  | .port p => p
  | .dmv v => 128 + v
  | .mgmt => 160
  | .internal v => 161 + v

/-- Whether a function is a switch function, with a Type 1 header. -/
def Fn.isSwitch : Fn → Bool
  | .port _ => true
  | .internal _ => true
  | _ => false

/-- Device ID (R4). -/
def Fn.deviceId : Fn → Nat
  | .mgmt => 0x2881
  | .dmv _ => 0x2882
  | _ => 0x2880

/-- Class Code: a PCI-to-PCI bridge; 0x08_8000 for the DMV and management functions (R302). -/
def Fn.classCode : Fn → Nat
  | .mgmt => 0x088000
  | .dmv _ => 0x088000
  | _ => 0x060400

/-- Whether a function is an external downstream port. -/
def State.isDown (s : State) : Fn → Bool
  | .port p => match s.port p with | some i => !i.scango && i.role == 1 | none => false
  | _ => false

/-- Key of PCPgg_SLOT_CFG_s of a port. -/
def State.slotKey (s : State) (p : Nat) : Nat := match s.port p with | some i => R.PCP_SLOT_CFG i.group i.inst | none => 0

/-- Whether a port has a slot (R237). -/
def State.hasSlot (s : State) (p : Nat) : Bool := s.flag (s.slotKey p) F.PCP_SLOT_CFG_SLOT_EN

/-- The slot power controller of a port's slot (R237). -/
def State.spcOf (s : State) (p : Nat) : Nat := s.fld (s.slotKey p) F.PCP_SLOT_CFG_SPC_IDX

/-- The switch-function capabilities of R222: byte offset, ID, and whether an upstream, an external downstream and an
internal downstream port has it. -/
def capTable : List (Nat × Nat × Bool × Bool × Bool) :=
  [(0x040, 0x01, true, true, true), (0x050, 0x05, false, true, false), (0x060, 0x10, true, true, true),
   (0x0A0, 0x0D, true, true, true), (0x100, 0x0001, true, true, true), (0x148, 0x000D, false, true, true),
   (0x158, 0x0018, true, false, false), (0x160, 0x001F, true, true, false), (0x170, 0x0019, true, true, false),
   (0x1A0, 0x0026, true, true, false), (0x1D0, 0x002A, true, true, false), (0x200, 0x0031, true, true, false),
   (0x240, 0x001E, true, true, false), (0x250, 0x001D, false, true, false), (0x290, 0x002E, true, false, false),
   (0x2A0, 0x0030, true, true, false), (0x340, 0x0025, true, true, false), (0x350, 0x0003, true, false, false),
   (0x360, 0x0027, true, true, false), (0x3A0, 0x000B, true, true, true)]

/-- The capabilities that the mask ROM gives a function, as offset and ID in rising order: those of R222, and for the other
functions those of R302 at offsets of the model's (log entry 16). -/
def State.romCaps (s : State) (f : Fn) : List (Nat × Nat) :=
  let pick := fun (has : Bool × Bool × Bool → Bool) => (capTable.filter fun c => has c.2.2).map fun c => (c.1, c.2.1)
  match f with
  | .internal _ => pick (·.2.2)
  | .port _ => if s.isDown f then pick (·.2.1) else pick (·.1)
  | .dmv _ => [(0x040, 0x01), (0x060, 0x10), (0x0B0, 0x11), (0x100, 0x0001), (0x150, 0x001B)]
  | .mgmt => [(0x040, 0x01), (0x060, 0x10), (0x100, 0x0001)]

/-- The next capability of the same chain after byte offset `off`; 0 at its end. Offset 0x34 stands for the pointer to the
first one. -/
def nextCap (l : List (Nat × Nat)) (off : Nat) : Nat :=
  ((l.find? fun d => off < d.1 && decide (off < 0x100) == decide (d.1 < 0x100)).map (·.1)).getD 0

/-- Place of the pointer to the next capability in the doubleword at an offset: 0x34, or a capability's header. -/
def nextFld (off : Nat) : Nat × Nat := if off = 0x34 then (0, 8) else if off < 0x100 then (8, 8) else (20, 12)

/-! ### The overlay of the image (R223) -/

/-- The overlay entries for a doubleword of a function, in the image's order. -/
def State.overlays (s : State) (f : Fn) (dw : Nat) : List Overlay :=
  let (cls, n) := match f with
    | .port p => if s.isDown f then (1, p) else (0, p)
    | .internal v => (2, v)
    | _ => (3, 0)
  s.cfg.overlay.filter fun o => o.cls == cls && (o.port == none || o.port == some n) && o.offset / 4 == dw

/-- Whether an overlay entry names a later capability of the chain, or its end, as the next one after `off`: those between
leave the chain. -/
def linkOk (l : List (Nat × Nat)) (off : Nat) (o : Overlay) : Option Nat :=
  let (lo, w) := nextFld off
  let n := bitsOf o.value lo w
  if o.offset / 4 ≠ off / 4 ∨ bitsOf o.mask lo w ≠ 2 ^ w - 1 then none
  else if nextCap l off ≠ 0 ∧ (n = 0 ∨ (n > nextCap l off ∧ l.any fun c => c.1 == n && decide (n < 0x100) == decide (off < 0x100)))
    then some n
  else none

/-- The capabilities of a function that the overlay leaves in its chain (R222, R223). -/
def State.caps (s : State) (f : Fn) : List (Nat × Nat) :=
  let l := s.romCaps f
  let cut := fun (off n x : Nat) => decide (off < x) && (n == 0 || decide (x < n)) && decide (x < 0x100) == decide (off < 0x100)
  if s.cfg.overlay == [] then l
  else ((0x34, 0) :: l).foldl (init := l) fun keep c =>
    (s.overlays f (c.1 / 4)).foldl (init := keep) fun keep o =>
      match linkOk l c.1 o with
      | some n => keep.filter fun d => !cut c.1 n d.1
      | none => keep

/-- Whether a doubleword lies in the header or in a capability of a function's chain: outside them configuration space
reads 0 and takes no writes (R222). -/
def State.inChain (s : State) (f : Fn) (dw : Nat) : Bool :=
  let at_ := fun l : List (Nat × Nat) => (l.filter fun c => c.1 ≤ 4 * dw).foldl (fun m c => max m c.1) 0
  let all := if f.isSwitch then capTable.map fun c => (c.1, c.2.1) else s.romCaps f
  dw < 0x10 || (at_ all != 0 && (s.caps f).any fun c => c.1 == at_ all)

/-- The header doubleword of the capability at an offset: its ID and the offset of the next one. -/
def State.capHeader (s : State) (f : Fn) (off : Nat) : Option Nat :=
  let l := s.caps f
  match l.find? fun c => c.1 == off with
  | none => none
  | some c =>
    let next := nextCap l c.1
    let slot := match f with | .port p => if s.isDown f ∧ s.flag (s.slotKey p) F.PCP_SLOT_CFG_SLOT_EN then 2 ^ 24 else 0 | _ => 0
    let more := if off = 0x40 then atBits 3 16 3
      else if off = 0x60 then atBits (match f with | .port _ => 1 | _ => 0) 31 1 ||| atBits 2 16 4 ||| atBits (if s.isDown f then 6 else match f with | .internal _ => 6 | .port _ => 5 | _ => 0) 20 4 ||| slot
      else if off = 0x50 then 2 ^ 23
      else if off = 0xB0 then atBits 2047 16 11
      else 0
    some (if off < 0x100 then c.2 ||| atBits next 8 8 ||| more
      else c.2 ||| atBits (if c.2 = 1 then 2 else 1) 16 4 ||| atBits next 20 12)

/-- Width and maximum rate code of a port; the internal downstream port and the functions behind it have a link of x1 at
2.5 GT/s (R222, R242). -/
def State.linkOf (s : State) (f : Fn) : Nat × Nat :=
  match f with
  | .port p => match s.port p with
    | some i => (i.lanes, s.fld (R.PCP_PORT_CFG i.group i.inst) F.PCP_PORT_CFG_MAX_RATE)
    | none => (1, 0)
  | _ => (1, 0)

/-- Whether a port has CLKREQ_N: it contains lane 0 of its lane group (R232). -/
def State.hasClkreq (s : State) (f : Fn) : Bool :=
  match f with | .port p => (match s.port p with | some i => i.inst == 0 | none => false) | _ => false

/-- The ball of a slot's attention button, at 2^36 + port in the image as its number + 1 (R237; log entry 16). -/
def State.buttonOf (s : State) (p : Nat) : Nat := (tget 0 s.cfg.img (2 ^ 36 + p)).toNat

/-- Slot Capabilities of R237 for a port with a slot: bit 0 attention button, 1 power controller, 5 surprise, 6 hot-plug
capable, 18 no command completed. -/
def State.slotCap (s : State) (p : Nat) : Nat := 0x00040062 + (if s.buttonOf p ≠ 0 then 1 else 0)

/-- What the image gives the Uncorrectable Internal Error bits of a DMV function: bit 0 mask, bit 1 severity (R566). -/
def State.imgAer (s : State) (v : Nat) : Nat := (tget 0 s.cfg.img (2 ^ 38 + v)).toNat % 4

/-- Value of a doubleword of a function's configuration space by the mask ROM and the registers of the port (R3, R4, R218,
R222, R231, R232, R237); bit places are the Base Specification's (log entry 16). -/
def State.romDw (s : State) (f : Fn) (dw : Nat) : Nat :=
    let down := s.isDown f
    let inner := match f with | .internal _ => true | _ => false
    let up := f.isSwitch && !down && !inner
    let (lanes, rate) := s.linkOf f
    if dw = 0 then f.deviceId * 65536 + 0x1F3A
    else if dw = 1 then 0x00100000
    else if dw = 2 then f.classCode * 256 + 0xB0
    else if dw = 3 ∧ f.isSwitch then 0x00010000
    else if dw = 4 ∧ !f.isSwitch then 0x00000004
    else if dw = 6 then (match f with
      | .dmv v => if s.fld (R.BRG_WINBAR v) F.BRG_WINBAR_SIZE_LOG2 = 0 then 0 else 0x0000000C
      | _ => 0)
    else if dw = 8 ∧ !f.isSwitch ∧ f ≠ .mgmt then 0x00000004
    else if dw = 9 ∧ f.isSwitch then 0x00010001
    else if dw = 13 then nextCap (s.caps f) 0x34
    -- Device Capabilities: payloads of 512 bytes, Extended Tag, role-based errors; Function Level Reset of the others
    else if dw = 0x19 then (if f.isSwitch then 0x00008022 else 0x10008022)
    -- Link Capabilities: rate, width, ASPM L1 with its exit latency of 4 to 8 µs; downward also link active reporting
    else if dw = 0x1B then
      atBits (rate + 1) 0 4 ||| atBits lanes 4 6 ||| (if inner ∨ !f.isSwitch then 0 else 0x00018800)
        ||| (if down then 2 ^ 20 ||| (match f with | .port p => if s.hasSlot p then 0 else 2 ^ 19 | _ => 0) else if inner then 2 ^ 20 else 0)
        ||| 2 ^ 22 ||| (match f with | .port p => atBits p 24 8 | _ => 0)
    else if dw = 0x1C then (if inner then 0x20110000 else 0)
    else if dw = 0x1D ∧ down then (match f with | .port p => if s.hasSlot p then s.slotCap p else 0 | _ => 0)
    else if dw = 0x1E ∧ down then
      (match f with
        | .port p => (if s.hasSlot p ∧ !s.flag (R.SPC_ENABLE (s.spcOf p)) F.SPC_ENABLE_AUTO_ON then 0x400 else 0)
            ||| (if s.hasSlot p ∧ (tget {} s.pcp p).present then 2 ^ 22 else 0)
        | _ => 0)
    -- Device Capabilities 2: completion timeout ranges A to D and their disable (R312), 10-Bit Tag, AtomicOp routing, TLP prefixes; ARI Forwarding downward; LTR on links
    else if dw = 0x21 then
      0x00330000 ||| (match f with | .dmv _ => 0x1F | _ => 0) ||| (if f.isSwitch then 0x40 else 0) ||| (if down ∨ inner then 0x20 else 0) ||| (if up ∨ down then 0x800 else 0)
    else if dw = 0x23 then atBits (2 ^ (rate + 1) - 1) 1 7
    else if dw = 0x2D ∧ !f.isSwitch ∧ f ≠ .mgmt then 0x8004
    else if dw = 0x2E ∧ !f.isSwitch ∧ f ≠ .mgmt then 0x1004
    -- the internal error's mask and severity of a DMV function are the image's, at 2^38 + virtual switch (R566)
    else if dw = 0x42 then (match f with | .dmv v => atBits (s.imgAer v % 2) 22 1 | _ => 0x00400000)
    else if dw = 0x43 then (match f with | .dmv v => 0x00062030 ||| atBits (s.imgAer v / 2) 22 1 | _ => 0x00462030)
    else if dw = 0x45 then 0x0000E000
    -- ACS: all of R218, no Egress Control
    else if dw = 0x53 ∧ (down ∨ inner) then 0x5F
    -- PASID of the DMV function: 20 bits wide (R302)
    else if dw = 0x55 then (match f with | .dmv _ => 0x1400 | _ => 0)
    -- Lane Margining: ready; every lane's control at No Command
    else if dw = 0xD9 ∧ (up ∨ down) then 0x00030000
    else if 0xDA ≤ dw ∧ dw < 0xDA + lanes ∧ (up ∨ down) then 0x9C38
    -- PTM: requester upward, responder downward
    else if dw = 0x59 ∧ (up ∨ down) then (if up then 1 else 2)
    else if dw = 0x91 ∧ (up ∨ down) ∧ s.hasClkreq f then 0x1F
    -- IDE: link streams, and selective streams that flow through
    else if dw = 0xA9 ∧ (up ∨ down) then 0x5
    else 0

/-- Bits of a doubleword that an overlay may give any value: subsystem IDs, serial number, the contents of the
vendor-specific capability, the Slot Capabilities fields that R237 does not fix (R223; log entry 143). -/
def State.overFree (s : State) (f : Fn) (dw : Nat) : Nat :=
  if !f.isSwitch then 0
  else if dw = 0x29 ∨ dw = 0xD5 ∨ dw = 0xD6 ∨ (0xE9 ≤ dw ∧ dw < 0x100) then 2 ^ 32 - 1
  else if dw = 0x1D ∧ s.isDown f then 0xFFF9FF80
  else 0

/-- Fields of a doubleword that an overlay may lower but not raise: Max Link Speed, Maximum Link Width, Max Payload Size
Supported (R223). -/
def overLower (dw : Nat) : List (Nat × Nat) := if dw = 0x1B then [(0, 4), (4, 6)] else if dw = 0x19 then [(0, 3)] else []

/-- Bits of a doubleword that an overlay may clear: ASPM Support, L1 PM Substates support (R223). -/
def overClear (dw : Nat) : Nat := if dw = 0x1B then 0xC00 else if dw = 0x91 then 0x1F else 0

/-- One overlay entry applied to a doubleword that stands at `w`: the new value, and whether bits of the entry were ignored;
what it may lower is measured against the ROM (R223). The links of the chain are `State.caps`. -/
def State.overlayDw (s : State) (f : Fn) (dw w : Nat) (o : Overlay) : Nat × Bool :=
  let rom := s.romDw f dw
  let free := s.overFree f dw
  let put := fun (w m v : Nat) => (w &&& (2 ^ 32 - 1 - m)) ||| (v &&& m)
  let w1 := put w (o.mask &&& free) o.value
  let w2 := w1 &&& (2 ^ 32 - 1 - (o.mask &&& overClear dw &&& (2 ^ 32 - 1 - o.value % 2 ^ 32)))
  let lower := (overLower dw).filter fun x => bitsOf (put w2 o.mask o.value) x.1 x.2 ≤ bitsOf rom x.1 x.2
  let w3 := lower.foldl (fun w x => put w (o.mask &&& atBits (2 ^ x.2 - 1) x.1 x.2) o.value) w2
  let caps := (0x34, 0) :: s.romCaps f
  let link := match caps.find? fun c => c.1 / 4 == dw with
    | some c => if (linkOk (s.romCaps f) c.1 o).isSome then let (lo, n) := nextFld c.1; atBits (2 ^ n - 1) lo n else 0
    | none => 0
  let taken := lower.foldl (fun m x => m ||| atBits (2 ^ x.2 - 1) x.1 x.2) (free ||| link ||| overClear dw)
  let raise := o.mask &&& overClear dw &&& o.value &&& (2 ^ 32 - 1 - rom)
  (w3, (o.mask &&& (2 ^ 32 - 1 - taken)) != 0 || raise != 0)

/-- Reset value of a doubleword of a function's configuration space: the mask ROM's, under the overlay of the image (R222,
R223). -/
def State.cfgReset (s : State) (f : Fn) (dw : Nat) : Nat :=
  match s.capHeader f (4 * dw) with
  | some h => h
  | none =>
    if !s.inChain f dw then 0
    else if s.cfg.overlay == [] then s.romDw f dw
    else (s.overlays f dw).foldl (fun w o => (s.overlayDw f dw w o).1) (s.romDw f dw)

/-- Whether an overlay entry has bits that the part ignores, at some function it names (R223). -/
def State.overlayIgnored (s : State) (o : Overlay) : Bool :=
  let fns := if o.cls = 2 then (List.range 32).map Fn.internal
    else ((s.cfg.ports.filter fun e => !e.2.scango && e.2.role == o.cls).map fun e => Fn.port e.1)
  let mine := fns.filter fun f => o.port == none || (match f with | .port p => o.port == some p | .internal v => o.port == some v | _ => false)
  if o.cls > 2 then o.mask != 0
  else mine.any fun f => !s.inChain f (o.offset / 4) || (s.overlayDw f (o.offset / 4) (s.romDw f (o.offset / 4)) o).2

/-- DEV_IMG_WARN as the overlay gives it: WARN, the number of entries with ignored bits, the first of them (R223, R539). -/
def State.overlayWarn (s : State) : Word :=
  let bad := (List.range s.cfg.overlay.length).filter fun k => s.overlayIgnored (s.cfg.overlay.getD k {})
  F.DEV_IMG_WARN_FIRST.set (F.DEV_IMG_WARN_IGNORED.set (F.DEV_IMG_WARN_WARN.set 0 (b2n !bad.isEmpty)) (min 0x3FFF bad.length))
    (bad.headD 0)

/-- Bits of a doubleword that configuration writes set. -/
def State.cfgMask (s : State) (f : Fn) (dw : Nat) : Nat :=
  let down := s.isDown f
  let link : Bool := match f with | .port _ => true | _ => false
  if !s.inChain f dw then 0
  else if dw = 1 then 0x0546
  else if dw = 6 ∧ f.isSwitch then 0x00FFFFFF
  else if (dw = 8 ∨ dw = 9) ∧ f.isSwitch then 0xFFF0FFF0
  else if (dw = 10 ∨ dw = 11) ∧ f.isSwitch then 0xFFFFFFFF
  else if dw = 15 then (if f.isSwitch then 0x005F00FF else 0xFF)
  else if dw = 4 ∧ f = .mgmt then 0xFC000000
  else if dw = 4 ∧ !f.isSwitch then 0xFE000000
  else if dw = 5 ∧ !f.isSwitch then 0xFFFFFFFF
  else if (dw = 6 ∨ dw = 7) ∧ !f.isSwitch then
    match f with
    | .dmv v =>
      let n := s.fld (R.BRG_WINBAR v) F.BRG_WINBAR_SIZE_LOG2
      if n = 0 then 0 else if dw = 6 then (2 ^ 32 - 2 ^ (min n 32)) % 2 ^ 32 else (2 ^ 32 - 2 ^ (n - 32)) % 2 ^ 32
    | _ => 0
  else if dw = 8 ∧ !f.isSwitch ∧ f ≠ .mgmt then 0xFFFF0000
  else if dw = 9 ∧ !f.isSwitch ∧ f ≠ .mgmt then 0xFFFFFFFF
  else if dw = 0x14 ∧ down then 0x00710000
  else if dw = 0x15 ∧ down then 0xFFFFFFFC
  else if dw = 0x16 ∧ down then 0xFFFFFFFF
  else if dw = 0x17 ∧ down then 0xFFFF
  else if dw = 0x1A then (if f.isSwitch then 0x7FFF else 0xFFFF)
  else if dw = 0x1C then 0x0FFF
  else if dw = 0x2C ∧ !f.isSwitch ∧ f ≠ .mgmt then 0xC0000000
  else if dw = 0x1E ∧ down then 0x1FFF
  else if dw = 0x22 then 0xFFFF
  else if dw = 0x24 ∧ link then 0xF
  else if dw = 0x42 ∨ dw = 0x43 ∨ dw = 0x45 then 0xFFFFFFFF
  else if dw = 0x53 ∧ f.isSwitch then 0x005F0000
  else if dw = 0x55 then (match f with | .dmv _ => 0x00010000 | _ => 0)
  else if 0xDA ≤ dw ∧ dw < 0xDA + (s.linkOf f).1 ∧ link then 0xFF7F
  else if dw = 0x57 ∧ link then 0x1FFF1FFF
  else if dw = 0x5A ∧ link then 0x0000FF03
  else if dw = 0x82 ∧ link then 1
  else if dw = 0x95 ∧ down then 0x00FF0000
  else if (dw = 0x92 ∨ dw = 0x93) ∧ link then 0xFFFFFFFF
  else 0

/-- Bits of a doubleword that a 1 clears. -/
def cfgW1c (dw : Nat) : Nat :=
  if dw = 1 then 0xF9000000
  else if dw = 7 then 0xF9000000
  else if dw = 0x1A then 0x000F0000
  else if dw = 0x1E then 0x011F0000
  else if dw = 0x41 ∨ dw = 0x44 then 0xFFFFFFFF
  else if dw = 0x96 then 0x00000009
  else 0

/-- A doubleword of configuration space; one that the overlay has taken out of the chain reads 0 (R222). -/
def State.cfgDw (s : State) (f : Fn) (dw : Nat) : Nat :=
  match tfind s.pci (f.num * 1024 + dw) with
  | some v => if s.cfg.overlay == [] || decide (dw ≥ 1000) || s.inChain f dw then v else 0
  | none => s.cfgReset f dw

/-- Replaces a doubleword, the part's own write. -/
def State.setCfgDw (s : State) (f : Fn) (dw v : Nat) : State :=
  { s with pci := tput s.pci (f.num * 1024 + dw) (v % 2 ^ 32) }

/-- Bits of a doubleword. -/
def State.cfgBits (s : State) (f : Fn) (dw lo w : Nat) : Nat := bitsOf (s.cfgDw f dw) lo w

/-- Sets bits of a doubleword. -/
def State.cfgOr (s : State) (f : Fn) (dw m : Nat) : State := s.setCfgDw f dw (s.cfgDw f dw ||| m)

/-- Clears bits of a doubleword. -/
def State.cfgClear (s : State) (f : Fn) (dw m : Nat) : State := s.setCfgDw f dw (s.cfgDw f dw &&& (2 ^ 32 - 1 - m % 2 ^ 32))

/-- Mask of 32 bits from four byte enables. -/
def beMask (be : Nat) : Nat :=
  (if bitAt be 0 then 0xFF else 0) + (if bitAt be 1 then 0xFF00 else 0) + (if bitAt be 2 then 0xFF0000 else 0)
    + (if bitAt be 3 then 0xFF000000 else 0)

/-- A configuration write of a doubleword under byte enables. -/
def State.cfgWrite (s : State) (f : Fn) (dw be v : Nat) : State :=
  let m := s.cfgMask f dw &&& beMask be
  let c := cfgW1c dw &&& beMask be &&& v
  let old := s.cfgDw f dw
  let new := ((old &&& (2 ^ 32 - 1 - m)) ||| (v &&& m)) &&& (2 ^ 32 - 1 - c)
  s.setCfgDw f dw new

/-- Whether a doubleword is sticky: the AER registers, and DPC Status (R234, R566; Base Specification). -/
def stickyDw (dw : Nat) : Bool := decide (0x40 ≤ dw ∧ dw < 0x52) || dw == 0x96

/-- Returns a function's configuration space to its reset values, but for what is sticky (R234, R566). -/
def State.cfgResetFn (s : State) (f : Fn) : State :=
  { s with pci := s.pci.filter fun e => e.1 / 1024 ≠ f.num || stickyDw (e.1 % 1024) }

/-- A Function Level Reset does the same, but the function keeps its bus number (R235; Base Specification). -/
def State.cfgFlr (s : State) (f : Fn) : State :=
  { s with pci := s.pci.filter fun e => e.1 / 1024 ≠ f.num || stickyDw (e.1 % 1024) || e.1 % 1024 == 1000 }

/-- Bus Master Enable (R236). -/
def State.bme (s : State) (f : Fn) : Bool := s.cfgBits f 1 2 1 == 1
/-- Memory Space Enable. -/
def State.mse (s : State) (f : Fn) : Bool := s.cfgBits f 1 1 1 == 1

/-! ### Virtual switches (R21, R221) -/

/-- The ports of a virtual switch with a role, in ascending port number. -/
def State.portsOf (s : State) (v role : Nat) : List Nat :=
  (s.cfg.ports.filter fun e => !e.2.scango && e.2.vs == v && e.2.role == role).map (·.1)

/-- The upstream port of a virtual switch. -/
def State.upPort (s : State) (v : Nat) : Option Nat := (s.portsOf v 0).head?
/-- Its external downstream ports. -/
def State.downPorts (s : State) (v : Nat) : List Nat := s.portsOf v 1

/-- The manager's virtual switch (R21, DEV_STATUS). -/
def State.mgrVs (s : State) : Nat := s.fld R.DEV_STATUS F.DEV_STATUS_MGR_VS

/-- Role of a port: 0 upstream, 1 downstream, 2 fabric endpoint, 3 Scango, 4 absent. -/
def State.role (s : State) (p : Nat) : Nat :=
  match s.port p with | some i => if i.scango then 3 else i.role | none => 4

/-- Virtual switch of a port. -/
def State.vsOf (s : State) (p : Nat) : Nat := match s.port p with | some i => i.vs | none => 0

/-- Bus number captured by a function (R185); 0 before the first configuration write. Held at doubleword 1000. -/
def State.busOf (s : State) (f : Fn) : Nat := s.cfgDw f 1000

/-- Requester and Completer ID of the DMV function of a virtual switch (R185). -/
def State.dmvId (s : State) (v : Nat) : Nat := s.busOf (.dmv v) * 256 + (if v = s.mgrVs then 1 else 0)

/-- Requester ID of the management function. -/
def State.mgmtId (s : State) : Nat := s.busOf .mgmt * 256

/-- Bus, device and function of a function below the upstream port of a virtual switch. -/
def State.fnId (s : State) (v : Nat) : Fn → Nat
  | .mgmt => s.mgmtId
  | .dmv u => s.dmvId u
  | .port p => s.busOf (.port p) * 256 + (if s.role p = 0 then 0 else 8 * ((s.downPorts v).idxOf p + 1))
  | .internal u => s.busOf (.internal u) * 256

/-- Requester ID of a fabric endpoint port (R185): the image gives it; it stands in the image at 2^35 + port. -/
def State.epId (s : State) (p : Nat) : Nat := (tget 0 s.cfg.img (2 ^ 35 + p)).toNat

/-- Whether an address lies in a bridge's memory or prefetchable window (Base Specification). -/
def State.inWindow (s : State) (f : Fn) (a : Nat) : Bool :=
  let m := s.cfgDw f 8
  let mb := bitsOf m 4 12 * 2 ^ 20
  let ml := bitsOf m 20 12 * 2 ^ 20 + (2 ^ 20 - 1)
  let q := s.cfgDw f 9
  let pb := bitsOf q 4 12 * 2 ^ 20 + s.cfgDw f 10 * 2 ^ 32
  let pl := bitsOf q 20 12 * 2 ^ 20 + (2 ^ 20 - 1) + s.cfgDw f 11 * 2 ^ 32
  s.mse f && ((mb ≤ a && a ≤ ml) || (pb ≤ a && a ≤ pl))

/-- Whether a bus lies below a bridge: from its secondary to its subordinate bus. -/
def State.ownsBus (s : State) (f : Fn) (b : Nat) : Bool :=
  let w := s.cfgDw f 6
  bitsOf w 8 8 ≤ b && b ≤ bitsOf w 16 8 && bitsOf w 16 8 != 0

/-- A 64-bit BAR of an internal function, at doubleword `dw`. -/
def State.barBase (s : State) (f : Fn) (dw : Nat) : Nat := s.cfgDw f dw / 16 * 16 + s.cfgDw f (dw + 1) * 2 ^ 32

/-- Whether an address lies in a BAR of `size` bytes. -/
def State.inBar (s : State) (f : Fn) (dw size a : Nat) : Bool :=
  let b := s.barBase f dw
  s.mse f && b != 0 && b ≤ a && a < b + size

/-- Size of the window BAR (R179); 0 for none. -/
def State.winBarSize (s : State) (v : Nat) : Nat :=
  let n := s.fld (R.BRG_WINBAR v) F.BRG_WINBAR_SIZE_LOG2
  if n = 0 then 0 else 2 ^ n

/-- Offset of an address within the window BAR of a virtual switch (R179). -/
def State.winOffset (s : State) (v a : Nat) : Option Nat :=
  if s.inBar (.dmv v) 6 (s.winBarSize v) a then some (a - s.barBase (.dmv v) 6) else none

/-- Where a request goes inside a virtual switch (R30, R226). -/
inductive VsRoute where
  | window (off : Nat)
  | bar (f : Fn) (bar : Nat)
  | port (p : Nat)
  | none
  deriving DecidableEq, Repr

/-- Bit `b` of the ACS Control of a downstream port: 0 Source Validation, 2 P2P Request Redirect, 3 P2P Completion Redirect,
4 Upstream Forwarding (R218; Base Specification). -/
def State.acsOn (s : State) (f : Fn) (b : Nat) : Bool := bitAt (s.cfgDw f 0x53) (16 + b)

/-- The downstream port that traffic of a virtual switch comes through: an external one, or the internal one. -/
def acsFn (v : Nat) : Option Nat → Fn
  | some q => .port q
  | none => .internal v

/-- Address routing inside a virtual switch by its windows and BARs alone, from port `from_` (none: the internal device). -/
def State.plainAddr (s : State) (v : Nat) (from_ : Option Nat) (a : Nat) : VsRoute :=
  match s.winOffset v a with
  | some x => .window x
  | none =>
    if s.inBar (.dmv v) 4 (2 ^ 25) a then .bar (.dmv v) 0
    else if s.inBar (.dmv v) 8 (2 ^ 16) a then .bar (.dmv v) 4
    else if v = s.mgrVs ∧ s.inBar .mgmt 4 (2 ^ 26) a then .bar .mgmt 0
    else match (s.downPorts v).find? fun p => s.inWindow (.port p) a && some p != from_ with
      | some p => .port p
      | none =>
        match s.upPort v with
        | some u =>
          let own := match from_ with | some q => s.acsOn (.port q) 4 && s.inWindow (.port q) a | none => false
          if from_ = some u ∨ (from_ ≠ none ∧ s.inWindow (.port u) a ∧ !own) then .none else .port u
        | none => .none

/-- Address routing inside a virtual switch. P2P Request Redirect sends upstream what would go to another function below
(R218). -/
def State.routeAddr (s : State) (v : Nat) (from_ : Option Nat) (a : Nat) : VsRoute :=
  match s.plainAddr v from_ a, s.upPort v with
  | .none, _ => .none
  | r, none => r
  | r, some u => if r != .port u ∧ from_ ≠ some u ∧ s.acsOn (acsFn v from_) 2 then .port u else r

/-- ID routing inside a virtual switch: to the internal functions, to a port that owns the bus, or upstream. -/
def State.routeId (s : State) (v : Nat) (from_ : Option Nat) (id : Nat) : VsRoute :=
  let bus := id / 256
  if id = s.dmvId v then .bar (.dmv v) 0
  else if v = s.mgrVs ∧ id = s.mgmtId then .bar .mgmt 0
  else match (s.downPorts v).find? fun p => s.ownsBus (.port p) bus && some p != from_ with
    | some p => .port p
    | none =>
      match s.upPort v with
      | some u => if from_ = some u ∨ (from_ ≠ none ∧ s.ownsBus (.port u) bus) then .none else .port u
      | none => .none

end Sys2Proof.Machine
end

