-- ==== Sys2Proof/Machine/Route.lean ====
section
/-! DEFINITION. RTE, part one (05_fabric_routing_and_ordering.md): the FID route table, bundles, eligible hops, the
choice of a link, and routed crema messages. -/

namespace Sys2Proof.Machine

/-! ### The FID route table (R130) -/

/-- A word of a route entry in the copy of an epoch (R130). -/
def State.rteWord (s : State) (e fid w : Nat) : Nat := s.onDieAt e 2 (16 * fid + 8 * w) 8

/-- VALID of a route entry; LOCAL_KIND 0b11 counts as VALID = 0, and FID 0xFFF is never routed to (R22, R130). -/
def State.rteValid (s : State) (e fid : Nat) : Bool :=
  let w := s.rteWord e fid 0
  bitAt w 63 && fid != 0xFFF && !(bitAt w 62 && bitsOf w 60 2 == 3)

/-- LOCAL of a route entry. -/
def State.rteLocal (s : State) (e fid : Nat) : Bool := s.rteValid e fid && bitAt (s.rteWord e fid 0) 62

/-- Whether this device owns a FID, under the epoch in force. -/
def State.ownFid (s : State) (fid : Nat) : Bool := s.rteLocal s.cfg.epoch fid

/-- LOCAL_KIND and LOCAL_IDX (R130). -/
def State.rteKind (s : State) (e fid : Nat) : Nat × Nat :=
  let w := s.rteWord e fid 0
  (bitsOf w 60 2, bitsOf w 53 7)

/-- Bundle and weight of next hop `h` (R130). -/
def State.hop (s : State) (e fid h : Nat) : Nat × Nat :=
  let w := s.rteWord e fid 1
  (bitsOf w (16 * h + 10) 6, bitsOf w (16 * h) 8)

/-- UP bit of next hop `h` (R130). -/
def State.hopUp (s : State) (e fid h : Nat) : Bool := bitAt (s.rteWord e fid 0) (47 + h)
/-- DATELINE bit of next hop `h` (R130). -/
def State.hopDateline (s : State) (e fid h : Nat) : Bool := bitAt (s.rteWord e fid 0) (43 + h)

/-- Member ports of a bundle in bundle order (R129). -/
def State.bundle (s : State) (e b : Nat) : List Nat :=
  ((List.range 8).filter fun m => s.fldE e (R.RTE_BUNDLE b) (F.RTE_BUNDLE_EN m) == 1).map fun m =>
    s.fldE e (R.RTE_BUNDLE b) (F.RTE_BUNDLE_PORT m)

/-- Whether RTE may choose a link: it is up and not contained. -/
def State.linkOk (s : State) (p : Nat) : Bool := s.isScango p && s.linkUp p && !s.portContained p

/-- Members of next hop `h` whose links are up. -/
def State.hopLinks (s : State) (e fid h : Nat) : List Nat := (s.bundle e (s.hop e fid h).1).filter s.linkOk

/-- STRICT_UPDOWN of an epoch. -/
def State.strict (s : State) (e : Nat) : Bool := s.fldE e R.RTE_CFG F.RTE_CFG_STRICT_UPDOWN == 1
/-- RING of an epoch. -/
def State.ringTopo (s : State) (e : Nat) : Bool := s.fldE e R.RTE_CFG F.RTE_CFG_RING == 1

/-- Eligible next hops of a packet (R132). -/
def State.eligibleHops (s : State) (e : Nat) (h : Hdr) : List Nat :=
  let base := if h.esc then [bitsOf (s.rteWord e h.dst 0) 51 2]
    else [0, 1, 2, 3].filter fun x => (s.hop e h.dst x).2 ≠ 0
  if h.down ∧ (h.esc ∨ s.strict e) then base.filter fun x => !s.hopUp e h.dst x else base

/-- Data channel of a packet: VC3 on the escape path, VC2 beyond the dateline, else that of its TC (R132, R147, R148). -/
def State.channel (s : State) (e : Nat) (h : Hdr) : Nat :=
  if h.esc then 3 else if h.dl then 2 else s.fldE e R.RTE_TC_VC (F.RTE_TC_VC_VC_TC h.tc)

/-! ### Credit (R258, R260, R261) -/

/-- Data credits of a packet (R258). -/
def Hdr.credits (h : Hdr) : Nat := ceilDiv (32 + h.payloadLen) 64

/-- Free header and data credits of a pool on a link (R260). -/
def Pool.free (q : Pool) : Nat × Nat :=
  (q.init - (q.cons + 4096 - q.cr) % 4096, q.initD - (q.consD + 65536 - q.crD) % 65536)

/-- Whether a link has the credits that a packet needs (R260). -/
def State.linkCredit (s : State) (l : Nat) (h : Hdr) : Bool :=
  let f := (tget ({} : Pool) (s.sglOf l).pools h.pool).free
  s.linkOk l && f.1 ≥ 1 && f.2 ≥ h.credits

/-- Whether a link could start a packet at once (R261); the packets before it must end within the flit that starts
next, since a packet is sent to its end before another starts. -/
def State.canStart (s : State) (l : Nat) (h : Hdr) : Bool :=
  let x := s.sglOf l
  s.linkCredit l h && x.st == 3 && x.buf.length + 4 ≤ 496 && x.replay.isNone
    && x.tx.all (fun t => !t.more) && (x.tx.foldl (fun n t => n + t.bytes.length) 0) < 236

/-- The header that leaves on a next hop: the dateline move and the DOWN bit (R133, R147). -/
def State.hopHdr (s : State) (e : Nat) (h : Hdr) (x : Nat) : Hdr :=
  let h1 := if s.ringTopo e ∧ s.hopDateline e h.dst x ∧ s.channel e h = 1 ∧ !h.esc then { h with dl := true } else h
  if !s.hopUp e h.dst x ∧ (h1.esc ∨ s.strict e) then { h1 with down := true } else h1

/-- Members of next hop `x` that have credit for a packet on the channel it would leave on, and may read it (`ok`, R72). -/
def State.readyLinks (s : State) (e : Nat) (h : Hdr) (x : Nat) (ok : Nat → Bool) : List Nat :=
  (s.bundle e (s.hop e h.dst x).1).filter fun l => s.canStart l (s.hopHdr e h x) && ok l

/-- Whether some eligible link has credit for a packet, on the channel that it would leave on there (R148). -/
def State.hasCredit (s : State) (e : Nat) (h : Hdr) : Bool :=
  (s.eligibleHops e h).any fun x => (s.bundle e (s.hop e h.dst x).1).any fun l => s.linkCredit l (s.hopHdr e h x)

/-- Whether some eligible link has credit for the head of a Scango egress queue (R148). -/
def State.headCredit (s : State) (q : Nat) : Bool :=
  match (s.queue q).mem with
  | [] => false
  | (i, d) :: _ => s.hasCredit (s.pkt i).epoch ((s.pkt i).dest d).hdr

/-- While ESC_EN is 1 the queues whose heads have had credit up to `t` note it (R148). -/
def State.noteCredit (s : State) (t : Nat) : State :=
  if !s.flag R.RTE_ESC_THR F.RTE_ESC_THR_ESC_EN then s
  else
    let has := fun q : Nat => decide (q < 32768) && s.isScango (q / 256) && s.headCredit q
    { s with tmg := { s.tmg with queues := s.tmg.queues.map fun e => (e.1, if has e.1 then { e.2 with creditAt := t } else e.2) } }

/-- The largest of a list of integers by key, the first on a tie. -/
def maxBy {α : Type} (k : α → Int) (d : α) : List α → α
  | [] => d
  | x :: xs => xs.foldl (fun b y => if k b < k y then y else b) x

/-- `choose` of R133: the next hop and link for a packet selected at port `p`, or none (WAIT). -/
def State.choose (s : State) (p e : Nat) (h : Hdr) (ok : Nat → Bool) : Option (Nat × Nat × State) :=
  let ready := (s.eligibleHops e h).filter fun x => s.readyLinks e h x ok ≠ []
  match ready with
  | [] => none
  | r0 :: _ =>
    let key := fun x : Nat => (h.dst * 8 + s.quadrant p) * 4 + x
    let weight := fun x : Nat => (s.hop e h.dst x).2
    let (x, s1) :=
      if h.esc then (r0, s)
      else
        let cur := ready.foldl (fun t y => tput t (key y) (tget 0 t (key y) + (weight y : Int))) s.rte.cur
        let b := maxBy (fun y => tget 0 cur (key y)) r0 ready
        let tot := ready.foldl (fun n y => n + weight y) 0
        let cur' := tput cur (key b) (tget 0 cur (key b) - (tot : Int))
        (b, { s with rte := { s.rte with cur := cur' } })
    let links := s.readyLinks e h x ok
    let pool := (s.hopHdr e h x).pool
    let data := fun l : Nat => (tget ({} : Pool) (s.sglOf l).pools pool).free.2
    let top := links.foldl (fun m l => max m (data l)) 0
    let best := links.filter fun l => data l == top
    -- first member of `best` after rr[h] in bundle order; rr holds the link's place in the bundle, plus 1
    let members := s.bundle e (s.hop e h.dst x).1
    let last := tget 0 s.rte.rr (key x)
    let order := members.drop last ++ members.take last
    let l := (order.find? fun y => best.contains y).getD (best.headD 0)
    some (x, l, { s1 with rte := { s1.rte with rr := tput s1.rte.rr (key x) (members.idxOf l + 1) } })

/-! ### Fault words of RTE (R571) -/

/-- INFO of the RTE faults about a packet. -/
def Hdr.rteInfo (h : Hdr) : Nat := atBits h.src 28 12 ||| atBits h.dst 16 12 ||| (if h.byp then 0 else atBits h.seq 0 16)

/-! ### Routed crema messages (R145, R197, R203, R263) -/

/-- Crema credits left on a link. -/
def SglSt.cremaFree (x : SglSt) : Nat := x.cc - (x.ccCons + 256 - x.ccRet) % 256

/-- Returns the crema credit of a routed message that has left a link's receive queue (R263). -/
def State.returnCrema (s : State) (l : Option Nat) : State :=
  match l with
  | none => s
  | some l =>
    let x := s.sglOf l
    s.setSgl l { x with ccUsed := (x.ccUsed + 1) % 256, ccUnrep := true, ccIn := x.ccIn - 1 }

/-- Puts a routed message in the crema queue of a link (R263); `arr` is the link it came in on, whose crema credit it
holds until it is sent. A note that this device has just made is counted there. -/
def State.putCrema (s : State) (l : Nat) (msg : List Byte) (arr : Option Nat := none) (made : Bool := false) : State :=
  let x := s.sglOf l
  if x.routed.length < 256 then s.setSgl l { x with routed := x.routed ++ [(arr, msg)] }
  else
    let s1 := (s.cntSgl l 11).returnCrema arr
    if msg.headD 0 = 0x09 ∧ !made then s1.count (R.BRG_CNT 8) else s1

/-- The link a routed message leaves on: over the eligible hops of its destination's route entry, first a link with
crema credit, else the first one up (R145, R263). -/
def State.cremaLink (s : State) (dst : Nat) : Option Nat :=
  let e := s.cfg.epoch
  if !s.rteValid e dst || s.entryFaulty e 2 dst || s.rteLocal e dst then none
  else
    let links := ((s.eligibleHops e { dst := dst }).map (s.hopLinks e dst)).flatten
    match links.find? (fun l => (s.sglOf l).cremaFree > (s.sglOf l).routed.length) with
    | some l => some l
    | none => links.head?

/-- Sends a routed message towards a FID that is not this device's own; false when no eligible link is up. -/
def State.sendCrema (s : State) (dst : Nat) (msg : List Byte) (arr : Option Nat := none) (made : Bool := false) :
    Bool × State :=
  match s.cremaLink dst with
  | some l => (true, s.putCrema l msg arr made)
  | none => (false, s)

end Sys2Proof.Machine
end

