-- ==== Sys2Proof/Machine/Records.lean ====
section
/-! DEFINITION. What becomes of packets that cannot be delivered: write logging of host writes (R322 to R326),
posted-write failure records (R196 to R199, R321), answers built in a request's cells (R80, R84, R191), the resolution
of mirrored copies (R104, R105, R572) and the treatment of undeliverable packets by kind (R84). -/

namespace Sys2Proof.Machine

/-! ### AER (R199, R226, R241, R411, R566) -/

/-- Bit of an error in the uncorrectable or the correctable status, mask and severity registers (Base Specification). -/
def AerErr.bit : AerErr → Nat
  | .dataLink => 4 | .surpriseDown => 5 | .flowControl => 13 | .completerAbort => 15 | .unexpectedCpl => 16
  | .overflow => 17 | .malformed => 18 | .ecrc => 19 | .unsupported => 20 | .acs => 21 | .internal => 22
  | .badTlp => 6 | .badDllp => 7 | .replayRollover => 8 | .replayTimeout => 12 | .corrInternal => 14

/-- Whether an error is correctable. -/
def AerErr.corr : AerErr → Bool
  | .badTlp | .badDllp | .replayRollover | .replayTimeout | .corrInternal => true
  | _ => false

/-- Fmt and Type of a TLP header, and whether its address takes two doublewords (Base Specification). -/
def Hdr.fmtType (h : Hdr) : Nat :=
  let wide := if h.addr ≥ 2 ^ 32 then 0x20 else 0
  let route : Nat := match h.route with | .toRoot => 0 | .address => 1 | .id => 2 | .broadcast => 3 | .localRx => 4
  match h.kind with
  | .mrd => wide | .mrdlk => wide ||| 1 | .mwr => 0x40 ||| wide
  | .atomic => 0x4C ||| wide ||| h.subcode % 4
  | .io => if h.write then 0x42 else 0x02
  | .cfg => (if h.write then 0x44 else 0x04) ||| h.subcode % 2
  | .msg => 0x30 ||| route ||| (if h.len = 0 then 0 else 0x40)
  | .cpl => 0x0A | .cpld => 0x4A | .cpldlk => 0x4B

/-- The four doublewords of a TLP header as the header log holds them (Base Specification; log entry 16). -/
def Hdr.logDws (h : Hdr) : List Nat :=
  let d0 := atBits h.fmtType 24 8 ||| atBits (h.tag / 512) 23 1 ||| atBits h.tc 20 3 ||| atBits (h.tag / 256) 19 1
    ||| atBits (b2n h.ido) 18 1 ||| atBits (b2n h.poison) 14 1 ||| atBits (b2n h.ro) 13 1 ||| atBits h.len 0 10
  if h.kind.isCpl then
    [d0, atBits h.cplId 16 16 ||| atBits h.status 13 3 ||| atBits h.byteCnt 0 12, atBits h.reqId 16 16 ||| atBits h.tag 8 8 ||| atBits h.offset 0 7, 0]
  else
    let d1 := atBits h.reqId 16 16 ||| atBits h.tag 8 8
      ||| (if h.kind = .msg then atBits h.subcode 0 8 else atBits h.lbe 4 4 ||| atBits h.fbe 0 4)
    if h.kind = .cfg then [d0, d1, atBits h.addr 16 16 ||| atBits h.offset 2 10, 0]
    else if h.kind = .msg then [d0, d1, atBits h.addr 16 16, 0]
    else if h.addr ≥ 2 ^ 32 then [d0, d1, h.addr / 2 ^ 32 % 2 ^ 32, h.addr / 4 * 4 % 2 ^ 32]
    else [d0, d1, h.addr / 4 * 4, 0]

/-- The header log, the TLP prefix log and the First Error Pointer take an error's TLP; without one the log is zeros. -/
def State.logHeader (s : State) (f : Fn) (bit : Nat) (h : Option Hdr) : State :=
  let ds := match h with | some h => h.logDws | none => [0, 0, 0, 0]
  let pre := match h with | some h => (match h.pasid with | some p => some (0x91000000 ||| p % 2 ^ 20) | none => none) | none => none
  let s1 := (List.range 4).foldl (fun s k => s.setCfgDw f (0x47 + k) (ds.getD k 0)) s
  let s2 := s1.setCfgDw f 0x46 ((s1.cfgDw f 0x46 / 4096 * 4096) ||| bit ||| (if pre.isSome then 2 ^ 11 else 0))
  s2.setCfgDw f 0x4E (pre.getD 0)

/-- Logs an error under AER: its status bit, and unless masked its ERR_* message, by its severity; of uncorrectable errors
the first that stands keeps the header log (Base Specification). -/
def State.logAer (s : State) (f : Fn) (e : AerErr) (h : Option Hdr := none) : State :=
  let stands := bitAt (s.cfgDw f 0x41) (s.cfgBits f 0x46 0 5)
  let s1 := s.cfgOr f (if e.corr then 0x44 else 0x41) (2 ^ e.bit)
  if bitAt (s.cfgDw f (if e.corr then 0x45 else 0x42)) e.bit then s1
  else if e.corr then s1.aer f e 0x30 h
  else (if stands then s1 else s1.logHeader f e.bit h).aer f e (if bitAt (s.cfgDw f 0x43) e.bit then 0x33 else 0x31) h

/-! ### Listed registers -/

/-- The instances below `n` of a register at `base + step * i` that some epoch or the image lists, ascending. An
instance that nothing lists has its reset value, all zeros. -/
def State.listed (s : State) (base step n : Nat) : List Nat :=
  let pick := fun (t : Tbl Word) => t.filterMap fun e =>
    if base ≤ e.1 ∧ e.1 < base + step * n then some ((e.1 - base) / step) else none
  let all := pick s.cfg.regs ++ pick s.cfg.img ++ (match s.cfg.prev with | some p => pick p.regs | none => [])
  sortBy id all.eraseDups

/-! ### Write logging (R322 to R326) -/

/-- The READY context that a write matches, lowest first (R323). -/
def State.wlMatch (s : State) (v reqId : Nat) (pasid : Option Nat) (a : Nat) : Option Nat :=
  (s.listed (R.WLG_CTX_CFG 0) 0x20 1024).find? fun c =>
    let key := s.fld (R.WLG_CTX_CFG c) F.WLG_CTX_CFG_KEY
    let mask := s.fld (R.WLG_CTX_CFG c) F.WLG_CTX_CFG_MASK
    let base := s.fld (R.WLG_CTX_HOST c) F.WLG_CTX_HOST_HOST_BASE * 4096
    let hit := if s.flag (R.WLG_CTX_CFG c) F.WLG_CTX_CFG_KIND then
        (match pasid with | some p => (p ^^^ key) &&& mask == 0 | none => false)
      else ((reqId ^^^ key % 65536) &&& (mask % 65536)) == 0
    s.flag (R.WLG_CTX_STAT c) F.WLG_CTX_STAT_READY && s.fld (R.WLG_CTX_CFG c) F.WLG_CTX_CFG_VS == v && hit
      && base ≤ a && (a - base) / 4096 < s.fld (R.WLG_CTX_BMP c) F.WLG_CTX_BMP_PAGES

/-- The least recently used entry of a list of cache entries. -/
def lruEnt : List WlEnt → Option WlEnt
  | [] => none
  | x :: xs => match lruEnt xs with | none => some x | some y => if y.last < x.last then some y else some x

/-- Logs a write routed to the upstream port (R322, R326); none where the cache is full and the write must wait: its
least recently used entry is then marked to be merged. Nothing is logged while PD62 is off (R367); while WLG is stopped for
a switch that is still to come a write waits (R368). -/
def State.logWrite (s : State) (v reqId : Nat) (pasid : Option Nat) (a : Nat) : Bool × State :=
  if s.dct.quiet ∨ !bitAt (s.raw R.PWR_ON).toNat 62 then (true, s)
  else match s.wlMatch v reqId pasid a with
  | none => (true, s)
  | some c =>
    if !s.domainRuns 62 then (false, s)
    else
    let gen := s.fld (R.WLG_CTX_STAT c) F.WLG_CTX_STAT_GEN
    let page := (a - s.fld (R.WLG_CTX_HOST c) F.WLG_CTX_HOST_HOST_BASE * 4096) / 4096
    let w := page / 512
    let s0 := (s.count (R.WLG_CNT 0)).ev 0xB 1 c 0
    if s.wlg.cache.any fun e => e.ctx == c && e.gen == gen && e.word == w then
      let cache := s.wlg.cache.map fun e =>
        if e.ctx = c ∧ e.gen = gen ∧ e.word = w then { e with mask := e.mask ||| 2 ^ (page % 512), last := s.now, evict := false }
        else e
      (true, { s0 with wlg := { s.wlg with cache := cache } })
    else
      let full := s.wlg.cache.length ≥ 4096
      let cache := match lruEnt s.wlg.cache with
        | some x => if full then s.wlg.cache.map fun e => if e = x then { e with evict := true } else e else s.wlg.cache
        | none => s.wlg.cache
      let e : WlEnt := { ctx := c, gen := gen, word := w, mask := 2 ^ (page % 512), last := s.now }
      if full then (false, { s with wlg := { s.wlg with cache := cache } })
      else (true, { s0 with wlg := { s.wlg with cache := cache ++ [e] } })

/-- Logs the write of packet `i`, which then holds the generation it is logged in (R327 step 3). A wait for room counts
once (R326). -/
def State.logPkt (s : State) (i v reqId : Nat) (pasid : Option Nat) (a : Nat) : Bool × State :=
  match s.logWrite v reqId pasid a with
  | (false, s1) => (false, if (s.pkt i).why = some .cache ∨ !s.domainRuns 62 then s1 else s1.count (R.WLG_CNT 2))
  | (true, s1) =>
    if s.dct.quiet ∨ !bitAt (s.raw R.PWR_ON).toNat 62 then (true, s1)
    else match s.wlMatch v reqId pasid a with
    | none => (true, s1)
    | some c => (true, s1.setPkt { s1.pkt i with wl := (s1.pkt i).wl ++ [(c, s.fld (R.WLG_CTX_STAT c) F.WLG_CTX_STAT_GEN)] })

/-! ### Posted-write failure records (R196 to R199, R321, R345) -/

/-- The index of RTE_SRC_FID whose FID is assigned by the image and equal to `fid` (R154). -/
def State.fidIndex (s : State) (fid : Nat) : Option Nat :=
  (s.cfg.img.find? fun e =>
    R.RTE_SRC_FID 0 ≤ e.1 && e.1 ≤ R.RTE_SRC_FID 160 && F.RTE_SRC_FID_VALID.get e.2 == 1
      && F.RTE_SRC_FID_FID.get e.2 == fid).map fun e => (e.1 - R.RTE_SRC_FID 0) / 8

/-- FID of the management function. -/
def State.mgmtFid (s : State) : Nat := s.srcFid 160

/-- The virtual switch that owns writes of a source: its own, or the manager's (R198). -/
def State.ownerVs (s : State) (idx : Nat) : Nat := if idx < 32 then idx else s.mgrVs

/-- What a posted-write failure record says (R196). -/
structure Pwf where
  cause : Nat := 0
  tc : Nat := 0
  hostAddr : Option Nat := none
  remote : Bool := false
  reqId : Nat := 0
  /-- Group and replica of a copy that failed at the first device. -/
  mirror : Option (Nat × Nat) := none
  dst : Nat := 0
  src : Nat := 0
  reporter : Nat := 0
  length : Nat := 0
  seq : Nat := 0
  offset : Nat := 0
  pasid : Option Nat := none
  hdr : Option Hdr := none
  deriving DecidableEq, Repr

/-- GROUP field of R196 and R348. -/
def groupField : Option (Nat × Nat) → Nat
  | some (g, r) => atBits 1 15 1 ||| atBits r 10 2 ||| atBits g 0 10
  | none => 0

/-- PASID field of R196. -/
def pasidField : Option Nat → Nat
  | some p => atBits 1 31 1 ||| atBits p 0 20
  | none => 0

/-- The 64 record bytes, PHASE left for the ring (R196). -/
def Pwf.bytes (f : Pwf) (now : Nat) : List Byte :=
  leBytes 2 0x0300 ++ [0, 0] ++ leBytes 4 0 ++ leBytes 8 now ++ leBytes 1 f.cause
    ++ leBytes 1 (atBits f.tc 0 3 ||| atBits (b2n f.hostAddr.isSome) 3 1 ||| atBits (b2n f.remote) 4 1)
    ++ leBytes 2 f.reqId ++ leBytes 2 (groupField f.mirror) ++ leBytes 2 f.dst ++ leBytes 2 f.reporter
    ++ leBytes 2 f.length ++ leBytes 2 f.seq ++ leBytes 2 0 ++ leBytes 8 (f.hostAddr.getD 0)
    ++ leBytes 8 f.offset ++ leBytes 4 (pasidField f.pasid) ++ leBytes 12 0

/-- The PWF_NOTE message (R197). -/
def Pwf.note (f : Pwf) : List Byte :=
  crema ([0x09] ++ beBytes 1 f.cause ++ beBytes 2 (f.dst % 4096) ++ beBytes 2 (f.src % 4096) ++ beBytes 1 f.tc ++ [0]
    ++ beBytes 2 f.seq ++ beBytes 2 f.length ++ beBytes 7 f.offset ++ [0] ++ beBytes 2 f.reqId
    ++ beBytes 2 (f.reporter % 4096) ++ beBytes 4 (pasidField f.pasid))

/-- Adds an entry to the abandoned-work list; a write beyond its room is summed up by source, 0 to 31 a virtual switch,
32 the management function (R348). -/
def State.listEntry (s : State) (source : Nat) (write : Bool) (e : List Byte) : State :=
  if s.dct.list.length < 32768 then { s with dct := { s.dct with list := s.dct.list ++ [(source, e)] } }
  else if write then
    let x := tget (0, s.now) s.dct.summ source
    let s2 : State := { s with dct := { s.dct with summ := tput s.dct.summ source (x.1 + 1, x.2) } }
    if s2.flag R.DCT_STAT F.DCT_STAT_LIST_OVF then s2
    else (s2.setFld R.DCT_STAT F.DCT_STAT_LIST_OVF 1).raise Flt.DCT_LIST_OVF
  else s

/-- An abandoned write: its entry of kind 1 or 2, counted; POWER_STATE OFF lists none (R345, R348, R377). -/
def State.abandon (s : State) (source kind code : Nat) (f : Pwf) : State :=
  let e := leBytes 1 kind ++ leBytes 1 (f.tc + 8 * b2n f.hostAddr.isSome) ++ leBytes 1 code ++ [0] ++ leBytes 2 f.src
    ++ leBytes 2 f.dst ++ leBytes 8 (f.hostAddr.getD f.offset) ++ leBytes 2 f.reqId ++ leBytes 2 f.length
    ++ leBytes 2 (groupField f.mirror) ++ leBytes 2 0 ++ leBytes 8 s.now
  let s1 := s.count (R.DCT_CNT 2)
  if s1.dct.off then s1 else s1.listEntry source true e

/-- Puts a failure record on a virtual switch's failure ring: written, queued (64), or lost (R321). -/
def State.failRecord (s : State) (v : Nat) (bytes : List Byte) : State :=
  let r := RingId.fail ⟨v % 32, Nat.mod_lt _ (by decide)⟩
  let q := tget [] s.dmv.failQ v
  if q = [] ∧ s.ringRoom r > 0 then (s.writeRecord r bytes).count (R.BRG_CNT 7)
  else if q.length < 64 then ({ s with dmv := { s.dmv with failQ := tput s.dmv.failQ v (q ++ [bytes]) } }).count (R.BRG_CNT 7)
  else (((s.loseRecord r).2.count (R.DMV_CNT 5)).count (R.FCR_CNT 2)).raise Flt.DMV_FAIL_LOST v

/-- The record of a failed posted write at the device that owns its source: record, AER, fault message, EVR copy
(R198, R199). -/
def State.pwfRecord (s : State) (v : Nat) (f : Pwf) : State :=
  let b := f.bytes s.now
  let s1 := s.failRecord v b
  let s2 := if s.flag R.BRG_CFG F.BRG_CFG_PWF_EVR then
      s1.event { code := 0x0300, data := (b.drop 16).take 32 } else s1
  (s2.logAer (.dmv v) .completerAbort f.hdr).raise Flt.BRG_PWF v

/-- A posted write has failed at this device: a record where its source is this device's own, a PWF_NOTE towards the
source otherwise, an abandoned-work entry from step 2 of decanting on (R197, R198, R345). `idx` names a source that has
no FID in the header yet. -/
def State.pwf (s : State) (idx : Option Nat) (f : Pwf) : State :=
  let own := match idx with | some i => some i | none => s.fidIndex f.src
  let f := { f with reporter := s.mgmtFid }
  if s.dct.quiet then
    let f := match idx with | some i => { f with src := s.srcFid i } | none => f
    s.abandon (match own with | some i => if i < 32 then i else 32 | none => 32) 2 f.cause f
  else match own with
    | some i => s.pwfRecord (s.ownerVs i) f
    | none =>
      let (_, s1) := s.sendCrema f.src f.note none true
      s1.count (R.BRG_CNT 8)

/-- Record fields of a packet's write, leaving with header `h`. -/
def Pkt.pwfOf (p : Pkt) (h : Hdr) (cause : Nat) (mirror : Option (Nat × Nat)) : Pwf :=
  { cause := cause, tc := h.tc, hostAddr := p.hostAddr, reqId := (if h.fab then h.reqId else p.orig.reqId), mirror,
    dst := (if h.fab then h.dst else 0), src := (if h.fab then h.src else 0),
    length := 4 * p.orig.len, seq := (if h.fab ∧ !h.byp then h.seq else 0), offset := (if h.fab then h.offset else 0),
    pasid := p.orig.pasid, hdr := (if p.hostAddr.isSome then some p.orig else none) }

/-- A posted write of packet `p` has failed. -/
def State.pwfPkt (s : State) (p : Pkt) (h : Hdr) (cause : Nat) (mirror : Option (Nat × Nat) := none) : State :=
  let known := h.fab ∨ p.orig.fab
  let h' := if h.fab then h else if p.orig.fab then p.orig else h
  let f := p.pwfOf h' cause mirror
  let f := if p.orig.fab then { f with hostAddr := none, hdr := none } else f
  s.pwf (if known then none else some p.vs) f

/-! ### Tracker entries (R187, R194) -/

/-- Frees a tracker entry whose request never left: no completion can come, so its tag is free at once. -/
def State.freeTrk (s : State) (t : Option Nat) : State :=
  match t with
  | some i => { s with brg := { s.brg with trk := tdel s.brg.trk i } }
  | none => s

/-! ### Answers (R80, R84, R191) -/

/-- Byte count of a completion without data: the bytes still due, or 4 (R191). -/
def Hdr.dueBytes (h : Hdr) : Nat := if h.isRead then h.readBytes else 4

/-- Status of a Scango completion as a PCI Express requester sees it (R191). -/
def forwardStatus (st : Nat) : Nat := if st = 0 then 0 else if st = 1 ∨ st = 2 then 1 else 4

/-- A completion without data to the fabric request `h` (R84, R191). -/
def fabCpl (h : Hdr) (st : Nat) : Hdr :=
  { kind := .cpl, fab := true, hlen := 32, dst := h.src, src := h.dst, tc := h.tc, ro := h.ro, ido := h.ido, tag := h.tag,
    reqId := h.reqId, status := st, byteCnt := h.dueBytes, offset := h.offset % 128 }

/-- A completion without data to the PCI Express request `h`. -/
def tlpCpl (h : Hdr) (st cplId : Nat) : Hdr :=
  { kind := .cpl, hlen := 12, tc := h.tc, ro := h.ro, ido := h.ido, tag := h.tag, reqId := h.reqId, status := st,
    byteCnt := h.dueBytes, offset := h.addr % 128, route := .id, addr := h.reqId, cplId := cplId }

/-- Answers a request with a status, a completion to a PCI Express port carrying Completer ID `id`, in its own cells (R80): a Scango completion to the source FID where the request
came from the fabric, a completion to the requester's port, or the status given back inside the device (R84). The
packet must stand in no queue. -/
def State.answerAs (s : State) (i st id : Nat) : State :=
  let p := s.pkt i
  let s1 := s.freeTrk p.trkIn
  let base : Pkt := { p with
    dests := [], readers := 0, origin := .none, trkIn := none, trkOut := none, window := none, group := none,
    stall := none, metered := true, own := true, whole := true, tail := [] }
  let s1 : State := { s1 with xbc := { s1.xbc with rxCur := s1.xbc.rxCur.filter fun e => e.2 ≠ i } }
  if p.far ∨ p.orig.fab then
    let h := fabCpl (if p.far then p.fab else p.orig) st
    let q := { base with hdr := h, orig := h, far := false, trkOut := none }
    let s2 := (s1.setPkt q).paint i
    { s2 with xbc := { s2.xbc with jobs := s2.xbc.jobs ++ [.enter i] } }
  else
    let s1 := s1.freeTrk p.trkOut
    match p.ingress with
    | .port q =>
      let h := tlpCpl p.orig (forwardStatus st) id
      let s2 := (s1.setPkt { base with hdr := h, orig := h }).paint i
      let s3 := s2.cntPcp q (if forwardStatus st = 1 then 1 else 2)
      { s3 with xbc := { s3.xbc with jobs := s3.xbc.jobs ++ [.enter i] } }
    | _ => (s1.notify p.origin st).freePkt i

/-- Answers under the Completer ID of the DMV function (R84, R183, R185). -/
def State.answer (s : State) (i st : Nat) : State := s.answerAs i st (s.dmvId (s.pkt i).vs)

/-- The function that receives a packet, for error logging and R226. -/
def Pkt.rxFn (p : Pkt) : Fn := match p.ingress with | .port q => .port q | _ => .internal p.vs

/-- Answers from the receiving function (R226). -/
def State.answerRx (s : State) (i st : Nat) : State := s.answerAs i st (s.fnId (s.pkt i).vs (s.pkt i).rxFn)

/-! ### Mirrored copies (R104, R105, R111, R572) -/

/-- A replica of a fence that refers to flow `k` gets cause WITHDRAWN (R121). -/
def Fence.withdraw (k : Nat) (f : Fence) : Fence :=
  if f.st ≠ 2 then f
  else
    let reps := f.reps.map fun y => if y.st ≠ 2 ∧ flowKey f.src y.fid f.tc = k then { y with cause := 5, st := 2 } else y
    { f with reps := reps, st := if reps.all fun y => y.st == 2 then 3 else 2 }

/-- A CMT flow entry is read: one that fails its parity is discarded, with the count of its copies (R121). -/
def State.checkFlow (s : State) (k : Nat) : State :=
  if s.upsets.contains (0xE1, k) then
    let s1 : State := (s.takeUpset 0xE1 k).2
    match tfind s1.mce.flows k with
    | none => s1
    | some _ =>
      let off : Dest → Dest := fun x => match x.flow with | some (k', _) => if k' = k then { x with flow := none } else x | none => x
      let s2 : State := { s1 with
        mce := { s1.mce with
          flows := tdel s1.mce.flows k
          fences := s1.mce.fences.map fun e => (e.1, e.2.withdraw k) }
        xbc := { s1.xbc with pkts := s1.xbc.pkts.map fun e => (e.1, { e.2 with dests := e.2.dests.map off }) } }
      s2.raise Flt.CMT_FLOW_PARITY
  else s

/-- Adds a failure cause to a CMT flow and takes one copy off its count (R111). `dec` says whether the copy was
counted. -/
def State.cmtResolve (s : State) (f : Option (Nat × Nat)) (cause : Nat) (dec : Bool) : State :=
  match f with
  | none => s
  | some (k, g) =>
    let s := s.checkFlow k
    match tfind s.mce.flows k with
    | none => s
    | some x =>
      let x1 := if g = 0 then { x with c0 := x.c0 - b2n dec, f0 := if x.f0 = 0 then cause else x.f0 }
        else { x with c1 := x.c1 - b2n dec, f1 := if x.f1 = 0 then cause else x.f1 }
      let t := if x1.c0 = 0 ∧ x1.c1 = 0 ∧ x1.refs = 0 then tdel s.mce.flows k else tput s.mce.flows k x1
      { s with mce := { s.mce with flows := t } }

/-- A mirrored copy has failed at this device: its record, its counter, its mark for CMT, and its READERS (R105, R572).
`cause` is that of R196; 0 for a copy discarded under R88, which gets no record. -/
def State.copyFail (s : State) (i d cause : Nat) : State :=
  let p := s.pkt i
  let x := p.dest d
  let s1 := if cause = 0 then s else s.pwfPkt p (x.fab.getD x.hdr) cause (p.group.map fun g => (g, x.rep.getD 0))
  let (k, c) := if cause = 1 then (1, 3) else if cause = 3 ∨ cause = 5 then (2, 1) else (3, 5)
  let s2 := (s1.count (R.MCE_CNT k)).cmtResolve x.flow c x.counted
  s2.destDone i d

/-! ### Undeliverable packets (R84) -/

/-- Counter of R84 for a packet discarded for age. -/
def ageCounter (h : Hdr) : Nat :=
  if h.kind = .mwr then 0 else if h.kind = .msg then 3 else if h.kind.isCpl then 2 else 1

/-- Header that a failure record of a packet without a destination is written from (R196). -/
def Pkt.waitHdr (p : Pkt) : Hdr :=
  if p.far ∨ p.why = some .stamp ∨ p.why = some .fanout then p.fab else p.hdr

/-- Destination `d` of packet `i` is undeliverable, with the cause of R196 for a write. The packet must stand in no
queue; a packet with no destination yet is undeliverable as a whole (`d` is then out of range). -/
def State.undeliverable (s : State) (i d cause : Nat) : State :=
  let p := s.pkt i
  let x := p.dests[d]?
  let h := if p.far then p.fab else match x with | some y => y.fab.getD y.hdr | none => p.waitHdr
  match x.bind (·.rep) with
  | some _ => s.copyFail i d cause
  | none =>
    match p.hdr.kind with
    | .mwr => (s.pwfPkt p h cause).destDone i d
    | .msg => s.destDone i d
    | .cpl | .cpld | .cpldlk => s.destDone i d
    | _ => s.answer i 4

/-- A packet that no destination has taken is discarded for age (R83, R84), or a destination of one is. -/
def State.ageOut (s : State) (i d : Nat) : State :=
  let k := match (s.pkt i).dests[d]? with
    | some y => if y.rep.isSome then none else some (ageCounter (s.pkt i).hdr)
    | none => some (ageCounter (s.pkt i).hdr)
  let s1 := match k with | some c => s.count (R.XBC_CNT c) | none => s
  s1.undeliverable i d 1

/-- Age of a packet in µs (R82). -/
def State.pktAge (s : State) (p : Pkt) : Nat := (s.us % 2 ^ 18 + 2 ^ 18 - (p.arr / 1000) % 2 ^ 18) % 2 ^ 18

/-- Whether a packet has reached its age limit (R83); from the start of decanting no write ages, and in the safe state
only packets of the management path do (R86). -/
def State.aged (s : State) (p : Pkt) : Bool :=
  !(s.decanting && p.hdr.kind == .mwr)
    && s.pktAge p ≥ s.fldE p.epoch (R.XBC_AGE_LIMIT_TC p.tc) F.XBC_AGE_LIMIT_TC_LIMIT

/-! ### Egress (R71, R157, R169, R226, R230, R239, R240, R413) -/

/-- The management queue of a port (R415). -/
def mgmtQueue (p : Nat) : Nat := 32768 + p

/-- Whether in the safe state the management queue of the manager's upstream port has no room: it holds 64 packets (R415). -/
def State.mgmtFull (s : State) : Bool :=
  s.safe && (match s.upPort s.mgrVs with | some u => decide ((s.queue (mgmtQueue u)).mem.length ≥ 64) | none => false)

/-- A new destination of a packet, appended and held; its number is the count before. -/
def State.newDest (s : State) (i : Nat) (x : Dest) : State :=
  let p := s.pkt i
  s.setPkt { p with dests := p.dests ++ [{ x with st := .held }], readers := p.readers + 1 }

/-- Whether a packet meets a congested sub-queue and is red (R169). -/
def State.redMet (s : State) (p : Pkt) (q : Nat) : Bool :=
  p.hdr.colour == 2 && s.flag R.TMG_CFG F.TMG_CFG_RED_EN && !s.decanting && s.congested q

/-- Puts destination `d` of a packet in a queue of a port (R157, R158, R169, R415). -/
def State.queueDest (s : State) (i d port : Nat) : State :=
  let p := s.pkt i
  let x := p.dest d
  let s := if s.safe then s else s.lookQueue port x.hdr.tc p.vh
  let q := if s.safe then mgmtQueue port else s.queueFor port x.hdr.tc p.vh
  if !s.safe ∧ s.redMet p q ∧ x.hdr.kind = .msg then (s.count (R.TMG_CNT 4)).destDone i d
  else if !s.safe ∧ s.redMet p q ∧ x.hdr.kind.isNp then (s.count (R.TMG_CNT 3)).answer i 4
  else
    let p1 := { p with dests := p.dests.set d { x with port := port, queue := q } }
    (s.setPkt p1).enq i d

/-- Enqueues a packet with a header at a port. -/
def State.enqTo (s : State) (i port : Nat) (h : Hdr) : State :=
  let d := (s.pkt i).dests.length
  (s.newDest i { hdr := h }).queueDest i d port

/-- Completion status that a port in DPC answers: DPC Completion Control (R240, R566). -/
def State.dpcStatus (s : State) (p : Nat) : Nat := if s.cfgBits (.port p) 0x95 18 1 = 1 then 4 else 1

/-- A posted request is refused at the function that receives it: Unsupported Request is logged, and triggers DPC where a
downstream port's DPC Trigger Enable selects it (R226, R240). -/
def State.refusePosted (s : State) (p : Pkt) : State :=
  let s1 := s.logAer p.rxFn .unsupported (some p.orig)
  match p.ingress with
  | .port q =>
    let en := s.cfgBits (.port q) 0x95 16 2
    if s.isDown (.port q) ∧ !bitAt (s.cfgDw (.port q) 0x42) 20 ∧ (en = 2 ∨ (en = 1 ∧ bitAt (s.cfgDw (.port q) 0x43) 20)) then
      s1.addJob (.dpc q 0 0)
    else s1
  | _ => s1

/-- A packet cannot be delivered to a PCI Express port: its link is down, it is in DPC or it is contained (R226, R239,
R240, R413). -/
def State.deadPort (s : State) (i port : Nat) : State :=
  let p := s.pkt i
  let cont := s.portContained port || s.vsContained (s.vsOf port) && s.role port != 2 && s.role port != 3
  let dpc := (s.pcpOf port).dpc
  match p.hdr.kind with
  | .mwr =>
    if cont ∨ (dpc ∧ p.far) then (s.pwfPkt p (if p.far then p.fab else p.hdr) 8).freePkt i
    else if p.far then (s.pwfPkt p p.fab 9).freePkt i
    else (s.refusePosted p).freePkt i
  | .msg => (if p.far ∨ p.own ∨ cont then s else s.refusePosted p).freePkt i
  | .cpl | .cpld | .cpldlk => s.freePkt i
  | _ =>
    if p.far then
      s.answer i (if s.role port = 1 ∧ (cont ∨ dpc) then s.dpcStatus port else if cont then 4 else if s.role port = 2 then 9 else 1)
    else if s.role port = 1 ∧ (cont ∨ dpc) then s.answerRx i (s.dpcStatus port)
    else if cont then s.answer i 4
    else s.answerRx i 1

/-- Destination `d` of a mirrored write is a PCI Express port that takes no packets: the copy fails, that of a contained egress as
withdrawn (R105, R226, R413). -/
def State.deadCopy (s : State) (i d port : Nat) : State :=
  s.copyFail i d (if s.portContained port || s.vsContained (s.vsOf port) && s.role port < 2 || (s.pcpOf port).dpc then 2 else 9)

/-- Whether a port takes packets: its link is up and neither it nor its virtual switch is contained. -/
def State.portOpen (s : State) (port : Nat) : Bool :=
  s.linkUp port && !s.portContained port && !(s.role port < 2 && s.vsContained (s.vsOf port))

/-- Sends a packet to a PCI Express port with a header. -/
def State.toPort (s : State) (i port : Nat) (h : Hdr) : State :=
  if s.portOpen port then s.enqTo i port h else s.deadPort i port

end Sys2Proof.Machine
end

