-- ==== Sys2Proof/Machine/Fabric.lean ====
section
/-! DEFINITION. RTE, part two (05_fabric_routing_and_ordering.md): flow stamps, the resequencer, and sending a packet
into the fabric. -/

namespace Sys2Proof.Machine

/-! ### Flow stamps (R135, R136, R151) -/

/-- Whether a packet bypasses the resequencer (R135). -/
def Hdr.bypass (h : Hdr) : Bool := (h.kind.isNp && h.ro) || (h.kind.isCpl && (h.ro || h.ido))

/-- IDLE_MS in ns. -/
def State.idleNs (s : State) : Nat := s.fld R.RTE_FLOW_CFG F.RTE_FLOW_CFG_IDLE_MS * 1000000

/-- Stamp way of a flow, or the way a new flow takes: lowest free, then lowest replaceable (R136). -/
def State.stampWay (s : State) (k : Nat) : Option Nat :=
  let base := 8 * (flowHash k % 16384)
  let ways := (List.range 8).map (base + ·)
  match ways.find? fun w => match tfind s.rte.stamps w with | some e => e.flow == k | none => false with
  | some w => some w
  | none =>
    match ways.find? fun w => (tfind s.rte.stamps w).isNone with
    | some w => some w
    | none => ways.find? fun w => match tfind s.rte.stamps w with
        | some e => s.now - e.last ≥ s.idleNs | none => true

/-- Frees the stamp entry of a flow that fails its parity (R151). -/
def State.checkStamp (s : State) (k : Nat) : State :=
  match s.stampWay k with
  | none => s
  | some w =>
    let (bad, s1) := s.takeUpset 0xF1 w
    if bad then
      ({ s1 with rte := { s1.rte with stamps := tdel s1.rte.stamps w } }).raise Flt.RTE_TBL_PARITY 0
        (atBits 0xF1 32 8 ||| atBits (w % 8) 16 3 ||| atBits (w / 8) 0 16)
    else s

/-- Stamps a packet of a flow: SEQ and SYNC (R136); none where no way is free or replaceable. -/
def State.stampSeq (s : State) (k : Nat) : Option (Nat × Bool × State) :=
  let s := s.checkStamp k
  match s.stampWay k with
  | none => none
  | some w =>
    match tfind s.rte.stamps w with
    | some e =>
      if e.flow = k then
        let e' : Stamp := { e with next := (e.next + 1) % 65536, last := s.now }
        some (e.next, false, ({ s with rte := { s.rte with stamps := tput s.rte.stamps w e' } }).count (R.RTE_CNT 0))
      else
        let e' : Stamp := { flow := k, next := 1, last := s.now }
        some (0, true, ({ s with rte := { s.rte with stamps := tput s.rte.stamps w e' } }).count (R.RTE_CNT 0))
    | none =>
      let e' : Stamp := { flow := k, next := 1, last := s.now }
      some (0, true, ({ s with rte := { s.rte with stamps := tput s.rte.stamps w e' } }).count (R.RTE_CNT 0))

/-- Stamps a header that enters the fabric here: SEQ and SYNC, or BYP, and TTL (R128, R135, R136). -/
def State.stampHdr (s : State) (e : Nat) (h : Hdr) : Option (Hdr × State) :=
  let h := { h with fab := true, hlen := 32, ttl := s.fldE e R.RTE_CFG F.RTE_CFG_TTL_INIT }
  if h.bypass then some ({ h with byp := true, seq := 0 }, s.count (R.RTE_CNT 1))
  else match s.stampSeq (flowKey h.src h.dst h.tc) with
    | some (n, sync, s1) => some ({ h with seq := n, sync := sync, byp := false }, s1)
    | none => none

/-! ### The resequencer (R138 to R143, R146, R151) -/

/-- Resequencer way of a flow. -/
def State.rsqFind (s : State) (k : Nat) : Option Nat :=
  ((List.range 8).map (8 * (flowHash k % 8192) + ·)).find? fun w =>
    match tfind s.rte.rsq w with | some e => e.flow == k | none => false

/-- The way a new flow takes (R136, R141). -/
def State.rsqAlloc (s : State) (k : Nat) : Option Nat :=
  let ways := (List.range 8).map (8 * (flowHash k % 8192) + ·)
  match ways.find? fun w => (tfind s.rte.rsq w).isNone with
  | some w => some w
  | none => ways.find? fun w => match tfind s.rte.rsq w with
      | some e => e.slots.isEmpty && e.park.isEmpty && s.now - e.last ≥ s.idleNs | none => true

/-- A resequencer entry. -/
def State.rsq (s : State) (w : Nat) : Rsq := tget {} s.rte.rsq w
/-- Replaces it. -/
def State.setRsq (s : State) (w : Nat) (f : Rsq) : State := { s with rte := { s.rte with rsq := tput s.rte.rsq w f } }

/-- Slots in use by all flows (R139). -/
def State.rsqSlots (s : State) : Nat := s.rte.rsq.foldl (fun n e => n + e.2.slots.length) 0

/-- Header of destination `n % 8` of packet `n / 8`. -/
def State.dHdr (s : State) (n : Nat) : Hdr := ((s.pkt (n / 8)).dest (n % 8)).hdr

/-- Releases a packet of a flow: it is then delivered. A flush released while the loss mark is set takes the mark with
it (R115). -/
def State.rsqRelease (s : State) (w n : Nat) : State :=
  let f := s.rsq w
  if (s.dHdr n).flush ∧ f.loss then
    ((s.setRsq w { f with loss := false }).setPkt { s.pkt (n / 8) with lossHit := true }).addJob (.release n)
  else s.addJob (.release n)

/-- Releases from the slots as long as EXP stands in one (the first loop of `drain`, R140). -/
def State.drainSlots (s : State) (w : Nat) : Nat → State
  | 0 => s
  | m + 1 =>
    let f := s.rsq w
    match f.slots.find? fun e => e.1 == f.exp with
    | none => s
    | some (_, x) =>
      let f1 := { f with slots := f.slots.filter fun e => e.1 ≠ f.exp }
      let s1 := match x with
        | some n => (s.setRsq w f1).rsqRelease w n
        | none => s.setRsq w { f1 with loss := true }
      (s1.setRsq w { s1.rsq w with exp := (f.exp + 1) % 65536 }).drainSlots w m

/-- The place of a packet by its distance (R138, R140): 0 late or duplicate, 1 next, 2 to a slot, 3 to be parked, 4 far
ahead. -/
def State.rsqPlace (s : State) (w n : Nat) : Nat :=
  let f := s.rsq w
  let q := (s.dHdr n).seq
  let d := (q + 65536 - f.exp) % 65536
  if 16384 ≤ d ∧ d < 32768 then 4
  else if d ≥ 32768 ∨ f.slots.any (fun e => e.1 == q) then 0
  else if d = 0 then 1
  else if d < 1024 ∧ s.rsqSlots < 16384 then 2
  else 3

/-- A packet taken for late or duplicate: a second copy of a salvage is discarded, any other is undeliverable (R140). -/
def State.rsqLate (s : State) (n : Nat) : State :=
  if (s.dHdr n).salv then (s.count (R.RTE_CNT 7)).destDone (n / 8) (n % 8)
  else (s.count (R.RTE_CNT 6)).undeliverable (n / 8) (n % 8) 0x0A

/-- Acts on a packet's place, other than parking. -/
def State.rsqAct (s : State) (w n place : Nat) : State :=
  let f := s.rsq w
  if place = 0 then s.rsqLate n
  else if place = 1 then
    let s1 := s.rsqRelease w n
    s1.setRsq w { s1.rsq w with exp := (f.exp + 1) % 65536 }
  else ((s.setRsq w { f with slots := f.slots ++ [((s.dHdr n).seq, some n)] }).count (R.RTE_CNT 2)).ev 3 2 (s.pkt (n / 8)).acct
    (s.dHdr n).tc

/-- `drain` of R140: slots, then the parked packets in arrival order, each placed anew against EXP. -/
def State.drain (s : State) (w : Nat) : Nat → State
  | 0 => s.drainSlots w 1024
  | m + 1 =>
    let s1 := s.drainSlots w 1024
    let f := s1.rsq w
    match f.park.find? fun n => s1.rsqPlace w n < 3 with
    | none => s1
    | some n =>
      let s2 := s1.setRsq w { f with park := f.park.filter (· ≠ n) }
      (s2.rsqAct w n (s1.rsqPlace w n)).drain w m

/-- Whether a flow holds or parks a packet; a skip marker is none. -/
def Rsq.holds (f : Rsq) : Bool := f.slots.any (fun e => e.2.isSome) || !f.park.isEmpty

/-- The gap timer after a drain (`restart`), which stops it when nothing is left, not even a skip marker, and restarts it else;
and after an arrival, which starts it where it stands still and a packet is held or parked (R140, R142, R150). -/
def State.rsqTimer (s : State) (w : Nat) (restart : Bool) : State :=
  let f := s.rsq w
  if restart ∧ f.slots.isEmpty ∧ f.park.isEmpty then s.setRsq w { f with timer := none }
  else if restart ∨ (f.timer.isNone ∧ f.holds) then
    s.setRsq w { f with timer := some s.gapNow, tmo := s.fld (R.RTE_GAP_TMO_TC (f.flow % 8)) F.RTE_GAP_TMO_TC_TMO }
  else s

/-- A whole drain with its timer. -/
def State.rsqDrain (s : State) (w : Nat) : State :=
  (s.drain w ((s.rsq w).park.length + 1)).rsqTimer w true

/-- BLOCK and INFO of RTE_GAP_LOST (R142): far-ahead and skip bits, TC, the flow and the first lost number. -/
def State.gapFault (s : State) (w first : Nat) (far skip : Bool) : State :=
  let k := (s.rsq w).flow
  s.raise Flt.RTE_GAP_LOST 0 (atBits (k / 2 ^ 15) 28 12 ||| atBits (k / 8) 16 12 ||| atBits first 0 16)
    (atBits (k % 8) 0 3 ||| atBits (b2n far) 4 1 ||| atBits (b2n skip) 5 1)

/-- `end_gap` of R142, for the numbers below the lowest one held or parked, or below that of the far-ahead packet. -/
def State.endGap (s : State) (w : Nat) (far : Option Nat) : State :=
  let f := s.rsq w
  let dist := fun q : Nat => (q + 65536 - f.exp) % 65536
  let ds := f.slots.map (fun e => dist e.1) ++ f.park.map (fun n => dist (s.dHdr n).seq) ++ (far.map dist).toList
  match ds with
  | [] => s
  | d0 :: rest =>
    let lost := rest.foldl min d0
    let s1 := (s.gapFault w f.exp far.isSome false).count (R.RTE_CNT 4) lost
    (s1.setRsq w { f with exp := (f.exp + lost) % 65536, loss := true }).rsqDrain w

/-- Ends gaps until a far-ahead packet is no longer far ahead (the loop of R140). -/
def State.endFar (s : State) (w n : Nat) : Nat → State
  | 0 => s
  | m + 1 => if s.rsqPlace w n = 4 then (s.endGap w (some (s.dHdr n).seq)).endFar w n m else s

/-- Releases everything a flow holds in the order of numbers from EXP on (R140, R151). -/
def State.rsqFlush (s : State) (w : Nat) : State :=
  let f := s.rsq w
  let dist := fun n : Nat => ((s.dHdr n).seq + 65536 - f.exp) % 65536
  let all := sortBy dist (f.slots.filterMap (·.2) ++ f.park)
  let s1 := all.foldl (fun s n => s.rsqRelease w n) s
  s1.setRsq w { s1.rsq w with slots := [], park := [], timer := none }

/-- Frees the entry of a flow that fails its parity: what it holds is released (R151). -/
def State.checkRsq (s : State) (k : Nat) : State :=
  match s.rsqFind k with
  | none => s
  | some w =>
    let (bad, s1) := s.takeUpset 0xF0 w
    if bad then
      let s2 := s1.rsqFlush w
      ({ s2 with rte := { s2.rte with rsq := tdel s2.rte.rsq w } }).raise Flt.RTE_TBL_PARITY 0
        (atBits 0xF0 32 8 ||| atBits (w % 8) 16 3 ||| atBits (w / 8) 0 16)
    else s

/-- Places an arriving packet in its flow (the second half of `arrive`, R140). While decanting and in the safe state a
far-ahead packet is parked and ends no gap (R152). -/
def State.rsqEnter (s : State) (w n : Nat) : State :=
  let f := s.rsq w
  let s1 := s.setRsq w { f with last := s.now }
  let s2 := if s.decanting ∨ s.safe then s1 else s1.endFar w n (f.slots.length + f.park.length + 2)
  let pl := s2.rsqPlace w n
  if pl = 1 then (s2.rsqAct w n 1).rsqDrain w
  else if pl < 3 then (s2.rsqAct w n pl).rsqTimer w false
  else
    let g := s2.rsq w
    (((s2.setRsq w { g with park := g.park ++ [n] }).count (R.RTE_CNT 3)).ev 3 2 (s2.pkt (n / 8)).acct (s2.dHdr n).tc).rsqTimer w
      false

/-- `arrive` of R140 for destination `n % 8` of packet `n / 8`; bypass packets are released at once (R143). -/
def State.rsqArrive (s : State) (n : Nat) : State :=
  let h := s.dHdr n
  if h.byp then (s.count (R.RTE_CNT 1)).addJob (.release n)
  else
    let k := flowKey h.src h.dst h.tc
    let s := s.checkRsq k
    match s.rsqFind k with
    | some w =>
      if h.sync then
        let s1 := s.rsqFlush w
        (s1.setRsq w { s1.rsq w with exp := h.seq }).rsqEnter w n
      else s.rsqEnter w n
    | none =>
      match s.rsqAlloc k with
      | none => ((s.count (R.RTE_CNT 12)).raise Flt.RTE_RSQ_FULL 0 h.rteInfo h.tc).addJob (.release n)
      | some w =>
        let s1 := s.setRsq w { flow := k, exp := h.seq, last := s.now }
        let s2 := if h.sync then s1 else (s1.count (R.RTE_CNT 13)).raise Flt.RTE_SEQ_ADOPT 0 h.rteInfo h.tc
        s2.rsqEnter w n

/-- A SEQ_SKIP for a flow of this device (R146, R152). A number whose marker takes a slot is declared lost there and then, in
RTE_CNT_5 and RTE_GAP_LOST, not when EXP passes the marker (DESIGN CHOICE, log entry 157). -/
def State.seqSkip (s : State) (src dst tc q : Nat) : State :=
  let k := flowKey src dst tc
  if s.decanting ∨ s.safe then s
  else
    let s := s.checkRsq k
    match s.rsqFind k with
  | none => s
  | some w =>
    let f := s.rsq w
    let d := (q + 65536 - f.exp) % 65536
    let lost := fun s : State => (s.count (R.RTE_CNT 5)).gapFault w q false true
    if d = 0 then
      ((lost s).setRsq w { f with exp := (f.exp + 1) % 65536, loss := true }).rsqDrain w
    else if d < 1024 ∧ s.rsqSlots < 16384 ∧ !f.slots.any (fun e => e.1 == q) then
      (lost s).setRsq w { f with slots := f.slots ++ [(q, none)] }
    else s

/-! ### Sending into and across the fabric (R131, R132, R144) -/

/-- Destination `d` of packet `i` cannot be routed: counted, and a fault raised (R131, R132, R151); a mirrored copy without a
route follows R104 instead, which raises none (R131). The lookup of a packet with one destination has found no route (R30). -/
def State.unrouted (s : State) (i d : Nat) (k : FaultKind) (info block : Nat) : State :=
  let p := s.pkt i
  if (p.dest d).rep.isSome then
    (if k = Flt.RTE_NO_ROUTE then s else (s.count (R.RTE_CNT 11)).raise k 0 info block).undeliverable i d 3
  else (((s.setPkt { p with outcome := 4 }).count (R.RTE_CNT 11)).raise k 0 info block).undeliverable i d 3

/-- The next hops that a route entry uses: those of nonzero weight, and ESC_NH (R130). -/
def State.usedHops (s : State) (e fid : Nat) : List Nat :=
  [0, 1, 2, 3].filter fun x => (s.hop e fid x).2 ≠ 0 || x == bitsOf (s.rteWord e fid 0) 51 2

/-- Whether the route table gives a header no next hop with a link up (R104, R131). -/
def State.noHop (s : State) (e : Nat) (h : Hdr) : Bool :=
  !s.rteValid e h.dst || (!s.rteLocal e h.dst && (s.usedHops e h.dst).all fun x => s.hopLinks e h.dst x == [])

/-- Whether no eligible next hop of a header towards another device has a link up (R131, R144, R193). -/
def State.unreachable (s : State) (e : Nat) (h : Hdr) : Bool :=
  !s.rteValid e h.dst
    || !s.rteLocal e h.dst && ((s.eligibleHops e h).map (s.hopLinks e h.dst)).flatten == []

/-- Routes destination `d` of packet `i` by its Scango header: to the resequencer where its FID is local, else to the
egress queue of the first link up among its eligible hops, where its link is chosen when it stands at the head (R131 to
R133; log entry 18). Where the eligible hops are down and another next hop is up it waits in that one's queue (WAIT of
R133). -/
def State.fabRoute (s : State) (i d : Nat) : State :=
  let p := s.pkt i
  let h := (p.dest d).hdr
  let e := p.epoch
  if s.entryFaulty e 2 h.dst then s.unrouted i d Flt.RTE_TBL_PARITY (atBits 2 32 8 ||| atBits h.dst 0 16) 0
  else if s.noHop e h then s.unrouted i d Flt.RTE_NO_ROUTE h.rteInfo h.tc
  else if s.rteLocal e h.dst then s.rsqArrive (8 * i + d)
  else
    let hops := s.eligibleHops e h
    if hops = [] then s.unrouted i d Flt.RTE_UPDOWN h.rteInfo (atBits h.tc 0 3 ||| atBits (s.channel e h) 3 2)
    else match ((hops ++ s.usedHops e h.dst).map (s.hopLinks e h.dst)).flatten with
      | l :: _ => s.queueDest i d l
      | [] => s.unrouted i d Flt.RTE_NO_ROUTE h.rteInfo h.tc

/-- A packet with one destination takes a Scango header and is routed. -/
def State.fabSend (s : State) (i : Nat) (h : Hdr) : State :=
  let p := s.pkt i
  let s1 := s.setPkt { p with hdr := h }
  let d := p.dests.length
  (s1.newDest i { hdr := h }).fabRoute i d

end Sys2Proof.Machine
end

