-- ==== Sys2Proof/Machine/TableMem.lean ====
section
/-! DEFINITION. Table memory as its users see it (16_table_memory_and_integrity.md R426 to R432): regions, the stored-data
code, and readable words. -/

namespace Sys2Proof.Machine

/-- Base and size in bytes of region `k` of TBM_REGION, if valid and of a kind (R426). -/
def State.region (s : State) (kind k : Nat) : Option (Nat × Nat) :=
  if s.flag (R.TBM_REGION k) F.TBM_REGION_VALID ∧ s.fld (R.TBM_REGION k) F.TBM_REGION_KIND = kind then
    some (64 * s.fld (R.TBM_REGION k) F.TBM_REGION_BASE, 64 * s.fld (R.TBM_REGION k) F.TBM_REGION_SIZE)
  else none

/-- The regions of a kind in ascending k (R426). -/
def State.regions (s : State) (kind : Nat) : List (Nat × Nat) := (List.range 16).filterMap (s.region kind)

/-- Size in bytes of the table space of a kind (R426). -/
def State.regionSize (s : State) (kind : Nat) : Nat := (s.regions kind).foldl (fun n r => n + r.2) 0

/-- 4 KiB blocks of the shadow pool (R426). -/
def State.poolSize (s : State) : Nat := s.regionSize 3 / 4096

/-- Base and size in bytes of the WLG region (R324, R426). -/
def State.wlgRegion (s : State) : Nat × Nat := (s.regions 2).headD (0, 0)

/-- Finds a byte offset in regions joined end to end. -/
def inRegions : List (Nat × Nat) → Nat → Option Nat
  | [], _ => none
  | (b, n) :: rs, o => if o < n then some (b + o) else inRegions rs (o - n)

/-- Logical address of a byte offset in the table space of a kind (R426). -/
def State.tblAddr (s : State) (kind off : Nat) : Option Nat := inRegions (s.regions kind) off

/-! ### Readable words (R430, R431) -/

/-- Flipped bits of the byte at an address. -/
def State.flipsAt (s : State) (a : Nat) : Nat := tget 0 s.tbm.flips a

/-- The byte offset, in regions joined end to end, of an address that lies in one of them. -/
def placeIn : List (Nat × Nat) → Nat → Option Nat
  | [], _ => none
  | (b, n) :: rs, a => if b ≤ a ∧ a < b + n then some (a - b) else (placeIn rs a).map (n + ·)

/-- The table in table memory, by the kind of its regions, and the byte offset in it that a logical address serves (R426). -/
def State.tblPlace (s : State) (a : Nat) : Option (Nat × Nat) :=
  [0, 1].findSome? fun kind => (placeIn (s.regions kind) a).map fun o => (kind, o)

/-- The logical address in the shadow pool of a byte of a shadow block, which stands at 2^30 + the logical address of the byte
that it shadows. -/
def State.poolAddr (s : State) (a : Nat) : Nat :=
  match s.tblPlace (a - 2 ^ 30) with
  | some (kind, o) =>
    match tfind s.cfg.shPlace ((2 * kind + 1) * 2 ^ 24 + o / 4096) with
    | some n => (s.tblAddr 3 (4096 * n + o % 4096)).getD a
    | none => a
  | none => a

/-- Whether the 32-byte table word that holds a byte is unreadable (R431, R447). -/
def State.wordBad (s : State) (a : Nat) : Bool :=
  s.tbm.poison.contains (a / 32) || s.tbm.flips.any fun e => e.1 / 32 == a / 32 && eccOf e.2 == .bad

/-- Whether any table word of `n` bytes from an address is unreadable. -/
def State.rangeBad (s : State) (a n : Nat) : Bool :=
  (s.tbm.poison.any fun w => a / 32 ≤ w && w ≤ (a + n - 1) / 32)
    || s.tbm.flips.any fun e => a / 32 ≤ e.1 / 32 && e.1 / 32 ≤ (a + n - 1) / 32 && eccOf e.2 == .bad

/-- The bits of a byte that a read delivers wrong: those of a correction at the wrong place, or of errors that the code does
not see (R428). -/
def wrongBits (m : Nat) : Nat := match eccOf m with | .ok => m % 256 | .cor left => left | .bad => 0

/-- The byte that a read of table memory delivers. -/
def State.tmByte (s : State) (e a : Nat) : Nat := s.tmAt e a 1 ^^^ wrongBits (s.flipsAt a)

/-- A little-endian number of `n` bytes as a read of table memory delivers it. -/
def State.tmNum (s : State) (e a : Nat) : Nat → Nat
  | 0 => 0
  | n + 1 => s.tmByte e a + 256 * s.tmNum e (a + 1) n

/-! ### Physical addresses and the effects of a read (R427, R430, R431, R438, R446) -/

/-- The valid regions: base, size, kind and die (R426). -/
def State.regionList (s : State) : List (Nat × Nat × Nat × Nat) :=
  (List.range 16).filterMap fun k =>
    if s.flag (R.TBM_REGION k) F.TBM_REGION_VALID then
      some (64 * s.fld (R.TBM_REGION k) F.TBM_REGION_BASE, 64 * s.fld (R.TBM_REGION k) F.TBM_REGION_SIZE,
        s.fld (R.TBM_REGION k) F.TBM_REGION_KIND, s.fld (R.TBM_REGION k) F.TBM_REGION_DIE)
    else none

/-- Place of a logical address in the reserve, if its region lay on the die that is spared out (R446 step 3). -/
def State.reservePos (s : State) (a : Nat) : Option Nat :=
  match s.tbm.out with
  | none => none
  | some d =>
    let on := s.regionList.filter fun r => r.2.2.1 ≠ 4 && r.1 / 2 ^ 27 == d
    match on.find? fun r => r.1 ≤ a && a < r.1 + r.2.1 with
    | none => none
    | some r => some (((on.filter fun q => q.1 < r.1).foldl (fun n q => n + q.2.1) 0) + (a - r.1))

/-- 4 KiB blocks of the regions that lay on the spared-out die (R446). -/
def State.relocBlocks (s : State) : Nat :=
  match s.tbm.out with
  | none => 0
  | some d => ceilDiv ((s.regionList.filter fun r => r.2.2.1 ≠ 4 && r.1 / 2 ^ 27 == d).foldl (fun n r => n + r.2.1) 0) 4096

/-- RELOC_BUSY: a relocation is in progress (R446); from a die that has failed nothing is copied (R447). -/
def State.relocBusy (s : State) : Bool :=
  s.tbm.out.isSome && !(s.tbm.out.any s.tbm.gone.contains) && decide (s.tbm.copied < s.relocBlocks)

/-- The physical address of a logical one, of a shadow block's byte in the pool (R427). -/
def State.phys (s : State) (a0 : Nat) : Nat :=
  let a := if 2 ^ 30 ≤ a0 then s.poolAddr a0 else a0
  match s.reservePos a with
  | some o => if o / 4096 < s.tbm.copied then ((s.regions 4).headD (0, 0)).1 + o else a
  | none => a

/-- REQ_EN as a die's arbiter uses it, with the requesters that are always enabled and without the reserved ones (R438); one
that a COMMIT has installed is used from the next arbitration phase on (R444). -/
def State.reqEn (s : State) (d : Nat) : Nat :=
  let w := match (tget {} s.tbm.dies d).held with
    | some h => h.1
    | none => s.fld (R.TM_ARB_CFG d) F.TM_ARB_CFG_REQ_EN
  (w ||| 0x8003A203) &&& 0x81FFFFFF

/-- The requester that a group's request goes to (R438). -/
def State.requester (s : State) (d r : Nat) : Nat :=
  if bitAt (s.reqEn d) r then r
  else if 1 ≤ r ∧ r ≤ 8 then 1
  else if 9 ≤ r ∧ r ≤ 12 then 9
  else if r = 13 ∨ r = 14 then 13
  else if 17 ≤ r ∧ r ≤ 24 then 17
  else r

/-- BLOCK and INFO of TBM_COR and TBM_UNCORR (R453). -/
def State.tbmRaise (s : State) (k : FaultKind) (r a : Nat) : State :=
  let p := s.phys (a / 32 * 32)
  let d := p / 2 ^ 27 % 4
  s.raise k 0 (atBits (s.requester d r) 29 5 ||| atBits p 0 29) d

/-- The correction or the unreadable word of a read counts towards the repair of its physical row: ROW_COR_MAX corrections
within 24 h, or one unreadable word (R495). -/
def State.rowCount (s : State) (p : Nat) (bad : Bool) : State :=
  let row := p / 2048
  let ts := ((tget [] s.age.rowCor row).filter fun t => s.now - t < 86400000000000) ++ [s.now]
  let due := bad || decide (ts.length ≥ s.fld R.AGE_MARGIN_CFG F.AGE_MARGIN_CFG_ROW_COR_MAX)
  let k := if bad then Flt.TBM_UNCORR else Flt.TBM_COR
  { s with age := { s.age with
      rowCor := if bad then s.age.rowCor else tput s.age.rowCor row ts
      rowDue := if due && !s.age.rowDue.any (fun e => e.1 == row) then s.age.rowDue ++ [(row, faultId k.source k.kind)] else s.age.rowDue } }

/-- What a read of the table word `w` by requester `r` does beside delivering it (R430, R431, R435). -/
def State.readWord (s : State) (r w : Nat) : State :=
  let a := 32 * w
  if s.wordBad a then ((s.count (R.TBM_CNT 1)).tbmRaise Flt.TBM_UNCORR r a).rowCount (s.phys a) true
  else
    let hit := (s.tbm.flips.filter fun e => e.1 / 32 == w && (eccOf e.2).fixes).length
    if hit = 0 then s
    else
      let s1 := s.count (R.TM_CNT (s.phys a / 2 ^ 27 % 4) 5) hit
      let s2 : State := if s1.tbm.revisit.contains w then s1
        else if s1.tbm.revisit.length ≥ 64 then s1.count (R.TBM_CNT 3)
        else { s1 with tbm := { s1.tbm with revisit := s1.tbm.revisit ++ [w] } }
      (s2.tbmRaise Flt.TBM_COR r a).rowCount (s.phys a) false

/-- Requester `r` reads `n` bytes of the copy in force. -/
def State.tmRead (s : State) (r a n : Nat) : State :=
  if !s.tbm.flips.any (fun e => a / 32 ≤ e.1 / 32 && e.1 / 32 ≤ (a + n - 1) / 32) ∧ !s.rangeBad a n then s
  else (List.range ((a + n - 1) / 32 + 1 - a / 32)).foldl (fun s k => s.readWord r (a / 32 + k)) s

/-- The upset codewords after a write of `n` bytes from an address: those written are good, but a damaged table word stays
damaged until a write replaces all of its bytes (R431). -/
def flipsAfter (t : Tbl Nat) (a n : Nat) : Tbl Nat :=
  t.filter fun e => e.1 < a || a + n ≤ e.1
    || (eccOf e.2 == .bad && !(a ≤ e.1 / 32 * 32 && e.1 / 32 * 32 + 32 ≤ a + n))

/-- Writes bytes of the copy in force; the codewords written are good (R431), and a poisoned word whose bytes are all
replaced is readable again (R447). -/
def State.tmWrite (s : State) (a : Nat) (bs : List Byte) : State :=
  { s with
    cfg := { s.cfg with tm := Mem.wrN 0 s.cfg.tm a bs }
    tbm := { s.tbm with
      flips := flipsAfter s.tbm.flips a bs.length
      poison := s.tbm.poison.filter fun w => 32 * w < a || a + bs.length < 32 * w + 32 } }

end Sys2Proof.Machine
end

