-- ==== Sys2Proof/Machine/Mirror.lean ====
section
/-! DEFINITION. MCE and CMT (04_replication_and_commit.md): mirror groups, the fan-out of a member write, and commit
fences from submission to record. -/

namespace Sys2Proof.Machine

/-! ### The mirror-group table (R97, R98) -/

/-- A mirror-group entry. -/
structure Group where
  valid : Bool := false
  bad : Bool := false
  readSel : Nat := 0
  repEn : Nat := 0
  flushBase : Nat := 0
  tmo : Nat := 0
  fids : List Nat := []
  deltas : List Nat := []
  deriving DecidableEq, Repr

/-- The entry of a group in the copy of an epoch (R97, R98). -/
def State.group (s : State) (e g : Nat) : Group :=
  match s.tblAddr 1 (64 * g) with
  | none => {}
  | some a =>
    if s.rangeBad a 64 then { bad := true }
    else
      let w0 := s.tmNum e a 8
      let rw := fun r : Nat => s.tmNum e (a + 16 + 8 * r) 8
      { valid := bitAt w0 63, readSel := bitsOf w0 58 2, repEn := bitsOf w0 52 4, flushBase := bitsOf w0 0 52,
        tmo := bitsOf (s.tmNum e (a + 8) 8) 0 16,
        fids := [0, 1, 2, 3].map fun r => bitsOf (rw r) 52 12,
        deltas := [0, 1, 2, 3].map fun r => bitsOf (rw r) 12 40 * 4096 }

/-- What a read of a group entry on behalf of a port's quadrant does in table memory (R430, R431, R438). -/
def State.groupRead (s : State) (port : Option Nat) (g : Nat) : State :=
  match s.tblAddr 1 (64 * g) with
  | some a => s.tmRead (9 + (match port with | some p => s.quadrant p | none => 0) / 2) a 64
  | none => s

/-- Enabled replicas of a group. -/
def Group.reps (g : Group) : List Nat := [0, 1, 2, 3].filter fun r => bitAt g.repEn r
/-- FID of a replica. -/
def Group.fid (g : Group) (r : Nat) : Nat := g.fids.getD r 0xFFF
/-- Address of an offset at a replica (R100). -/
def Group.at (g : Group) (r off : Nat) : Nat := (off + g.deltas.getD r 0) % 2 ^ 52
/-- The replica that serves reads (R98, R100). -/
def Group.reader (g : Group) : Nat := if bitAt g.repEn g.readSel then g.readSel else g.reps.headD 0

/-! ### Fan-out (R99 to R104) -/

/-- A CMT flow entry. -/
def State.flow? (s : State) (k : Nat) : Option CmtFlow := tfind s.mce.flows k
/-- Replaces a CMT flow entry. -/
def State.setFlow (s : State) (k : Nat) (x : CmtFlow) : State := { s with mce := { s.mce with flows := tput s.mce.flows k x } }

/-- Counts a copy into its flow's present generation (R111): the flow, its generation and the state. -/
def State.cmtCount (s : State) (k : Nat) : (Nat × Nat) × State :=
  let s := s.checkFlow k
  let x := (s.flow? k).getD {}
  if x.gen = 0 then ((k, 0), s.setFlow k { x with c0 := x.c0 + 1 }) else ((k, 1), s.setFlow k { x with c1 := x.c1 + 1 })

/-- Stamps the headers of the copies in turn; none when any flow finds no stamp way (R136). -/
def State.stampAll (s : State) (e : Nat) : List (Nat × Hdr) → Option (List (Nat × Hdr) × State)
  | [] => some ([], s)
  | (r, h) :: t =>
    match s.stampHdr e h with
    | none => none
    | some (h', s1) =>
      match s1.stampAll e t with
      | none => none
      | some (l, s2) => some ((r, h') :: l, s2)

/-- What the fan-out of a member write did. -/
inductive FanOut where
  | wait (why : Stall)
  | done (s : State)

/-- A member write with Scango header `h` (offset as translated) becomes one copy per enabled replica (R100 to R104);
everything is taken at one moment, or nothing (R103). -/
def State.fanOut (s : State) (i g : Nat) (grp : Group) (h : Hdr) : FanOut :=
  let p := s.pkt i
  let e := p.epoch
  let copies := grp.reps.map fun r =>
    (r, { h with dst := grp.fid r, offset := grp.at r h.offset, ro := false, ido := false })
  let routed := copies.filter fun c => !s.noHop e c.2 && !s.entryFaulty e 2 c.2.dst
  let lostR := copies.filter fun c => s.noHop e c.2 || s.entryFaulty e 2 c.2.dst
  let keys := (routed.map fun c => flowKey c.2.src c.2.dst c.2.tc).eraseDups
  let need := (keys.filter fun k => (s.flow? k).isNone).length
  if s.mce.fanout.length ≥ 65536 ∨ s.mce.flows.length + need > 4096 then .wait .fanout
  else match s.stampAll e routed with
  | none => .wait .stamp
  | some (hs, s1) =>
    let s2 := lostR.foldl (init := s1) fun s c =>
      let s0 := if s.entryFaulty e 2 c.2.dst then s.raise Flt.RTE_TBL_PARITY 0 (atBits 2 32 8 ||| atBits c.2.dst 0 16) else s
      let s' := (s0.pwfPkt p c.2 3 (some (g, c.1))).count (R.MCE_CNT 2)
      s'.cmtResolve (some (flowKey c.2.src c.2.dst c.2.tc, match s.flow? (flowKey c.2.src c.2.dst c.2.tc) with
        | some x => x.gen | none => 0)) 1 false
    if hs = [] then .done (s2.freePkt i)
    else
      let p2 := { s2.pkt i with group := some g, hdr := h }
      let s3 := s2.setPkt p2
      let s4 : State := { s3 with mce := { s3.mce with fanout := s3.mce.fanout ++ [i] } }
      -- every copy is created before any is routed, so that the packet stays while one of them fails
      let s5 := hs.foldl (init := s4) fun s c =>
        let (fl, s') := s.cmtCount (flowKey c.2.src c.2.dst c.2.tc)
        s'.newDest i { hdr := c.2, rep := some c.1, flow := some fl }
      .done ((List.range hs.length).foldl (fun s d => s.fabRoute i d) (s5.ev 0xA 1 p.vs p.tc hs.length))

/-! ### Commit fences (R107 to R119) -/

/-- Flow of a replica of a fence. -/
def Fence.key (f : Fence) (r : FenceRep) : Nat := flowKey f.src r.fid f.tc

/-- Replaces a fence. -/
def State.setFence (s : State) (n : Nat) (f : Fence) : State := { s with mce := { s.mce with fences := tput s.mce.fences n f } }

/-- Fences that hold a slot (R112). -/
def State.fenceSlots (s : State) : Nat := (s.mce.fences.filter fun e => e.2.st ≠ 0).length

/-- A fence is submitted (R107, R110, R112): by message, or by a slice for its descriptor. A bad fence ends at once even
where all 8,192 slots are in use (DESIGN CHOICE, log entry 148). -/
def State.fenceSubmit (s : State) (v tc : Nat) (op : FenceOp) (slice : Option (Nat × Nat)) : State :=
  let s := if op.group > 1023 then s else s.groupRead (s.upPort v) op.group
  let g := s.group s.cfg.epoch (op.group % 1024)
  let bad := if op.group > 1023 then some 6 else if g.bad then some 7 else if !g.valid then some 6 else none
  let wait := s.fenceSlots ≥ 8192
  let f : Fence := {
    id := op.fenceId, group := op.group % 1024, recordAddr := op.recordAddr, src := s.srcFid v, vs := v,
    tc := tc, slice := slice, st := if bad.isSome then 3 else if wait then 0 else 1, bad := bad }
  let s1 : State := { s with mce := { s.mce with fences := tput s.mce.fences s.mce.nextFence f, nextFence := s.mce.nextFence + 1 } }
  if wait ∧ bad.isNone then s1.count (R.CMT_CNT 6) else s1

/-- A commit-fence message at the DMV function of a virtual switch (R108): handed to CMT, or discarded and counted. -/
def State.fenceMessage (s : State) (v tc lenDw : Nat) (op : FenceOp) : State :=
  if !s.flag R.CMT_CFG F.CMT_CFG_VDM_EN ∨ lenDw ≠ 4 ∨ op.recordAddr % 32 ≠ 0 then s.count (R.CMT_CNT 3)
  else s.fenceSubmit v tc op none

/-- Whether an earlier fence of the same source and TC has not been taken. -/
def State.earlierPending (s : State) (n : Nat) (f : Fence) : Bool :=
  s.mce.fences.any fun e => e.1 < n && e.2.src == f.src && e.2.tc == f.tc && e.2.st ≤ 1

/-- The present generation of a flow, and the count of the other generation (R111). -/
def State.genOf (s : State) (k : Nat) : Nat × Nat :=
  match s.flow? k with
  | some x => (x.gen, if x.gen = 0 then x.c1 else x.c0)
  | none => (0, 0)

/-- Takes a flow's present generation for a fence: flips G and clears F of the new generation (R112). A flow without an
entry has nothing outstanding; it takes one while the table has room, and else generation 0 without one (DESIGN CHOICE,
log entry 149). -/
def State.takeGen (s : State) (k : Nat) : Nat × State :=
  match s.flow? k with
  | some x =>
    if x.gen = 0 then (0, s.setFlow k { x with gen := 1, f1 := 0, refs := x.refs + 1 })
    else (1, s.setFlow k { x with gen := 0, f0 := 0, refs := x.refs + 1 })
  | none => if s.mce.flows.length < 4096 then (0, s.setFlow k { gen := 1, refs := 1 }) else (0, s)

/-- Takes the fence `n` (R110, R112): its group is captured for its whole life (R120). -/
def State.fenceTake (s : State) (n : Nat) (f : Fence) : State :=
  let s := s.groupRead (s.upPort f.vs) f.group
  let g := s.group s.cfg.epoch f.group
  if g.bad ∨ !g.valid then s.setFence n { f with st := 3, bad := some (if g.bad then 7 else 6) }
  else
    let keys := g.reps.map fun r => flowKey f.src (g.fid r) f.tc
    let s := keys.foldl State.checkFlow s
    if keys.any fun k => (s.genOf k).2 ≠ 0 then s
    else
      -- replicas on one FID share a flow, which is flipped once
      let (gens, s1) := keys.eraseDups.foldl (init := (([] : List (Nat × Nat)), s)) fun acc k =>
        let (b, s') := acc.2.takeGen k
        (acc.1 ++ [(k, b)], s')
      let reps := [0, 1, 2, 3].map fun r =>
        if bitAt g.repEn r then
          ({ fid := g.fid r, addr := g.at r g.flushBase / 4 * 4, gen := tget 0 gens (flowKey f.src (g.fid r) f.tc),
             cause := 16, st := 0 } : FenceRep)
        else { cause := 15, st := 2 }
      (s1.ev 0xA 2 f.vs f.tc).setFence n { f with st := 2, take := s.now, tmo := g.tmo * 1000, reps := reps }

/-- Lets go of the flow of a replica once its cause is known (R111). -/
def State.dropRef (s : State) (k : Nat) : State :=
  match s.flow? k with
  | none => s
  | some x =>
    let x' := { x with refs := x.refs - 1 }
    if x'.c0 = 0 ∧ x'.c1 = 0 ∧ x'.refs = 0 then { s with mce := { s.mce with flows := tdel s.mce.flows k } }
    else s.setFlow k x'

/-- Sets the cause of a replica (R116); the fence is finished when every required replica has one. -/
def State.setCause (s : State) (n r cause : Nat) : State :=
  match tfind s.mce.fences n with
  | none => s
  | some f =>
    let x := f.reps.getD r {}
    if x.st = 2 then s
    else
      let reps := f.reps.set r { x with cause := cause, st := 2 }
      let fin := reps.all fun y => y.st == 2
      let shared := reps.any fun y => y.st ≠ 2 && y.fid == x.fid
      let s1 := s.setFence n { f with reps := reps, st := if fin then 3 else f.st }
      if shared then s1 else s1.dropRef (f.key x)

/-- STATUS of a fence (R118). -/
def Fence.status (f : Fence) : Nat :=
  match f.bad with
  | some b => b
  | none => match f.reps.find? fun r => r.cause ≠ 15 && r.cause ≠ 0 with | some r => r.cause | none => 0

/-- The 32-byte completion record (R117, R118). TAKE_TIME of a fence that was never taken is 0 (DESIGN CHOICE, log entry
146). -/
def Fence.record (f : Fence) (now : Nat) : List Byte :=
  let req := [0, 1, 2, 3].foldl (fun m r => if (f.reps.getD r {}).cause ≠ 15 then m + 2 ^ r else m) 0
  let conf := [0, 1, 2, 3].foldl (fun m r => if (f.reps.getD r {}).cause = 0 then m + 2 ^ r else m) 0
  let cause := [0, 1, 2, 3].foldl (fun m r => m + atBits (f.reps.getD r {}).cause (4 * r) 4) 0
  leBytes 4 f.id ++ leBytes 1 f.status ++ leBytes 1 (if f.bad.isSome then 0 else 16 * req + conf)
    ++ leBytes 2 (atBits 1 15 1 ||| atBits f.group 0 10) ++ leBytes 2 (if f.bad.isSome then 0xFFFF else cause)
    ++ leBytes 1 f.tc ++ leBytes 5 0 ++ leBytes 8 f.take ++ leBytes 8 now

/-- Gives a freed slot to the oldest fence that waits for one (R112). -/
def State.nextSlot (s : State) : State :=
  match s.mce.fences.find? fun e => e.2.st == 0 with
  | some (n, f) => if s.fenceSlots < 8192 then s.setFence n { f with st := 1 } else s
  | none => s

/-- Writes the record of the finished fence `n`, or drops it (R119), and frees its slot. -/
def State.fenceRecord (s : State) (n : Nat) (f : Fence) : State :=
  let st := f.status
  let drop : Bool := s.vsContained f.vs || (match s.upPort f.vs with | some u => s.portContained u | none => true) || !s.bme (.dmv f.vs)
  let s1 := if drop then (s.count (R.CMT_CNT 4)).raise Flt.CMT_REC_DROP f.vs
    else s.hostWrite (.dmv f.vs) f.recordAddr (f.record s.now) f.tc
  let s2 := (s1.count (R.CMT_CNT 0)).count (R.CMT_CNT (if st = 0 then 1 else if st ≤ 5 then 2 else 3))
  let s3 : State := { s2 with mce := { s2.mce with fences := tdel s2.mce.fences n } }
  let s4 := match f.slice with
    | some (i, d) => s3.notify (.slice i d 255) st [] drop
    | none => s3
  s4.nextSlot

end Sys2Proof.Machine
end

