-- ==== Sys2Proof/Machine/Bridge.lean ====
section
/-! DEFINITION. BRG, part one (07_bridge.md): windows and translation, the tracker, quarantine, prefetch entries and the
messages of locks. -/

namespace Sys2Proof.Machine

/-- Puts a packet among those whose lookup waits. -/
def State.stallPkt (s : State) (i : Nat) (why : Stall) : State :=
  let p := s.pkt i
  let s1 := s.setPkt { p with stall := some why, why := if why = .behind then p.why else some why }
  if s1.xbc.stalled.contains i then s1 else { s1 with xbc := { s1.xbc with stalled := s1.xbc.stalled ++ [i] } }

/-- A packet waits before its header `h` is stamped, or its copies made, for the reason given; the header is kept for a
failure record (R196). -/
def State.stallHdr (s : State) (i : Nat) (why : Stall) (h : Hdr) : State :=
  let s1 := s.stallPkt i why
  if (s1.pkt i).far then s1 else s1.setPkt { s1.pkt i with fab := h }

/-- A packet waits for a stamp way (R136). -/
def State.stampWait (s : State) (i : Nat) (h : Hdr) : State :=
  let s1 := s.stallHdr i .stamp h
  if (s.pkt i).why = some .stamp then s1 else s1.count (R.RTE_CNT 14)

/-- Takes a packet out of those whose lookup waits. -/
def State.unstall (s : State) (i : Nat) : State :=
  let s1 := s.setPkt { s.pkt i with stall := none }
  { s1 with xbc := { s1.xbc with stalled := s1.xbc.stalled.filter (· ≠ i) } }

/-! ### Windows and translation (R180 to R184) -/

/-- The enabled window of a virtual switch that holds a window BAR offset, in the copy of an epoch; a byte beyond the end
of the window BAR is in none (R180, R182). -/
def State.winAt (s : State) (v e x : Nat) : Option Nat :=
  if x ≥ s.winBarSize v then none
  else (s.listed (R.BRG_WIN_CFG 0) 0x20 2048).find? fun w =>
    let c := R.BRG_WIN_CFG w
    let b := s.fldE e (R.BRG_WIN_BASE w) F.BRG_WIN_BASE_BASE * 2 ^ 21
    s.fldE e c F.BRG_WIN_CFG_EN == 1 && s.fldE e c F.BRG_WIN_CFG_VS == v && b ≤ x
      && x < b + s.fldE e c F.BRG_WIN_CFG_SIZE * 2 ^ 21

/-- Result of a translation (R182). -/
inductive Xlt where
  | ok (fid off : Nat) (mirror : Option Nat) (win : Nat)
  | access
  | ecc (idx : Nat)
  | miss (idx : Nat)
  deriving DecidableEq, Repr

/-- A translation entry as the cache serves it to an epoch; none on a miss. An index beyond the table reads as an entry
with VALID = 0 (R181, R184). -/
def State.xltEntry (s : State) (e idx : Nat) : Option Nat :=
  if 8 * idx ≥ s.regionSize 0 then some 0
  else (s.brg.cache.find? fun c => c.idx == idx && (c.epoch == e || c.both)).map (·.val)

/-- Rights that a kind needs, against the RD and WR bits of an entry (R182). -/
def rightsOk (k : PktKind) (entry : Nat) : Bool :=
  let rd := bitAt entry 60
  let wr := bitAt entry 59
  match k with
  | .mwr => wr
  | .atomic => rd && wr
  | _ => rd

/-- `translate` of R182. -/
def State.translate (s : State) (e v x : Nat) (k : PktKind) : Xlt :=
  match s.winAt v e x with
  | none => .access
  | some w =>
    let rel := x - s.fldE e (R.BRG_WIN_BASE w) F.BRG_WIN_BASE_BASE * 2 ^ 21
    let gi := s.fldE e (R.BRG_WIN_XLT w) F.BRG_WIN_XLT_TBL_BASE + rel / 2 ^ 21
    match s.xltEntry e gi with
    | none => .miss gi
    | some g =>
      let mirror := if bitAt g 61 then some (bitsOf g 48 10) else none
      if !bitAt g 63 then .access
      else if bitAt g 62 then
        let si := 512 * bitsOf g 5 16 + rel / 4096 % 512
        match s.xltEntry e si with
        | none => .miss si
        | some q =>
          if !bitAt q 63 ∨ !rightsOk k q then .access
          else .ok (bitsOf g 36 12) (bitsOf q 0 40 * 4096 + rel % 4096) mirror w
      else if !rightsOk k g then .access
      else .ok (bitsOf g 36 12) (bitsOf g 5 31 * 2 ^ 21 + rel % 2 ^ 21) mirror w

/-- Reads a translation entry into the cache, the oldest entry making room (R184); none where it is unreadable. -/
def State.xltFill (s : State) (e idx : Nat) : Option State :=
  match s.tblAddr 0 (8 * idx) with
  | none => some s
  | some a =>
    if s.rangeBad a 8 then none
    else
      let c := s.brg.cache.filter fun x => !(x.idx == idx && x.epoch == e)
      let c' := if c.length ≥ 65536 then c.drop 1 else c
      some { s with brg := { s.brg with cache := c' ++ [{ idx := idx, epoch := e, val := s.tmNum e a 8 }] } }

/-- Answers a request whose translation faults: outcome 4 of R30 (R183). -/
def State.xltFault (s : State) (i : Nat) (ecc : Option Nat) : State :=
  let p := s.pkt i
  let s1 := (s.setPkt { p with outcome := 4 }).count (R.BRG_CNT 1)
  let s2 := match ecc with | some idx => s1.raise Flt.BRG_XLT_ECC 0 idx p.vs | none => s1
  if p.hdr.kind = .mwr then (s2.pwfPkt p p.hdr (if ecc.isSome then 7 else 6)).freePkt i
  else s2.answer i (if ecc.isSome then 4 else 1)

/-! ### The tracker (R187 to R189, R194, R195) -/

/-- Entries of a role in use. -/
def State.trkUsed (s : State) (inb : Bool) : Nat := (s.brg.trk.filter fun e => e.2.inbound == inb).length

/-- Whether a role finds a free entry among the 32,768: in its reserve, or in the shared pool (R187, R189). -/
def State.trkRoom (s : State) (inb : Bool) : Bool :=
  let o := s.trkUsed false
  let n := s.trkUsed true
  let ro := s.fld R.BRG_TRK_CFG F.BRG_TRK_CFG_OUT_RSV
  let rn := s.fld R.BRG_TRK_CFG F.BRG_TRK_CFG_INB_RSV
  let shared := (o - ro) + (n - rn) < 32768 - ro - rn
  o + n < 32768 && (if inb then n < rn || shared else o < ro || shared)

/-- Whether the shared pool has a free entry (R204). -/
def State.trkShared (s : State) : Bool :=
  let ro := s.fld R.BRG_TRK_CFG F.BRG_TRK_CFG_OUT_RSV
  let rn := s.fld R.BRG_TRK_CFG F.BRG_TRK_CFG_INB_RSV
  s.trkUsed false + s.trkUsed true < 32768 && (s.trkUsed false - ro) + (s.trkUsed true - rn) < 32768 - ro - rn

/-- Tags of a unit in use or in quarantine, ascending. A unit is a virtual switch, or 32 + a fabric endpoint port; its
port tags are shared with the reads that the part itself has issued there. -/
def State.tagsUsed (s : State) (inb : Bool) (unit : Nat) : Tbl Unit :=
  let a := s.brg.trk.foldl (init := ([] : Tbl Unit)) fun t e =>
    if e.2.inbound == inb && e.2.vs == unit then tput t e.2.myTag () else t
  let b := s.brg.quar.foldl (init := a) fun t q => if q.inbound == inb && q.unit == unit then tput t q.tag () else t
  if inb then
    s.brg.loc.foldl (init := b) fun t e => if e.1 / 16384 == unit then tput t (e.1 % 16384) () else t
  else b

/-- The lowest free tag below `n` (log entry 19). -/
def State.freeTag (s : State) (inb : Bool) (unit n : Nat) : Option Nat :=
  let t := firstFree (s.tagsUsed inb unit) 0
  if t < n then some t else none

/-- Number of inbound tags of a unit (R187). -/
def State.tagSpace (s : State) (unit : Nat) : Nat :=
  if unit < 32 then
    let d := s.cfgDw (.dmv unit) 0x22
    if bitAt d 13 then 16384 else if bitAt d 12 then 1024 else 256
  else match s.port (unit - 32) with
    | some i =>
      let w := s.fld (R.PCP_PORT_CFG i.group i.inst) F.PCP_PORT_CFG_INB_TAG
      if w = 2 then 16384 else if w = 1 then 1024 else 256
    | none => 256

/-- Allocates a tracker entry and its tag; none where the entry or the tag is wanting, and for an outbound entry from
the start of decanting on (R187, R189, R214). -/
def State.allocTrk (s : State) (t : Trk) : Option (Nat × Nat × State) :=
  if !s.trkRoom t.inbound ∨ (s.decanting ∧ !t.inbound) then none
  else match s.freeTag t.inbound t.vs (if t.inbound then s.tagSpace t.vs else 16384) with
    | none => none
    | some tag =>
      let k := firstFree s.brg.trk 0
      let t' := { t with myTag := tag, deadline := s.brgNow + t.tmo }
      let s1 := s.eccFresh 0xE2 k
      some (k, tag, ({ s1 with brg := { s1.brg with trk := tput s1.brg.trk k t' } } : State).ev 4 1 t.vs t.tc)

/-- Completion timeout in ns of a window, in the copy of an epoch (R192). -/
def State.winTmo (s : State) (e w : Nat) : Nat :=
  let c := s.fldE e (R.BRG_WIN_CFG w) F.BRG_WIN_CFG_CPL_TMO
  1000 * (if c = 0 then s.fld R.BRG_CFG F.BRG_CFG_TMO_DEF else min c 64000)

/-- Puts a tag in quarantine for twice a timeout (R194). -/
def State.quarantine (s : State) (t : Trk) (tmo : Nat) : State :=
  { s with brg := { s.brg with quar := s.brg.quar ++
      [{ inbound := t.inbound, unit := t.vs, tag := t.myTag, until_ := s.brgNow + 2 * tmo, src := t.src, tc := t.tc }] } }

/-- The largest timeout of the enabled windows (R195); with none enabled the default window timeout (DESIGN CHOICE, log
entry 140). -/
def State.maxTmo (s : State) : Nat :=
  match (s.listed (R.BRG_WIN_CFG 0) 0x20 2048).filter fun w => s.flag (R.BRG_WIN_CFG w) F.BRG_WIN_CFG_EN with
  | [] => 1000 * s.fld R.BRG_CFG F.BRG_CFG_TMO_DEF
  | ws => ws.foldl (fun m w => max m (s.winTmo s.cfg.epoch w)) 0

/-- INFO of the tracker faults (R569). -/
def trkInfo (fid : Nat) (port : Option Nat) (tag : Nat) : Nat :=
  atBits fid 28 12 ||| (match port with | some p => atBits p 16 7 ||| atBits 1 14 1 | none => 0) ||| atBits tag 0 14

/-- A tracker entry is read. One with an uncorrectable error cannot be trusted: it is freed without any completion, its tag in
quarantine; a requester inside the part waits for its own timeout (R195). -/
def State.checkTrk (s : State) (k : Nat) : Bool × State :=
  if s.eccBad 0xE2 k then
    let s1 := s.eccFresh 0xE2 k
    let t : Trk := tget {} s1.brg.trk k
    let s2 : State := { s1 with brg := { s1.brg with
      trk := tdel s1.brg.trk k, lost := if t.origin = .none then s1.brg.lost else s1.brg.lost ++ [(k, t)] } }
    (true, (s2.quarantine t s2.maxTmo).raise Flt.BRG_TRK_ECC)
  else (false, s)

/-- Work that makes a packet of the part itself, in account 129, to a PCI Express port or into the fabric. -/
def internalPkt (h : Hdr) (port : Option Nat) : Pkt :=
  { ingress := .internal, acct := 129, tc := h.tc, hdr := h, orig := h, own := true, metered := true,
    hoff := if h.fab then 32 else h.hlen,
    dests := match port with | some p => [{ port := p, hdr := h }] | none => [] }

/-- The virtual host that a packet of the part itself serves (R158): that of the port it goes to, or of the FID of the host
that it is sent for. -/
def State.servedVh (s : State) (h : Hdr) (port : Option Nat) : Nat :=
  let ofFid := fun f => match s.fidIndex f with | some i => if i < 32 then i else s.fidVh s.cfg.epoch f | none => s.fidVh s.cfg.epoch f
  match port with
  | some q => if s.role q < 2 then s.vsOf q else ofFid (s.srcFid (32 + q))
  | none => ofFid (if h.kind.isCpl then h.dst else h.src)

/-- Adds the making of a packet of the part itself. -/
def State.makeJob (s : State) (h : Hdr) (port : Option Nat) (payload : List Byte) : State :=
  s.addJob (.make { internalPkt h port with vh := s.servedVh h port } payload)

/-- Completes an outbound entry: a completion of status `st` to the requester's port, or the status to its origin inside
the part; `lost` marks a timeout or a closed entry (R116, R192, R193). The entry is freed. -/
def State.completeOut (s : State) (k st : Nat) (lost : Bool) : State :=
  let t : Trk := tget {} s.brg.trk k
  let s1 : State := { s with brg := { s.brg with trk := tdel s.brg.trk k } }
  match t.origin with
  | .none =>
    match t.ingress with
    | .port q =>
      let h : Hdr := {
        kind := .cpl, hlen := 12, tc := t.tc, ro := t.req.ro, ido := t.req.ido, tag := t.tag, reqId := t.reqId,
        status := forwardStatus st, byteCnt := t.due, offset := t.req.offset % 128, route := .id, addr := t.reqId,
        cplId := s.dmvId t.vs }
      (s1.cntPcp q (if forwardStatus st = 1 then 1 else 2)).makeJob h (some q) []
    | _ => s1
  | o => s1.notify o st t.acc lost

/-- Completes an inbound entry with a status towards its source FID (R192, R193). The entry is freed. -/
def State.completeIn (s : State) (k st : Nat) : State :=
  let t : Trk := tget {} s.brg.trk k
  let s1 : State := { s with brg := { s.brg with trk := tdel s.brg.trk k } }
  let h : Hdr := {
    kind := .cpl, fab := true, hlen := 32, dst := t.src, src := t.dst, tc := t.tc, ro := t.req.ro, ido := t.req.ido,
    tag := t.tag, reqId := t.reqId, status := st, byteCnt := t.due, offset := t.req.offset % 128 }
  s1.makeJob h none []

/-- Closes an entry by the part itself: its tag goes into quarantine for twice its timeout (R194). -/
def State.closeTrk (s : State) (k st : Nat) (lost : Bool) : State :=
  let (bad, s) := s.checkTrk k
  let t : Trk := tget {} s.brg.trk k
  let s1 := s.quarantine t t.tmo
  if bad then s else if t.inbound then s1.completeIn k st else s1.completeOut k st lost

/-- Frees an outbound entry without an answer to its requester; a flush, or another request of the part itself, has its
origin told (R193, R213). -/
def State.dropTrk (s : State) (k : Nat) : State :=
  let (bad, s) := s.checkTrk k
  let t : Trk := tget {} s.brg.trk k
  let s1 := s.quarantine t t.tmo
  let s2 : State := { s1 with brg := { s1.brg with trk := tdel s1.brg.trk k } }
  if bad then s
  else match t.origin with
  | .none => s2
  | o => s2.notify o 4 t.acc true

/-- Closes every entry that a test picks, counting each in LINK_CA (R193). -/
def State.closeWhere (s : State) (pick : Trk → Bool) (f : State → Nat → State) : State :=
  (s.brg.trk.filter fun e => pick e.2).foldl (init := s) fun s e =>
    let (bad, s1) := s.checkTrk e.1
    if bad then s1 else (f s1 e.1).count (R.BRG_CNT 4)

/-- Outbound entries of a virtual switch close without an answer (R193, R213). -/
def State.closeVs (s : State) (v : Nat) : State := s.closeWhere (fun t => !t.inbound && t.vs == v) State.dropTrk

/-- Inbound entries of a fabric endpoint port close with CA_LINK (R193, R213). -/
def State.closeEp (s : State) (p : Nat) : State :=
  s.closeWhere (fun t => t.inbound && t.vs == 32 + p) fun s k => s.closeTrk k 9 true

/-- Outbound entries whose destination has no eligible next hop with a link up close (R193). -/
def State.closeUnreachable (s : State) : State :=
  let e := s.cfg.epoch
  s.closeWhere (fun t => !t.inbound && !s.rteLocal e t.dst
      && ((s.eligibleHops e { dst := t.dst }).map (s.hopLinks e t.dst)).flatten == [])
    fun s k => s.closeTrk k 4 true

/-! ### Prefetch entries (R204 to R206) -/

/-- Reads that wait for a prefetch entry are looked up again (R205). -/
def State.resumePf (s : State) (j : Nat) : State :=
  (s.xbc.stalled.filter fun i => (s.pkt i).stall == some (.prefetch j)).foldl
    (fun s i => (s.unstall i).addJob (.enter i)) s

/-- Discards a prefetch entry; one of which no byte was read is counted (R206). Reads that wait for it become misses. -/
def State.pfDrop (s : State) (j : Nat) : State :=
  match tfind s.brg.pf j with
  | none => s
  | some x =>
    let s1 := ({ s with brg := { s.brg with pf := tdel s.brg.pf j } }).resumePf j
    if x.read then s1 else (s1.count (R.BRG_CNT 12)).count (R.BRG_WIN_PFDROP x.win)

/-- A memory write to a fabric range passes the lookup: entries that overlap it are discarded (R206). -/
def State.pfWrite (s : State) (fid off n : Nat) : State :=
  (s.brg.pf.filter fun e => e.2.fid == fid && off < e.2.addr + e.2.len && e.2.addr < off + n).foldl
    (fun s e => s.pfDrop e.1) s

/-- The prefetch entry that holds a whole range. -/
def State.pfFind (s : State) (fid off n : Nat) : Option (Nat × Pf) :=
  s.brg.pf.find? fun e => e.2.fid == fid && e.2.addr ≤ off && off + n ≤ e.2.addr + e.2.len

/-- The entry number that a new prefetch takes: the lowest free, else the least recently used of those filled (R206). -/
def State.pfSlot (s : State) : Option Nat :=
  let n := firstFree s.brg.pf 0
  if n < 512 then some n
  else match s.brg.pf.filter fun e => e.2.filled with
    | [] => none
    | x :: xs => some (xs.foldl (fun b e => if e.2.last < b.2.last then e else b) x).1

/-- Completions with data to a request on a PCI Express port, in pieces of at most 512 bytes of the doublewords asked
for; `lead` bytes of the first are not asked for, and `pos` is the place of the piece (R205). -/
def State.dataCpls (s : State) (q : Nat) (h : Hdr) (cplId lead : Nat) : Nat → Nat → Nat → List Byte → State
  | 0, _, _, _ => s
  | n + 1, pos, due, bs =>
    let piece := bs.take 512
    let l := if pos = 0 then lead else 0
    let c : Hdr := {
      kind := .cpld, hlen := 12, tc := h.tc, ro := h.ro, ido := h.ido, tag := h.tag, reqId := h.reqId, byteCnt := due,
      len := ceilDiv piece.length 4, offset := (h.addr + pos + l) % 128, route := .id, addr := h.reqId,
      cplId := cplId }
    let s1 := s.makeJob c (some q) (padTo (4 * c.len) piece)
    if bs.length ≤ 512 then s1 else s1.dataCpls q h cplId lead n (pos + 512) (due - (512 - l)) (bs.drop 512)

/-- Answers a read from a filled prefetch entry (R205). -/
def State.pfHit (s : State) (i j : Nat) (x : Pf) (off n : Nat) : State :=
  let p := s.pkt i
  let data := (x.data.drop (off - x.addr)).take n
  let s1 := ({ s with brg := { s.brg with pf := tput s.brg.pf j { x with read := true, last := s.brgNow } } }).count (R.BRG_CNT 11)
  match p.ingress with
  | .port q => (s1.dataCpls q p.orig (s.dmvId p.vs) p.orig.lead 9 0 p.orig.readBytes data).freePkt i
  | _ => (s1.notify p.origin 0 ((data.drop p.orig.lead).take p.orig.readBytes)).freePkt i

/-! ### Locks (R200 to R203) -/

/-- A virtual switch's locked sequence. -/
def State.lock (s : State) (v : Nat) : Lock := tget {} s.brg.locks v
/-- Replaces it. -/
def State.setLock (s : State) (v : Nat) (x : Lock) : State := { s with brg := { s.brg with locks := tput s.brg.locks v x } }

/-- The virtual switch of this device that owns a FID as the locking virtual switch. -/
def State.lockVs (s : State) (fid : Nat) : Option Nat :=
  match s.fidIndex fid with | some i => if i < 32 then some i else none | none => none

/-- LOCK_GRANT at the first device: the locked read goes on (R200 step 3). -/
def State.lockGranted (s : State) (owner target id : Nat) : State :=
  match s.lockVs owner with
  | none => s
  | some v =>
    let x := s.lock v
    if x.st = 1 ∧ x.target = target then
      let s1 := s.setLock v { x with st := 2, id := id }
      (s1.xbc.stalled.filter fun i => (s1.pkt i).stall == some .lock && (s1.pkt i).vs == v).foldl
        (fun s i => (s.unstall i).addJob (.enter i)) s1
    else s

/-- Sends a lock message to a FID, or acts on it here where the FID is this device's own. -/
def State.lockSend (s : State) (dst ty reason owner target id : Nat) (here : State → State) : State :=
  if s.ownFid dst then here s else (s.sendCrema dst (lockMsg ty reason owner target id)).2

/-- The arbiter grants its oldest request, if it is free (R200 step 2). -/
def State.arbNext (s : State) : State :=
  match s.brg.arb, s.brg.arbQ with
  | none, (o, t) :: q =>
    let id := (s.brg.lockId + 1) % 65536
    let s1 : State := { s with brg := { s.brg with arb := some (o, t, id, s.brgNow), arbQ := q, lockId := id } }
    s1.lockSend o 0x0B 0 o t id fun s => s.lockGranted o t id
  | _, _ => s

/-- Completes the open locked requests of a virtual switch after a break (R202). -/
def State.failLocked (s : State) (v : Nat) : State :=
  let x := s.lock v
  let s1 := s.setLock v { x with st := 3 }
  let s2 := (s1.brg.trk.filter fun e => !e.2.inbound && e.2.vs == v && e.2.locked).foldl
    (fun s e => s.closeTrk e.1 0xA true) s1
  (s2.xbc.stalled.filter fun i => (s2.pkt i).stall == some .lock && (s2.pkt i).vs == v).foldl
    (fun s i => (s.unstall i).answer i 0xA) s2

/-- The effect of a break at an end of the path that is this device: the last device unlocks its port, the first
completes its locked requests (R202). A LOCK_ID that does not match the lock in force is no break of it (R203); one of 0
comes from a last device, or for a lock not yet granted, where none is known (log entry 88). -/
def State.lockBroken (s : State) (owner target id : Nat) : State :=
  let s1 : State := { s with brg := { s.brg with
    lockedPorts := s.brg.lockedPorts.filter fun e => !(e.owner == owner && e.target == target && e.id.all (· == id)) } }
  match s1.lockVs owner with
  | none => s1
  | some v =>
    let x := s1.lock v
    if ((x.st = 1 ∧ id = 0) ∨ (x.st = 2 ∧ (x.id = id ∨ id = 0))) ∧ x.target = target then s1.failLocked v else s1

/-- The arbiter frees a lock whose LOCK_ID matches and grants the next (R202, R203). A request of the same owner that is still
queued, which has no LOCK_ID, is withdrawn by a break that names none. -/
def State.arbFree (s : State) (owner target id : Nat) : State :=
  let q := if id = 0 then s.brg.arbQ.filter fun e => e ≠ (owner, target) else s.brg.arbQ
  let s1 : State := { s with brg := { s.brg with arbQ := q } }
  match s1.brg.arb with
  | some (o, t, i, _) =>
    if o = owner ∧ t = target ∧ (i = id ∨ id = 0) then ({ s1 with brg := { s1.brg with arb := none } }).arbNext else s1
  | none => s1

/-- FID of the lock arbiter. -/
def State.arbFid (s : State) : Nat := s.fld R.BRG_LOCK_CFG F.BRG_LOCK_CFG_ARB_FID

/-- This device finds a lock broken: it tells the arbiter and both ends of the path, raises the fault, writes the event
and counts (R202). -/
def State.lockBreak (s : State) (reason owner target id : Nat) : State :=
  let s1 := s.lockSend owner 0x0D reason owner target id fun s => s.lockBroken owner target id
  let s2 := if target = owner then s1
    else s1.lockSend target 0x0D reason owner target id fun s => s.lockBroken owner target id
  let s3 := s2.lockSend s2.arbFid 0x0D reason owner target id fun s => s.arbFree owner target id
  ((s3.raise Flt.BRG_LOCK_BROKEN).event { code := 0x0301, data := leBytes 2 owner ++ leBytes 2 target }).count (R.BRG_CNT 9)

/-- LOCK_REQ at the arbiter: granted, queued, or answered with LOCK_BREAK of reason 3 (R200). -/
def State.lockReq (s : State) (owner target : Nat) : State :=
  if !s.flag R.BRG_LOCK_CFG F.BRG_LOCK_CFG_ARBITER then s
  else if s.brg.arb.isSome ∧ s.brg.arbQ.length ≥ 64 then
    s.lockSend owner 0x0D 3 owner target 0 fun s => s.lockBroken owner target 0
  else ({ s with brg := { s.brg with arbQ := s.brg.arbQ ++ [(owner, target)] } }).arbNext

/-- LOCK_RELEASE at the arbiter (R200 step 6). -/
def State.lockRelease (s : State) (owner target id : Nat) : State :=
  match s.brg.arb with
  | some (o, t, i, _) =>
    if o = owner ∧ t = target ∧ i = id then ({ s with brg := { s.brg with arb := none } }).arbNext else s
  | none => s

/-- LOCK_BREAK received: what this device is to the lock decides what it does (R202). -/
def State.lockBreakIn (s : State) (owner target id : Nat) : State :=
  let s1 := s.lockBroken owner target id
  if s1.flag R.BRG_LOCK_CFG F.BRG_LOCK_CFG_ARBITER then s1.arbFree owner target id else s1

/-- Whether a port is locked by a requester other than that of a header: another FID, or another requester ID of the same
(R201). The Unlock message of the locking FID is of the sequence (R200 step 6). -/
def State.lockedFor (s : State) (port src : Nat) (h : Hdr) : Bool :=
  s.brg.lockedPorts.any fun e => e.port == port
    && !(e.owner == src && (e.reqId == h.reqId || h.kind == .msg && h.subcode == 0))

/-- Whether the lock of a port holds a packet back (R200 step 4, R201). -/
def State.lockHolds (s : State) (port : Nat) (p : Pkt) : Bool :=
  if p.far then s.lockedFor port p.fab.src p.fab else s.lockedFor port (s.srcFid p.vs) p.orig

/-- LOCK_ID of the lock in force with an owner and a target, where this device is its arbiter or its first device. -/
def State.knownLock (s : State) (owner target : Nat) : Option Nat :=
  match s.brg.arb with
  | some (o, t, i, _) => if o = owner ∧ t = target then some i else none
  | none => match s.lockVs owner with
    | some v => if (s.lock v).st = 2 ∧ (s.lock v).target = target then some (s.lock v).id else none
    | none => none

end Sys2Proof.Machine
end

