-- ==== Sys2Proof/Machine/Lookup.lean ====
section
/-! DEFINITION. The ingress lookup and what follows it (R30, R78, R413, R415): window requests (R99 to R104, R182 to R190,
R200 to R206), requests and completions released at the last device (R131, R185 to R194), completions from PCI Express
ports, the sideband message bridge (R207 to R211), and routing inside a virtual switch (R226, R236). -/

namespace Sys2Proof.Machine

/-! ### Packets that the part itself makes (R80) -/

/-- Makes a packet of account 128 or 129 under an epoch, if it is admitted (R80). -/
def State.tryMakeAt (s : State) (e : Nat) (p : Pkt) (payload : List Byte) : Option (Nat × State) :=
  let n := max 1 (ceilDiv (p.hoff + p.hdr.payloadLen) 64)
  match s.admission p.acct p.tc n e with
  | (0, _) => none
  | (c, s1) => some (s1.store { p with chg := c, epoch := e, arr := s.now } payload)

/-- Makes one under the epoch in force. -/
def State.tryMake (s : State) (p : Pkt) (payload : List Byte) : Option (Nat × State) := s.tryMakeAt s.cfg.epoch p payload

/-! ### Window requests (R99 to R104, R182 to R190, R200 to R206) -/

/-- The Scango header of a window request (R126, R182, R188). -/
def State.winHdr (s : State) (p : Pkt) (fid off : Nat) : Hdr :=
  { kind := p.orig.kind, fab := true, hlen := 32, dst := fid, src := s.srcFid p.vs, tc := p.tc, colour := p.hdr.colour,
    ro := p.orig.ro, ido := p.orig.ido, poison := p.orig.poison || p.poisoned, len := p.orig.len, offset := off,
    reqId := p.orig.reqId, fbe := p.orig.fbe, lbe := p.orig.lbe, subcode := p.orig.subcode, pasid := p.orig.pasid }

/-- Where the replica that serves reads of a mirrored window stands (R98, R100); none where the group cannot serve. -/
def State.readSel (s : State) (e : Nat) (fid off : Nat) : Option Nat → Option (Nat × Nat)
  | none => some (fid, off)
  | some g =>
    let grp := s.group e g
    if grp.bad ∨ !grp.valid then none else some (grp.fid grp.reader, grp.at grp.reader off)

/-- Issues one prefetch read behind a read of window `w`, when R204 allows it; where account 129 refuses it, none is issued,
since a prefetch never waits. A zero-length read is a read like any other here (DESIGN CHOICE, log entry 160). -/
def State.prefetch (s : State) (p : Pkt) (x w : Nat) : State :=
  let e := p.epoch
  let v := p.vs
  let c := R.BRG_WIN_CFG w
  let start := x + 4 * p.orig.len
  let wEnd := s.fldE e (R.BRG_WIN_BASE w) F.BRG_WIN_BASE_BASE * 2 ^ 21 + s.fldE e c F.BRG_WIN_CFG_SIZE * 2 ^ 21
  let n := min (4096 - start % 4096) (min wEnd (s.winBarSize v) - start)
  if s.fldE e c F.BRG_WIN_CFG_PF_EN = 0 ∨ n = 0 ∨ s.decanting ∨ !s.trkShared then s
  else match s.translate e v start .mrd with
  | .ok fid0 off0 m w' =>
    match s.readSel e fid0 off0 m, s.pfSlot with
    | some (fid, off), some j =>
      if (s.pfFind fid off n).isSome then s
      else
        let h : Hdr := {
          kind := .mrd, fab := true, hlen := 32, dst := fid, src := s.srcFid v, tc := p.tc, ro := p.orig.ro,
          ido := p.orig.ido, len := n / 4, offset := off, fbe := 15, lbe := 15, reqId := s.dmvId v }
        if (s.tryMake (internalPkt h none) []).isNone then s else
        let t : Trk := {
          vs := v, src := h.src, dst := fid, tc := p.tc, due := n, tmo := s.winTmo e w', epoch := e,
          origin := .prefetch s.brg.pfNext, req := h }
        match s.allocTrk t with
        | none => s
        | some (k, tag, s1) =>
          let s2 := s1.pfDrop j
          let pf : Pf := { fid := fid, addr := off, len := n, win := w, last := s.brgNow, id := s.brg.pfNext }
          let h' := { h with tag := tag }
          let s3 : State := { s2 with brg := { s2.brg with
            pf := tput s2.brg.pf j pf, pfNext := s2.brg.pfNext + 1, trk := tput s2.brg.trk k { t with myTag := tag, deadline := s.brgNow + t.tmo, req := h' } } }
          (s3.count (R.BRG_CNT 10)).addJob
            (.make { internalPkt h' none with origin := .prefetch s.brg.pfNext, trkOut := some k, vs := v, vh := v } [])
    | _, _ => s
  | _ => s

/-- Sends a non-posted window request with header `h`: a tracker entry, a stamp, then the fabric; it waits where one of
them is not free (R136, R187, R189). -/
def State.sendNp (s : State) (i w : Nat) (h : Hdr) (locked : Bool) : State :=
  let p := s.pkt i
  let t : Trk := {
    vs := p.vs, reqId := p.orig.reqId, tag := p.orig.tag, src := h.src, dst := h.dst, tc := p.tc, due := p.orig.dueBytes,
    tmo := s.winTmo p.epoch w, epoch := p.epoch, locked := locked, origin := p.origin, ingress := p.ingress }
  match s.allocTrk t with
  | none => s.stallPkt i .tracker
  | some (k, tag, s1) =>
    match s1.stampHdr p.epoch { h with tag := tag } with
    | none => s.stampWait i h
    | some (h', s2) =>
      let t' : Trk := { (tget {} s2.brg.trk k) with req := h', data := s.payload p }
      let s3 : State := { s2 with brg := { s2.brg with trk := tput s2.brg.trk k t' } }
      (s3.setPkt { s3.pkt i with trkOut := some k, outcome := 2, window := some w }).fabSend i h'

/-- A locked read at the first device (R200 steps 1 to 3, R202). -/
def State.lockedRead (s : State) (i w : Nat) (h : Hdr) : State :=
  let v := (s.pkt i).vs
  let x := s.lock v
  if x.st = 3 then s.answer i 0xA
  else if x.st = 2 then s.sendNp i w h true
  else if x.st = 1 then s.stallPkt i .lock
  else
    let s1 := (s.stallPkt i .lock).setLock v { st := 1, owner := h.src, target := h.dst, since := s.brgNow }
    s1.lockSend s1.arbFid 0x0A 0 h.src h.dst 0 fun s => s.lockReq h.src h.dst

/-- A read through a side-effect-free window: a hit in the prefetch buffer, a wait for one, or a miss (R204, R205). -/
def State.sefRead (s : State) (i x w : Nat) (h : Hdr) : State :=
  let p := s.pkt i
  let n := max 1 (4 * h.len)
  match s.pfFind h.dst h.offset n with
  | some (j, y) =>
    if y.filled then (s.pfHit i j y h.offset n).prefetch p x w
    else s.stallPkt i (.prefetch j)
  | none =>
    let s1 := s.sendNp i w h false
    if (s1.pkt i).stall.isSome then s1 else s1.prefetch p x w

/-- A read whose group cannot serve it (R100). -/
def State.groupRefused (s : State) (i : Nat) (m : Option Nat) : State :=
  if (s.group (s.pkt i).epoch (m.getD 0)).bad then s.answer i 4 else (s.count (R.MCE_CNT 5)).answer i 1

/-- A translated window request goes on (R100, R182). -/
def State.windowGo (s : State) (i x fid off w : Nat) (m : Option Nat) : State :=
  let p := s.pkt i
  let e := p.epoch
  let s := s.setPkt { p with outcome := 2, window := some w }
  let first : Bool := match p.why with | none => true | some (.xlt _) => true | _ => false
  let s := match m with
    | some g => if first then s.groupRead (match p.ingress with | .port q => some q | _ => s.upPort p.vs) g else s
    | none => s
  match p.orig.kind with
  | .mwr =>
    match m with
    | some g =>
      let grp := s.group e g
      if grp.bad ∨ !grp.valid then
        ((s.pwfPkt p (s.winHdr p 0 off) (if grp.bad then 7 else 4)).count (R.MCE_CNT 6)).freePkt i
      else
        let s1 := grp.reps.foldl (fun s r => s.pfWrite (grp.fid r) (grp.at r off) (4 * p.orig.len)) s
        match s1.fanOut i g grp (s.winHdr p fid off) with
        | .wait why =>
          let h := s.winHdr p 0 off
          if why = .fanout then
            (if p.why = some .fanout then s.stallHdr i why h else (s.stallHdr i why h).count (R.MCE_CNT 4))
          else s.stampWait i h
        | .done s2 => s2
    | none =>
      match s.stampHdr e (s.winHdr p fid off) with
      | none => s.stampWait i (s.winHdr p fid off)
      | some (h, s1) => (s1.pfWrite fid off (4 * p.orig.len)).fabSend i h
  | .mrd =>
    match s.readSel e fid off m with
    | some (f, o) =>
      if s.fldE e (R.BRG_WIN_CFG w) F.BRG_WIN_CFG_SEF = 1 then s.sefRead i x w (s.winHdr p f o)
      else s.sendNp i w (s.winHdr p f o) false
    | none => s.groupRefused i m
  | .mrdlk =>
    match s.readSel e fid off m with
    | some (f, o) =>
      -- LOCK_EN decides for a sequence that starts (R212)
      if s.flag R.BRG_LOCK_CFG F.BRG_LOCK_CFG_LOCK_EN ∨ (s.lock p.vs).st ≠ 0 then s.lockedRead i w (s.winHdr p f o) else s.answer i 1
    | none => s.groupRefused i m
  | _ =>
    if m.isSome then (s.count (R.MCE_CNT 5)).answer i 1
    else s.sendNp i w (s.winHdr p fid off) false

/-- A request at window BAR offset `x` (R179, R182, R183). -/
def State.windowReq (s : State) (i x : Nat) : State :=
  let p := s.pkt i
  if p.orig.sel then
    let s1 := s.raise Flt.PCP_IDE_FAIL (match p.ingress with | .port q => q | _ => 0)
    if p.orig.kind = .mwr then s1.freePkt i else s1.answer i 1
  else match s.translate p.epoch p.vs x p.orig.kind with
  | .miss idx => ((s.stallPkt i (.xlt idx)).count (R.BRG_CNT 0)).ev 4 3 p.vs p.tc
  | .access => s.xltFault i none
  | .ecc idx => s.xltFault i (some idx)
  | .ok fid off m w => (if p.why = none then s.ev 4 2 p.vs p.tc else s).windowGo i x fid off w m

/-! ### Completions (R188, R190, R191, R194) -/

/-- Whether a completion is the last of its request: it has no data, or its data covers the bytes still due. -/
def Hdr.lastCpl (h : Hdr) : Bool := h.kind == .cpl || h.byteCnt ≤ 4 * h.len - h.offset % 4

/-- A packet that its lookup discards has no route: outcome 4 (R30; DESIGN CHOICE, log entry 167). -/
def State.shed (s : State) (i : Nat) : State := (s.setPkt { s.pkt i with outcome := 4 }).freePkt i

/-- A completion that matches no open entry: late for a quarantined tag, or unexpected (R194). -/
def State.strayCpl (s : State) (inb : Bool) (unit tag fid tc : Nat) (port : Option Nat) : State :=
  match s.brg.quar.find? fun q => q.inbound == inb && q.unit == unit && q.tag == tag with
  | some q =>
    (s.count (R.BRG_CNT 3)).raise Flt.BRG_LATE_CPL 0 (trkInfo (if inb then q.src else fid) port tag) tc
  | none => (s.count (R.BRG_CNT 14)).raise Flt.BRG_UNEXP_CPL 0 (trkInfo (if inb then 0 else fid) port tag) tc

/-- Data bytes that a completion brings of its request. -/
def Hdr.cplBytes (h : Hdr) : Nat := if h.kind = .cpl then 0 else min h.byteCnt (4 * h.len - h.offset % 4)

/-- A Scango completion released at the device of its requester (R188, R190, R191). -/
def State.cplFab (s : State) (i : Nat) (h : Hdr) : State :=
  let s := s.readOut i
  let (k, idx) := s.rteKind (s.pkt i).epoch h.dst
  let open_ := if k = 0 then s.brg.trk.find? fun e => !e.2.inbound && e.2.vs == idx && e.2.myTag == h.tag else none
  match open_ with
  | none => (s.strayCpl false (if k = 0 then idx else 1000) h.tag h.src h.tc none).freePkt i
  | some (n, _) =>
    let (bad, s) := s.checkTrk n
    let t : Trk := tget {} s.brg.trk n
    if bad then (s.strayCpl false idx h.tag h.src h.tc none).freePkt i
    else if h.status = 3 then
      let b := if t.backoff = 0 then 1000 else min (2 * t.backoff) 64000
      let t' : Trk := { t with backoff := b, retryAt := some (s.brgNow + b) }
      ({ s with brg := { s.brg with trk := tput s.brg.trk n t' } }).freePkt i
    else
      let bad := decide (5 ≤ h.status ∧ h.status ≤ 7) || decide (h.status ≥ 12)
      let s1 := if bad then (s.count (R.BRG_CNT 15)).raise Flt.BRG_BAD_STATUS else s
      let data := (s1.payload (s1.pkt i)).drop (h.offset % 4) |>.take h.cplBytes
      let last := h.lastCpl || h.status ≠ 0
      let t' : Trk := {
        t with
        due := t.due - h.cplBytes, acc := t.acc ++ (if t.origin = .none then [] else data)
        bad := t.bad || h.poison || (s1.pkt i).poisoned }
      let s2 : State := { s1 with brg := { s1.brg with
        trk := if last then tdel s1.brg.trk n else tput s1.brg.trk n t' } }
      match t.origin with
      | .none =>
        match t.ingress with
        | .port q =>
          let c : Hdr := {
            kind := (if h.status = 0 then h.kind else .cpl), hlen := 12, tc := h.tc, ro := h.ro, ido := h.ido,
            poison := h.poison, len := (if h.status = 0 then h.len else 0), tag := t.tag, reqId := t.reqId,
            status := forwardStatus h.status, byteCnt := h.byteCnt, offset := h.offset % 128, route := .id,
            addr := t.reqId, cplId := s.dmvId t.vs }
          if s2.role q < 2 ∧ s2.isDown (.port q) ∧ !s2.bme (.port q) then (s2.cntPcp q 3).freePkt i
          else (s2.setPkt { s2.pkt i with hdr := c }).toPort i q c
        | _ => s2.freePkt i
      | o => (if last then s2.notify o (if h.status = 0 ∧ t'.bad then 16 else h.status) t'.acc else s2).freePkt i

/-- A completion from a PCI Express port for a request that this device issued there, unit and tag naming it (R188,
R194): data for the part itself, or a completion of a fabric request, which leaves with the tag and requester ID that
the request came with. -/
def State.cplTlp (s : State) (i unit port : Nat) : State :=
  let s := s.readOut i
  let p := s.pkt i
  let h := p.orig
  let key := unit * 16384 + h.tag
  match tfind s.brg.loc key with
  | some l =>
    let data := (s.payload p).drop (h.offset % 4) |>.take h.cplBytes
    let acc := l.acc ++ data
    let last := h.lastCpl || h.status ≠ 0
    let bad := l.bad || h.poison || p.poisoned
    let s1 : State := { s with brg := { s.brg with
      loc := if last then tdel s.brg.loc key else tput s.brg.loc key { l with acc := acc, bad := bad } } }
    (if last then s1.notify l.origin (if h.status = 0 ∧ bad then 16 else h.status) acc else s1).freePkt i
  | none =>
    match s.brg.trk.find? fun e => e.2.inbound && e.2.vs == unit && e.2.myTag == h.tag with
    | none => (s.strayCpl true unit h.tag 0 h.tc (some port)).shed i
    | some (n, _) =>
      let s := s.setPkt { p with outcome := 2 }
      let (bad, s) := s.checkTrk n
      let t : Trk := tget {} s.brg.trk n
      if h.sel then (s.raise Flt.PCP_IDE_FAIL port).shed i
      else if bad then (s.strayCpl true unit h.tag 0 h.tc (some port)).shed i
      else
        let c : Hdr := {
          kind := h.kind, fab := true, hlen := 32, dst := t.src, src := t.dst, tc := t.tc, colour := 0, ro := t.req.ro,
          ido := t.req.ido, poison := h.poison || p.poisoned, len := h.len, tag := t.tag, reqId := t.reqId,
          status := h.status, byteCnt := (if h.status = 0 then h.byteCnt else t.due), offset := h.offset % 128 }
        match s.stampHdr p.epoch c with
        | none => s.stampWait i c
        | some (c', s1) =>
          let last := h.lastCpl || h.status ≠ 0
          let s2 : State := { s1 with brg := { s1.brg with
            trk := if last then tdel s1.brg.trk n else tput s1.brg.trk n { t with due := t.due - h.cplBytes } } }
          s2.fabSend i c'

/-! ### The sideband message bridge (R207 to R211) -/

/-- Adds to one part of BRG_CNT_13: 0 dropped, 1 coalesced, 2 forwarded; each part saturates. -/
def State.sbCount (s : State) (part : Nat) : State :=
  let w := s.raw (R.BRG_CNT 13)
  let f : Fld := ⟨16 * part + 15, 16 * part⟩
  s.setRaw (R.BRG_CNT 13) (f.set w (min (f.get w + 1) 0xFFFF))

/-- Code of R207 of a PCI Express message code (Base Specification; log entry 16); none for a reserved one. -/
def sbCode (c : Nat) : Option Nat :=
  if 0x20 ≤ c ∧ c ≤ 0x27 then some (c - 0x20)
  else match c with
    | 0x18 => some 8 | 0x1B => some 9 | 0x30 => some 10 | 0x31 => some 11 | 0x33 => some 12 | 0x7E => some 16
    | 0x7F => some 17 | _ => none

/-- PCI Express message code of a code of R207. -/
def sbMessage (code : Nat) : Nat :=
  if code < 8 then 0x20 + code
  else match code with
    | 8 => 0x18 | 9 => 0x1B | 10 => 0x30 | 11 => 0x31 | 12 => 0x33 | 16 => 0x7E | 17 => 0x7F
    | c => if 24 ≤ c ∧ c ≤ 27 then (Config.slotMessage c).toNat else 0

/-- A message of the bridge at its destination device (R209, R210): a status value goes to the EVR, an INTx is emitted as
its count rises from or falls to 0, any other is emitted from its port. Every message leaves routed to the
root complex (DESIGN CHOICE, log entry 161). -/
def State.sbEmit (s : State) (port id code : Nat) (data : List Byte) : State :=
  if code ≥ 32 then s.event { code := 0x0302, data := leBytes 2 (64 * port + code) ++ [0, 0, 0, 0, 0, 0] ++ padTo 8 data }
  else
    let emit := fun s : State =>
      s.makeJob { kind := .msg, hlen := 16, subcode := sbMessage code, reqId := id, len := ceilDiv data.length 4, route := .toRoot }
        (some port) data
    if code < 8 then
      let key := (port * 65536 + id) * 4 + code % 4
      let n := tget 0 s.brg.intx key
      let n' := if code < 4 then n + 1 else n - 1
      let s1 : State := { s with brg := { s.brg with intx := if n' = 0 then tdel s.brg.intx key else tput s.brg.intx key n' } }
      if (code < 4 ∧ n = 0) ∨ (code ≥ 4 ∧ n = 1) then emit s1 else s1
    else emit s

/-- Sends a message or value of the bridge to its destination (R209). -/
def State.sbForward (s : State) (e port code reqId : Nat) (data : List Byte) : State :=
  let w := s.onDieAt e 4 (8 * (64 * port + code)) 8
  let s1 := s.sbCount 2
  if bitAt w 60 then
    s1.makeJob {
      kind := .msg, fab := true, hlen := 32, dst := bitsOf w 48 12, src := s.srcFid (32 + port), tc := 0,
      subcode := (if code ≥ 32 then 0 else sbMessage code), len := ceilDiv data.length 4,
      offset := atBits (bitsOf w 25 16) 36 16 ||| atBits (bitsOf w 41 7) 29 7 ||| atBits code 23 6 ||| atBits reqId 7 16 } none data
  else s1.sbEmit (bitsOf w 41 7) (bitsOf w 25 16) code data

/-- A message or value of a fabric endpoint port at the bridge (R208, R211). What mode 0b10 keeps is the latest value, or
the latest message with its requester ID and data. -/
def State.sideband (s : State) (e port code reqId : Nat) (data : List Byte) : State :=
  let id := 64 * port + code
  let w := s.onDieAt e 4 (8 * id) 8
  let each := code ≤ 12 ∨ (24 ≤ code ∧ code ≤ 27)
  let mode := if bitsOf w 61 2 = 2 ∧ each then 1 else bitsOf w 61 2
  if s.entryFaulty e 4 id then (s.raise Flt.BRG_SB_PARITY).sbCount 0
  else if !bitAt w 63 ∨ mode = 0 ∨ mode = 3 then s.sbCount 0
  else if mode = 1 then s.sbForward e port code reqId data
  else
    let x : SbVal := tget {} s.brg.sb id
    let s1 := if x.pending then s.sbCount 1 else s
    let rate := max 1 (bitsOf w 13 12) * 100000
    if !x.sent ∨ s.brgNow - x.lastSend ≥ rate then
      let s2 : State := { s1 with brg := { s1.brg with sb := tput s1.brg.sb id { data := data, reqId := reqId, pending := false, lastSend := s.brgNow, sent := true } } }
      s2.sbForward e port code reqId data
    else { s1 with brg := { s1.brg with sb := tput s1.brg.sb id { x with data := data, reqId := reqId, pending := true } } }

/-! ### Requests released at the last device (R131, R185, R186, R189, R201) -/

/-- The host address that the inbound apertures give a fabric request into a virtual switch; none where none admits it
(R186). -/
def State.aperture (s : State) (e v : Nat) (h : Hdr) : Option Nat :=
  -- a compare and swap carries two operands of its target's size
  let n := max 1 (if h.isRead ∧ h.fbe = 0 ∧ h.len ≤ 1 then 1 else if h.kind = .atomic ∧ h.subcode = 2 then 2 * h.len else 4 * h.len)
  let hit := (s.listed (R.BRG_INB_CFG 0) 0x20 256).find? fun i =>
    let c := R.BRG_INB_CFG i
    let b := s.fldE e (R.BRG_INB_OFF i) F.BRG_INB_OFF_OFF_BASE * 4096
    let m := s.fldE e c F.BRG_INB_CFG_SRC_MASK
    let rd := s.fldE e c F.BRG_INB_CFG_RD == 1
    let wr := s.fldE e c F.BRG_INB_CFG_WR == 1
    s.fldE e c F.BRG_INB_CFG_EN == 1 && s.fldE e c F.BRG_INB_CFG_VS == v
      && (h.src &&& m) == (s.fldE e c F.BRG_INB_CFG_SRC_FID &&& m)
      && (match h.kind with | .mwr => wr | .atomic => rd && wr | _ => rd)
      && b ≤ h.offset && h.offset + n ≤ b + s.fldE e c F.BRG_INB_CFG_SIZE * 4096
  hit.map fun i => s.fldE e (R.BRG_INB_HOST i) F.BRG_INB_HOST_HOST_BASE * 4096
    + (h.offset - s.fldE e (R.BRG_INB_OFF i) F.BRG_INB_OFF_OFF_BASE * 4096)

/-- Destination `d` of a released packet takes the header it leaves a PCI Express port with (R185). A packet with one
destination is then a packet of this device like any other; a mirrored copy keeps its place among its packet's. -/
def State.toPortFar (s : State) (i d port : Nat) (h tlp : Hdr) : State :=
  let p := s.pkt i
  if (p.dest d).rep.isSome then
    let s1 := s.setPkt { p with dests := p.dests.set d { p.dest d with hdr := tlp, fab := some h } }
    if s1.portOpen port then s1.queueDest i d port else s1.deadCopy i d port
  else (s.setPkt { p with hdr := tlp }).toPort i port tlp

/-- A posted packet that the last device refuses: a write leaves a record of its cause, a message nothing (R186). -/
def State.refuseFar (s : State) (i d : Nat) (h : Hdr) (cause : Nat) : State :=
  let p := s.pkt i
  if (p.dest d).rep.isSome then s.copyFail i d cause
  else if h.kind = .mwr then (s.pwfPkt p h cause).freePkt i
  else s.freePkt i

/-- Locks a port: non-posted fabric requests of other requesters that wait there are answered BUSY (R200 step 4, R201). -/
def State.lockPort (s : State) (l : LockedPort) : State :=
  let s1 : State := { s with brg := { s.brg with lockedPorts := s.brg.lockedPorts ++ [l] } }
  let busy := fun (s : State) (m : Nat × Nat) =>
    let p := s.pkt m.1
    p.far && p.hdr.kind.isNp && s.lockHolds l.port p
  let back := fun (s : State) (m : Nat × Nat) => (s.count (R.BRG_CNT 5)).answer m.1 3
  let qs := (s1.tmg.queues.map (·.1)).filter fun q => q < 32768 && q / 256 == l.port || q == mgmtQueue l.port
  let s2 := qs.foldl (init := s1) fun s q =>
    ((s.queue q).mem.filter (busy s)).foldl (fun s m => back (s.unq m.1 m.2) m) s
  let held := (s2.pcpOf l.port).hold.filter (busy s2)
  let c := s2.pcpOf l.port
  held.foldl back (s2.setPcp l.port { c with hold := c.hold.filter fun m => !held.contains m })

/-- A released request is issued on a PCI Express port at an address, under the requester ID of a unit (R185, R187,
R189, R201, R322). -/
def State.issueFar (s : State) (i d port addr unit rid : Nat) (h : Hdr) : State :=
  let p := s.pkt i
  let tlp : Hdr := {
    kind := h.kind, hlen := 16, tc := h.tc, colour := h.colour, ro := h.ro, ido := h.ido, poison := h.poison,
    len := h.len, addr := addr, fbe := h.fbe, lbe := h.lbe, subcode := h.subcode, pasid := h.pasid, reqId := rid }
  if h.kind = .mwr then
    if s.role port = 0 then
      match s.logPkt i unit rid h.pasid addr with
      | (false, s1) => (s1.setPkt { s1.pkt i with relD := (s1.pkt i).relD ++ [8 * i + d] }).stallPkt i .cache
      | (true, s1) => s1.toPortFar i d port h tlp
    else s.toPortFar i d port h tlp
  else if h.kind = .msg then s.toPortFar i d port h { tlp with route := .localRx }
  else if s.lockedFor port h.src h then (s.count (R.BRG_CNT 5)).answer i 3
  else if !s.portOpen port then s.deadPort i port
  else
    let t : Trk := {
      inbound := true, vs := unit, port := port, reqId := h.reqId, tag := h.tag, src := h.src, dst := h.dst, tc := h.tc,
      due := h.dueBytes, tmo := 1000 * s.fld R.BRG_CFG F.BRG_CFG_EPT_TMO, epoch := p.epoch, locked := h.kind == .mrdlk,
      req := h, ingress := p.ingress }
    match s.allocTrk t with
    | none => (s.count (R.BRG_CNT 5)).answer i 3
    | some (k, tag, s1) =>
      let s2 : State := if h.kind = .mrdlk ∧ !s1.brg.lockedPorts.any (fun x => x.port == port) then
          s1.lockPort { port := port, owner := h.src, target := h.dst, reqId := h.reqId, id := s1.knownLock h.src h.dst } else s1
      (s2.setPkt { s2.pkt i with trkIn := some k }).toPortFar i d port h { tlp with tag := tag }

/-- A message of the sideband bridge has reached its device. -/
def State.emitFar (s : State) (i : Nat) (h : Hdr) : State :=
  let data := s.payload (s.pkt i)
  (s.sbEmit (bitsOf h.offset 29 7) (bitsOf h.offset 36 16) (bitsOf h.offset 23 6) data).freePkt i

/-- Message at a local FID: Unlock, which without its lock does nothing, or one of the sideband bridge (R200 step 6, R202,
R209). -/
def State.msgFar (s : State) (i d kind idx : Nat) (h : Hdr) : State :=
  if h.subcode = 0 ∧ bitsOf h.offset 23 6 < 32 then
    match s.brg.lockedPorts.find? fun x => x.owner == h.src && x.target == h.dst with
    | some x => s.issueFar i d x.port 0 (if kind = 1 then 32 + idx else idx) (if kind = 1 then s.epId idx else s.dmvId idx) h
    | none => s.freePkt i
  else s.emitFar i h

/-- A packet that the resequencer has released is delivered in this device (R115, R131, R185). An aperture address inside the
window BAR, or a BAR of an internal function, names no port: such a request is refused (DESIGN CHOICE, log entry 162). -/
def State.deliver (s : State) (n : Nat) : State :=
  let i := n / 8
  let d := n % 8
  if !s.hasPkt i then s
  else
    let p := s.pkt i
    let x := p.dest d
    let h := x.fab.getD (if p.far then p.fab else x.hdr)
    let e := p.epoch
    let (k, idx) := s.rteKind e h.dst
    if h.kind.isCpl then
      (s.setPkt { p with far := true, fab := h, dests := [], readers := 0 }).cplFab i h
    else
      let s := if x.rep.isSome then s
        else s.setPkt { p with far := true, fab := h, dests := [], readers := 0 }
      if h.flush ∧ p.lossHit then s.answer i 4
      else if k = 2 then if h.kind.isNp then s.answer i 1 else
        (if x.rep.isSome then s.copyFail i d 6 else s.freePkt i)
      else if k = 1 then
        if h.kind = .msg then s.msgFar i d 1 idx h else s.issueFar i d idx h.offset (32 + idx) (s.epId idx) h
      else if h.kind = .msg then s.msgFar i d 0 idx h
      else if s.vsContained idx then
        -- a mirrored copy is withdrawn (R105, R413)
        if h.kind.isNp then s.answer i 4 else if x.rep.isSome then s.copyFail i d 2 else s.refuseFar i d h 8
      else match s.aperture e idx h with
      | none => if h.kind.isNp then s.answer i 1 else s.refuseFar i d h 6
      | some a =>
        match s.routeAddr idx none a with
        | .port q =>
          if !s.bme (.internal idx) ∨ (s.role q = 0 ∧ !s.bme (.port q)) then
            if h.kind.isNp then s.answer i 1 else s.refuseFar i d h 6
          else s.issueFar i d q a idx (s.dmvId idx) h
        | _ => if h.kind.isNp then s.answer i 1 else s.refuseFar i d h 6

/-! ### Routing inside a virtual switch (R30, R220, R221, R226, R236) -/

/-- Outcome 4 of R30 inside a virtual switch (R226). -/
def State.unresolved (s : State) (i : Nat) : State :=
  let p := s.pkt i
  let s := s.setPkt { p with outcome := 4 }
  let visible : Bool := match p.ingress with | .port q => decide (s.role q < 2) | _ => true
  if p.hdr.kind.isNp then (if visible then s.answerRx i 1 else s.answer i 1)
  else if p.hdr.kind.isCpl then
    let s1 := if visible then s.logAer p.rxFn .unexpectedCpl (some p.orig) else s
    (match p.ingress with | .port q => s1.cntPcp q 4 | _ => s1).freePkt i
  else (if visible then s.refusePosted p else s).freePkt i

/-- A request or message routed to a port of its virtual switch; a write to the upstream port is logged first (R322). -/
def State.localSend (s : State) (i port : Nat) : State :=
  let p := s.pkt i
  if s.role port = 0 ∧ !p.hdr.kind.isCpl ∧ !s.bme (.port port) ∧ p.hdr.kind ≠ .msg then s.unresolved i
  else if s.role port = 0 ∧ p.hdr.kind = .mwr then
    match s.logPkt i p.vs p.orig.reqId p.orig.pasid p.orig.addr with
    | (false, s1) => s1.stallPkt i .cache
    | (true, s1) => s1.toPort i port p.hdr
  else s.toPort i port p.hdr

/-- An INTx message from below a downstream port, as its virtual switch passes it up: the pin is swizzled by the device
number and counted (Base Specification; log entry 16). -/
def State.intxUp (s : State) (i v port : Nat) : State :=
  let p := s.pkt i
  let c := p.orig.subcode - 0x20
  let dev := (s.downPorts v).idxOf port + 1
  let pin := (c % 4 + dev) % 4
  let key := 2 ^ 32 + v * 4 + pin
  let n := tget 0 s.brg.intx key
  let n' := if c < 4 then n + 1 else n - 1
  let s1 : State := { s with brg := { s.brg with intx := if n' = 0 then tdel s.brg.intx key else tput s.brg.intx key n' } }
  match s.upPort v with
  | some u =>
    if (c < 4 ∧ n = 0) ∨ (c ≥ 4 ∧ n = 1) then
      let h := { p.hdr with subcode := 0x20 + (if c < 4 then 0 else 4) + pin }
      (s1.setPkt { s1.pkt i with hdr := h }).toPort i u h
    else s1.freePkt i
  | none => s1.freePkt i

/-- Whether a message is the commit-fence message of R108, by the header bytes received. -/
def Pkt.isFence (p : Pkt) : Bool :=
  p.orig.subcode == 0x7F && beAt p.raw 10 2 == 0x1F3A && beAt p.raw 12 4 == 0x0F010000

/-- The Unlock message of a host at its upstream port ends its locked sequence (R200 step 6, R202). -/
def State.unlock (s : State) (i v : Nat) : State :=
  let x := s.lock v
  let s1 := s.setLock v {}
  if x.st = 2 then
    let h : Hdr := {
      kind := .msg, fab := true, hlen := 32, dst := x.target, src := x.owner, tc := (s.pkt i).tc, subcode := 0,
      reqId := (s.pkt i).orig.reqId }
    let s2 := (s1.makeJob h none []).lockSend s1.arbFid 0x0C 0 x.owner x.target x.id fun s => s.lockRelease x.owner x.target x.id
    s2.freePkt i
  else s1.freePkt i

/-- The upstream port of a virtual switch acknowledges PME_Turn_Off, and its link goes to L2/L3 Ready (R242; Base
Specification). -/
def State.pmeDone (s : State) (v u : Nat) : State :=
  let s1 := s.makeJob { kind := .msg, hlen := 16, subcode := 0x1B, reqId := s.fnId v (.port u), route := .toRoot } (some u) []
  match s1.port u with
  | some i => s1.setFld (R.PCP_LINK_STAT i.group i.inst) F.PCP_LINK_STAT_PM 5
  | none => s1

/-- PME_Turn_Off at an upstream port: its downstream ports with a link are waited for. -/
def State.pmeOff (s : State) (v u : Nat) : State :=
  let ds := (s.downPorts v).filter s.linkUp
  if ds = [] then s.pmeDone v u else s.setPcp u { s.pcpOf u with pme := ds }

/-- PME_TO_Ack from a downstream port: the last one is passed up. -/
def State.pmeAck (s : State) (v q : Nat) : State :=
  match s.upPort v with
  | none => s
  | some u =>
    let rest := (s.pcpOf u).pme.filter (· ≠ q)
    if !(s.pcpOf u).pme.contains q then s
    else
      let s1 := s.setPcp u { s.pcpOf u with pme := rest }
      if rest = [] then s1.pmeDone v u else s1

/-- Whether an ERR_* message from below triggers DPC at a downstream port, and with which reason: DPC Trigger Enable 1 takes
ERR_FATAL, 2 ERR_NONFATAL with it (R240; Base Specification). -/
def State.errTrigger (s : State) (port code : Nat) : Option Nat :=
  let en := s.cfgBits (.port port) 0x95 16 2
  if !s.isDown (.port port) ∨ (s.pcpOf port).dpc then none
  else if code = 0x33 ∧ (en = 1 ∨ en = 2) then some 2
  else if code = 0x31 ∧ en = 2 then some 1
  else none

/-- A message inside a virtual switch (R108, R200, R207, R240; Base Specification). One that triggers DPC goes no further. -/
def State.msgRoute (s : State) (i v port : Nat) : State :=
  let p := s.pkt i
  let c := p.orig.subcode
  if (s.errTrigger port c).isSome then s.freePkt i |>.addJob (.dpc port ((s.errTrigger port c).getD 0) p.orig.reqId)
  else if c = 0 ∧ s.role port = 0 ∧ (s.lock v).st ≠ 0 then s.unlock i v
  else if c = 0x1B ∧ s.role port = 1 then (s.pmeAck v port).freePkt i
  else
  let s := if c = 0x19 ∧ s.role port = 0 then s.pmeOff v port else s
  match p.orig.route with
  | .toRoot => match s.upPort v with
    | some u => if u = port then s.freePkt i else s.localSend i u
    | none => s.freePkt i
  | .broadcast =>
    match (s.downPorts v).filter (· ≠ port) with
    | [] => s.freePkt i
    | q :: qs => (qs.foldl (fun s r => s.makeJob p.hdr (some r) (s.payload p)) s).toPort i q p.hdr
  | .localRx => if 0x20 ≤ c ∧ c ≤ 0x27 ∧ s.role port = 1 then s.intxUp i v port else s.freePkt i
  | _ =>
    match s.routeId v (some port) p.orig.addr with
    | .port q => s.localSend i q
    | .bar (.dmv w) _ =>
      if p.isFence then
        let b := s.payload p
        (s.fenceMessage w p.tc p.orig.len { fenceId := leAt b 0 4, group := leAt b 4 2, recordAddr := leAt b 8 8 }).freePkt i
      else s.freePkt i
    | .bar _ _ => s.freePkt i
    | _ => s.unresolved i

/-- A TLP from a port of a virtual switch, or from a slice (R30, R226, R236). -/
def State.vsRoute (s : State) (i : Nat) (from_ : Option Nat) : State :=
  let p := s.pkt i
  let v := p.vs
  let below := match from_ with | some q => s.role q == 1 | none => false
  let fn := p.rxFn
  match p.orig.kind with
  | .cfg =>
    if from_.isSome ∧ !below then s.addJob (.bar i (.port (from_.getD 0)) 6) else s.unresolved i
  | .io => s.unresolved i
  | .msg => s.msgRoute i v (from_.getD 1000)
  | .cpl | .cpld | .cpldlk =>
    match from_ with
    | none => s.freePkt i
    | some q =>
      if !below ∧ !s.bme fn then (s.cntPcp q 3).freePkt i
      else
      -- P2P Completion Redirect (R218)
      let far : Bool := match s.upPort v with
        | some u => decide (u ≠ q) && !p.orig.ro && s.acsOn (.port q) 3
        | none => false
      match (if far ∧ s.routeId v from_ p.orig.addr ≠ .none then .port ((s.upPort v).getD 0) else s.routeId v from_ p.orig.addr) with
      | .port r => if s.role r = 1 ∧ !s.bme (.port r) then (s.cntPcp q 3).freePkt i else s.localSend i r
      -- what the DMV function asked for crossed the internal downstream port (R236)
      | .bar (.dmv w) _ => if s.bme (.internal w) then s.cplTlp i w q else (s.cntPcp q 3).freePkt i
      -- what answers no open read of the management function is discarded (R235)
      | .bar .mgmt _ =>
        if s.bme (.internal v) ∧ (tfind s.brg.loc (160 * 16384 + p.orig.tag)).isSome then s.cplTlp i 160 q else (s.cntPcp q 3).freePkt i
      | _ => s.unresolved i
  | k =>
    if below ∧ (k = .mrdlk ∨ !s.bme fn) then s.unresolved i
    else if from_.isNone ∧ !s.bme fn then s.unresolved i
    else match s.routeAddr v from_ p.orig.addr with
    | .window x => s.windowReq i x
    | .bar f b => if from_.isNone then s.unresolved i else s.addJob (.bar i f b)
    | .port r => s.localSend i r
    | .none => s.unresolved i

/-! ### The lookup (R30, R78, R413, R415) -/

/-- A packet in Scango form: across the fabric, or an answer of this device on its way into it (R128, R131, R136). A transit
packet with TTL 0 raises RTE_TTL alone, whatever its route entry holds (DESIGN CHOICE, log entry 158). -/
def State.fabLookup (s : State) (i : Nat) : State :=
  let p := s.pkt i
  let h := p.hdr
  let s := s.setPkt { p with outcome := 3 }
  if p.own then
    match s.stampHdr p.epoch h with
    | none => s.stampWait i h
    | some (h', s1) => s1.fabSend i h'
  else if s.rteLocal p.epoch h.dst then s.fabSend i h
  else if h.ttl = 0 then (((s.count (R.RTE_CNT 11)).raise Flt.RTE_TTL 0 h.rteInfo h.tc)).undeliverable i 8 3
  else s.fabSend i { h with ttl := h.ttl - 1 }

/-- Where a packet goes once it is coloured. A TLP of a selective IDE stream does not enter the fabric or the bridge (R220),
nor does a fence message enter the bridge (R207). A port that needs IDE takes configuration requests, DOE with them, and messages
to its own functions alone (R468). -/
def State.routeOn (s : State) (i : Nat) : State :=
  let p := s.pkt i
  if p.hdr.fab then s.fabLookup i
  else if p.own then match p.ingress with | .port q => s.toPort i q p.hdr | _ => s.freePkt i
  else match p.ingress with
  | .port q =>
    if s.ideShut q ∧ p.orig.kind ≠ .cfg ∧ !(p.orig.kind == .msg && p.orig.route == .localRx) then s.unresolved i
    else if s.role q = 2 then
      match p.orig.kind with
      | .cpl | .cpld | .cpldlk => s.cplTlp i (32 + q) q
      | .msg =>
        if p.orig.sel then (s.raise Flt.PCP_IDE_FAIL q).shed i
        else if p.isFence then s.shed i
        else match sbCode p.orig.subcode with
        | some c => ((s.setPkt { p with outcome := 2 }).sideband p.epoch q c p.orig.reqId (s.payload p)).freePkt i
        | none => s.shed i
      | _ => s.unresolved i
    else s.vsRoute i (some q)
  | _ => s.vsRoute i none

/-- The policer of the ingress (R168, R170). -/
def State.meterPkt (s : State) (i : Nat) : State :=
  let p := s.pkt i
  if p.metered ∨ p.hdr.kind.isCpl ∨ p.acct = 129 then s.routeOn i
  else
    let (c, s1) := s.meter p.epoch p.vh p.tc p.hdr.size p.orig.colour p.orig.fab
    if c = 2 ∧ p.hdr.kind = .mwr ∧ s1.postedDelay p.epoch p.vh p.tc p.orig.colour p.orig.fab then
      (if p.stall = some .posted then s1 else s1.count (R.TMG_CNT 5)).stallPkt i .posted
    else ((s1.setPkt { p with metered := true, hdr := { p.hdr with colour := c } }).paint i).routeOn i

/-- Whether an earlier packet of the same port and TC holds the lookup (R103, R170). -/
def State.behind (s : State) (i : Nat) : Bool :=
  let p := s.pkt i
  s.xbc.stalled.any fun j => j != i && (s.pkt j).relD == [] && (s.pkt j).ingress == p.ingress && (s.pkt j).tc == p.tc
    && !(s.pkt j).hdr.kind.isCpl && !(s.pkt j).own && (p.ingress != .internal || (s.pkt j).vs == p.vs)

/-- Whether a write of the same port and TC is held by POSTED_DELAY (R170). -/
def State.behindRed (s : State) (i : Nat) : Bool :=
  let p := s.pkt i
  s.xbc.stalled.any fun j => (s.pkt j).stall == some .posted && (s.pkt j).ingress == p.ingress && (s.pkt j).tc == p.tc

/-- Whether the check at the write of a packet's header cell found it wrong (R87, R88). -/
def State.headBad (s : State) (p : Pkt) : Bool := bitAt (tget {} s.xbc.cells p.id).side 1

/-- Whether a packet belongs to the management path (R415). -/
def State.mgmtPath (s : State) (p : Pkt) : Bool :=
  p.own || p.origin == .own .mgmt || (match p.ingress with
    | .port q => s.upPort s.mgrVs == some q && (p.orig.kind == .cfg
        || (match s.routeAddr s.mgrVs (some q) p.orig.addr with | .bar .mgmt _ => !p.orig.kind.isCpl && p.orig.kind != .msg | _ => false))
    | _ => false)

/-- Whether a packet arrives from a contained unit (R413). -/
def State.fromContained (s : State) (p : Pkt) : Bool :=
  match p.ingress with
  | .port q => s.portContained q || s.role q < 2 && s.vsContained (s.vsOf q)
  | .dmv _ => s.vsContained p.vs
  | .internal => false

/-- A packet at its ingress lookup. -/
def State.enter (s : State) (i : Nat) : State :=
  if !s.hasPkt i then s
  else
    let p := s.pkt i
    if s.headBad p then ((s.count (R.XBC_CNT 4)).raise Flt.XBC_HDR_PARITY).shed i
    else if !p.own ∧ s.fromContained p then s.shed i
    else if s.safe ∧ !s.mgmtPath p then
      match p.ingress with
      | .port q =>
        if s.upPort s.mgrVs = some q then (if p.hdr.kind.isNp then s.answer i 1 else s.shed i) else s.stallPkt i .behind
      | _ => s.stallPkt i .behind
    -- what the management queue has no room for waits (R415)
    else if s.mgmtFull ∧ (p.own ∨ p.ingress = .internal) then s.stallPkt i .behind
    else if p.own then s.routeOn i
    else if p.hdr.kind.isCpl then
      -- completions are green, and pass what waits, but for a write that POSTED_DELAY holds (R168, R170)
      if s.behindRed i then s.stallPkt i .behind
      else ((s.setPkt { p with hdr := { p.hdr with colour := 0 } }).paint i).routeOn i
    else if !p.held ∧ s.behind i then s.stallPkt i .behind
    else (s.setPkt { p with held := true }).meterPkt i

end Sys2Proof.Machine
end

