-- ==== Sys2Proof/Machine/Egress.lean ====
section
/-! DEFINITION. XBC and TMG at the egress (R71 to R75, R83 to R90, R106, R161, R162, R230, R344), the sweep, samples
(R91 to R94), and the events of resequencer, fences, escape and posted delay that end a wait. -/

namespace Sys2Proof.Machine

/-! ### Ending a packet unfinished (R75) -/

/-- The egress of destination `d` ends it: a nullified TLP, or the abort marker of a Scango link where any of it has stood
in a flit (R75, R247, R276). -/
def State.abortSend (s : State) (i d : Nat) : State :=
  match s.xbc.sending.find? fun x => x.pkt == i && x.dest == d with
  | none => s
  | some x =>
    let mine := (s.sglOf x.link).tx.filter fun t => t.pkt == i && t.dest == d
    let left := mine.foldl (fun n t => n + t.bytes.length) 0
    let gone := ((s.pkt i).dest d).hdr.hlen + (s.avail (s.pkt i)).length - left
    let s1 := ({ s with xbc := { s.xbc with sending := s.xbc.sending.filter fun y => y ≠ x } } : State).slotDue x.link 1 gone
    if s1.isScango x.link then
      let l := s1.sglOf x.link
      let tx := l.tx.map fun t => if t.pkt = i ∧ t.dest = d then { t with abort := true, more := false, bytes := [] } else t
      let s2 := s1.setSgl x.link { l with tx := tx }
      if mine.any (·.started) then s2.cntSgl x.link 9 else s2
    else s1.emit (.nullified x.link ((s1.pkt i).dest d).hdr)

/-- A released destination (packet * 8 + destination) of a packet does not wait for its delivery any more. -/
def State.unwait (s : State) (i n : Nat) : State :=
  let p := s.pkt i
  let left := p.relD.filter (· ≠ n)
  if !p.relD.contains n then s
  else if left = [] then (s.unstall i).setPkt { (s.unstall i).pkt i with relD := [] }
  else s.setPkt { p with relD := left }

/-- Takes destination `d` of a packet out of what still holds it: its queue, a hold buffer, its egress, which ends it, or
the resequencer, where a skip marker keeps its number's place (the model's choice; log entry 136). -/
def State.unplace (s : State) (i d : Nat) : State :=
  match ((s.pkt i).dest d).st with
  | .queued => s.unq i d
  | .npHold => { s with pcp := s.pcp.map fun e => (e.1, { e.2 with hold := e.2.hold.filter (· ≠ (i, d)) }) }
  | .sending _ => s.abortSend i d
  | .held =>
    let n := 8 * i + d
    let s1 : State := { s with
      rte := { s.rte with rsq := s.rte.rsq.map fun e => (e.1, { e.2 with
        slots := e.2.slots.map fun x => if x.2 = some n then (x.1, none) else x
        park := e.2.park.filter (· ≠ n) }) }
      xbc := { s.xbc with jobs := s.xbc.jobs.filter (· ≠ .release n) } }
    s1.unwait i n
  | _ => s

/-- The destinations of a packet that are not done. -/
def Pkt.openDests (p : Pkt) : List Nat := (List.range p.dests.length).filter fun d => (p.dest d).st != .done

/-- A packet ends before its LAST cell: every destination not yet done is undeliverable, those that have started are
ended unfinished, and the packet counts once (R75). -/
def State.endPacket (s : State) (i : Nat) : State :=
  if !s.hasPkt i then s
  else
    let p := s.pkt i
    let s0 : State := { s with xbc := { s.xbc with rxCur := s.xbc.rxCur.filter fun e => e.2 ≠ i } }
    let s2 := p.openDests.foldl (fun s d => s.unplace i d) (s0.count (R.XBC_CNT 6))
    if p.dests = [] then (s2.unstall i).undeliverable i 0 2
    else p.openDests.foldl (fun s d => s.undeliverable i d 2) s2

/-- The egress of destination `d` ends it unfinished, which leaves the other copies of a mirrored packet as they are (R75,
R84, R89). The packet counts once. -/
def State.endDests (s : State) (i : Nat) (ds : List Nat) : State :=
  if ds = [] then s else ds.foldl (fun s d => (s.unplace i d).undeliverable i d 2) (s.count (R.XBC_CNT 6))

/-- A data error is found after the header has left at some egress: those copies end unfinished (R89). -/
def State.dataErr (s : State) (i : Nat) : State :=
  let p := s.pkt i
  let left := (List.range p.dests.length).filter fun d => match (p.dest d).st with | .sending _ => true | _ => false
  if left = [] then s else (s.raise Flt.XBC_DATA_PARITY).endDests i left

/-! ### Packets discarded (R88, R90) -/

/-- A packet discarded under R88 is not counted by the sampling counter of its port (R91). -/
def State.smpBack (s : State) (p : Pkt) : State :=
  match p.ingress with
  | .port q =>
    if s.flag (R.XBC_SMP_CFG q) F.XBC_SMP_CFG_EN then
      { s with xbc := { s.xbc with smpCnt := tput s.xbc.smpCnt q (tget 1 s.xbc.smpCnt q + 1) } }
    else s
  | _ => s

/-- A packet discarded under R88: no answer, no record; each mirrored copy not yet done is resolved (R572). Where the error is
found as one copy starts, copies that are being sent end with it, without a record (DESIGN CHOICE, log entry 155). -/
def State.hdrDiscard (s : State) (i : Nat) : State :=
  let p := s.pkt i
  let s1 := ((s.count (R.XBC_CNT 4)).raise Flt.XBC_HDR_PARITY).smpBack p
  let s2 := p.openDests.foldl (fun s d => s.unplace i d) s1
  if p.group.isSome then p.openDests.foldl (fun s d => s.copyFail i d 0) s2
  else s2.freePkt i

/-- A packet whose sideband or descriptor fails. Copies whose header has left end unfinished, as for a data error; what has
not started is discarded, as for a header error; the cells are left to the scan (R90). -/
def State.sideDiscard (s : State) (i : Nat) : State :=
  let p := s.pkt i
  let left := (List.range p.dests.length).filter fun d => match (p.dest d).st with | .sending _ => true | _ => false
  let s1 := (s.setPkt { p with scan := true }).raise Flt.XBC_SB_PARITY
  if left = [] then s1.hdrDiscard i
  else
    let s2 := (s1.raise Flt.XBC_DATA_PARITY).endDests i left
    if (s2.pkt i).openDests = [] then s2 else s2.hdrDiscard i

/-- The scan of R90 ends: cells that carry the number of a discarded packet, or whose own sideband fails, are freed and
counted. A charge goes back where the descriptor is sound; where it is not, the pool is recomputed from the cells in
use: those charged to headroom or to a minimum are not the pool's, and samples hold a charge but no cell. -/
def State.sbReclaim (s : State) : State :=
  let dead := s.xbc.reclaim
  let gone := s.xbc.cells.filter fun e => dead.contains (bitsOf e.2.side 22 20) || dead.any (fun i => (s.pkt i).cells.contains e.1)
    || e.2.sideBad
  let s1 := s.count (R.XBC_CNT 8) gone.length
  let s2 := dead.foldl (init := s1) fun s i =>
    let p := s.pkt i
    (s.setPkt { p with scan := false, chg := if p.descPar = 0 then p.chg else 0 }).freePkt i
  let s3 : State := { s2 with xbc := { s2.xbc with reclaim := [], cells := s2.xbc.cells.filter fun e => !gone.any (fun g => g.1 == e.1) } }
  let smp := fun e : Nat × Occ => e.1 / 8 == 130
  let mins := (s3.xbc.occ.filter fun e => !smp e).foldl (fun n e => n + e.2.min + e.2.hdrm) 0
  let held := (s3.xbc.occ.filter smp).foldl (fun n e => n + e.2.shared) 0
  ({ s3 with xbc := { s3.xbc with sharedUsed := s3.xbc.cells.length - mins + held } }).retryAdmission

/-! ### Eligibility (R72, R161, R201, R230, R261) -/

/-- Packet-byte rate of a port in MB/s (R73). -/
def State.speed (s : State) (p : Nat) : Nat := s.fld (R.XBC_PORT_SPEED p) F.XBC_PORT_SPEED_SPEED

/-- Whether link IDE is active on a port. -/
def State.linkIde (s : State) (p : Nat) : Bool :=
  match s.port p with | some i => !i.scango && s.flag (R.PCP_LINK_STAT i.group i.inst) F.PCP_LINK_STAT_IDE_LINK | none => false

/-- Whether a packet is eligible for dequeue: its header cell has been written, and under link IDE its check has passed,
which needs the whole TLP (R72). -/
def Pkt.headThere (p : Pkt) : Bool := p.whole || (decide (p.rxLen ≥ 64) && !p.linkIde)

/-- Whether an egress port may read a packet now: it has wholly arrived, or cut-through is allowed (R72, R74). -/
def State.ctOk (s : State) (p : Pkt) (port : Nat) : Bool :=
  p.whole || (p.headThere && s.flag R.XBC_CFG F.XBC_CFG_CT_EN
    && (match p.ingress with | .port q => decide (s.speed port ≥ s.speed q) | _ => true)
    && (s.isScango port || !s.linkIde port || p.orig.sel))


/-- Flow-control data units of a TLP: 16 bytes each. -/
def Hdr.fcData (h : Hdr) : Nat := ceilDiv h.payloadLen 16

/-- Credit type of a TLP: 0 posted, 1 non-posted, 2 completion. -/
def Hdr.fcType (h : Hdr) : Nat := if h.kind.isCpl then 2 else if h.kind.isNp then 1 else 0

/-- Entries of a port's non-posted hold buffer (R230). -/
def State.npHold (s : State) (port : Nat) : Nat :=
  match s.port port with | some i => s.fld (R.PCP_PORT_CFG i.group i.inst) F.PCP_PORT_CFG_NP_HOLD | none => 0

/-- Whether the head of a queue can start at a port at once. -/
def State.headOk (s : State) (port : Nat) (i d : Nat) : Bool :=
  let p := s.pkt i
  let h := (p.dest d).hdr
  if s.isScango port then
    p.headThere && (s.entryFaulty p.epoch 2 h.dst || s.noHop p.epoch h || s.eligibleHops p.epoch h == []
      || (s.eligibleHops p.epoch h).any fun x => s.readyLinks p.epoch h x (s.ctOk p) != [])
  else
    let c := s.pcpOf port
    s.ctOk p port && s.portOpen port && (h.kind.isCpl || !s.lockHolds port p)
      && (if h.kind.isNp then decide (c.hold.length < s.npHold port)
        else if h.kind.isCpl then decide (c.ch ≥ 1 ∧ c.cd ≥ h.fcData)
        else decide (c.ph ≥ 1 ∧ c.pd ≥ h.fcData))

/-- Whether DCT discards a packet at dequeue (R344); a decant flush is sent. -/
def State.dctDrops (s : State) (p : Pkt) : Bool :=
  s.dct.drain && p.hdr.kind != .mwr && !p.hdr.kind.isCpl && (match p.origin with | .decant _ => false | _ => true)

/-- Whether queue `q` of a port is eligible (R161), or its head is to be discarded. -/
def State.eligible (s : State) (port q : Nat) : Bool :=
  match (s.queue q).mem with
  | [] => false
  | (i, d) :: _ => !s.shapeHolds q && (s.headOk port i d || s.dctDrops (s.pkt i))

/-- Whether a queue is eligible as R161 has it (TMG_SNAP_Q). -/
def State.eligibleNow (s : State) (port q : Nat) : Bool :=
  match (s.queue q).mem with
  | [] => false
  | (i, d) :: _ => !s.onWheel q && (if s.isScango port then s.linkOk port else s.portOpen port) && s.headOk port i d

/-- The queue that a port selects, with the scheduler's new state (R162); in the safe state the management queue alone
(R415), and nothing once a decant no longer drains (R342). -/
def State.pickQueue (s : State) (port : Nat) : Option (Nat × State) :=
  if s.safe then
    if s.eligible port (mgmtQueue port) then some (mgmtQueue port, s) else none
  else if s.dct.quiet ∧ !s.dct.drain then none
  else s.select port (s.eligible port)

/-! ### Starting a packet (R71, R89, R106, R133, R230, R261) -/

/-- Whether a port is sending a TLP. -/
def State.busyPort (s : State) (port : Nat) : Bool := s.xbc.sending.any fun x => x.link == port

/-- Marks a destination as being sent on a port or link. -/
def State.markSending (s : State) (i d link : Nat) (h : Hdr) : State :=
  let p := s.pkt i
  let s1 := s.setPkt { p with dests := p.dests.set d { p.dest d with st := .sending link, hdr := h } }
  ({ s1 with xbc := { s1.xbc with sending := s1.xbc.sending ++ [{ pkt := i, dest := d, link := link, chk := s.written p }] } } : State).ev 1
    (if p.whole then 6 else 5) p.acct p.tc

/-- Sends destination `d` on a PCI Express port: its credits are consumed, or it enters the non-posted hold buffer
(R230). -/
def State.startPcie (s : State) (i d port : Nat) (h : Hdr) : State :=
  let (bad, s) := s.takeUpset 0xE6 (64 * port)
  let c := s.pcpOf port
  if bad then s.hdrDiscard i
  else if h.kind.isNp then
    let p := s.pkt i
    (s.setPkt { p with dests := p.dests.set d { p.dest d with st := .npHold, hdr := h } }).setPcp port { c with hold := c.hold ++ [(i, d)] }
  else
    let c' : PcpSt := if h.kind.isCpl then { c with ch := c.ch - 1, cd := c.cd - h.fcData }
      else { c with ph := c.ph - 1, pd := c.pd - h.fcData }
    (s.setPcp port { c' with idleSince := s.now }).markSending i d port h

/-- Sends destination `d` on the link that RTE chooses (R133, R147, R260, R261). -/
def State.startScango (s : State) (i d port : Nat) (h : Hdr) : State :=
  let p := s.pkt i
  let e := p.epoch
  if s.entryFaulty e 2 h.dst then s.unrouted i d Flt.RTE_TBL_PARITY (atBits 2 32 8 ||| atBits h.dst 0 16) 0
  else if s.noHop e h then s.unrouted i d Flt.RTE_NO_ROUTE h.rteInfo h.tc
  else if s.eligibleHops e h = [] then s.unrouted i d Flt.RTE_UPDOWN h.rteInfo (atBits h.tc 0 3 ||| atBits (s.channel e h) 3 2)
  else match s.choose port e h (s.ctOk p) with
  | none => s
  | some (x, l, s1) =>
    let (bad, s1) := s1.takeUpset 0xE6 (64 * l)
    if bad then s1.hdrDiscard i
    else
      let h' := s1.hopHdr e h x
      let s2 := if h'.dl ∧ !h.dl then s1.count (R.RTE_CNT 9) else s1
      let k := s2.sglOf l
      let q : Pool := tget {} k.pools h'.pool
      let q' : Pool := { q with cons := (q.cons + 1) % 4096, consD := (q.consD + h'.credits) % 65536 }
      let t : TxPkt := {
        pkt := i, dest := d, hdr := h', data := s2.avail p, more := !p.whole, bytes := h'.bytes ++ s2.avail p }
      ((s2.setSgl l { k with pools := tput k.pools h'.pool q', tx := k.tx ++ [t] }).markSending i d l h').ev 3 1 l h.tc

/-- Starts destination `d` of packet `i` at a port: checks of the stored packet first (R88 to R90, R106). -/
def State.startSend (s : State) (i d port : Nat) (ups : List Upset) : State :=
  let s0 := ups.foldl (fun s u => s.upsetPkt i u) s
  let q := ((s0.pkt i).dest d).queue
  let (recBad, s1) := if (s0.pkt i).group.isSome then s0.takeUpset 0xE0 i else (false, s0)
  let chk := s1.pktCheck i
  if chk = 2 then s1.sideDiscard i
  else if chk = 1 then s1.hdrDiscard i
  else if recBad then
    let p := s1.pkt i
    -- every copy not yet sent is withdrawn, a local one that waits for its delivery with them (R106); one being sent counts
    -- as sent (DESIGN CHOICE, log entry 156)
    let open_ := p.openDests.filter fun d => match (p.dest d).st with | .sending _ => false | _ => true
    open_.foldl (fun s d => (s.unplace i d).copyFail i d 2) (s1.raise Flt.MCE_REC_PARITY)
  else
    let s2 := s1.readOut i
    let p := s2.pkt i
    let h := { (p.dest d).hdr with poison := (p.dest d).hdr.poison || chk == 3 }
    let s3 := (s2.unq i d).shapeSend q h.size
    if s3.isScango port then s3.startScango i d port h else s3.startPcie i d port h

/-- Whether a held request may leave its buffer: in the safe state those of the management path alone (R86, R415). -/
def State.heldLive (s : State) (port : Nat) (m : Nat × Nat) : Bool := !s.safe || ((s.pkt m.1).dest m.2).queue == mgmtQueue port

/-- Discards the held requests of a port that are aged, oldest first: an aged packet is never sent (R83). -/
def State.dropHeld (s : State) (port : Nat) : Nat → State
  | 0 => s
  | n + 1 =>
    match (s.pcpOf port).hold.find? fun m => s.heldLive port m && s.aged (s.pkt m.1) with
    | some (i, d) =>
      ((s.setPcp port { s.pcpOf port with hold := (s.pcpOf port).hold.erase (i, d) }).ageOut i d).dropHeld port n
    | none => s

/-- The oldest held non-posted request that the port's lock lets go is sent, if credits cover it (R200, R230). -/
def State.sendHeld (s : State) (port : Nat) : Option State :=
  let c := s.pcpOf port
  match c.hold.find? fun m => s.heldLive port m && !s.lockHolds port (s.pkt m.1) with
  | none => none
  | some (i, d) =>
    let rest := c.hold.erase (i, d)
    let h := ((s.pkt i).dest d).hdr
    if s.portOpen port ∧ c.nph ≥ 1 ∧ c.npd ≥ h.fcData then
      some ((s.setPcp port { c with hold := rest, nph := c.nph - 1, npd := c.npd - h.fcData, idleSince := s.now }).markSending i d port h)
    else none

/-- A port that can start a packet selects and starts one; aged heads, and what a decant discards, go first (R83, R162,
R230, R344). -/
def State.egressSelect (s : State) (port : Nat) (ups : List Upset) : Nat → State
  | 0 => s
  | n + 1 =>
    if !s.isScango port ∧ s.busyPort port then s
    else
      let s := (s.dropHeld port (s.pcpOf port).hold.length).offWheel port
      match (if s.isScango port then none else s.sendHeld port) with
    | some s1 => s1
    | none =>
      match s.pickQueue port with
      | none => s
      | some (q, s1) =>
        match (s.queue q).mem with
        | [] => s
        | (i, d) :: _ =>
          let p := s.pkt i
          if s.aged p then ((s.unq i d).ageOut i d).egressSelect port ups n
          else if s.dctDrops p then
            (((s.unq i d).count (R.DCT_CNT (if p.hdr.kind = .msg then 4 else 3))).destDone i d).egressSelect port ups n
          else
            let h := (p.dest d).hdr
            ((s1.ev 2 1 port p.tc).ev 2 2 port p.tc (ceilDiv h.size 4)).startSend i d port ups

/-! ### The end of a send (R71, R105, R111) -/

/-- Destination `d` has been sent whole. -/
def State.sentWhole (s : State) (i d link : Nat) : State :=
  let p := s.pkt i
  let x := p.dest d
  -- sent with a poison that it did not arrive with (R105)
  let withdrawn := x.hdr.poison && !p.arrivedPoisoned
  let s1 := if x.rep.isSome then
      let s' := if x.counted then s.count (R.MCE_CNT 0) else s
      if withdrawn then
        ((s'.count (R.MCE_CNT 3)).pwfPkt p (x.fab.getD x.hdr) 2 (p.group.map fun g => (g, x.rep.getD 0))).cmtResolve x.flow 5 x.counted
      else if x.counted then s'.cmtResolve x.flow 0 true else s'
    else s
  let s2 := if s1.decanting ∧ p.hdr.kind = .mwr then s1.count (R.DCT_CNT 1) else s1
  let s3 : State := if p.far ∧ p.hdr.kind = .msg ∧ x.hdr.subcode = 0 ∧ s2.brg.lockedPorts.any (fun e => e.port == link && e.owner == p.fab.src)
    then { s2 with brg := { s2.brg with lockedPorts := s2.brg.lockedPorts.filter fun e => e.port ≠ link } } else s2
  (s3.slotDue link 0 x.hdr.size).destDone i d

/-- Bytes that a PCI Express port has sent, by µs, for the 255 µs that L0P_IDLE can name (R233). -/
def State.noteSent (s : State) (p n : Nat) : State :=
  let c := s.pcpOf p
  s.setPcp p { c with sent := match c.sent with
    | (t, b) :: rest => if t = s.us then (t, b + n) :: rest else ((s.us, n) :: c.sent).take 256
    | [] => [(s.us, n)] }

/-- EGRESS_SEND_DONE at a port or link: the oldest packet it is sending has been read to its end (R71). A TLP leaves
whole on a PCI Express port; a Scango packet is at its end when its last byte stands in a flit. -/
def State.sendDone (s : State) (link : Nat) : State :=
  match s.xbc.sending.find? fun x => x.link == link with
  | none => s
  | some x =>
    let p := s.pkt x.pkt
    let packed := if s.isScango link then !(s.sglOf link).tx.any (fun t => t.pkt == x.pkt && t.dest == x.dest) else true
    -- cells written after the header left, checked as they are read (R87, R89)
    let late := (List.range p.ncells).drop x.chk
    let hit := !s.isScango link && ((List.range p.ncells).any fun k => k > 0 && s.upsets.contains (0xE6, 64 * link + k))
      || late.any fun k => (s.cellOf p k).dataBad
    if !p.whole ∨ !packed then s
    else if p.descPar ≠ 0 ∨ late.any (fun k => (s.cellOf p k).sideBad) then s.sideDiscard x.pkt
    else if hit then
      -- a check fails after the header has left: that of a later cell, or that at the egress port controller (R89)
      ((List.range p.ncells).foldl (fun s k => (s.takeUpset 0xE6 (64 * link + k)).2) (s.raise Flt.XBC_DATA_PARITY)).endDests
        x.pkt [x.dest]
    else
      let s1 : State := { s with xbc := { s.xbc with sending := s.xbc.sending.filter fun y => y ≠ x } }
      let s2 := if s1.isScango link then s1 else
          let h := (p.dest x.dest).hdr
          (((s1.emit (.tlp link h (s1.payload p))).ev 6 2 link p.tc).ev 6 3 link p.tc (ceilDiv h.size 4)).noteSent link h.size
      s2.sentWhole x.pkt x.dest link

/-- CT_STALL_TIMEOUT at an egress: the next cell of the packet it is sending has not been written within CT_STALL_MAX
(R75). Of a mirrored packet it ends the copy that this egress sends (R84). -/
def State.ctStall (s : State) (link : Nat) : State :=
  match s.xbc.sending.find? fun x => x.link == link && !(s.pkt x.pkt).whole with
  | none => s
  | some x =>
    if s.now - (s.pkt x.pkt).lastWr ≥ 1000 * s.fld R.XBC_CFG F.XBC_CFG_CT_STALL_MAX then
      s.endDests x.pkt [x.dest] else s

/-! ### The sweep (R83, R86, R136, R230) -/

/-- Discards aged heads of a queue in turn. -/
def State.sweepQueue (s : State) (q : Nat) : Nat → State
  | 0 => s
  | n + 1 =>
    match (s.queue q).mem with
    | [] => s
    | (i, d) :: _ => if s.aged (s.pkt i) then ((s.unq i d).ageOut i d).sweepQueue q n else s

/-- Discards aged requests of a port's non-posted hold buffer; in the safe state those of the management path (R86). -/
def State.sweepHold (s : State) (port : Nat) : State :=
  (s.pcpOf port).hold.foldl (init := s) fun s x =>
    if s.heldLive port x && s.aged (s.pkt x.1) then
      (s.setPcp port { s.pcpOf port with hold := (s.pcpOf port).hold.filter (· ≠ x) }).ageOut x.1 x.2
    else s

/-- Whether a sweep of a quadrant starts now: one starts at every multiple of SWEEP_US of device time (R83). -/
def State.sweepDue (s : State) (quad : Nat) : Bool :=
  s.now % (1000 * s.fld R.XBC_CFG F.XBC_CFG_SWEEP_US) == 0 && tfind s.xbc.swept quad != some s.now

/-- A sweep of a quadrant: the heads of its ports' queues, the held requests, and the requests whose lookup waits
(R83); in the safe state only those of the management path (R86). -/
def State.sweepQuad (s : State) (quad : Nat) : State :=
  let ports := (s.cfg.ports.map (·.1)).filter fun p => s.quadrant p == quad
  let qs := (s.tmg.queues.map (·.1)).filter fun q =>
    if q < 32768 then !s.safe && ports.contains (q / 256) else ports.contains (q - 32768)
  let s1 := qs.foldl (fun s q => s.sweepQueue q ((s.queue q).mem.length)) s
  let s2 := ports.foldl State.sweepHold s1
  s2.xbc.stalled.foldl (init := s2) fun s i =>
    let p := s.pkt i
    let here : Bool := match p.ingress with | .port q => ports.contains q | _ => quad == 0
    if here ∧ s.hasPkt i ∧ s.aged p ∧ (!s.safe ∨ s.mgmtPath p) then
      match p.relD with
      | [] => (s.unstall i).ageOut i 8
      | ds => ds.foldl (fun s n => if s.hasPkt i then s.ageOut i (n % 8) else s) ((s.unstall i).setPkt { (s.unstall i).pkt i with relD := [] })
    else s

/-- AGE_SWEEP of a quadrant. -/
def State.ageSweep (s : State) (quad : Nat) : State :=
  if s.sweepDue quad then (({ s with xbc := { s.xbc with swept := tput s.xbc.swept quad s.now } } : State)).sweepQuad quad else s

/-! ### The snapshot (R172) -/

/-- The snapshot of R172 for a queue. -/
def State.snapshot (s : State) (q : Nat) (clr : Bool) : State :=
  let valid := s.qValid q
  let h := if valid then tget [] s.tmg.hist q else []
  let s1 := (List.range 16).foldl (init := s) fun s k =>
    (s.setFld (R.TMG_SNAP_DEPTH k) F.TMG_SNAP_DEPTH_BIN (h.getD k 0)).setFld (R.TMG_SNAP_DELAY k)
      F.TMG_SNAP_DELAY_BIN (h.getD (16 + k) 0)
  let y := s.queue q
  let w := atBits (b2n valid) 63 1 ||| atBits (b2n (s.onWheel q)) 62 1
    ||| atBits (b2n (s.eligibleNow (q / 256) q)) 61 1
    ||| atBits ((BitVec.ofInt 18 y.deficit).toNat) 21 18 ||| atBits (s.depth q) 0 21
  let s2 := s1.setRaw R.TMG_SNAP_Q (BitVec.ofNat 64 w)
  if clr ∧ valid then { s2 with tmg := { s2.tmg with hist := tput s2.tmg.hist q [] } } else s2

/-- SNAPSHOT (R172): the host writes TMG_SNAP_SEL; QUEUE above 32,767 is BAD_PARAM (R178). -/
def State.doSnapshot (s : State) (clr : Bool) (q : Nat) : State :=
  if q > 32767 then s.badParam R.TMG_SNAP_SEL
  else (s.setRaw R.TMG_SNAP_SEL (BitVec.ofNat 64 (atBits (b2n clr) 31 1 ||| atBits q 0 15))).snapshot q clr

/-! ### Samples (R91 to R94) -/

/-- The value that a port's sampling counter is loaded with (R91). -/
def State.smpReload (s : State) (p : Nat) : Nat × State :=
  let n := s.fld (R.XBC_SMP_CFG p) F.XBC_SMP_CFG_N
  if s.flag (R.XBC_SMP_CFG p) F.XBC_SMP_CFG_JITTER then
    let (r, s1) := s.fresh
    (n - n / 2 + r.toNat % (2 * (n / 2) + 1), s1)
  else (n, s)

/-- Counts a packet at a port; true when it is to be sampled (R91). -/
def State.smpTick (s : State) (p : Nat) : Bool × State :=
  if !s.flag (R.XBC_SMP_CFG p) F.XBC_SMP_CFG_EN then (false, s)
  else
    let c := tget 1 s.xbc.smpCnt p - 1
    if c = 0 then
      let (r, s1) := s.smpReload p
      (true, { s1 with xbc := { s1.xbc with smpCnt := tput s1.xbc.smpCnt p r } })
    else (false, { s with xbc := { s.xbc with smpCnt := tput s.xbc.smpCnt p c } })

/-- Counts a packet of a port and makes its sample where it is due: one that falls due while the port's last has not been
copied is discarded (R91, R94; which of the two goes is the model's choice: log entry 137). `i` is the packet's number, one
that no packet has for a packet that never reaches the buffer. -/
def State.smpCount (s : State) (p i : Nat) (x : Sample) : State :=
  let (hit, s1) := s.smpTick p
  if !hit then s1
  else if s1.xbc.smpWait.any fun e => bitsOf e.2.2.metaWord 57 7 == p then s1.count (R.XBC_CNT 7)
  else s1.addJob (.sample i s.now x)

/-- The number of no packet. -/
def noPkt : Nat := 2 ^ 20

/-- Copies a sample into the engine's queue once the lookup of its packet is done; a packet that is not in the buffer any
more was discarded at its ingress (outcome 4) unless its lookup had completed the sample (R93, R94). It is charged as one
cell of account 130 under the epoch in force, and takes no cell of the buffer (the model's choices; log entry 138). -/
def State.takeSample (s : State) (i arr : Nat) (x : Sample) : State :=
  let p := s.pkt i
  let here := s.hasPkt i && p.arr == arr
  if !x.sealed ∧ here ∧ p.stall.isSome then
    { s with xbc := { s.xbc with smpWait := s.xbc.smpWait ++ [(i, arr, x)] } }
  else
    let y := if here then x.complete p else if x.sealed then x else { x with metaWord := x.metaWord ||| atBits 3 39 2 }
    if s.xbc.samples.length ≥ 1024 then s.count (R.XBC_CNT 7)
    else match s.admission 130 (bitsOf y.metaWord 45 3) 1 s.cfg.epoch with
    | (0, _) => s.count (R.XBC_CNT 7)
    | (c, s1) => { s1 with xbc := { s1.xbc with samples := s1.xbc.samples ++ [{ y with cells := c }] } }

/-- The samples whose packet's lookup is done are copied. -/
def State.wakeSamples (s : State) : State :=
  let ready := fun e : Nat × Nat × Sample => e.2.2.sealed || !s.hasPkt e.1 || (s.pkt e.1).arr != e.2.1 || (s.pkt e.1).stall.isNone
  { s with xbc := { s.xbc with
    smpWait := s.xbc.smpWait.filter fun e => !ready e
    jobs := s.xbc.jobs ++ (s.xbc.smpWait.filter ready).map fun e => .sample e.1 e.2.1 e.2.2 } }

/-- SAMPLE_WRITE: the oldest sample goes to the SMR as two records, or is lost whole (R42, R93, R94). SEQ counts the samples
written before it since the ring was enabled: the first is 0 (the model's choice; log entry 139). -/
def State.sampleWrite (s : State) : State :=
  match s.xbc.samples with
  | [] => s
  | x :: rest =>
    let s1 := ({ s with xbc := { s.xbc with samples := rest } }).uncharge { acct := 130, tc := bitsOf x.metaWord 45 3, chg := x.cells, ncells := 1 }
    let s2 := s1.retryAdmission
    if s2.ringRoom .smr < 2 then s2.lose .smr
    else
      let seq := s2.xbc.smpSeq
      let b := padTo 64 x.bytes
      let r1 := leBytes 2 1 ++ [0, 0] ++ leBytes 4 seq ++ leBytes 8 x.metaWord ++ leBytes 8 x.time ++ b.take 40
      let r2 := leBytes 2 2 ++ [0, 0] ++ leBytes 4 seq ++ b.drop 40
      let s3 := (s2.writeRecord .smr r1).writeRecord .smr r2
      { s3 with xbc := { s3.xbc with smpSeq := (seq + 1) % 2 ^ 32 } }

/-! ### Waits that end (R103, R142, R148, R170) -/

/-- LOOKUP_RESUME for a port (or a slice, or the part itself) and class: its waiting lookups are taken up in order.
What waits for a table read, a prefetch or a lock waits on. -/
def State.lookupResume (s : State) (ing : Ingress) (tc : Nat) : State :=
  let ws := s.xbc.stalled.filter fun i =>
    let p := s.pkt i
    p.ingress == ing && p.tc == tc && (match p.stall with
      | some (.xlt _) => false | some (.prefetch _) => false | some .lock => false | some .posted => false | none => false | _ => true)
  ws.foldl (init := s) fun s i =>
    let p := s.pkt i
    match p.relD with
    | [] => (s.unstall i).addJob (.enter i)
    | ds => ds.foldl (fun s n => s.addJob (.release n)) ((s.unstall i).setPkt { p with relD := [], stall := none })

/-- POSTED_DELAY: a red write held at its lookup is metered again once its peak bucket holds its length (R170). -/
def State.postedResume (s : State) (i : Nat) : State :=
  let p := s.pkt i
  if s.hasPkt i ∧ p.stall = some .posted ∧ s.peakHolds p.epoch p.vh p.tc p.hdr.size then
    (s.unstall i).addJob (.enter i)
  else s

/-- GAP_TIMEOUT of a resequencer entry (R142, R152). -/
def State.gapTimeout (s : State) (w : Nat) : State :=
  if s.decanting ∨ s.safe then s
  else
    let s := s.checkRsq (s.rsq w).flow
    match (s.rsq w).timer with
  | some t => if s.gapNow - t ≥ 1000 * (s.rsq w).tmo then s.endGap w none else s
  | none => s

/-- ESCAPE: the head of a Scango egress queue has stood for THR_NS without an eligible link having credit (R148). -/
def State.escape (s : State) (q : Nat) : State :=
  match (s.queue q).mem with
  | [] => s
  | (i, d) :: _ =>
    let p := s.pkt i
    let h := (p.dest d).hdr
    if s.isScango (q / 256) ∧ s.flag R.RTE_ESC_THR F.RTE_ESC_THR_ESC_EN ∧ !h.esc
        ∧ s.now - max (s.queue q).headAt (s.queue q).creditAt ≥ s.fld R.RTE_ESC_THR F.RTE_ESC_THR_THR_NS ∧ !s.headCredit q then
      ((s.setPkt { p with dests := p.dests.set d { p.dest d with hdr := { h with esc := true, down := false } } }).count (R.RTE_CNT 8)).ev 3 3 (q / 256) p.tc
    else s

end Sys2Proof.Machine
end

