-- ==== Sys2Proof/Machine/BridgeSteps.lean ====
section
/-! DEFINITION. BRG at work (07_bridge.md): table reads of the translation cache, re-sends after BUSY, timeouts and
quarantine, lock timers, prefetches, and status values of the sideband bridge. -/

namespace Sys2Proof.Machine

/-- Timers of BRG stop in the safe state and from the start of a decant on (R213, R214). -/
def State.brgFrozen (s : State) : Bool := s.safe || s.decanting

/-- XLT_MISS: the table read that the held packet `i` waits for is done, and its lookup goes on (R182 to R184). -/
def State.doXltMiss (s : State) (i : Nat) : State :=
  let p := s.pkt i
  match p.stall with
  | some (.xlt idx) =>
    let s1 := match s.tblAddr 0 (8 * idx) with
      | some a => s.tmRead (1 + (match p.ingress with | .port q => s.quadrant q | _ => 0)) a 8
      | none => s
    match s1.xltFill p.epoch idx with
    | some s2 => (s2.unstall i).addJob (.enter i)
    | none => (s1.unstall i).xltFault i (some idx)
  | _ => s

/-- BUSY_RETRY: the back-off of tracker entry `k` has ended, and its request goes out again as a new packet of its flow
(R190), under the epoch and route of its allocation while that copy lives (R63, R212; log entry 141). -/
def State.doBusyRetry (s : State) (k : Nat) : State :=
  match tfind s.brg.trk k with
  | none => s
  | some t =>
    match t.retryAt with
    | none => s
    | some at_ =>
      let e := if s.isPrev t.epoch then t.epoch else s.cfg.epoch
      if s.brgNow < at_ ∨ s.brgFrozen then s
      else if (s.checkTrk k).1 then (s.checkTrk k).2
      else match s.stampHdr e t.req with
        | none => s
        | some (h, s1) =>
          match s1.tryMakeAt e { internalPkt h none with origin := t.origin, trkOut := some k, vs := t.vs, vh := t.vs } t.data with
          | none => s
          | some (i, s2) =>
            let s3 : State := { s2 with brg := { s2.brg with trk := tput s2.brg.trk k { t with retryAt := none, req := h } } }
            (s3.count (R.BRG_CNT 6)).fabSend i h

/-- CPL_TIMEOUT: the deadline of tracker entry `k` has passed (R192, R569), or that of a requester inside the part which
had this entry when it was freed without a completion (R195). -/
def State.doCplTimeout (s : State) (k : Nat) : State :=
  if s.brgFrozen then s
  else match s.brg.lost.find? fun e => e.1 == k && decide (e.2.deadline ≤ s.brgNow) with
  | some e => ({ s with brg := { s.brg with lost := s.brg.lost.erase e } } : State).notify e.2.origin 4 e.2.acc true
  | none =>
    match tfind s.brg.trk k with
    | none => s
    | some t =>
      if s.brgNow < t.deadline then s
      else if (s.checkTrk k).1 then (s.checkTrk k).2
      else
        let s1 := (s.count (R.BRG_CNT 2)).raise Flt.BRG_CPL_TMO 0
          (if t.inbound then trkInfo t.src (some t.port) t.myTag else trkInfo t.dst none t.myTag) t.tc
        s1.closeTrk k (if t.inbound then 8 else 4) true

/-- QUARANTINE_END: a tag's quarantine has ended (R194). -/
def State.doQuarantineEnd (s : State) (inb : Bool) (unit tag : Nat) : State :=
  if s.decanting then s
  else { s with brg := { s.brg with
      quar := s.brg.quar.filter fun q => !(q.inbound == inb && q.unit == unit && q.tag == tag && decide (q.until_ ≤ s.brgNow)) } }

/-- LOCK_TIMER: 10 ms have passed since the arbiter's grant (R200 step 7, R202). -/
def State.doLockTimer (s : State) : State :=
  match s.brg.arb with
  | some (o, t, id, since) => if s.brgNow - since < 10000000 ∨ s.brgFrozen then s else s.lockBreak 1 o t id
  | none => s

/-- LOCK_GRANT_TIMEOUT: virtual switch `v` has waited 10 ms for LOCK_GRANT (R202). -/
def State.doGrantTimeout (s : State) (v : Nat) : State :=
  let x := s.lock v
  if x.st ≠ 1 ∨ s.brgNow - x.since < 10000000 ∨ s.brgFrozen then s else s.lockBreak 1 x.owner x.target 0

/-- PREFETCH_FILL: the oldest answer to a prefetch fills its entry, or discards it (R205, R206). -/
def State.doPrefetchFill (s : State) : State :=
  match s.answers.find? Answer.ofPrefetch with
  | none => s
  | some a =>
    let s1 : State := { s with answers := s.answers.erase a }
    match a.origin with
    | .prefetch id =>
      match s1.brg.pf.find? fun e => e.2.id == id with
      | none => s1
      | some (j, x) =>
        if a.status = 0 ∧ !a.lost then
          let x' : Pf := { x with filled := true, data := a.data, last := s.brgNow }
          ({ s1 with brg := { s1.brg with pf := tput s1.brg.pf j x' } }).resumePf j
        else s1.pfDrop j
    | _ => s1

/-- PREFETCH_EXPIRY: entry `j` has gone unused for 50 µs since its fill or its last hit (R206). -/
def State.doPrefetchExpiry (s : State) (j : Nat) : State :=
  match tfind s.brg.pf j with
  | some x => if x.filled ∧ s.brgNow - x.last ≥ 50000 ∧ !s.decanting then s.pfDrop j else s
  | none => s

/-- SIDEBAND_RATE_SEND: RATE has passed since the last send of entry `id`, and its latest value or message is sent
(R211). -/
def State.doRateSend (s : State) (id : Nat) : State :=
  let x : SbVal := tget {} s.brg.sb id
  let e := s.cfg.epoch
  let w := s.onDieAt e 4 (8 * id) 8
  if !x.pending ∨ s.brgNow - x.lastSend < max 1 (bitsOf w 13 12) * 100000 ∨ s.brgFrozen then s
  else
    let put := fun y : SbVal => ({ s with brg := { s.brg with sb := tput s.brg.sb id y } } : State)
    if s.entryFaulty e 4 id then ((put { x with pending := false }).raise Flt.BRG_SB_PARITY).sbCount 0
    else if !bitAt w 63 ∨ bitsOf w 61 2 = 0 ∨ bitsOf w 61 2 = 3 then (put { x with pending := false }).sbCount 0
    else (put { x with pending := false, lastSend := s.brgNow, sent := true }).sbForward e (id / 64) (id % 64) x.reqId x.data

end Sys2Proof.Machine
end

