-- ==== Sys2Proof/Machine/Mover.lean ====
section
/-! DEFINITION. DMV (11_data_mover_and_write_logging.md R302 to R321): slices, their rings and descriptors, the round
robin by which they issue requests, completions, entries, halts and resets, and the failure ring's queue. -/

namespace Sys2Proof.Machine

/-! ### Slices and their registers (R303 to R309) -/

/-- A slice. -/
def State.slice (s : State) (i : Nat) : Slice := tget {} s.dmv.slices i
/-- Replaces it. -/
def State.setSlice (s : State) (i : Nat) (x : Slice) : State :=
  { s with dmv := { s.dmv with slices := tput s.dmv.slices i x } }
/-- Whether a slice is assigned (R304). -/
def State.sliceOn (s : State) (i : Nat) : Bool := s.flag (R.DMV_SLICE_MAP i) F.DMV_SLICE_MAP_VALID
/-- Virtual switch of a slice (R304). -/
def State.sliceVs (s : State) (i : Nat) : Nat := s.fld (R.DMV_SLICE_MAP i) F.DMV_SLICE_MAP_VS
/-- DEPTH_MAX; 0 stands for 256 (R334). -/
def State.sliceDepth (s : State) (i : Nat) : Nat :=
  let d := s.fld (R.DMV_SLICE_MAP i) F.DMV_SLICE_MAP_DEPTH_MAX
  if d = 0 then 256 else d
/-- Entries of a slice's submission ring. -/
def State.sqSize (s : State) (i : Nat) : Nat := 2 ^ s.fld (R.DMV_SQ_CFG i) F.DMV_SQ_CFG_LOG2_SIZE
/-- Entries of a slice's completion ring. -/
def State.cqSize (s : State) (i : Nat) : Nat := 2 ^ s.fld (R.DMV_CQ_CFG i) F.DMV_CQ_CFG_LOG2_SIZE
/-- Entries of a slice's completion ring that the host has not consumed. -/
def State.cqUsed (s : State) (i : Nat) : Nat :=
  let n := 2 * s.cqSize i
  ((s.slice i).cqPi + n - s.fld (R.DMV_DB_CQ_CI i) F.DMV_DB_CQ_CI_INDEX % n) % n
/-- Whether a slice's completion ring is full. -/
def State.cqFull (s : State) (i : Nat) : Bool := s.cqUsed i ≥ s.cqSize i
/-- The PASID that a slice's requests carry (R308). -/
def State.slicePasid (s : State) (i : Nat) : Option Nat :=
  if s.flag (R.DMV_SQ_CFG i) F.DMV_SQ_CFG_PASID_EN then some (s.fld (R.DMV_SQ_CFG i) F.DMV_SQ_CFG_PASID) else none
/-- Sets ERR of a slice. -/
def State.sliceErr (s : State) (i e : Nat) : State := s.setFld (R.DMV_SLICE_CTL i) F.DMV_SLICE_CTL_ERR e
/-- Whether slices may work: Bus Master Enable, their virtual switch not contained, not in the safe state (R319, R331,
R412). -/
def State.sliceRuns (s : State) (i : Nat) : Bool :=
  s.sliceOn i && s.bme (.dmv (s.sliceVs i)) && !s.vsContained (s.sliceVs i) && !s.safe

/-- A doorbell write of the submission ring (R307): an index that would make the ring hold more than its size is
ignored. While PD61 is off BAR 0 ignores writes (R367). -/
def State.doSqDoorbell (s : State) (i v : Nat) : State :=
  let n := s.sqSize i
  if !s.sliceOn i ∨ !bitAt (s.raw R.PWR_ON).toNat 61 then s
  else if v ≥ 2 * n ∨ (v + 2 * n - (s.slice i).sqCi) % (2 * n) > n then s.sliceErr i stBadParam
  else s.setFld (R.DMV_DB_SQ_PI i) F.DMV_DB_SQ_PI_INDEX v

/-- Fires a slice's vector (R309); a HALTED slice keeps it until it runs again (R319). -/
def State.fireCq (s : State) (i : Nat) : State :=
  if s.fld (R.DMV_CQ_CFG i) F.DMV_CQ_CFG_IRQ_COUNT = 0 ∨ !s.sliceRuns i then s
  else
    let x := s.slice i
    (s.setSlice i { x with irq := { x.irq with count := 0, timing := false } }).signal
      (.dmv (s.sliceVs i)) (s.fld (R.DMV_CQ_CFG i) F.DMV_CQ_CFG_VECTOR)

/-- Moderation restarts from `left` unconsumed records (R44; log entry 21). -/
def Ring.restart (x : Ring) (left now : Nat) : Ring :=
  if left = 0 then { x with count := 0, timing := false } else { x with count := left, first := now, timing := true }

/-- A doorbell write of the completion ring (R307, R309): an index beyond the device's producer index is ignored. -/
def State.doCqDoorbell (s : State) (i v : Nat) : State :=
  let n := 2 * s.cqSize i
  let ci := s.fld (R.DMV_DB_CQ_CI i) F.DMV_DB_CQ_CI_INDEX
  if !s.sliceOn i ∨ !bitAt (s.raw R.PWR_ON).toNat 61 then s
  else if v ≥ n ∨ (v + n - ci % n) % n > s.cqUsed i then s.sliceErr i stBadParam
  else
    let s1 := s.setFld (R.DMV_DB_CQ_CI i) F.DMV_DB_CQ_CI_INDEX v
    let x := s1.slice i
    let s2 := s1.setSlice i { x with irq := x.irq.restart (s1.cqUsed i) s.now }
    let c := s.fld (R.DMV_CQ_CFG i) F.DMV_CQ_CFG_IRQ_COUNT
    if c ≠ 0 ∧ s1.cqUsed i ≥ c then s2.fireCq i else s2

/-- Whether a ring's base is aligned to 4 KiB and to its size (R38). -/
def baseOk (base n : Nat) : Bool := base % 4096 == 0 && base % (64 * n) == 0

/-- SLICE_ENABLE: EN of a disabled slice goes from 0 to 1 (R307, R43). A DMV that is stopped or off takes none (R367,
R368). -/
def State.doSliceEnable (s : State) (i : Nat) : State :=
  if !s.domainRuns 61 then s else
  let l1 := s.fld (R.DMV_SQ_CFG i) F.DMV_SQ_CFG_LOG2_SIZE
  let l2 := s.fld (R.DMV_CQ_CFG i) F.DMV_CQ_CFG_LOG2_SIZE
  if (s.slice i).st ≠ 0 ∨ s.flag (R.DMV_SLICE_CTL i) F.DMV_SLICE_CTL_EN then s
  else if !s.sliceOn i then s.sliceErr i stDenied
  else if l1 < 6 ∨ 16 < l1 ∨ l2 < 6 ∨ 16 < l2 ∨ !baseOk (s.raw (R.DMV_SQ_BASE i)).toNat (2 ^ l1)
      ∨ !baseOk (s.raw (R.DMV_CQ_BASE i)).toNat (2 ^ l2) then s.sliceErr i stBadParam
  else
    let x := s.slice i
    let halted := !s.sliceRuns i
    let s1 := ((s.setFld (R.DMV_SLICE_CTL i) F.DMV_SLICE_CTL_EN 1).setFld (R.DMV_DB_SQ_PI i) F.DMV_DB_SQ_PI_INDEX 0).setFld
      (R.DMV_DB_CQ_CI i) F.DMV_DB_CQ_CI_INDEX 0
    s1.setSlice i { x with
      st := if halted then 4 else 1, back := 1, sqCi := 0, cqPi := 0, irq := {}, descs := [], deficit := 0 }

/-- A DRAINING slice whose entries are all written becomes DISABLED (R318). -/
def State.sliceIdle (s : State) (i : Nat) : State :=
  let x := s.slice i
  if x.st = 2 ∧ x.descs = [] then s.setSlice i { x with st := 0 } else s

/-- SLICE_DISABLE: EN is cleared (R317, R318). -/
def State.doSliceDisable (s : State) (i : Nat) : State :=
  let x := s.slice i
  let s1 := s.setFld (R.DMV_SLICE_CTL i) F.DMV_SLICE_CTL_EN 0
  let x' : Slice := { x with st := if x.st = 1 ∨ x.st = 3 then 2 else x.st, back := 2 }
  (s1.setSlice i x').sliceIdle i

/-! ### Descriptors (R310, R311, R313, R314) -/

/-- OPCODE of a descriptor. -/
def SDesc.op (d : SDesc) : Nat := leAt d.bytes 0 1
/-- ORDERED. -/
def SDesc.ordered (d : SDesc) : Bool := bitAt (leAt d.bytes 1 1) 1
/-- The IRQ flag. -/
def SDesc.irq (d : SDesc) : Bool := bitAt (leAt d.bytes 1 1) 0
/-- TC of a descriptor's requests. -/
def SDesc.tc (d : SDesc) : Nat := leAt d.bytes 4 1 % 8
/-- Bytes 8 to 15: SRC, or PATTERN. -/
def SDesc.a (d : SDesc) : Nat := leAt d.bytes 8 8
/-- Bytes 16 to 23: DST, or SEED. -/
def SDesc.b (d : SDesc) : Nat := leAt d.bytes 16 8
/-- LENGTH. -/
def SDesc.length (d : SDesc) : Nat := leAt d.bytes 24 4

/-- Number of the descriptor's write at an offset, and the offset of one; its reads count from 256. -/
def writePart (off : Nat) : Nat := 2 ^ 40 + off

/-- Packets of a slice's writes that have not passed the ingress lookup: (descriptor, offset). -/
def State.sliceStalled (s : State) (i : Nat) : List (Nat × Nat) :=
  s.xbc.stalled.filterMap fun k => match (s.pkt k).origin with
    | .slice j d part => if j = i ∧ part ≥ 2 ^ 40 then some (d, part - 2 ^ 40) else none
    | _ => none

/-- BYTES_DONE: the longest prefix written, or checked (R315). -/
def State.descDone (s : State) (i : Nat) (d : SDesc) : Nat :=
  (s.sliceStalled i).foldl (fun m w => if w.1 = d.id then min m w.2 else m) d.wr

/-- Replaces a descriptor of a slice. -/
def State.setDesc (s : State) (i : Nat) (d : SDesc) : State :=
  let x := s.slice i
  s.setSlice i { x with descs := x.descs.map fun y => if y.id = d.id then d else y }

/-- Ends a descriptor with a status: its entry waits to be written, and the data of its open reads is not wanted any
more (R314, R316). -/
def State.finDesc (s : State) (i : Nat) (d : SDesc) (status : Nat) : State :=
  let d' := { d with fin := some status, done := s.descDone i d, time := s.now, data := [], data2 := [] }
  let s1 := s.setDesc i d'
  let x := s1.slice i
  let s2 := (s1.setSlice i { x with reads := x.reads.map fun r => if r.desc = d.id then { r with live := false } else r }).ev 9 3 i d.tc
  if status = stAborted then s2.count (R.DMV_CNT 2) else s2

/-- The first descriptor not yet started, where the slice may start it now and it has an opcode (R313). -/
def State.startable (s : State) (i op : Nat) : Option SDesc :=
  let x := s.slice i
  if (x.st = 1 ∨ x.st = 2 ∨ x.st = 3) ∧ s.sliceRuns i ∧ !s.decanting ∧ !s.cqFull i then
    match x.descs.find? fun d => !d.started && d.fin.isNone with
    | some d => if d.op = op ∧ (!d.ordered ∨ (x.descs.head?.map (·.id)) = some d.id) then some d else none
    | none => none
  else none

/-- DESCRIPTOR_FETCH: the descriptor at the slice's SQ index has been read, or the read has failed (R310, R313, R317).
A slice holds at most DEPTH_MAX descriptors whose entries are not written. -/
def State.doDescFetch (s : State) (i : Nat) (bytes : List Byte) (err : Bool) : State :=
  let x := s.slice i
  let n := s.sqSize i
  if x.st ≠ 1 ∨ !s.sliceRuns i ∨ s.decanting ∨ s.fld (R.DMV_DB_SQ_PI i) F.DMV_DB_SQ_PI_INDEX = x.sqCi
      ∨ x.descs.length ≥ s.sliceDepth i then s
  else
    let slot := x.sqCi % n
    let s0 := s.hostRead (.dmv (s.sliceVs i)) ((s.raw (R.DMV_SQ_BASE i)).toNat + 64 * slot) 64 (s.slicePasid i) 128
    let d : SDesc := { id := x.nextId, slot := slot, bytes := if err then padTo 64 [] else padTo 64 bytes }
    let s1 := s0.setSlice i { x with sqCi := (x.sqCi + 1) % (2 * n), descs := x.descs ++ [d], nextId := x.nextId + 1 }
    if err then
      let s2 := (s1.finDesc i d 0x11).sliceErr i 0x11
      ((s2.setSlice i { s2.slice i with st := 3 }).count (R.DMV_CNT 4)).raise Flt.DMV_FETCH_ERR (s.sliceVs i)
    else if d.op > 5 then s1.finDesc i d stBadOpcode
    else s1

/-- DESC_NOP. -/
def State.doDescNop (s : State) (i : Nat) : State :=
  match s.startable i 0 with
  | some d => s.finDesc i { d with started := true } stSuccess
  | none => s

/-- Whether two ranges overlap. -/
def overlap (a b n : Nat) : Bool := a < b + n && b < a + n

/-- Starts a descriptor that moves data: a LENGTH of 0, or two ranges that overlap, ends it with BAD_PARAM (R311). -/
def State.startDesc (s : State) (i : Nat) (d : SDesc) (two : Bool) : State :=
  if d.length = 0 ∨ (two ∧ overlap d.a d.b d.length) then s.finDesc i { d with started := true } stBadParam
  else s.setDesc i { d with started := true, crc := (d.b % 2 ^ 32) ^^^ 0xFFFFFFFF }

/-- DESC_COPY. -/
def State.doDescCopy (s : State) (i : Nat) : State :=
  match s.startable i 1 with | some d => s.startDesc i d true | none => s
/-- DESC_FILL. -/
def State.doDescFill (s : State) (i : Nat) : State :=
  match s.startable i 2 with | some d => s.startDesc i d false | none => s
/-- DESC_COMPARE. -/
def State.doDescCompare (s : State) (i : Nat) : State :=
  match s.startable i 3 with | some d => s.startDesc i d true | none => s
/-- DESC_CHECKSUM. -/
def State.doDescChecksum (s : State) (i : Nat) : State :=
  match s.startable i 5 with | some d => s.startDesc i d false | none => s

/-- DESC_FENCE: handed to CMT once every earlier descriptor has passed its writes through the lookup (R109). -/
def State.doDescFence (s : State) (i : Nat) : State :=
  match s.startable i 4 with
  | none => s
  | some d =>
    let before := (s.slice i).descs.takeWhile fun e => e.id ≠ d.id
    if s.sliceStalled i ≠ [] ∨ before.any (fun e => e.fin.isNone && (e.op == 1 || e.op == 2)) then s
    else
      let op : FenceOp := { fenceId := leAt d.bytes 8 4, group := leAt d.bytes 12 2, recordAddr := leAt d.bytes 16 8 }
      if op.recordAddr % 32 ≠ 0 then s.finDesc i { d with started := true, fstat := 6 } stBadParam
      else (s.setDesc i { d with started := true }).fenceSubmit (s.sliceVs i) d.tc op (some (i, d.id))

/-! ### Requests (R306, R308, R311, R312) -/

/-- Max Payload Size of the DMV function, at most the 512 bytes of a packet. -/
def State.mps (s : State) (v : Nat) : Nat := min 512 (128 * 2 ^ s.cfgBits (.dmv v) 0x1A 5 3)
/-- Max Read Request Size of the DMV function. -/
def State.mrrs (s : State) (v : Nat) : Nat := min 4096 (128 * 2 ^ s.cfgBits (.dmv v) 0x1A 12 3)

/-- The bytes of the next request at an address, `left` bytes before its range ends: up to the next 4 KiB boundary and
the size limit (R312). -/
def pieceLen (a left limit : Nat) : Nat := min left (min (limit - a % 4) (4096 - a % 4096))

/-- First doubleword's byte enables of a span of `n` bytes at `a`. -/
def firstBe (a n : Nat) : Nat := (atBits (2 ^ min n (4 - a % 4) - 1) (a % 4) 4) % 16

/-- Last doubleword's byte enables; 0 where the span is one doubleword. -/
def lastBe (a n : Nat) : Nat :=
  if a % 4 + n ≤ 4 then 0 else 2 ^ (if (a + n) % 4 = 0 then 4 else (a + n) % 4) - 1

/-- The header of a memory request for `n` bytes at `a` (Base Specification). -/
def spanHdr (k : PktKind) (a n tc reqId : Nat) (pasid : Option Nat) : Hdr :=
  { kind := k, hlen := 16, tc := tc, len := (a % 4 + n + 3) / 4, addr := a / 4 * 4, fbe := firstBe a n, lbe := lastBe a n,
    reqId := reqId, pasid := pasid }

/-- Payload of a write of bytes at `a`, filled to whole doublewords. -/
def spanPayload (a : Nat) (bs : List Byte) : List Byte :=
  padTo ((a % 4 + bs.length + 3) / 4 * 4) (List.replicate (a % 4) 0 ++ bs)

/-- `n` bytes from an offset on of data that has arrived in pieces; fewer where a piece is wanting. -/
def gather (t : Tbl (List Byte)) : Nat → Nat → Nat → List Byte
  | 0, _, _ => []
  | fuel + 1, off, n =>
    match t.find? fun e => e.1 ≤ off && off < e.1 + e.2.length with
    | none => []
    | some (o, bs) =>
      let got := (bs.drop (off - o)).take n
      if got.length = n then got else got ++ gather t fuel (off + got.length) (n - got.length)

/-- A request that a slice has ready. -/
inductive SReq where
  | rd (d : SDesc) (second : Bool) (off addr len : Nat)
  | wr (d : SDesc) (off addr : Nat) (bytes : List Byte)
  deriving DecidableEq, Repr

/-- FILL's bytes: the byte at address x is byte x mod 8 of PATTERN (R311). -/
def fillBytes (pattern a : Nat) : Nat → List Byte
  | 0 => []
  | n + 1 => BitVec.ofNat 8 (pattern >>> (8 * (a % 8))) :: fillBytes pattern (a + 1) n

/-- The requests that a descriptor has ready, a write first. -/
def State.descReqs (s : State) (v : Nat) (d : SDesc) : List SReq :=
  if !d.started ∨ d.fin.isSome ∨ d.miss then []
  else
    let wn := pieceLen (d.b + d.wr) (d.length - d.wr) (s.mps v)
    let wr := if d.op = 1 ∧ d.wr < d.length then
        let bs := gather d.data (d.data.length + 1) d.wr wn
        if bs.length = wn then [SReq.wr d d.wr (d.b + d.wr) bs] else []
      else if d.op = 2 ∧ d.wr < d.length then [SReq.wr d d.wr (d.b + d.wr) (fillBytes d.a (d.b + d.wr) wn)]
      else []
    let r1 := if (d.op = 1 ∨ d.op = 3 ∨ d.op = 5) ∧ d.rd < d.length ∧ (d.op ≠ 3 ∨ d.rd ≤ d.rd2) then
        [SReq.rd d false d.rd (d.a + d.rd) (pieceLen (d.a + d.rd) (d.length - d.rd) (s.mrrs v))] else []
    let r2 := if d.op = 3 ∧ d.rd2 < d.length ∧ d.rd2 < d.rd then
        [SReq.rd d true d.rd2 (d.b + d.rd2) (pieceLen (d.b + d.rd2) (d.length - d.rd2) (s.mrrs v))] else []
    wr ++ r1 ++ r2

/-- Cells that a slice's writes hold (R304). -/
def State.sliceCells (s : State) (i : Nat) : Nat :=
  s.xbc.pkts.foldl (fun n e => if e.2.acct = 128 ∧ e.2.ingress = .dmv i ∧ e.2.hdr.kind = .mwr then n + e.2.ncells else n) 0

/-- Header bytes of a slice's packet in its header cell (R69): 32 where it enters the fabric. -/
def State.sliceHoff (s : State) (v a : Nat) : Nat := match s.routeAddr v none a with | .window _ => 32 | _ => 16

/-- Whether a ready request may be issued now (R306). -/
def State.reqOk (s : State) (i : Nat) (r : SReq) : Bool :=
  let v := s.sliceVs i
  let e := s.cfg.epoch
  match r with
  | .rd d _ _ a _ =>
    decide ((s.slice i).reads.length < s.fld (R.DMV_SLICE_MAP i) F.DMV_SLICE_MAP_TRK_MAX) && (s.admission 128 d.tc 1 e).1 != 0
      && (match s.routeAddr v none a with
        | .window _ => s.trkRoom false && (s.freeTag false v 16384).isSome
        | .port _ => (s.freeTag true v (s.tagSpace v)).isSome
        | _ => true)
  | .wr d _ a bs =>
    let n := max 1 (ceilDiv (s.sliceHoff v a + (spanPayload a bs).length) 64)
    let m := s.fld (R.DMV_SLICE_MAP i) F.DMV_SLICE_MAP_CELL_MAX
    (m == 0 || decide (s.sliceCells i + n ≤ m)) && (s.admission 128 d.tc n e).1 != 0

/-- The request that a slice would issue, if it is eligible (R306). A slice in ERROR lets its descriptors finish
(R317). -/
def State.sliceNext (s : State) (i : Nat) : Option SReq :=
  let x := s.slice i
  if (x.st = 1 ∨ x.st = 2 ∨ x.st = 3) ∧ s.sliceRuns i ∧ !s.dct.quiet then
    ((x.descs.map (s.descReqs (s.sliceVs i))).flatten).find? (s.reqOk i)
  else none

/-- What a request charges to its slice's deficit (R306). -/
def SReq.cost : SReq → Nat
  | .rd _ _ _ _ n => n
  | .wr _ _ _ bs => bs.length

/-- The slice after `i` in ascending order, round to the first. -/
def nextSlice (all : List Nat) (i : Nat) : Nat := (all.find? fun j => i < j).getD (all.headD 0)

/-- The deficit weighted round robin of R306: the slice that holds the turn issues while its deficit covers its request;
else the turn goes to the next eligible slice, whose deficit gains its QUANTUM (log entry 22). -/
def State.sliceTurn (s : State) (all : List Nat) : Nat → Option (Nat × SReq × State)
  | 0 => none
  | n + 1 =>
    let i := s.dmv.turn
    match s.sliceNext i with
    | some r =>
      let x := s.slice i
      if r.cost ≤ x.deficit then some (i, r, s.setSlice i { x with deficit := x.deficit - r.cost })
      else
        let j := nextSlice all i
        let y := s.slice j
        let s1 := s.setSlice j { y with deficit := y.deficit + s.fld (R.DMV_SLICE_MAP j) F.DMV_SLICE_MAP_QUANTUM }
        ({ s1 with dmv := { s1.dmv with turn := j } }).sliceTurn all n
    | none =>
      let j := nextSlice all i
      let s0 := s.setSlice i { s.slice i with deficit := 0 }
      let y := s0.slice j
      let s1 := s0.setSlice j { y with deficit := y.deficit + s.fld (R.DMV_SLICE_MAP j) F.DMV_SLICE_MAP_QUANTUM }
      ({ s1 with dmv := { s1.dmv with turn := j } }).sliceTurn all n

/-- Completion timeout in ns of the DMV function: the lower end of the range that its Device Control 2 selects
(Base Specification; log entry 16); none where it is disabled. -/
def State.cplTmo (s : State) (v : Nat) : Option Nat :=
  let d := s.cfgDw (.dmv v) 0x22
  if bitAt d 4 then none
  else some (match bitsOf d 0 4 with
    | 2 => 1000000 | 5 => 16000000 | 6 => 65000000 | 9 => 260000000 | 10 => 1000000000 | 13 => 4000000000
    | 14 => 17000000000 | _ => 50000)

/-- Puts a packet of a slice in the buffer and at its lookup. -/
def State.slicePkt (s : State) (i tc : Nat) (h : Hdr) (o : Origin) (payload : List Byte) : State :=
  let v := s.sliceVs i
  let p : Pkt := {
    ingress := .dmv i, origin := o, acct := 128, tc := tc, hdr := h, orig := h, hoff := s.sliceHoff v h.addr, vs := v,
    vh := v, hostAddr := if h.kind = .mwr then some (h.addr + h.lead) else none }
  match s.tryMake p payload with
  | some (k, s1) => s1.addJob (.enter k)
  | none => s

/-- Issues a request of a slice (R308, R311, R312). -/
def State.issueReq (s : State) (i : Nat) (r : SReq) : State :=
  let v := s.sliceVs i
  let x := s.slice i
  match r with
  | .rd d second off a n =>
    let part := 256 + d.parts
    let d' := { d with parts := d.parts + 1, rd := if second then d.rd else d.rd + n, rd2 := if second then d.rd2 + n else d.rd2 }
    let o : Origin := .slice i d.id part
    let h := spanHdr .mrd a n d.tc (s.dmvId v) (s.slicePasid i)
    let local_ : Bool := match s.routeAddr v none a with | .port _ => true | _ => false
    let rd : SRead := {
      desc := d.id, part := part, second := second, off := off, len := n,
      deadline := if local_ then (s.cplTmo v).map (s.now + ·) else none }
    let s1 := (s.setSlice i { x with reads := x.reads ++ [rd] }).setDesc i d'
    if local_ then
      let tag := (s.freeTag true v (s.tagSpace v)).getD 0
      let s2 : State := { s1 with brg := { s1.brg with loc := tput s1.brg.loc (v * 16384 + tag) { origin := o } } }
      s2.slicePkt i d.tc { h with tag := tag } o []
    else s1.slicePkt i d.tc h o []
  | .wr d off a bs =>
    let d' := { d with wr := off + bs.length, data := d.data.filter fun e => off + bs.length < e.1 + e.2.length }
    ((s.setDesc i d').slicePkt i d.tc (spanHdr .mwr a bs.length d.tc (s.dmvId v) (s.slicePasid i))
      (.slice i d.id (writePart off)) (spanPayload a bs)).count (R.DMV_CNT 7) bs.length |>.ev 9 2 i d.tc bs.length

/-- SLICE_ISSUE. -/
def State.doSliceIssue (s : State) : State :=
  let all := (s.dmv.slices.map (·.1)).filter fun i => (s.sliceNext i).isSome
  match all with
  | [] => s
  | _ =>
    match s.sliceTurn all (70 * (all.length + 2)) with
    | some (i, r, s1) => s1.issueReq i r
    | none => s

/-- A COPY or FILL whose writes have all passed the ingress lookup is finished (R314). -/
def State.finishWrites (s : State) : State :=
  s.dmv.slices.foldl (init := s) fun s e =>
    (s.slice e.1).descs.foldl (init := s) fun s d =>
      if d.started ∧ d.fin.isNone ∧ (d.op = 1 ∨ d.op = 2) ∧ d.wr ≥ d.length
          ∧ !(s.sliceStalled e.1).any (fun w => w.1 == d.id) then s.finDesc e.1 d stSuccess else s

/-! ### Completions (R315, R316) -/

/-- A COMPARE that has found a difference issues no more, and ends with MISCOMPARE when its last read has completed (R311,
R314). -/
def State.missDesc (s : State) (i : Nat) (d : SDesc) : State :=
  if (s.slice i).reads.any fun r => r.desc == d.id then s.setDesc i d else s.finDesc i d 0x10

/-- Uses the data that has arrived in order: CHECKSUM sums it, COMPARE compares it (R311). -/
def State.useData (s : State) (i : Nat) (d : SDesc) : Nat → State
  | 0 => s.setDesc i d
  | n + 1 =>
    let k1 := gather d.data 1 d.wr 4096
    if d.op = 5 then
      if k1 = [] then
        if d.wr ≥ d.length then s.finDesc i { d with result := d.crc ^^^ 0xFFFFFFFF } stSuccess else s.setDesc i d
      else s.useData i { d with
        crc := k1.foldl crc32cByte d.crc, wr := d.wr + k1.length
        data := d.data.filter fun e => d.wr + k1.length < e.1 + e.2.length } n
    else if d.op = 3 then
      let k2 := gather d.data2 1 d.wr 4096
      let m := min k1.length k2.length
      if m = 0 then (if d.wr ≥ d.length then s.finDesc i d stSuccess else s.setDesc i d)
      else
        let same := ((k1.zip k2).takeWhile fun q => q.1 == q.2).length
        if same < m then s.missDesc i { d with result := d.wr + same, wr := d.wr + same, miss := true, data := [], data2 := [] }
        else s.useData i { d with
          wr := d.wr + m
          data := d.data.filter (fun e => d.wr + m < e.1 + e.2.length)
          data2 := d.data2.filter (fun e => d.wr + m < e.1 + e.2.length) } n
    else s.setDesc i d

/-- DETAIL of a failed read (R191, R315): UR and RRS are seen as UR, all others as CA; 16 marks poisoned data. -/
def readDetail (status : Nat) : Nat := if status = 16 then 4 else if status = 1 ∨ status = 2 then 1 else 2

/-- A read of a slice ends with a status and data. -/
def State.readEnd (s : State) (i : Nat) (r : SRead) (status : Nat) (detail : Nat) (data : List Byte) : State :=
  let x := s.slice i
  let s1 := s.setSlice i { x with reads := x.reads.filter fun y => !(y.desc == r.desc && y.part == r.part) }
  let s2 : State := { s1 with brg := { s1.brg with loc := s1.brg.loc.filter fun e => e.2.origin ≠ .slice i r.desc r.part } }
  match x.descs.find? fun d => d.id == r.desc with
  | none => s2.count (R.DMV_CNT 3)
  | some d =>
    if !r.live ∨ d.fin.isSome then s2.count (R.DMV_CNT 3)
    else if d.miss then ((s2.count (R.DMV_CNT 6) (if status = 0 then r.len else 0)).ev 9 1 i d.tc r.len).missDesc i d
    else if status ≠ 0 then s2.finDesc i { d with detail := detail } stDmaError
    else
      let d' := if r.second then { d with data2 := tput d.data2 r.off (data.take r.len) }
        else { d with data := tput d.data r.off (data.take r.len) }
      ((s2.count (R.DMV_CNT 6) r.len).ev 9 1 i d.tc r.len).useData i d' (2 * (d'.data.length + d'.data2.length) + 2)

/-- A fence that a slice has submitted has its record: the entry carries its STATUS, or ABORTED where the record was
discarded (R109, R315, R319). -/
def State.fenceAnswer (s : State) (i id status : Nat) (lost : Bool) : State :=
  match (s.slice i).descs.find? fun d => d.id == id && d.fin.isNone with
  | none => s
  | some d => s.finDesc i { d with fstat := status } (if lost then stAborted else stSuccess)

/-- DMV_READ_COMPLETION: the oldest answer to a read of a slice is used, or accepted and discarded. -/
def State.doReadCompletion (s : State) : State :=
  match s.answers.find? Answer.ofSlice with
  | none => s
  | some a =>
    let s1 : State := { s with answers := s.answers.erase a }
    match a.origin with
    | .slice i d part =>
      match (s1.slice i).reads.find? fun r => r.desc == d && r.part == part with
      | some r => s1.readEnd i r a.status (readDetail a.status) a.data
      | none => s1.count (R.DMV_CNT 3)
    | _ => s1

/-- Takes in the answers of finished fences (R109). -/
def State.fenceAnswers (s : State) : State :=
  s.answers.foldl (init := s) fun s a => match a.origin with
    | .slice i d 255 => ({ s with answers := s.answers.erase a }).fenceAnswer i d a.status a.lost
    | _ => s

/-- DMV_READ_TIMEOUT: a read on PCI Express has reached its completion timeout (R312, R316). -/
def State.doReadTimeout (s : State) (i d part : Nat) : State :=
  match (s.slice i).reads.find? fun r => r.desc == d && r.part == part with
  | none => s
  | some r =>
    match r.deadline with
    | some t => if t ≤ s.now then s.readEnd i r 1 3 [] else s
    | none => s

/-! ### Entries (R313, R315) -/

/-- A CQ entry's 64 bytes with its PHASE (R315). -/
def SDesc.entry (d : SDesc) (phase : Nat) : List Byte :=
  leBytes 2 (leAt d.bytes 2 2) ++ leBytes 1 (d.fin.getD 0) ++ leBytes 1 (128 * phase) ++ leBytes 1 d.op ++ leBytes 1 d.detail
    ++ leBytes 1 d.fstat ++ leBytes 1 0 ++ leBytes 4 d.slot ++ leBytes 4 0 ++ leBytes 8 d.result ++ leBytes 8 d.done
    ++ leBytes 8 d.time ++ leBytes 24 0

/-- CQ_ENTRY_WRITE: the oldest descriptor's entry is written, a posted write in the descriptor's TC that follows the
writes before it through the buffer (R313 to R315). -/
def State.doCqEntry (s : State) (i : Nat) : State :=
  let x := s.slice i
  match x.descs with
  | [] => s
  | d :: rest =>
    match d.fin with
    | none => s
    | some st =>
      if s.cqFull i ∨ !s.sliceRuns i ∨ s.decanting ∨ x.st = 4 then s
      else
        let n := s.cqSize i
        let v := s.sliceVs i
        let a := (s.raw (R.DMV_CQ_BASE i)).toNat + 64 * (x.cqPi % n)
        let h := spanHdr .mwr a 64 d.tc (s.dmvId v) (s.slicePasid i)
        let p : Pkt := {
          ingress := .dmv i, acct := 128, tc := d.tc, hdr := h, orig := h, hoff := s.sliceHoff v a, vs := v, vh := v,
          hostAddr := some a }
        let s1 := (s.addJob (.make p (d.entry (phaseOf n x.cqPi)))).count (R.DMV_CNT 0)
        let s2 := if st = 0 then s1 else s1.count (R.DMV_CNT 1)
        let q : Ring := { x.irq with
          count := x.irq.count + 1, first := if x.irq.count = 0 then s.now else x.irq.first, timing := true }
        let s3 := s2.setSlice i { x with descs := rest, cqPi := (x.cqPi + 1) % (2 * n), irq := q }
        let c := s.fld (R.DMV_CQ_CFG i) F.DMV_CQ_CFG_IRQ_COUNT
        (if c ≠ 0 ∧ (q.count ≥ c ∨ d.irq) then s3.fireCq i else s3).sliceIdle i

/-! ### Stopping (R318 to R320, R331) -/

/-- Ends every unfinished descriptor of a slice with ABORTED; a fence handed to CMT is left to it where asked (R318,
R319). -/
def State.abortDescs (s : State) (i : Nat) (keepFence : Bool) : State :=
  (s.slice i).descs.foldl (init := s) fun s d =>
    if d.fin.isSome ∨ (keepFence ∧ d.started ∧ d.op = 4) then s else s.finDesc i d stAborted

/-- SLICE_ABORT: ABORT written while EN is 0 (R318). -/
def State.doSliceAbort (s : State) (i : Nat) : State :=
  if s.flag (R.DMV_SLICE_CTL i) F.DMV_SLICE_CTL_EN then s else s.abortDescs i false

/-- A slice is HALTED: its descriptors end ABORTED, its entries are held (R319). -/
def State.haltSlice (s : State) (i : Nat) : State :=
  let x := s.slice i
  if x.st = 0 ∨ x.st = 4 then s else (s.setSlice i { x with st := 4, back := x.st }).abortDescs i true

/-- A HALTED slice returns to the state it held, where nothing else halts it (R319). -/
def State.resumeSlice (s : State) (i : Nat) : State :=
  let x := s.slice i
  if x.st = 4 ∧ s.sliceRuns i then (s.setSlice i { x with st := x.back }).sliceIdle i else s

/-- The slices of a virtual switch that have ever been enabled. -/
def State.slicesOf (s : State) (v : Nat) : List Nat := (s.dmv.slices.map (·.1)).filter fun i => s.sliceVs i == v

/-- DMV_BUS_MASTER_CLEAR (R319). -/
def State.doDmvBmeClear (s : State) (v : Nat) : State :=
  (s.slicesOf v).foldl State.haltSlice (s.cfgClear (.dmv v) 1 4)

/-- DMV_BUS_MASTER_SET (R319). -/
def State.doDmvBmeSet (s : State) (v : Nat) : State :=
  (s.slicesOf v).foldl State.resumeSlice (s.cfgOr (.dmv v) 1 4)

/-- Returns the registers with keys in `[a, b)` to their reset values. -/
def State.resetRegs (s : State) (a b : Nat) : State :=
  { s with cfg := { s.cfg with regs := s.cfg.regs.filter fun e => e.1 < a || b ≤ e.1 } }

/-- The slice whose control page or doorbell page a register lies in (R303). -/
def pageSlice (key : Nat) : Option Nat :=
  if R.DMV_DB_SQ_PI 0 ≤ key ∧ key < R.DMV_DB_SQ_PI 4096 then some ((key - R.DMV_DB_SQ_PI 0) / 0x1000)
  else if R.DMV_SQ_BASE 0 ≤ key ∧ key < R.DMV_SQ_BASE 4096 then some ((key - R.DMV_SQ_BASE 0) / 0x1000)
  else none

/-- The control and doorbell pages of the slices of a virtual switch return to their reset values (R320). -/
def State.resetPages (s : State) (v : Nat) : State :=
  { s with cfg := { s.cfg with regs := s.cfg.regs.filter (fun e =>
      !(pageSlice e.1).any (fun i => s.sliceOn i && s.sliceVs i == v)) } }

/-- Requests of the slices of a DMV function that have not passed the ingress lookup do not proceed past its reset (R320). -/
def State.dmvDropStalled (s : State) (v : Nat) : State :=
  let mine := fun p : Pkt => match p.ingress with | .dmv i => s.sliceVs i == v | _ => false
  let gone := s.xbc.stalled.filter fun k => mine (s.pkt k)
  gone.foldl State.freePkt { s with xbc := { s.xbc with
    stalled := s.xbc.stalled.filter fun k => !gone.contains k
    refused := s.xbc.refused.filter fun j => match j with | .make p _ => !mine p | _ => true } }

/-- The effects of a Function Level Reset on the slices and pages of a DMV function (R320). -/
def State.dmvReset (s : State) (v : Nat) : State :=
  let s := s.dmvDropStalled v
  let s1 := (s.slicesOf v).foldl (init := s) fun s i =>
    let x := s.slice i
    s.setSlice i { nextId := x.nextId, reads := x.reads.map fun r => { r with live := false } }
  let s2 := (s1.resetPages v).resetRegs (R.DMV_FAIL_BASE v) (R.DMV_FAIL_BASE v + 0x100)
  let f := Fn.num (.dmv v)
  { s2 with dmv := { s2.dmv with msix := s2.dmv.msix.filter (fun e => e.1 / 65536 ≠ f), pba := s2.dmv.pba.filter fun k => k / 2048 != v },
            ctl := { s2.ctl with rings := tdel s2.ctl.rings (8 + v) } }

/-- DMV_FLR (R320). -/
def State.doDmvFlr (s : State) (v : Nat) : State := (s.dmvReset v).cfgFlr (.dmv v)

/-- FAIL_RING_WRITE: the oldest queued failure record is written once its ring has room (R321). -/
def State.doFailRing (s : State) (v : Fin 32) : State :=
  match tget [] s.dmv.failQ v.val with
  | [] => s
  | b :: rest =>
    if s.ringRoom (.fail v) > 0 then
      ({ s with dmv := { s.dmv with failQ := tput s.dmv.failQ v.val rest } }).writeRecord (.fail v) b
    else s

end Sys2Proof.Machine
end

