-- ==== Sys2Proof/Machine/WriteLog.lean ====
section
/-! DEFINITION. WLG (11_data_mover_and_write_logging.md R322 to R331): contexts, bitmaps, the coalescing cache and the
HARVEST command. What a write logs stands with the records (Records.lean). -/

namespace Sys2Proof.Machine

/-! ### Bitmaps (R324 to R326) -/

/-- Bytes of one bitmap of a context. -/
def State.bmpLen (s : State) (c : Nat) : Nat := ceilDiv (s.fld (R.WLG_CTX_BMP c) F.WLG_CTX_BMP_PAGES) 512 * 64

/-- Table-memory address of the bitmap of a generation. -/
def State.bmpBase (s : State) (c gen : Nat) : Nat :=
  s.wlgRegion.1 + 64 * s.fld (R.WLG_CTX_BMP c) F.WLG_CTX_BMP_BMP_OFF + gen * s.bmpLen c

/-- Whether a context's bitmaps may be enabled: a page at least, both bitmaps within the region (R325). -/
def State.ctxOk (s : State) (c : Nat) : Bool :=
  decide (s.fld (R.WLG_CTX_BMP c) F.WLG_CTX_BMP_PAGES ≥ 1)
    && decide (64 * s.fld (R.WLG_CTX_BMP c) F.WLG_CTX_BMP_BMP_OFF + 2 * s.bmpLen c ≤ s.wlgRegion.2)

/-- Fills `n` bytes of table memory with zeros; their codewords are good. -/
def State.tmZero (s : State) (a n : Nat) : State :=
  { s with
    cfg := { s.cfg with tm := s.cfg.tm.filter fun e => e.1 < a || a + n ≤ e.1 }
    tbm := { s.tbm with
      flips := s.tbm.flips.filter fun e => e.1 < a || a + n ≤ e.1
      poison := s.tbm.poison.filter fun w => 32 * w < a || a + n < 32 * w + 32 } }

/-- Reads a bitmap word as requester `r` (13 for merges, 14 for the scan); one with an uncorrectable error is read as all
ones (R326). -/
def State.bmpRead (s : State) (a r : Nat) : Nat × State :=
  let s1 := s.tmRead r a 64
  if s.rangeBad a 64 then (2 ^ 512 - 1, (s1.raise Flt.WLG_BMP_ECC).count (R.WLG_CNT 3))
  else (s.tmNum s.cfg.epoch a 64, s1)

/-- Merges one entry of the coalescing cache into its bitmap word by a read, an OR and a write; an entry that fails its
parity sets the whole word (R326). `k` is the entry's place in the cache. -/
def State.mergeEntry (s : State) (k : Nat) (x : WlEnt) : State :=
  let (bad, s1) := s.takeUpset 0xE3 k
  let s2 := if bad then (s1.raise Flt.WLG_CACHE_PARITY).count (R.WLG_CNT 3) else s1
  let mask := if bad then 2 ^ 512 - 1 else x.mask
  let a := s2.bmpBase x.ctx x.gen + 64 * x.word
  let (w, s3) := s2.bmpRead a 13
  let s4 := ((s3.tmWrite a (leBytes 64 (w ||| mask))).count (R.WLG_CNT 1)).ev 0xB 2 x.ctx 0
  { s4 with wlg := { s4.wlg with cache := s4.wlg.cache.filter fun e => e ≠ x } }

/-- Merges every entry that a test picks. -/
def State.mergeWhere (s : State) (pick : WlEnt → Bool) : State :=
  ((s.wlg.cache.zip (List.range s.wlg.cache.length)).filter fun e => pick e.1).foldl (fun s e => s.mergeEntry e.2 e.1) s

/-- CACHE_MERGE: the entries that have gone unused for 10 µs, or must make room, are merged (R326). -/
def State.doCacheMerge (s : State) : State :=
  if s.dct.quiet then s else s.mergeWhere fun e => e.evict || decide (s.now - e.last ≥ 10000)

/-! ### Contexts (R325, R330) -/

/-- A field of a context's status. -/
def State.setCtx (s : State) (c : Nat) (f : Fld) (v : Nat) : State := s.setFld (R.WLG_CTX_STAT c) f v

/-- EN of a context has gone to 1: its bitmaps are being cleared. -/
def State.ctxEnabled (s : State) (c : Nat) : State :=
  (s.setCtx c F.WLG_CTX_STAT_CLEARING 1).setCtx c F.WLG_CTX_STAT_READY 0

/-- CONTEXT_READY: both bitmaps are clear, and logging starts (R325). -/
def State.doCtxReady (s : State) (c : Nat) : State :=
  if s.flag (R.WLG_CTX_STAT c) F.WLG_CTX_STAT_CLEARING then
    (s.tmZero (s.bmpBase c 0) (2 * s.bmpLen c)).setRaw (R.WLG_CTX_STAT c)
      (F.WLG_CTX_STAT_READY.set 0 1)
  else s

/-- A context's LOST bit is set, with its fault (R330). -/
def State.ctxLost (s : State) (c : Nat) : State := (s.setCtx c F.WLG_CTX_STAT_LOST 1).raise Flt.WLG_LOST

/-- Every enabled context carries LOST (R330). -/
def State.allCtxLost (s : State) : State :=
  ((s.listed (R.WLG_CTX_CFG 0) 0x20 1024).filter fun c => s.flag (R.WLG_CTX_CFG c) F.WLG_CTX_CFG_EN).foldl State.ctxLost s

/-! ### HARVEST (R327 to R330) -/

/-- RESULT of R329. -/
def harvestResult (lost more fail : Bool) (entries seq : Nat) : Nat :=
  atBits (b2n lost) 63 1 ||| atBits (b2n more) 62 1 ||| atBits (b2n fail) 61 1 ||| atBits entries 32 24 ||| atBits seq 0 32

/-- The harvest ends with a completion; the MCR goes on. -/
def State.harvestEnd (s : State) (h : Harvest) (status result : Nat) : State :=
  let s1 : State := { s with wlg := { s.wlg with harvest := none }, ctl := { s.ctl with busyCmd := none } }
  (s1.count (R.WLG_CNT 4)).cmdDone h.slot h.desc status result

/-- Whether the buffer can be written: Bus Master Enable of the function that writes it (R329). -/
def State.harvestCan (s : State) (h : Harvest) : Bool :=
  s.bme (if h.target then .dmv (s.fld (R.WLG_CTX_CFG h.ctx) F.WLG_CTX_CFG_VS) else .mgmt)

/-- Writes entry `n` of the harvest buffer. -/
def State.harvestWrite (s : State) (h : Harvest) (n : Nat) (bytes : List Byte) : State :=
  let v := s.fld (R.WLG_CTX_CFG h.ctx) F.WLG_CTX_CFG_VS
  (s.hostWrite (if h.target then .dmv v else .mgmt) (h.addr + 64 * n) (padTo 64 bytes)).count
    (R.WLG_CNT 5)

/-- The bitmap words that may be read with a set bit, ascending: those that table memory lists, and those that are upset or
cannot be read (R326). -/
def State.bmpWords (s : State) (c gen : Nat) : List Nat :=
  let a := s.bmpBase c gen
  let n := s.bmpLen c
  let pick := fun k : Nat => if a ≤ k ∧ k < a + n then some ((k - a) / 64) else none
  sortBy id ((s.cfg.tm.filterMap fun e => pick e.1) ++ (s.tbm.flips.filterMap fun e => pick e.1)
    ++ (s.tbm.poison.filterMap fun k => pick (32 * k))).eraseDups

/-- The chunk entries of a bitmap word: one for each 256-page half with any bit set (R328). -/
def chunkEntries (seq word w : Nat) : List (List Byte) :=
  [0, 1].filterMap fun k =>
    let m := bitsOf w (256 * k) 256
    if m = 0 then none
    else some (leBytes 2 0x0402 ++ leBytes 2 0 ++ leBytes 4 seq ++ leBytes 8 (512 * word + 256 * k) ++ leBytes 32 m)

/-- Scans words in order: entries written so far, and whether the scan stopped early, and whether for want of a writable
buffer (R327 step 5, R329). -/
def State.harvestScan (s : State) (h : Harvest) (seq n : Nat) : List Nat → Nat × Bool × Bool × State
  | [] => (n, false, false, s)
  | w :: ws =>
    let a := s.bmpBase h.ctx h.gen + 64 * w
    let (v, s1) := s.bmpRead a 14
    let es := chunkEntries seq w v
    if n + es.length > h.maxEnt then (n, true, false, s1)
    else if es ≠ [] ∧ !s1.harvestCan h then (n, true, true, s1)
    else
      let s2 := (es.zip (List.range es.length)).foldl (fun s e => s.harvestWrite h (n + e.2) e.1) s1
      (s2.tmZero a 64).harvestScan h seq (n + es.length) ws

/-- Steps 5 and 6 of R327: the head entry, the scan, the completion. -/
def State.harvestRun (s : State) (h : Harvest) : State :=
  let seq := s.fld (R.WLG_CTX_STAT h.ctx) F.WLG_CTX_STAT_CUT_SEQ
  let fin := fun (s : State) (st n : Nat) (more : Bool) =>
    (s.setCtx h.ctx F.WLG_CTX_STAT_MORE (b2n more)).harvestEnd h st (harvestResult h.lost more h.fail n seq)
  if !s.harvestCan h then fin s stDmaError 0 true
  else
    let head := leBytes 2 0x0401 ++ leBytes 2 (b2n h.lost + 2 * b2n h.cont + 4 * b2n h.fail) ++ leBytes 4 seq
      ++ leBytes 8 (tget 0 s.wlg.cutTime h.ctx) ++ leBytes 8 (s.raw (R.WLG_CTX_HOST h.ctx)).toNat
      ++ leBytes 4 (s.fld (R.WLG_CTX_BMP h.ctx) F.WLG_CTX_BMP_PAGES) ++ leBytes 2 h.ctx
    let s1 := s.harvestWrite h 0 head
    match s1.harvestScan h seq 1 (s1.bmpWords h.ctx h.gen) with
    | (n, more, bad, s2) => fin s2 (if bad then stDmaError else stSuccess) n more

/-- Goes on with a harvest whose cut is merged: the flush first, where it is asked for and the part is not in the safe
state (R327). -/
def State.harvestGo (s : State) (h : Harvest) : State :=
  if !h.flush then s.harvestRun h
  else if s.safe then ({ s with wlg := { s.wlg with harvest := none } }).raise Flt.WLG_FLUSH_FAIL |>.harvestRun { h with fail := true }
  else { s with wlg := { s.wlg with harvest := some h } }

/-- HARVEST in an MCR slot, with its operands (R327). -/
def State.harvestStart (s : State) (slot : Nat) (desc : Desc) (op : HarvestOp) : State :=
  let c := op.ctx
  let fl := op.flags
  let cont := bitAt fl 0
  let more := s.flag (R.WLG_CTX_STAT c) F.WLG_CTX_STAT_MORE
  let h : Harvest := {
    ctx := c, cont := cont, flush := bitAt fl 1 && !cont, target := bitAt fl 2, maxEnt := op.maxEnt, addr := op.addr,
    slot := slot, desc := desc }
  if c > 1023 ∨ !s.flag (R.WLG_CTX_STAT c) F.WLG_CTX_STAT_READY ∨ h.maxEnt < 2 ∨ cont ≠ more ∨ h.addr % 64 ≠ 0 then
    s.cmdDone slot desc stBadParam
  else
    let s0 : State := { s with ctl := { s.ctl with busyCmd := some (0x10, slot, desc) } }
    let g := s.fld (R.WLG_CTX_STAT c) F.WLG_CTX_STAT_GEN
    if cont then s0.harvestRun { h with gen := 1 - g }
    else
      let lost := s.flag (R.WLG_CTX_STAT c) F.WLG_CTX_STAT_LOST
      let seq := (s.fld (R.WLG_CTX_STAT c) F.WLG_CTX_STAT_CUT_SEQ + 1) % 2 ^ 32
      let s1 := ((s0.setCtx c F.WLG_CTX_STAT_GEN (1 - g)).setCtx c F.WLG_CTX_STAT_CUT_SEQ seq).setCtx c F.WLG_CTX_STAT_LOST 0
      let s2 : State := { s1 with wlg := { s1.wlg with cutTime := tput s1.wlg.cutTime c s.now } }
      (s2.mergeWhere fun e => e.ctx == c && e.gen == g).harvestGo { h with gen := g, lost := lost }

/-- Whether a write of a context's generation is still in the device (R327 step 3). -/
def State.genOut (s : State) (c g : Nat) : Bool := s.xbc.pkts.any fun e => e.2.wl.contains (c, g)

/-- HARVEST_DRAINED: every write of the old generation has left; the zero-length read of step 4 is sent (R327). -/
def State.doHarvestDrained (s : State) : State :=
  match s.wlg.harvest with
  | none => s
  | some h =>
    let v := s.fld (R.WLG_CTX_CFG h.ctx) F.WLG_CTX_CFG_VS
    if h.step ≠ 3 ∨ s.genOut h.ctx h.gen then s
    else match s.upPort v, s.freeTag true v (s.tagSpace v) with
    | some u, some tag =>
      let a := (s.raw (R.WLG_CTX_HOST h.ctx)).toNat
      let hd : Hdr := { kind := .mrd, hlen := 16, len := 1, fbe := 0, addr := a, tag := tag, reqId := s.dmvId v }
      let s1 : State := { s with
        brg := { s.brg with loc := tput s.brg.loc (v * 16384 + tag) { origin := .harvest } }
        wlg := { s.wlg with harvest := some { h with step := 4, since := s.now, tmo := s.fld R.WLG_CFG F.WLG_CFG_FLUSH_TMO } } }
      s1.addJob (.make { internalPkt hd (some u) with origin := .harvest, vs := v, vh := v } [])
    | none, _ => ({ s with wlg := { s.wlg with harvest := none } }).raise Flt.WLG_FLUSH_FAIL |>.harvestRun { h with fail := true }
    | _, none => s

/-- Ends step 4 with or without success, and scans. -/
def State.flushEnded (s : State) (h : Harvest) (ok : Bool) : State :=
  let s1 : State := { s with
    brg := { s.brg with loc := s.brg.loc.filter fun e => e.2.origin ≠ .harvest }
    wlg := { s.wlg with harvest := none } }
  if ok then s1.harvestRun h else (s1.raise Flt.WLG_FLUSH_FAIL).harvestRun { h with fail := true }

/-- In the safe state a harvest skips steps 3 and 4 with FLUSH_FAIL set (R327). -/
def State.harvestSafe (s : State) : State :=
  match s.wlg.harvest with | some h => s.flushEnded h false | none => s

/-- HARVEST_FLUSH_DONE: the answer to the flush read has come back (R327). -/
def State.doHarvestFlushDone (s : State) : State :=
  match s.answers.find? fun a => a.origin == .harvest with
  | none => s
  | some a =>
    let s1 : State := { s with answers := s.answers.erase a }
    match s1.wlg.harvest with
    | some h => if h.step = 4 then s1.flushEnded h (a.status == 0 && !a.lost) else s1
    | none => s1

/-- HARVEST_FLUSH_TIMEOUT: the FLUSH_TMO that stood when the flush read was sent has passed since (R327, R337). -/
def State.doHarvestFlushTmo (s : State) : State :=
  match s.wlg.harvest with
  | some h =>
    if h.step = 4 ∧ s.now - h.since ≥ 1000000 * h.tmo then s.flushEnded h false else s
  | none => s

/-- EN of a context has gone to 0: logging stops, its cache entries are discarded, its harvest ends ABORTED (R325). -/
def State.ctxDisabled (s : State) (c : Nat) : State :=
  let s1 := (s.setCtx c F.WLG_CTX_STAT_READY 0).setCtx c F.WLG_CTX_STAT_CLEARING 0
  let s2 : State := { s1 with wlg := { s1.wlg with cache := s1.wlg.cache.filter fun e => e.ctx ≠ c } }
  match s2.wlg.harvest with
  | some h => if h.ctx = c then s2.harvestEnd h stAborted 0 else s2
  | none => s2

/-- A Function Level Reset of the management function stops a harvest whose cut is taken: its scan stops, MORE reads 1,
the context carries LOST, and no completion is written (R65, R330). -/
def State.harvestFlr (s : State) : State :=
  match s.wlg.harvest with
  | some h =>
    let s1 : State := { s with wlg := { s.wlg with harvest := none } }
    (s1.setCtx h.ctx F.WLG_CTX_STAT_MORE 1).ctxLost h.ctx
  | none => s

end Sys2Proof.Machine
end

