-- ==== Sys2Proof/Machine/LaneBase.lean ====
section
/-! DEFINITION. LG (10_serdes_lanes.md), part one: which lanes a port has, their state and registers, transmit taps in
force, and what a link-up and a link-down do to them. -/

namespace Sys2Proof.Machine

/-! ### Lanes and ports (R17 to R19) -/

/-- Global lane number of port lane `l` (R18, R19). -/
def State.laneOf (s : State) (p l : Nat) : Nat :=
  match s.port p with
  | some i => if i.lanes = 16 then 9 * (i.group + l / 8) + l % 8 else 9 * i.group + 2 * i.inst + l
  | none => 288

/-- Lanes of a port. -/
def State.width (s : State) (p : Nat) : Nat := match s.port p with | some i => i.lanes | none => 0

/-- The port that lane `l` of group `g` belongs to; the spare belongs to none. -/
def State.portAt (s : State) (g l : Nat) : Option Nat :=
  (s.cfg.ports.find? fun e =>
    if e.2.lanes = 16 then decide (l < 8) && (e.2.group == g || e.2.group + 1 == g)
    else e.2.group == g && decide (2 * e.2.inst ≤ l ∧ l < 2 * e.2.inst + e.2.lanes)).map (·.1)

/-- Port lane number of lane `l` of group `g` in its port. -/
def State.portLane (s : State) (p g l : Nat) : Nat :=
  match s.port p with
  | some i => if i.lanes = 16 then l + (if i.group = g then 0 else 8) else l - 2 * i.inst
  | none => 0

/-- The groups of a port. -/
def State.groupsOf (s : State) (p : Nat) : List Nat :=
  match s.port p with
  | some i => if i.lanes = 16 then [i.group, i.group + 1] else [i.group]
  | none => []

/-- The ports that have lanes in a group. -/
def State.portsOn (s : State) (g : Nat) : List Nat := (s.cfg.ports.map (·.1)).filter fun p => (s.groupsOf p).contains g

/-- Global number of the spare that serves port lane `l` (R266). -/
def State.spareOf (s : State) (p l : Nat) : Nat := s.laneOf p l / 9 * 9 + 8

/-- State of a lane by its global number. -/
def State.lane (s : State) (n : Nat) : LaneSt := tget {} s.lg.lanes n
/-- Replaces it. -/
def State.setLane (s : State) (n : Nat) (x : LaneSt) : State := { s with lg := { s.lg with lanes := tput s.lg.lanes n x } }

/-- Bit `n % 9` of a nine-bit field of LGgg_BRINGUP. -/
def State.lgBit (s : State) (f : Fld) (n : Nat) : Bool := bitAt (s.fld (R.LG_BRINGUP (n / 9)) f) (n % 9)
/-- Sets or clears it. -/
def State.setLgBit (s : State) (f : Fld) (n : Nat) (v : Bool) : State :=
  let w := s.fld (R.LG_BRINGUP (n / 9)) f
  let w' := if bitAt w (n % 9) then (if v then w else w - 2 ^ (n % 9)) else (if v then w + 2 ^ (n % 9) else w)
  s.setFld (R.LG_BRINGUP (n / 9)) f w'

/-- Whether a lane has been retired (R494). -/
def State.laneRetired (s : State) (n : Nat) : Bool := bitAt (s.raw (R.AGE_LANE_RETIRED (n / 64))).toNat (n % 64)

/-- Test mode of a lane (R296). -/
def State.laneMode (s : State) (n : Nat) : Nat := s.fld (R.LG_TEST (n / 9) (n % 9)) F.LG_TEST_MODE

/-- Whether a lane group is powered (R360). -/
def State.groupOn (s : State) (g : Nat) : Bool := bitAt (s.raw R.PWR_ON).toNat g

/-- Whether a lane carries a link that is up (R292). -/
def State.laneUp (s : State) (g l : Nat) : Bool :=
  if l = 8 then (s.portsOn g).any fun p => s.isScango p && s.linkUp p
  else match s.portAt g l with
  | some p => if s.isScango p then s.linkUp p else (s.pcpOf p).up
  | none => false

/-- Whether a group is split into two x4 links (R266). -/
def State.split (s : State) (g : Nat) : Bool :=
  ((s.portsOn g).filter fun p => s.isScango p && s.width p == 4).length == 2

/-- Whether a Scango link may use the spare of the group of port lane `l` (R266, R287). -/
def State.ownsSpare (s : State) (p l : Nat) : Bool :=
  let g := s.laneOf p l / 9
  match s.port p with
  | some i => !s.split g || (s.fld (R.SGL_SPARE g) F.SGL_SPARE_OWNER == (if i.inst = 0 then 0 else 1))
  | none => false

/-- Drives something on a lane. -/
def State.laneOut (s : State) (n : Nat) (what : String) : State := s.emit (.lane (n / 9) (n % 9) what)

/-- The lanes of a port by global number, and the spares that its link may use. -/
def State.upLanes (s : State) (p : Nat) : List Nat := (List.range (s.width p)).map (s.laneOf p)
/-- See `State.upLanes`. -/
def State.upSpares (s : State) (p : Nat) : List Nat :=
  if s.ownsSpare p 0 then (s.groupsOf p).map fun g => 9 * g + 8 else []

/-- Whether a swap or a bring-up assignment holds the spare of a group (R297). -/
def State.spareHeld (s : State) (g : Nat) : Bool :=
  (s.portsOn g).any fun p => s.isScango p &&
    ((s.sglOf p).swap.rx.any (fun x => s.spareOf p x == 9 * g + 8) || (s.sglOf p).swap.rxPending.any (fun x => s.spareOf p x.1 == 9 * g + 8)
      || (s.sglOf p).swap.tx.any (fun x => s.spareOf p x == 9 * g + 8)
      || ((s.sglOf p).st == 1 && s.flag (R.LG_BRINGUP g) F.LG_BRINGUP_SPARE_USED))

/-- Every lane of a port in test mode NORMAL (R297). -/
def State.lanesNormal (s : State) (p : Nat) : Bool := (List.range (s.width p)).all fun l => s.laneMode (s.laneOf p l) == 0

/-! ### Taps in force (R284, R289 to R291) -/

/-- Pre- and post-cursor of a preset (R290). -/
def presetTaps : Nat → Nat × Nat
  | 0 => (0, 16) | 1 => (0, 11) | 2 => (0, 13) | 3 => (0, 8) | 4 => (0, 0) | 5 => (6, 0) | 6 => (8, 0) | 7 => (6, 13)
  | 8 => (8, 8) | 9 => (11, 0) | 10 => (0, 24) | _ => (0, 0)

/-- Puts taps in force on a lane with their source (R289). C_PRE and C_POST keep what was written (R291). -/
def State.setTaps (s : State) (n pre post src preset : Nat) : State :=
  let k := R.LG_TXEQ (n / 9) (n % 9)
  (s.setLane n { s.lane n with pre := pre, post := post }).setRaw k
    (F.LG_TXEQ_PRESET.set (F.LG_TXEQ_SRC.set (F.LG_TXEQ_C_MAIN.set (s.raw k) (64 - pre - post)) src) preset)

/-- A lane under OVERRIDE transmits the written taps from a bring-up on (R291). -/
def State.overTaps (s : State) (n : Nat) : State :=
  let k := R.LG_TXEQ (n / 9) (n % 9)
  if s.flag k F.LG_TXEQ_OVERRIDE then
    s.setTaps n (s.fld k F.LG_TXEQ_C_PRE) (s.fld k F.LG_TXEQ_C_POST) 2 (s.fld k F.LG_TXEQ_PRESET)
  else s

/-- Taps that a Scango lane starts a bring-up with: its override, or those of TX_INIT_PRESET (R284, R291). -/
def State.initTaps (s : State) (n : Nat) : State :=
  if s.flag (R.LG_TXEQ (n / 9) (n % 9)) F.LG_TXEQ_OVERRIDE then s.overTaps n
  else
    let pr := s.fld (R.LG_CFG (n / 9)) F.LG_CFG_TX_INIT_PRESET
    s.setTaps n (presetTaps pr).1 (presetTaps pr).2 0 pr

/-! ### Adaptation as LANE_STAT shows it (R293) -/

/-- Sets fields of LANE_STAT that mirror a lane's state. -/
def State.laneStat (s : State) (n : Nat) (f : Fld) (v : Nat) : State := s.setFld (R.LG_LANE_STAT (n / 9) (n % 9)) f v

/-- A link has gone down: its lanes, and the spares that it may use, are pinned and frozen no longer (R293). -/
def State.unpin (s : State) (p : Nat) : State :=
  (s.upLanes p ++ (if s.isScango p then s.upSpares p else [])).foldl (init := s) fun s n =>
    ((s.setLane n { s.lane n with frozenAt := none }).laneStat n F.LG_LANE_STAT_PINNED 0).laneStat n F.LG_LANE_STAT_FROZEN 0

end Sys2Proof.Machine
end

