-- ==== Sys2Proof/Machine/Pcie.lean ====
section
/-! DEFINITION. PCP (08_pcie_ports.md R219 to R241): what a PCI Express port receives, link-up and link-down, credits,
power states, DPC, and the configuration requests of fabric endpoint ports. -/

namespace Sys2Proof.Machine

/-! ### Registers of a port -/

/-- Key of a register of a port's PCP instance; keys of absent ports lie where no register is (R242). -/
def State.pk (s : State) (p : Nat) (f : Nat → Nat → Nat) : Nat :=
  match s.port p with | some i => if i.scango then 2 ^ 40 else f i.group i.inst | none => 2 ^ 40

/-- Whether a port is a PCI Express port. -/
def State.isPcie (s : State) (p : Nat) : Bool := match s.port p with | some i => !i.scango | none => false

/-- Logs an error at the function that receives on a port; a fabric endpoint port has none (R225, R241). -/
def State.rxLog (s : State) (p : Nat) (e : AerErr) (h : Option Hdr := none) : State :=
  if s.role p < 2 then s.logAer (.port p) e h else s

/-! ### Speed (R73) -/

/-- Speed of a PCI Express link in MB/s: rate code 0 to 5, Flit Mode, lanes (R73). -/
def pcieSpeed (rate lanes : Nat) (flit : Bool) : Nat :=
  let gt := [2500, 5000, 8000, 16000, 32000, 64000].getD rate 0
  let raw := lanes * gt
  if flit then raw * 236 / (8 * 256) else if rate < 2 then raw * 8 / (8 * 10) else raw * 128 / (8 * 130)

/-! ### Credits advertised (R228, R229) -/

/-- HDRM_min: the least HDRM of a port's account over the classes in TC_EN. -/
def State.hdrmMin (s : State) (p : Nat) : Nat :=
  let en := s.fld (s.pk p R.PCP_PORT_CFG) F.PCP_PORT_CFG_TC_EN
  let hs := ((List.range 8).filter (bitAt en)).map fun t => s.fld (R.XBC_ACCT p t) F.XBC_ACCT_HDRM
  hs.foldl min (hs.headD 0)

/-- The word of PCPgg_FC_ADV_s that a link-up gives (R228, R229). -/
def fcAdvert (fc : Word) (hdrm : Nat) : Word :=
  let ph := F.PCP_FC_PH.get fc
  let nph := F.PCP_FC_NPH.get fc
  let ch := F.PCP_FC_CPLH.get fc
  let pd := F.PCP_FC_PD.get fc
  let npd := F.PCP_FC_NPD.get fc
  let cd := F.PCP_FC_CPLD.get fc
  let h := ph + nph + ch
  let d := pd + npd + cd
  let fits := decide (2 * h + ceilDiv d 4 ≤ hdrm)
  let dmax := 4 * (hdrm - 2 * h)
  let sc := fun x : Nat => if fits then x else x * dmax / d
  let ok := decide (ph ≥ 1 ∧ nph ≥ 1 ∧ ch ≥ 1 ∧ sc pd ≥ 32 ∧ sc cd ≥ 32 ∧ sc npd ≥ 4)
  if ok then
    F.PCP_FC_ADV_CLAMPED.set (F.PCP_FC_ADV_CPLD.set (F.PCP_FC_ADV_NPD.set (F.PCP_FC_ADV_PD.set (F.PCP_FC_ADV_CPLH.set
      (F.PCP_FC_ADV_NPH.set (F.PCP_FC_ADV_PH.set 0 ph) nph) ch) (sc pd)) (sc npd)) (sc cd)) (b2n !fits)
  else F.PCP_FC_ADV_NO_FIT.set (F.PCP_FC_ADV_CLAMPED.set 0 (b2n !fits)) 1

/-! ### Link-up and link-down (R226, R229, R230, R239, R241, R193, R202, R210) -/

/-- Whether a port may train: its pads released, its lanes in test mode NORMAL, not in DPC, neither it nor an upstream port's
virtual switch contained, not in the safe state but for the manager's path (R297, R373, R412, R414, R415). -/
def State.mayTrain (s : State) (p : Nat) : Bool :=
  s.padsFree p && s.lanesNormal p && !(s.pcpOf p).dpc && !s.portContained p && !(s.role p < 2 && s.vsContained (s.vsOf p)) && (!s.safe || s.upPort s.mgrVs == some p)

/-- Reports of a change of Data Link Layer Link Active in a slot: in Slot Status (Base Specification), or as the slot event
of a fabric endpoint port (R207, R238). -/
def State.dllChange (s : State) (p : Nat) (up : Bool) : State :=
  if s.isDown (.port p) then
    let s1 := s.cfgOr (.port p) 0x1E (2 ^ 24)
    if up then s1.cfgOr (.port p) 0x1C (2 ^ 29) else s1.cfgClear (.port p) 0x1C (2 ^ 29)
  else if s.role p = 2 ∧ s.hasSlot p then s.sideband s.cfg.epoch p 27 0 []
  else s

/-- The DMV functions whose writes a decant abandoned log one Completer Abort each, with a header log of zeros, once the
upstream port is first up after the exit; the management function's is that of the manager's virtual switch (R349). -/
def State.decantAer (s : State) (p : Nat) : State :=
  if s.role p ≠ 0 then s
  else
    let v := s.vsOf p
    let mine := fun x : Nat => x == v || (x == 32 && v == s.mgrVs)
    let due := s.dct.aerDue.filter mine
    let s1 : State := { s with dct := { s.dct with aerDue := s.dct.aerDue.filter fun x => !mine x } }
    due.foldl (fun s _ => s.logAer (.dmv v) .completerAbort) s1

/-- Current Link Speed and Negotiated Link Width in the Link Status of a switch port (Base Specification). -/
def State.linkStatus (s : State) (p rate lanes : Nat) : State :=
  if s.role p < 2 then
    (s.cfgClear (.port p) 0x1C 0x03FF0000).cfgOr (.port p) 0x1C (atBits (rate + 1) 16 4 ||| atBits lanes 20 6)
  else s

/-- Credits that a partner advertises: 0 is infinite (Base Specification), held as a number that no run spends. -/
def partnerCredit (n : Nat) : Nat := if n = 0 then 2 ^ 64 else n

/-- PCIE_LINK_UP: the link comes up at a rate and width, with the credits that the partner advertises (R73, R229); a lane
under OVERRIDE has its written taps (R291). -/
def State.doLinkUp (s : State) (p rate lanes : Nat) (flit : Bool) (ph pd nph npd ch cd : Nat) : State :=
  if !s.isPcie p ∨ (s.pcpOf p).up ∨ !s.mayTrain p then s
  else
    let adv := fcAdvert (s.raw (s.pk p R.PCP_FC)) (s.hdrmMin p)
    let s1 := s.setRaw (s.pk p R.PCP_FC_ADV) adv
    if F.PCP_FC_ADV_NO_FIT.get adv = 1 then s1.raise Flt.PCP_FC_NOFIT p
    else
      let stat : Word := F.PCP_LINK_STAT_WIDTH_NEG.set (F.PCP_LINK_STAT_RATE.set
        (F.PCP_LINK_STAT_FLIT.set (F.PCP_LINK_STAT_DL_ACTIVE.set (F.PCP_LINK_STAT_UP.set 0 1) 1) (b2n flit)) rate) lanes
      let c := s.pcpOf p
      let s2 := (s1.setRaw (s.pk p R.PCP_LINK_STAT) stat).setRaw (R.XBC_PORT_SPEED p)
        (F.XBC_PORT_SPEED_SPEED.set (F.XBC_PORT_SPEED_UP.set 0 1) (pcieSpeed rate lanes flit))
      let s3 := (s.upLanes p).foldl State.overTaps s2
      (s3.setPcp p { c with
        up := true, life := c.life + 1, ph := partnerCredit ph, pd := partnerCredit pd, nph := partnerCredit nph, npd := partnerCredit npd
        ch := partnerCredit ch, cd := partnerCredit cd, lanes := lanes, narrow := false, l1 := false
        idleSince := s.now, upAt := s.now, sent := [] }).linkStatus p rate lanes |>.dllChange p true |>.decantAer p

/-- A destination that waits at a port whose link has gone down, or which is contained, is answered (R226, R230,
R413). -/
def State.dropAt (s : State) (i d port : Nat) : State :=
  if ((s.pkt i).dest d).rep.isSome then s.deadCopy i d port
  else (s.setPkt { s.pkt i with dests := [], readers := 0 }).deadPort i port

/-- Empties the queues and the hold buffer of a PCI Express port (R226, R230, R413). At an upstream port the held
requests stay until the virtual switch is reset. -/
def State.dropQueues (s : State) (p : Nat) : State :=
  let qs := (s.tmg.queues.map (·.1)).filter fun q => q < 32768 && q / 256 == p || q == mgmtQueue p
  let s1 := qs.foldl (init := s) fun s q =>
    (s.queue q).mem.foldl (fun s m => (s.unq m.1 m.2).dropAt m.1 m.2 p) s
  if s1.role p = 0 then s1
  else
    let held := (s1.pcpOf p).hold
    held.foldl (fun s m => s.dropAt m.1 m.2 p) (s1.setPcp p { s1.pcpOf p with hold := [] })

/-- Ends what a port is receiving and sending (R75). -/
def State.endRxTx (s : State) (p : Nat) : State :=
  let s1 := match tfind s.xbc.rxCur p with
    | some i => ({ s with xbc := { s.xbc with rxCur := tdel s.xbc.rxCur p } }).endPacket i
    | none => s
  (s1.xbc.sending.filter fun x => x.link == p).foldl (init := s1) fun s x =>
    let s' : State := { s with xbc := { s.xbc with sending := s.xbc.sending.filter fun y => y ≠ x } }
    s'.dropAt x.pkt x.dest p

/-- The IDE keys of a port are cleared and its stream becomes Insecure (R467). -/
def State.clearKeys (s : State) (p : Nat) : State :=
  if (tfind s.sec.keys p).isNone then s
  else
    let s1 : State := { s with sec := { s.sec with keys := tdel s.sec.keys p } }
    let s2 := if s1.isPcie p then s1.setFld (s1.pk p R.PCP_LINK_STAT) F.PCP_LINK_STAT_IDE_LINK 0 else s1
    if s.ideSecure p then s2.raise Flt.SEC_IDE_KEY_LOST 0 p else s2

/-- A PCI Express link has gone down: its status, its packets and requests by the port's role, its tracker entries, its
locks and INTx counts, its IDE keys (R75, R193, R202, R210, R226, R230, R467). -/
def State.linkDown (s : State) (p : Nat) : State :=
  if !(s.pcpOf p).up then s
  else
    let v := s.vsOf p
    let r := s.role p
    let c := s.pcpOf p
    let stat : Word := F.PCP_LINK_STAT_PM.set 0 (if c.dpc then 6 else 7)
    let s1 := ((s.setPcp p { c with up := false, l1 := false, narrow := false }).setRaw (s.pk p R.PCP_LINK_STAT) stat).setRaw
      (R.XBC_PORT_SPEED p) 0
    let s2 := ((((s1.unpin p).clearKeys p).cntPcp p 7).dllChange p false).endRxTx p
    let s3 := s2.dropQueues p
    -- in the safe state BRG closes nothing and breaks no lock (R213)
    let s4 := if s.safe then s3 else if r = 0 then s3.closeVs v else if r = 2 then s3.closeEp p
      else s3.closeWhere (fun t => t.inbound && t.vs == v && t.port == p) fun s k => s.closeTrk k 9 true
    let s5 := match s4.brg.lockedPorts.find? fun e => e.port == p with
      | some e => if s.safe then s4 else s4.lockBreak 2 e.owner e.target (e.id.getD 0)
      | none => s4
    let s6 := if r = 0 ∧ !s.safe ∧ ((s5.lock v).st = 1 ∨ (s5.lock v).st = 2) then
        s5.lockBreak 4 (s5.lock v).owner (s5.lock v).target (s5.lock v).id else s5
    if r = 0 then
      let mine := fun k : Nat => if k ≥ 2 ^ 32 then (k - 2 ^ 32) / 4 == v else k / 4 / 65536 == p
      { s6 with brg := { s6.brg with intx := s6.brg.intx.filter fun e => !mine e.1 } }
    else s6

/-! ### DPC (R240) -/

/-- DPC triggers at a downstream port: its link is disabled and the port contained. `reason` is that of the DPC Status
register (Base Specification). -/
def State.dpcTrigger (s : State) (p reason : Nat) : State :=
  if (s.pcpOf p).dpc then s
  else
    let c := s.pcpOf p
    let s1 := s.setPcp p { c with dpc := true }
    let s2 := ((s1.cfgClear (.port p) 0x96 0x66).cfgOr (.port p) 0x96
      (1 ||| atBits reason 1 2 ||| (if reason = 3 then atBits 1 5 2 else 0))).emit (.link p "disable")
    if c.up then s2.linkDown p else (s2.setFld (s.pk p R.PCP_LINK_STAT) F.PCP_LINK_STAT_PM 6).dropQueues p

/-- An uncorrectable error found by a port, logged and where DPC Trigger Enable selects it a DPC trigger (R240, R241). -/
def State.portError (s : State) (p : Nat) (e : AerErr) (h : Option Hdr) (k : FaultKind) : State :=
  let s1 := (s.rxLog p e h).raise k p
  let fatal := bitAt (s.cfgDw (.port p) 0x43) e.bit
  let en := s.cfgBits (.port p) 0x95 16 2
  if s.isDown (.port p) ∧ !bitAt (s.cfgDw (.port p) 0x42) e.bit ∧ (en = 2 ∨ (en = 1 ∧ fatal)) then s1.dpcTrigger p 0 else s1

/-- PCIE_LINK_DOWN: without a presence change and a hot-plug slot, Surprise Down Error is logged (R241). -/
def State.doLinkDown (s : State) (p : Nat) : State :=
  if !s.isPcie p ∨ !(s.pcpOf p).up then s
  else
    let slot := s.flag (s.pk p R.PCP_SLOT_CFG) F.PCP_SLOT_CFG_SLOT_EN
    let s1 := if slot then s else s.portError p .surpriseDown none Flt.PCP_SURPRISE
    s1.linkDown p

/-- Marks a port as contained, or no longer so (R412). -/
def State.markContained (s : State) (p : Nat) (on : Bool) : State :=
  let k := R.FCR_CONTAINED (p / 64)
  let m := BitVec.ofNat 64 (2 ^ (p % 64))
  s.setRaw k (if on then s.raw k ||| m else s.raw k &&& ~~~m)

/-- DPC_RELEASE: the host clears DPC Trigger Status; the port leaves DPC and trains (R240, R570). -/
def State.doDpcRelease (s : State) (p : Nat) : State :=
  -- a port that its contained virtual switch holds in DPC is released with that (R412)
  if !(s.pcpOf p).dpc ∨ s.vsContained (s.vsOf p) then s
  else
    let s1 := ((s.setPcp p { s.pcpOf p with dpc := false }).cfgClear (.port p) 0x96 1).markContained p false
    let s2 := s1.setFld (s.pk p R.PCP_LINK_STAT) F.PCP_LINK_STAT_PM 7
    if s2.mayTrain p then s2.emit (.link p "train") else s2

/-! ### What a port receives (R72, R75, R78, R91, R220, R227, R241) -/

/-- Cells that a whole packet of a header takes. -/
def Pkt.cellCount (p : Pkt) : Nat := max 1 (ceilDiv (p.hoff + p.hdr.payloadLen) 64)

/-- Puts a received packet in the buffer, charged to the headroom of its account, and at its lookup; then admission is
tried (R78). -/
def State.receive (s : State) (pk : Pkt) (payload : List Byte) : Nat × State :=
  let o := s.occOf pk.acct pk.tc
  let s1 := s.setOcc pk.acct pk.tc { o with hdrm := o.hdrm + pk.cellCount }
  let life := match pk.ingress with | .port p => s.lifeOf p | _ => 0
  let (i, s2) := s1.store { pk with chg := 1, life := life } payload
  let (moved, s3) := s2.tryMove i
  (i, (if moved then s3 else s3.ev 1 4 pk.acct pk.tc).addJob (.enter i))

/-- Further bytes of a packet still arriving: whole cells are written as they are complete, and what an egress has
already begun to send goes on (R72, R246). -/
def State.moreData (s : State) (i : Nat) (bytes : List Byte) (last : Bool) : State :=
  let p := s.pkt i
  let buf := p.tail ++ bytes
  let full := p.rxLen / 64
  let total := p.rxLen + bytes.length
  let k := if last then p.ncells - full else total / 64 - full
  let p1 := { p with
    tail := if last then [] else buf.drop (64 * k), rxLen := total, whole := last, lastWr := if k > 0 then s.now else p.lastWr }
  let s1 := (s.setPkt p1).writeCells p1 full (chunks k buf)
  let data := s1.avail p1
  let s2 : State := { s1 with sgl := s1.sgl.map fun e =>
    (e.1, { e.2 with tx := e.2.tx.map fun t =>
      if t.pkt = i then { t with bytes := t.bytes ++ data.drop t.data.length, data := data, more := !last } else t }) }
  let s3 : State := if last then { s2 with xbc := { s2.xbc with rxCur := s2.xbc.rxCur.filter fun e => e.2 ≠ i } } else s2
  -- a data error at the write of a cell after the header has left ends the packet there (R89)
  if (List.range k).any fun j => bitAt (s1.cellOf p1 (full + j)).side 1 then s3.dataErr i else s3

/-- A received packet that a port discards after consuming its credits: they return at once (R241). -/
def State.rxDiscard (s : State) (p : Nat) : State :=
  let s1 := s.cntPcp p 0
  if s.dct.quiet then s1 else s1.emit (.link p "UpdateFC")

/-- The part of a sample's metadata word that arrival gives (R93). -/
def sampleMeta (p tc epoch len age : Nat) (ide : Bool) : Nat :=
  atBits p 57 7 ||| atBits tc 45 3 ||| atBits epoch 41 2 ||| atBits (b2n (decide (len > 64))) 38 1 ||| atBits (b2n ide) 37 1
    ||| atBits len 16 16 ||| atBits age 0 16

/-- A sample's bytes: under IDE, the header bytes only (R92). -/
def sampleBytes (raw : List Byte) (hlen : Nat) (ide : Bool) : List Byte := padTo 64 (if ide then raw.take hlen else raw.take 64)

/-- The sample of a TLP at its arrival (R92, R93). -/
def State.tlpSample (s : State) (p : Nat) (h : Hdr) (raw : List Byte) (linkIde : Bool) : Sample :=
  let ide := linkIde || h.sel
  { metaWord := sampleMeta p h.tc (s.portEpoch p) h.size (s.us % 65536) ide, time := s.now, bytes := sampleBytes raw h.hlen ide }

/-- A TLP that has passed the checks of R241 enters the buffer; ATTR_STRIP clears its attributes (R227), and the port's
sampling counter counts it (R91). -/
def State.acceptTlp (s : State) (p : Nat) (h : Hdr) (payload : List Byte) (whole : Bool) (raw : List Byte) (linkIde : Bool) : State :=
  let strip := s.flag (s.pk p R.PCP_PORT_CFG) F.PCP_PORT_CFG_ATTR_STRIP && !h.kind.isCpl
  let h := { h with ro := h.ro && !strip, ido := h.ido && !strip, fab := false }
  let e := s.portEpoch p
  let r := s.role p
  let v := s.vsOf p
  let toWin : Bool := r < 2 && !h.kind.isCpl && h.kind != .msg
    && (match s.routeAddr v (some p) h.addr with | .window _ => true | _ => false)
  let s0 := (if h.poison then s.cntPcp p 5 else s).ev 6 1 p h.tc
  let pk : Pkt := {
    ingress := .port p, acct := p, tc := h.tc, hdr := h, orig := h, hoff := if toWin then 32 else h.hlen, raw := raw,
    pool := h.fcType, arrD := h.fcData, linkIde := linkIde, whole := whole, arrivedPoisoned := h.poison, arr := s.now, epoch := e, vs := v
    vh := if r = 2 then s.fidVh e (s.srcFid (32 + p)) else v
    hostAddr := if h.kind = .mwr then some (h.addr + h.lead) else none }
  let (i, s1) := s0.receive pk payload
  let s2 : State := if whole then s1 else { s1 with xbc := { s1.xbc with rxCur := tput s1.xbc.rxCur p i } }
  let s3 := if (s.pcpOf p).l1 then s2 else s2.setPcp p { s2.pcpOf p with idleSince := s2.now }
  if bitAt (s3.cellOf (s3.pkt i) 0).side 1 then s3 else s3.smpCount p i (s.tlpSample p h raw linkIde)

/-- Whether a TLP breaks the credits advertised: those withheld for packets still in headroom stay with the port (R78, R228,
R241). -/
def State.beyondCredits (s : State) (p : Nat) (h : Hdr) : Bool :=
  let k := s.pk p R.PCP_FC_ADV
  let ty := h.fcType
  let mine := s.xbc.pkts.filter fun e => e.2.chg == 1 && e.2.ingress == .port p && e.2.pool == ty && e.2.life == s.lifeOf p
  let d := mine.foldl (fun n e => n + e.2.arrD) 0
  let (fh, fd) := if ty = 0 then (F.PCP_FC_ADV_PH, F.PCP_FC_ADV_PD) else if ty = 1 then (F.PCP_FC_ADV_NPH, F.PCP_FC_ADV_NPD)
    else (F.PCP_FC_ADV_CPLH, F.PCP_FC_ADV_CPLD)
  decide (mine.length + 1 > s.fld k fh ∨ d + h.fcData > s.fld k fd)

/-- The payload size programmed at a port: by the owning host; at a fabric endpoint port that of R218. -/
def State.portMps (s : State) (p : Nat) : Nat := if s.role p < 2 then min 512 (128 * 2 ^ s.cfgBits (.port p) 0x1A 5 3) else 512

/-- Whether a TLP is malformed by its own header: its length disagrees with its payload, its payload is above the
programmed size, a request crosses 4 KiB, its TC is not in TC_EN, or its byte enables are invalid (R241). -/
def State.badForm (s : State) (p : Nat) (h : Hdr) (payload : List Byte) (whole : Bool) : Bool :=
  let mem := h.kind = .mrd ∨ h.kind = .mrdlk ∨ h.kind = .mwr
  decide (payload.length > h.payloadLen) || (whole && payload.length != h.payloadLen) || decide (h.payloadLen > s.portMps p)
    || decide (mem ∧ h.addr % 4096 / 4 * 4 + 4 * h.len > 4096)
    || decide (mem ∧ ((h.len = 1 ∧ h.lbe ≠ 0) ∨ (h.len > 1 ∧ (h.fbe = 0 ∨ h.lbe = 0))))
    || !bitAt (s.fld (s.pk p R.PCP_PORT_CFG) F.PCP_PORT_CFG_TC_EN) h.tc

/-- A TLP received on a PCI Express port, with the verdicts of the data-link and transaction layers on what the header does
not show (R241). -/
def State.rxTlp (s : State) (p : Nat) (h : Hdr) (payload : List Byte) (whole : Bool) (raw : List Byte) (linkIde : Bool)
    (v : TlpVerdict) : State :=
  let np := h.kind.isNp
  -- Source Validation: a request from below names a bus below its port (R218)
  let acs := v.acs || (s.role p == 1 && !h.kind.isCpl && s.acsOn (.port p) 0 && !s.ownsBus (.port p) (h.reqId / 256))
  -- the link layer has passed it, whatever is found now: the sampling counter counts it (R91)
  let cnt := fun s : State => s.smpCount p noPkt (s.tlpSample p h raw linkIde)
  if v.overflow ∨ s.beyondCredits p h then (s.cntPcp p 0).portError p .overflow (some h) Flt.PCP_OVERFLOW
  else if v.malformed ∨ s.badForm p h payload whole then (cnt (s.rxDiscard p)).portError p .malformed (some h) Flt.PCP_MALFORMED
  else if v.ideFail ∧ !h.sel then
    let s1 : State := { s with sec := { s.sec with keys := s.sec.keys.map fun e => if e.1 = p then (e.1, { e.2 with active := [] }) else e } }
    (((s1.rxDiscard p).setPcp p { s.pcpOf p with insecure := true }).setFld (s.pk p R.PCP_LINK_STAT) F.PCP_LINK_STAT_IDE_LINK 0).raise
      Flt.PCP_IDE_FAIL p
  -- a selective stream needs no key of the port; its link stream is discarded until it is keyed (R220, R241, R467)
  else if linkIde ∧ !h.sel ∧ ((s.pcpOf p).insecure ∨ !s.ideSecure p) then cnt (s.rxDiscard p)
  else if v.ecrcBad ∧ s.role p < 2 ∧ !h.kind.isCpl ∧ h.kind ≠ .msg
      ∧ (match s.routeAddr (s.vsOf p) (some p) h.addr with | .window _ => true | _ => false) = true then
    (cnt (s.rxDiscard p)).portError p .ecrc (some h) Flt.PCP_ECRC
  else if acs ∧ !np then (cnt (s.rxDiscard p)).portError p .acs (some h) Flt.PCP_ACS
  else if acs then
    let c : Hdr := tlpCpl h 4 (s.fnId (s.vsOf p) (.port p))
    (((cnt (s.rxDiscard p)).portError p .acs (some h) Flt.PCP_ACS).cntPcp p 2).makeJob c (some p) []
  else s.acceptTlp p h payload whole raw linkIde

/-- TLP_RECEIVE. -/
def State.doTlpReceive (s : State) (p : Nat) (x : PcieRx) : State :=
  if !s.isPcie p ∨ !(s.pcpOf p).up then s
  else match x with
  | .tlp h payload whole raw ide v => s.rxTlp p h payload whole raw ide v
  | .more payload last => match tfind s.xbc.rxCur p with | some i => s.moreData i payload last | none => s
  | .discard => match tfind s.xbc.rxCur p with | some i => (s.cntPcp p 0).endPacket i | none => s
  | .crcError dllp => ((s.rxLog p (if dllp then .badDllp else .badTlp)).raise Flt.PCP_RX_COR p).emit (.link p "NAK")
  | .fcUpdate ty hdr data beyond =>
    if beyond then (s.portError p .flowControl none Flt.PCP_FC_PROTO).emit (.link p "retrain")
    else
      let c := s.pcpOf p
      s.setPcp p (if ty = 0 then { c with ph := c.ph + hdr, pd := c.pd + data }
        else if ty = 1 then { c with nph := c.nph + hdr, npd := c.npd + data }
        else { c with ch := c.ch + hdr, cd := c.cd + data })
  | .ack never =>
    if never then (s.portError p .dataLink none Flt.PCP_DLP).emit (.link p "retrain") else s
  | .nak => (s.cntPcp p 6).emit (.link p "replay")
  | .enterL23 => if s.role p = 0 then s else s.setFld (s.pk p R.PCP_LINK_STAT) F.PCP_LINK_STAT_PM 5

/-- PCIE_REPLAY_TIMEOUT: the replay timer expires, or replay numbers roll over (R241). -/
def State.doReplayTmo (s : State) (p : Nat) (rollover : Bool) : State :=
  if !s.isPcie p ∨ !(s.pcpOf p).up then s
  else
    let s1 := (s.rxLog p (if rollover then .replayRollover else .replayTimeout)).raise Flt.PCP_RX_COR p
    if rollover then s1.emit (.link p "retrain") else (s1.cntPcp p 6).emit (.link p "replay")

/-! ### Power states (R231 to R233, R292) -/

/-- Lanes of a PCI Express port: its lane group and first lane; a x16 port takes two groups (R17 to R19). -/
def State.portGroup (s : State) (p : Nat) : Nat := match s.port p with | some i => i.group | none => 0

/-- Whether a port has nothing queued, held or being sent. -/
def State.portIdle (s : State) (p : Nat) : Bool :=
  s.tmg.queues.all (fun e => !(e.1 < 32768 && e.1 / 256 == p) || e.2.mem.isEmpty) && (s.pcpOf p).hold.isEmpty
    && !s.busyPort p && (tfind s.xbc.rxCur p).isNone

/-- ASPM L1 is allowed: by the owning host, or by PM_CFG at a fabric endpoint port (R231). -/
def State.l1Allowed (s : State) (p : Nat) : Bool :=
  if s.role p = 2 then s.flag (s.pk p R.PCP_PM_CFG) F.PCP_PM_CFG_ASPM_L1 else s.cfgBits (.port p) 0x1C 1 1 == 1

/-- Whether every port of a virtual switch below its upstream port, the internal one included, is in L1 or down, and no
slice has work (R231). -/
def State.belowIdle (s : State) (v : Nat) : Bool :=
  (s.downPorts v).all (fun q => (s.pcpOf q).l1 || !(s.pcpOf q).up)
    && (s.slicesOf v).all fun i => (s.slice i).descs.isEmpty

/-- The link state that entry to L1 leads to: where the port has CLKREQ_N, the deeper substate that its host enables (R232;
no latency tolerance is weighed: log entry 144). -/
def State.l1State (s : State) (p : Nat) : Nat :=
  let en := s.cfgDw (.port p) 0x92
  if s.role p ≥ 2 ∨ s.cfgDw (.port p) 0x91 = 0 then 2 else if bitAt en 2 then 4 else if bitAt en 3 then 3 else 2

/-- ASPM_L1_ENTRY (R231, R232). -/
def State.doL1Entry (s : State) (p : Nat) : State :=
  let c := s.pcpOf p
  if s.isPcie p ∧ c.up ∧ !c.l1 ∧ s.l1Allowed p ∧ s.portIdle p
      ∧ s.now - c.idleSince ≥ 1000 * s.fld (s.pk p R.PCP_PM_CFG) F.PCP_PM_CFG_L1_IDLE
      ∧ (s.role p ≠ 0 ∨ s.belowIdle (s.vsOf p)) then
    ((s.setPcp p { c with l1 := true }).setFld (s.pk p R.PCP_LINK_STAT) F.PCP_LINK_STAT_PM (s.l1State p)).emit (.link p "L1")
  else s

/-- ASPM_L1_EXIT: at the partner's request, through CLKREQ_N, or because there is something to send. -/
def State.doL1Exit (s : State) (p : Nat) : State :=
  let c := s.pcpOf p
  if s.isPcie p ∧ c.l1 then
    ((s.setPcp p { c with l1 := false, idleSince := s.now }).setFld (s.pk p R.PCP_LINK_STAT) F.PCP_LINK_STAT_PM 0).emit (.link p "L0")
  else s

/-- L0p is allowed: in Flit Mode, by the owning host (bit 0 of doubleword 0x82; log entry 16) or by PM_CFG (R233). -/
def State.l0pAllowed (s : State) (p : Nat) : Bool :=
  s.flag (s.pk p R.PCP_LINK_STAT) F.PCP_LINK_STAT_FLIT
    && (if s.role p = 2 then s.flag (s.pk p R.PCP_PM_CFG) F.PCP_PM_CFG_L0P_EN else s.cfgBits (.port p) 0x82 0 1 == 1)

/-- Sets the lanes in use, with the speed they give (R73, R233). -/
def State.setWidth (s : State) (p lanes pm : Nat) : State :=
  let k := s.pk p R.PCP_LINK_STAT
  let s1 := (s.setFld k F.PCP_LINK_STAT_WIDTH_NEG lanes).setFld k F.PCP_LINK_STAT_PM pm
  s1.setFld (R.XBC_PORT_SPEED p) F.XBC_PORT_SPEED_SPEED
    (pcieSpeed (s.fld k F.PCP_LINK_STAT_RATE) lanes (s.flag k F.PCP_LINK_STAT_FLIT))

/-- Whether a port has sent less in the last L0P_IDLE µs than half of what a width of `lanes` can (R233; the rate is taken
over that time: log entry 144). -/
def State.belowHalf (s : State) (p lanes : Nat) : Bool :=
  let c := s.pcpOf p
  let k := s.pk p R.PCP_LINK_STAT
  let idle := s.fld (s.pk p R.PCP_PM_CFG) F.PCP_PM_CFG_L0P_IDLE
  let sum := (c.sent.filter fun e => s.us - e.1 < idle).foldl (fun n e => n + e.2) 0
  decide (s.now - c.upAt ≥ 1000 * idle ∧ 2 * sum < idle * pcieSpeed (s.fld k F.PCP_LINK_STAT_RATE) lanes (s.flag k F.PCP_LINK_STAT_FLIT))

/-- L0P_NARROW: the transmit side has stayed below half of the narrower width's rate for L0P_IDLE µs (R233). -/
def State.doL0pNarrow (s : State) (p lanes : Nat) : State :=
  let c := s.pcpOf p
  if s.isPcie p ∧ c.up ∧ !c.l1 ∧ s.l0pAllowed p ∧ 1 ≤ lanes ∧ s.belowHalf p lanes
      ∧ lanes < s.fld (s.pk p R.PCP_LINK_STAT) F.PCP_LINK_STAT_WIDTH_NEG then
    ((s.setPcp p { c with narrow := true }).setWidth p lanes 1).emit (.link p "L0p")
  else s

/-- Bytes queued at a port. -/
def State.queuedBytes (s : State) (p : Nat) : Nat :=
  s.tmg.queues.foldl (init := 0) fun n e =>
    if e.1 < 32768 ∧ e.1 / 256 = p then e.2.mem.foldl (fun n m => n + ((s.pkt m.1).dest m.2).hdr.size) n else n

/-- A narrow port widens at once when its queued bytes exceed what the narrow width sends in 1 µs (R233). -/
def State.widen (s : State) (p : Nat) : State :=
  let c := s.pcpOf p
  if c.narrow ∧ s.queuedBytes p > s.speed p then
    ((s.setPcp p { c with narrow := false }).setWidth p c.lanes 0).emit (.link p "widen")
  else s

/-- Every narrow port. -/
def State.widenAll (s : State) : State := s.pcp.foldl (fun s e => if e.2.narrow then s.widen e.1 else s) s

/-! ### Slots (R238, R239) -/

/-- Asserts or deasserts a slot's PERST_N output. While the slot's pad bank is held the ball keeps its level (R373). -/
def State.setPerst (s : State) (p : Nat) (asserted : Bool) : State :=
  let c := s.pcpOf p
  if c.perst = asserted then s
  else
    let s1 := s.setPcp p { c with perst := asserted }
    if s.hasSlot p ∧ s.bankHeld (32 + s.spcOf p) then s1 else s1.emit (.pin "SLOT_PERST_N" p !asserted)

/-- What holds a slot's PERST_N asserted beside its power: Secondary Bus Reset, or PERST_ASSERT (R238). -/
def State.perstHeld (s : State) (p : Nat) : Bool :=
  if s.role p = 2 then s.flag (s.pk p R.PCP_SLOT_CFG) F.PCP_SLOT_CFG_PERST_ASSERT else s.cfgBits (.port p) 15 22 1 == 1

/-- SLOT_PERST_DEASSERT: PERST_DLY ms have passed since power-good rose (R238). -/
def State.doPerstDeassert (s : State) (p : Nat) : State :=
  match (s.pcpOf p).pgSince with
  | some t =>
    if s.now - t ≥ 1000000 * s.fld (s.pk p R.PCP_SLOT_CFG) F.PCP_SLOT_CFG_PERST_DLY ∧ !s.perstHeld p then s.setPerst p false else s
  | none => s

/-- Slot power-good has risen or fallen (R238). -/
def State.slotPg (s : State) (p : Nat) (good : Bool) : State :=
  let s1 := s.setPcp p { s.pcpOf p with pgSince := if good then some s.now else none }
  if good then s1 else s1.setPerst p true

/-! ### Configuration requests on fabric endpoint ports (R225) -/

/-- A write that sets GO of PCPgg_CFGRQ_s has been taken in: the request is issued. -/
def State.cfgrqGo (s : State) (p : Nat) : State :=
  let k := s.pk p R.PCP_CFGRQ
  let w := s.raw k
  if !(s.pcpOf p).up then (s.setRaw k (F.PCP_CFGRQ_STATUS.set w 1))
  else
    let s1 := s.setRaw k (F.PCP_CFGRQ_BUSY.set w 1)
    (s1.setPcp p { s1.pcpOf p with cfgSince := s.now }).emit
      (.cfgReq p (F.PCP_CFGRQ_BDF.get w) (F.PCP_CFGRQ_DW.get w) (F.PCP_CFGRQ_BE.get w)
        (if F.PCP_CFGRQ_WRITE.get w = 1 then some (s.fld (s.pk p R.PCP_CFGRQ_DATA) F.PCP_CFGRQ_DATA_DATA) else none))

/-- Ends a configuration request with a status. -/
def State.cfgrqEnd (s : State) (p st : Nat) (data : Option Nat) : State :=
  let k := s.pk p R.PCP_CFGRQ
  if !s.flag k F.PCP_CFGRQ_BUSY then s
  else
    let s1 := (s.setFld k F.PCP_CFGRQ_BUSY 0).setFld k F.PCP_CFGRQ_STATUS st
    match data with | some d => s1.setFld (s.pk p R.PCP_CFGRQ_DATA) F.PCP_CFGRQ_DATA_DATA d | none => s1

/-- CFGRQ_DONE: the completion has arrived. -/
def State.doCfgrqDone (s : State) (p st data : Nat) : State :=
  let read := !s.flag (s.pk p R.PCP_CFGRQ) F.PCP_CFGRQ_WRITE
  s.cfgrqEnd p (if st = 0 ∨ st = 1 ∨ st = 2 ∨ st = 4 then st else 1) (if read ∧ st = 0 then some data else none)

/-- CFGRQ_TIMEOUT: no completion within 50 ms. -/
def State.doCfgrqTmo (s : State) (p : Nat) : State :=
  if s.now - (s.pcpOf p).cfgSince ≥ 50000000 then s.cfgrqEnd p 7 none else s

end Sys2Proof.Machine
end

