-- ==== Sys2Proof/Machine/Lane.lean ====
section
/-! DEFINITION. LG (10_serdes_lanes.md): the lanes of a port, transmit equalisation, adaptation and its snapshots, eye
scan, PRBS, and what a lane's power and test modes allow. -/

namespace Sys2Proof.Machine

/-! ### Training blocks (R282) -/

/-- PATTERN. -/
def trainPattern : List Byte := [0x4D, 0x61, 0xB2, 0x1E, 0xC7, 0x3A]

/-- A training block, byte 0 first. -/
def trainBlock (lane typ status pre post : Nat) (spareFor : Option Nat) : List Byte :=
  trainPattern ++ beBytes 1 lane ++ beBytes 1 typ ++ beBytes 1 status ++ beBytes 1 pre ++ beBytes 1 post
    ++ beBytes 1 (match spareFor with | some l => 128 + l | none => 0) ++ List.replicate 4 0

/-- What a receiver makes of a block: the training block that it is, and whether it arrived as its bitwise complement;
none for a block without PATTERN. -/
def trainIn (b : List Byte) : Option (List Byte × Bool) :=
  if b.take 6 = trainPattern then some (b, false)
  else if b.take 6 = trainPattern.map (~~~ ·) then some (b.map (~~~ ·), true)
  else none

/-- LANE of the training blocks of a lane: its port lane number, 0x10 on the spare. -/
def State.trainLane (s : State) (p n : Nat) : Nat := if n % 9 = 8 then 16 else s.portLane p (n / 9) (n % 9)

/-- SPARE_FOR that a receiver asks for: the lane that the spare replaces (R268, R287). -/
def State.spareFor (s : State) (p : Nat) : Option Nat :=
  match (s.sglOf p).swap.rx with
  | some l => some l
  | none =>
    if (s.upSpares p).isEmpty then none
    else ((s.groupsOf p).find? fun g => s.flag (R.LG_BRINGUP g) F.LG_BRINGUP_SPARE_USED).map fun g =>
      s.fld (R.LG_BRINGUP g) F.LG_BRINGUP_SPARE_FOR

/-- A lane of a port sends training blocks of a type from here on, with the STATUS it has reached (R282). The receiver asks
for no taps of its own: whether it does is left to it (R289; log entry 142). -/
def State.trainLaneOut (s : State) (p typ times n : Nat) : State :=
  let x := s.lane n
  let aligned : Bool := decide ((s.sglOf p).bstep ≥ 6)
  s.emit (.training (n / 9) (n % 9) (trainBlock (s.trainLane p n) typ
    (b2n x.cdr + 2 * b2n x.adapted + 4 * b2n aligned + 8 * b2n x.eqOk) 0xFF 0xFF (s.spareFor p)) times)

/-- TYPE of the training blocks that a link sends: RETRAIN in a retrain, else TRAIN (R282, R283). -/
def SglSt.trainType (x : SglSt) : Nat := if x.st = 4 then 3 else 1

/-- Every lane of a port sends training blocks of a type (R282). -/
def State.trainOut (s : State) (p typ times : Nat) : State :=
  (s.upLanes p ++ s.upSpares p).foldl (fun s n => s.trainLaneOut p typ times n) s

/-- STEP of LGgg_BRINGUP shows a step of the port's bring-up or retrain. -/
def State.setStep (s : State) (p step : Nat) : State :=
  let s1 := s.setSgl p { s.sglOf p with bstep := step, bsince := s.now }
  (s.groupsOf p).foldl (fun s g => s.setFld (R.LG_BRINGUP g) F.LG_BRINGUP_STEP step) s1

/-- Loads the scramblers at the block after the last ALIGN_DONE block (R281). -/
def State.loadScr (s : State) (p : Nat) : State :=
  s.setSgl p { s.sglOf p with scr := (List.range (s.width p)).map (0x7FFF0000 + ·) }

/-- Whether the training blocks found on a lane stand in port lane order, or, with `rev`, in reverse order (R282, R284
step 5). -/
def State.laneInOrder (s : State) (p n : Nat) (rev : Bool) : Bool :=
  (s.lane n).rxLane == if n % 9 = 8 ∨ !rev then s.trainLane p n else s.width p - 1 - s.trainLane p n

/-! ### Transmit equalisation (R289 to R291) -/

/-- The partner's request for a lane's taps is applied where it meets the limits (R289); a lane under OVERRIDE takes none
(R291). -/
def State.reqTaps (s : State) (n pre post : Nat) : State :=
  if s.flag (R.LG_TXEQ (n / 9) (n % 9)) F.LG_TXEQ_OVERRIDE ∨ pre > 16 ∨ post > 24 ∨ pre + post > 24 then s
  else s.setTaps n pre post 1 (s.fld (R.LG_TXEQ (n / 9) (n % 9)) F.LG_TXEQ_PRESET)

/-- round(c · 64 ÷ 63) of a PCI Express coefficient request (R290). -/
def pcieTap (c : Nat) : Nat := (128 * c + 63) / 126

/-- Whether the partner of a PCI Express lane may ask for taps: at 8 GT/s and above (R290). The rate that a port trains to is
known once its link is up. -/
def State.eqRate (s : State) (p : Nat) : Bool := !(s.pcpOf p).up || decide (s.fld (s.pk p R.PCP_LINK_STAT) F.PCP_LINK_STAT_RATE ≥ 2)

/-- A PCI Express preset request is applied to a lane (R290). -/
def State.presetTapsOn (s : State) (n pr : Nat) : State :=
  if s.flag (R.LG_TXEQ (n / 9) (n % 9)) F.LG_TXEQ_OVERRIDE ∨ pr > 10 then s
  else s.setTaps n (presetTaps pr).1 (presetTaps pr).2 0 pr

/-! ### Adaptation and drift (R292, R293) -/

/-- Sum of the absolute differences of two coefficient lists. -/
def coefDist (a b : List Int) : Nat := (a.zip b).foldl (fun n x => n + (x.1 - x.2).natAbs) 0

/-- Whether a lane is in electrical idle, its coefficients frozen (R292): PCI Express L1 and its substates, a lane that L0p
has turned off, a Scango lane whose signal is lost. -/
def State.laneIdle (s : State) (g l : Nat) : Bool :=
  (s.lane (9 * g + l)).lost || match s.portAt g l with
  | some p => s.isPcie p && (s.pcpOf p).up && ((s.pcpOf p).l1
      || (s.pcpOf p).narrow && decide (s.portLane p g l ≥ s.fld (s.pk p R.PCP_LINK_STAT) F.PCP_LINK_STAT_WIDTH_NEG))
  | none => false

/-- DRIFT_CHECK: the comparison of every 100 ms, with the coefficients that adaptation stands at and the errors of the
interval (R293): the FEC corrections that the part has attributed to the lane, and `e` further ones, those of a PCI Express
lane and of the free spare. The first check of a lane without a snapshot takes one. Two checks of a lane stand 100 ms
apart. -/
def State.doDriftCheck (s : State) (g l : Nat) (coef : List Int) (e : Nat) : State :=
  let n := 9 * g + l
  if !s.laneUp g l ∨ (s.lane n).checked.any (fun t => decide (s.now < t + 100000000)) then s
  else
    let e := (s.lane n).errs + e
    let x : LaneSt := { s.lane n with errs := 0, checked := some s.now }
    let c := if x.frozenAt.isSome || s.laneIdle g l then x.coef else coef
    let cfg := R.LG_ADAPT_CFG g
    let drift := match x.snap with | some (sc, _) => coefDist c sc | none => 0
    let rising : Bool := match x.snap with
      | some (_, se) => decide (e > s.fld cfg F.LG_ADAPT_CFG_ERR_FLOOR ∧ e > 2 * se) | none => false
    let s1 := (s.laneStat n F.LG_LANE_STAT_DRIFT (min drift 65535)).laneStat n F.LG_LANE_STAT_ERR_LAST (min e (2 ^ 32 - 1))
    if s.flag cfg F.LG_ADAPT_CFG_SNAP_EN ∧ drift > s.fld cfg F.LG_ADAPT_CFG_DRIFT_MAX ∧ rising then
      let rv := (x.reverts.filter fun t => s.now - t < 1000000000) ++ [s.now]
      let pin := rv.length ≥ 3 && !s.flag (R.LG_LANE_STAT g l) F.LG_LANE_STAT_PINNED
      let y := { x with coef := (match x.snap with | some (sc, _) => sc | none => c), frozenAt := some s.now, reverts := rv }
      let s2 := ((s1.setLane n y).laneStat n F.LG_LANE_STAT_FROZEN 1).laneStat n F.LG_LANE_STAT_REVERTS
        (min 255 (s.fld (R.LG_LANE_STAT g l) F.LG_LANE_STAT_REVERTS + 1))
      let s3 := s2.raise Flt.LG_ADAPT_REVERT n
      if pin then
        let s4 := s3.laneStat n F.LG_LANE_STAT_PINNED 1
        { s4 with lg := { s4.lg with events := s4.lg.events ++ [(n, 1, s.now)] } }
      else s3
    else if !rising then s1.setLane n { x with coef := c, snap := some (c, e) }
    else s1.setLane n { x with coef := c }

/-- FREEZE_END: the 10 ms after a revert end; a pinned lane stays frozen (R293). -/
def State.doFreezeEnd (s : State) (g l : Nat) : State :=
  let n := 9 * g + l
  match (s.lane n).frozenAt with
  | some t =>
    if s.now - t ≥ 10000000 ∧ !s.flag (R.LG_LANE_STAT g l) F.LG_LANE_STAT_PINNED then
      (s.setLane n { s.lane n with frozenAt := none }).laneStat n F.LG_LANE_STAT_FROZEN 0
    else s
  | none => s

/-- CDR_LOST: a lane that is up loses CDR lock (R301); a Scango lane's coefficients stand still until it locks again
(R292). -/
def State.doCdrLost (s : State) (g l : Nat) : State :=
  let n := 9 * g + l
  if s.laneUp g l then
    let s1 := if s.flag (R.LG_CFG g) F.LG_CFG_MODE then s.setLane n { s.lane n with lost := true } else s
    (s1.setLgBit F.LG_BRINGUP_CDR_LOCK n false).raise Flt.LG_CDR_LOST n
  else s

/-! ### Eye scan (R294, R295) -/

/-- Whether the host of a PCI Express port margins a lane: its Lane Margining Control asks the port's own receiver for a step,
by time or by voltage (R295, Base Specification). -/
def State.margining (s : State) (g l : Nat) : Bool :=
  match s.portAt g l with
  | some p =>
    s.isPcie p && decide (s.role p < 2) && (s.pcpOf p).up
      && (let c := s.cfgDw (.port p) (0xDA + s.portLane p g l)
        (bitsOf c 3 3 == 3 || bitsOf c 3 3 == 4) && bitsOf c 0 3 == (if s.role p = 0 then 6 else 1))
  | none => false

/-- A write that sets GO of LGgg_EYE_CFG has been taken in; a lane that the port is margining ends it at once (R295). -/
def State.eyeGo (s : State) (g : Nat) (margined : Bool) : State :=
  let k := R.LG_EYE_STAT g
  if margined ∨ s.margining g (s.fld (R.LG_EYE_CFG g) F.LG_EYE_CFG_LANE) then s.setRaw k (F.LG_EYE_STAT_ABORTED.set (F.LG_EYE_STAT_DONE.set 0 1) 1)
  else (s.setRaw k (F.LG_EYE_STAT_BUSY.set 0 1)).laneOut (9 * g + s.fld (R.LG_EYE_CFG g) F.LG_EYE_CFG_LANE) "eye scan"

/-- EYE_POINT_DONE: the dwell has passed, with the disagreements counted, or a margining of the lane ends the point
(R294, R295). -/
def State.doEyeDone (s : State) (g errors : Nat) (aborted : Bool) : State :=
  let k := R.LG_EYE_STAT g
  if !s.flag k F.LG_EYE_STAT_BUSY then s
  else s.setRaw k (F.LG_EYE_STAT_ERRORS.set (F.LG_EYE_STAT_ABORTED.set (F.LG_EYE_STAT_DONE.set 0 1) (b2n aborted)) (min errors (2 ^ 48 - 1)))

/-- Margining of a lane of a port begins: a point that the manager has in progress on it ends with ABORTED (R295). -/
def State.marginStart (s : State) (p lane : Nat) : State :=
  let n := s.laneOf p lane
  if s.margining (n / 9) (n % 9) ∧ s.fld (R.LG_EYE_CFG (n / 9)) F.LG_EYE_CFG_LANE = n % 9 then s.doEyeDone (n / 9) 0 true else s

/-- Whether a higher user has the offset sampler of a lane, so that cupping leaves it alone (R295). -/
def State.samplerTaken (s : State) (n : Nat) : Bool :=
  s.margining (n / 9) (n % 9)
    || (s.flag (R.LG_EYE_STAT (n / 9)) F.LG_EYE_STAT_BUSY && s.fld (R.LG_EYE_CFG (n / 9)) F.LG_EYE_CFG_LANE == n % 9)

/-! ### PRBS (R296) -/

/-- Whether lane `l` of a group exists for its tests: the spare of a PCI Express group is powered down (R17, R297). -/
def State.laneThere (s : State) (g l : Nat) : Bool := l != 8 || s.flag (R.LG_CFG g) F.LG_CFG_MODE

/-- Whether a lane sends and checks a PRBS: in a PRBS mode, or as the free spare in NORMAL (R296, R297). -/
def State.prbsOn (s : State) (g l : Nat) : Bool :=
  let m := s.laneMode (9 * g + l)
  s.laneThere g l && ((1 ≤ m && m ≤ 4) || (l == 8 && m == 0 && !s.spareHeld g))

/-- What a test mode makes of a lane's transmitter and receiver (R296). -/
def modeName : Nat → String
  | 0 => "NORMAL" | 1 => "PRBS7, x^7+x^6+1" | 2 => "PRBS15, x^15+x^14+1" | 3 => "PRBS23, x^23+x^18+1" | 4 => "PRBS31, x^31+x^28+1"
  | 5 => "NEAR_LB: looped to its own receiver, pads idle" | 6 => "FAR_LB: receive data retransmitted, PCS bypassed"
  | _ => "reserved"

/-- A write has changed MODE or INJ_RATE: the checker starts anew, and the lane is driven so (R296). -/
def State.modeSet (s : State) (g l : Nat) : State :=
  ((s.setFld (R.LG_TEST g l) F.LG_TEST_LOCK 0).laneOut (9 * g + l) (modeName (s.laneMode (9 * g + l)))).emit
    (.pin "inject one bit in 2^(k+9), k" (9 * g + l) (s.fld (R.LG_TEST g l) F.LG_TEST_INJ_RATE != 0))

/-- A write that sets INJ has been taken in: one transmitted bit is inverted, whatever the lane sends (R296). -/
def State.prbsInj (s : State) (g l : Nat) : State :=
  if s.laneThere g l then s.laneOut (9 * g + l) "invert one bit" else s

/-- PRBS_CHECKER_LOCK: 64 error-free bits (R296). -/
def State.doPrbsLock (s : State) (g l : Nat) : State :=
  if s.prbsOn g l then s.setFld (R.LG_TEST g l) F.LG_TEST_LOCK 1 else s

/-- PRBS_CHECKER_UNLOCK: 8 errors within 64 bits; `errors` errored bits were counted while the checker was locked
(R296). -/
def State.doPrbsUnlock (s : State) (g l errors : Nat) : State :=
  if s.flag (R.LG_TEST g l) F.LG_TEST_LOCK then
    (s.setFld (R.LG_TEST g l) F.LG_TEST_LOCK 0).count (R.LG_PRBS_ERR g l) errors
  else s

/-! ### Power (R298, R299) -/

/-- Every lane of a group returns to NORMAL, its transmitters to electrical idle, but for the lanes of port `keep`
(R298). -/
def State.groupIdle (s : State) (g : Nat) (keep : Option Nat := none) : State :=
  ((List.range 9).filter fun l => keep.isNone || s.portAt g l != keep).foldl (init := s) fun s l =>
    let s1 := (s.setFld (R.LG_TEST g l) F.LG_TEST_MODE 0).setFld (R.LG_TEST g l) F.LG_TEST_LOCK 0
    s1.laneOut (9 * g + l) "idle"

end Sys2Proof.Machine
end

