-- ==== Sys2Proof/Machine/Scango.lean ====
section
/-! DEFINITION. SGL (09_scango_link.md): flits sent and received, replay, credits, the crema channel, link
initialisation, lane swaps, retrain and link-down, with the salvage of R144. -/

namespace Sys2Proof.Machine

/-! ### Registers of a link -/

/-- Key of a register of a link's SGL instance (R276). -/
def State.sk (s : State) (p : Nat) (f : Nat → Nat → Nat) : Nat :=
  match s.port p with | some i => if i.scango then f i.group i.inst else 2 ^ 40 | none => 2 ^ 40

/-- Key of SGLgg_CRED of pool `q` (R276). -/
def State.credKey (s : State) (p q : Nat) : Nat := s.sk p fun g i => R.SGL_CRED g i q

/-- A field of SGLgg_CFG. -/
def State.sglCfg (s : State) (p : Nat) (f : Fld) : Nat := s.fld (s.sk p R.SGL_CFG) f

/-- ADMIN_UP. -/
def State.adminUp (s : State) (p : Nat) : Bool := s.sglCfg p F.SGL_CFG_ADMIN_UP == 1

/-- What a link is to the flits that it receives: a retrain keeps the state that it returns to (R270). -/
def SglSt.phase (x : SglSt) : Nat := if x.st = 4 then x.back else x.st

/-- Changes the state of a link. -/
def State.modSgl (s : State) (p : Nat) (f : SglSt → SglSt) : State := s.setSgl p (f (s.sglOf p))

/-- A partner violation (R274). -/
def State.violation (s : State) (p : Nat) (k : FaultKind) : State := (s.cntSgl p 10).raise k p

/-! ### Lane swaps (R267 to R269) -/

/-- Ends a swap in progress: GO of SGLgg_SWAP_CMD reads 0 again, RESULT where the swap has one. -/
def State.swapEnd (s : State) (p : Nat) (result : Option Nat) : State :=
  let k := s.sk p R.SGL_SWAP_CMD
  let s1 := s.modSgl p fun x => { x with swap := { x.swap with rxPending := none } }
  let s2 := if s1.flag k F.SGL_SWAP_CMD_GO then s1.setFld k F.SGL_SWAP_CMD_GO 0 else s1
  match result with | some r => s2.setFld k F.SGL_SWAP_CMD_RESULT r | none => s2

/-- A swap in progress in either direction is abandoned: a retrain or a link-down (R269). -/
def State.swapAbandon (s : State) (p : Nat) : State :=
  let x := s.sglOf p
  let s1 := if x.swap.rxPending.isSome then s.swapEnd p none else s
  if x.swap.txBoth then s1.modSgl p fun x => { x with swap := { x.swap with tx := none, txBoth := false } } else s1

/-- Requests a swap of a receive lane: LANE_SWAP goes out (R268 step 1). -/
def State.swapRequest (s : State) (p lane why : Nat) : State :=
  let x := s.sglOf p
  s.setSgl p { x with
    swap := { x.swap with rxPending := some (lane, why) }, swapSince := s.now
    linkMsgs := if x.st = 3 then x.linkMsgs ++ [crema ([0x05] ++ beBytes 1 lane)] else x.linkMsgs }

/-- Whether the receiver may ask for a swap of a lane on its own (R266, R267). -/
def State.swapFree (s : State) (p lane : Nat) : Bool :=
  let x := s.sglOf p
  x.st == 3 && s.sglCfg p F.SGL_CFG_SWAP_EN == 1 && x.swap.rx.isNone && x.swap.rxPending.isNone && s.ownsSpare p lane
    && decide (lane < s.width p) && !s.lgBit F.LG_BRINGUP_FAILED (s.spareOf p lane) && !s.laneRetired (s.spareOf p lane)

/-- A swap needs the spare: it leaves any test mode (R297). -/
def State.spareNormal (s : State) (sp : Nat) : State :=
  let k := R.LG_TEST (sp / 9) 8
  if s.laneMode sp = 0 then s
  else ((s.setFld k F.LG_TEST_MODE 0).setFld k F.LG_TEST_LOCK 0).setFld k F.LG_TEST_PREEMPTED 1

/-- LANE_SWAP at the partner: the lane's bytes go out on the spare as well, or the request is refused (R264, R268). A retrain
has abandoned it (R269). The spare leaves any test mode (R297). -/
def State.laneSwapIn (s : State) (p lane : Nat) : State :=
  let x := s.sglOf p
  if x.st = 4 then s else
  let sp := s.spareOf p lane
  let r := if lane ≥ s.width p then 3 else if x.swap.tx.isSome then 2
    else if !s.ownsSpare p lane ∨ s.laneRetired sp then 1 else 0
  let s1 := if r = 3 then s.cntSgl p 10 else s
  let s2 := if r = 0 then
      ((s1.spareNormal sp).modSgl p fun x => { x with swap := { x.swap with tx := some lane, txBoth := true } }).laneOut sp "lane and spare"
    else s1
  s2.modSgl p fun x => { x with linkMsgs := x.linkMsgs ++ [crema ([0x06] ++ beBytes 1 lane ++ beBytes 1 r)] }

/-- LANE_SWAP_DONE at the transmitter: the lane is driven no longer (R268 step 4). The swap counts against the lane
(R494). -/
def State.laneSwapDoneIn (s : State) (p lane : Nat) : State :=
  let x := s.sglOf p
  if x.swap.txBoth ∧ x.swap.tx = some lane then
    let n := s.laneOf p lane
    let s1 := (s.modSgl p fun x => { x with swap := { x.swap with txBoth := false } }).laneOut n "idle"
    let s2 : State := { s1 with lg := { s1.lg with events := s1.lg.events ++ [(n, 0, s.now)] } }
    (s2.raise Flt.SGL_LANE_SWAP p).cntSgl p 8
  else s

/-! ### Retrain (R270) -/

/-- The link enters RETRAIN: its lanes send the retrain pattern and repeat the steps from 3 on, the slip search from the
present POS; FSNs, replay buffer, credits and a swap held are kept (R270, R283, R288). -/
def State.retrain (s : State) (p : Nat) : State :=
  let x := s.sglOf p
  if x.st = 2 ∨ x.st = 3 then
    let s1 := s.swapAbandon p
    let s2 := s1.modSgl p fun x => {
      x with
      st := 4, back := x.st, retrainSince := s.now, goodRun := 0
      retrains := (x.retrains.filter fun t => s.now - t < 1000000000) ++ [s.now] }
    let s3 := (s.upLanes p ++ s.upSpares p).foldl (init := s2) fun s n =>
      s.setLane n { s.lane n with adapted := false, locked := false, hit := false, slipAt := (s.lane n).pos }
    ((((s3.cntSgl p 6).raise Flt.SGL_RETRAIN p).emit (.link p "retrain")).setStep p 3).trainOut p 3 0
  else s

/-- RETRAIN_PATTERN: a receiver in UP that finds PATTERN in two consecutive block times on `lanes` of the port's lanes, at
least half of them, enters RETRAIN as well (R270, R283). -/
def State.doRetrainPattern (s : State) (p lanes : Nat) : State :=
  if s.isScango p ∧ (s.sglOf p).st = 3 ∧ 2 * lanes ≥ s.width p then s.retrain p else s

/-! ### Acknowledgement and replay (R253 to R255) -/

/-- Whether FSN `a` stands before FSN `b` in the window of a link. -/
def fsnBefore (a b : Nat) : Bool := (a + 4096 - b) % 4096 ≥ 2048

/-- Lane with at least three quarters of a link's corrections (R267). -/
def mainLane (t : Tbl Nat) : Option Nat :=
  let sum := t.foldl (fun n e => n + e.2) 0
  (t.find? fun e => e.2 > 0 && 4 * e.2 ≥ 3 * sum).map (·.1)

/-- A replay starts from the oldest flit not acknowledged; the ladder's third rung is reached with it (R255, R267, R270). The
timer restarts where it was what expired. The replay on return from a retrain reaches the rung where the retrain did not
already stand on it. -/
def State.startReplay (s : State) (p : Nat) (byTimer : Bool) (back : Bool := false) : State :=
  let x := s.sglOf p
  if x.buf = [] then s
  else
    let corr := if x.replayCnt = 0 then [] else x.corrR
    let max := s.sglCfg p F.SGL_CFG_REPLAY_MAX
    let s1 := (s.setSgl p { x with
      replay := some x.buf.length, replayCnt := x.replayCnt + 1, timer := if byTimer then s.now else x.timer
      tmo := if byTimer then s.sglCfg p F.SGL_CFG_REPLAY_TMR else x.tmo, corrR := corr }).cntSgl p 4
    if x.replayCnt + 1 ≥ max ∧ !(back && decide (x.replayCnt ≥ max)) then
      match mainLane corr with
      | some l =>
        if s1.swapFree p l then s1.swapRequest p l 3
        else if x.swap.rxPending.any (·.1 == l) then s1 else s1.retrain p
      | none => s1.retrain p
    else s1

/-- REPLAY_TIMER. -/
def State.doReplayTimer (s : State) (p : Nat) : State :=
  let x := s.sglOf p
  if (x.st = 2 ∨ x.st = 3) ∧ x.buf ≠ [] ∧ s.now - x.timer ≥ x.tmo then s.startReplay p true else s

/-- Speed of a Scango link in MB/s (R73). -/
def scangoSpeed (rate lanes : Nat) : Nat := lanes * [32000, 64000, 128000].getD rate 0 * 236 / (8 * 256)

/-- INIT ends: the partner's five messages are in, and this side's are acknowledged; LINK_STAT records the partner (R265). -/
def State.tryUp (s : State) (p : Nat) : State :=
  let x := s.sglOf p
  let acked : Bool := match x.initFsn with | some n => fsnBefore n x.oldest | none => false
  if x.st = 2 ∧ [0, 6, 12, 18].all (x.gotInit.contains ·) ∧ x.gotParam ∧ acked then
    let k := s.sk p R.SGL_LINK_STAT
    let s1 := s.setSgl p { x with st := 3, fails := 0 }
    let s2 := (s1.setFld k F.SGL_LINK_STAT_PARTNER_FID x.partner.1).setFld k F.SGL_LINK_STAT_PARTNER_PORT x.partner.2
    s2.setRaw (R.XBC_PORT_SPEED p)
      (F.XBC_PORT_SPEED_SPEED.set (F.XBC_PORT_SPEED_UP.set 0 1) (scangoSpeed x.rateIdx (s.width p)))
  else s

/-- RETRAIN_DONE: the steps left have been gone through; 16 ALIGN_DONE blocks, the scramblers loaded; back to where the link
was, with a replay from OLDEST (R270, R281, R288; log entry 169). The replay timer starts anew with it (DESIGN CHOICE, log
entry 163). -/
def State.doRetrainDone (s : State) (p : Nat) : State :=
  let x := s.sglOf p
  if x.st = 4 then
    let sl := (s.upLanes p ++ s.upSpares p).foldl (init := s) fun s n =>
      if s.lgBit F.LG_BRINGUP_FAILED n then s
      else (s.setLane n { s.lane n with adapted := true, locked := true }).laneStat n F.LG_LANE_STAT_ADAPTED 1
    let s0 := (((sl.setStep p 7).trainOut p 2 16).setStep p 0).loadScr p
    let s1 := s0.setSgl p { s0.sglOf p with
      st := x.back, timer := s.now, tmo := s.sglCfg p F.SGL_CFG_REPLAY_TMR
      replayCnt := if x.buf.isEmpty then 0 else x.replayCnt }
    (s1.startReplay p true true).tryUp p
  else s

/-- An ACK value is received: it frees the flits it covers, or it is a violation (R253). True unless a violation. -/
def State.ackIn (s : State) (p a : Nat) : Bool × State :=
  let x := s.sglOf p
  let e := (a + 4096 + 1 - x.oldest) % 4096
  if e > x.buf.length then (false, (s.violation p Flt.SGL_PROTO).retrain p)
  else if e = 0 then (true, s)
  else
    let old := (x.oldest + e) % 4096
    let buf := x.buf.drop e
    let y := { x with
      oldest := old, buf := buf, timer := s.now, tmo := s.sglCfg p F.SGL_CFG_REPLAY_TMR, replayCnt := 0
      replay := (match x.replay with | some k => if min k buf.length = 0 then none else some (min k buf.length) | none => none)
      sent := x.sent.filter fun t => !fsnBefore t.last old }
    (true, (s.setSgl p y).tryUp p)

/-- ACK: a standalone ACK or NAK message (R254). -/
def State.ackMsgIn (s : State) (p a : Nat) (nak : Bool) : State :=
  match s.ackIn p a with
  | (true, s1) => if nak then s1.startReplay p false else s1
  | (false, s1) => s1

/-! ### Credits (R259, R260, R263) -/

/-- CREDIT_INIT: the partner's advertised values for six pools from `first` on (R260, R265). -/
def State.creditInitIn (s : State) (p first cc : Nat) (vals : List (Nat × Nat)) : State :=
  let x := s.sglOf p
  if x.phase ≠ 2 ∨ ¬ [0, 6, 12, 18].contains first then s
  else if vals.any fun v => v.1 > 2047 || v.2 > 32767 then (s.violation p Flt.SGL_FC_PROTO).retrain p
  else
    let put := fun (t : Tbl Pool) (j : Nat) =>
      let v := vals.getD j (0, 0)
      tput t (first + j) { (tget ({} : Pool) t (first + j)) with init := v.1, initD := v.2, cons := 0, consD := 0, cr := 0, crD := 0 }
    (s.setSgl p { x with
      pools := [0, 1, 2, 3, 4, 5].foldl put x.pools, gotInit := first :: x.gotInit, cc := cc, ccCons := 0, ccRet := 0 }).tryUp p

/-- CREDIT: cumulative returns for six pools, and for crema messages; a return beyond what was consumed is a violation
(R260, R263). -/
def State.creditIn (s : State) (p first cc : Nat) (vals : List (Nat × Nat)) : State :=
  let x := s.sglOf p
  if x.phase ≠ 3 ∧ x.phase ≠ 2 ∨ ¬ [0, 6, 12, 18].contains first then s
  else
    let bad := fun (j : Nat) =>
      let v := vals.getD j (0, 0)
      let q : Pool := tget {} x.pools (first + j)
      decide ((v.1 + 4096 - q.cr) % 4096 > (q.cons + 4096 - q.cr) % 4096
        ∨ (v.2 + 65536 - q.crD) % 65536 > (q.consD + 65536 - q.crD) % 65536)
    let badCc := decide ((cc + 256 - x.ccRet) % 256 > (x.ccCons + 256 - x.ccRet) % 256)
    if [0, 1, 2, 3, 4, 5].any bad ∨ badCc then (s.violation p Flt.SGL_FC_PROTO).retrain p
    else
      let put := fun (t : Tbl Pool) (j : Nat) =>
        let v := vals.getD j (0, 0)
        tput t (first + j) { (tget ({} : Pool) t (first + j)) with cr := v.1, crD := v.2 }
      s.setSgl p { x with pools := [0, 1, 2, 3, 4, 5].foldl put x.pools, ccRet := cc }

/-- LINK_PARAM: the partner's management FID and port number (R264, R265). -/
def State.linkParamIn (s : State) (p fid port : Nat) : State :=
  if (s.sglOf p).phase ≠ 2 then s
  else (s.modSgl p fun x => { x with gotParam := true, partner := (fid, port) }).tryUp p

/-- A swap that the part asked for itself is abandoned: the lane goes to the ladder of R270, whose third rung retrains
without a swap; a lane that has lost alignment takes the link down (R269, R271). A swap that the manager asked for just
ends. -/
def State.swapFailed (s : State) (p why : Nat) : State :=
  if why = 2 then s.addJob (.linkLost p) else if why = 0 then s else s.retrain p

/-- LANE_SWAP_ACK at the side that asked: the lane's bytes are taken from the spare and DONE goes out, or the swap is
abandoned (R268, R269). -/
def State.laneSwapAckIn (s : State) (p lane result fsn : Nat) : State :=
  let x := s.sglOf p
  match x.swap.rxPending with
  | none => s
  | some (l, why) =>
    if l ≠ lane then s
    else if result = 0 then
      let s1 := (s.swapEnd p (some 0)).spareNormal (s.spareOf p lane)
      (s1.modSgl p fun x => {
        x with
        swap := { x.swap with rx := some lane }
        linkMsgs := x.linkMsgs ++ [crema ([0x07] ++ beBytes 1 lane ++ [0, 0] ++ beBytes 2 (fsn % 4096))] }).laneOut
        (s.laneOf p lane) "from spare"
    else
      (s.swapEnd p (some (result % 8))).swapFailed p why

/-! ### The crema channel (R262, R263) -/

/-- FID that a routed message is addressed to (R145, R197, R203); LOCK_BREAK names none. -/
def State.cremaDst (s : State) (m : List Byte) : Option Nat :=
  match (m.headD 0).toNat with
  | 0x08 => some (beAt m 2 2 % 4096)
  | 0x09 => some (beAt m 4 2 % 4096)
  | 0x0A => some s.arbFid
  | 0x0B => some (beAt m 2 2 % 4096)
  | 0x0C => some s.arbFid
  | _ => none

/-- A record from a PWF_NOTE (R197, R198). -/
def noteOf (m : List Byte) : Pwf :=
  let ps := beAt m 24 4
  { cause := beAt m 1 1, tc := beAt m 6 1 % 8, remote := true, reqId := beAt m 20 2, dst := beAt m 2 2 % 4096,
    src := beAt m 4 2 % 4096, reporter := beAt m 22 2 % 4096, length := beAt m 10 2, seq := beAt m 8 2,
    offset := beAt m 12 7 % 2 ^ 52, pasid := if bitAt ps 31 then some (ps % 2 ^ 20) else none }

/-- Acts on a routed message whose destination is this device (R146, R198, R200 to R203). -/
def State.cremaAct (s : State) (m : List Byte) : State :=
  let o := beAt m 2 2 % 4096
  let t := beAt m 4 2 % 4096
  let id := beAt m 6 2
  match (m.headD 0).toNat with
  | 0x08 => s.seqSkip t o (beAt m 6 1 % 8) (beAt m 8 2)
  | 0x09 =>
    let f := noteOf m
    match s.fidIndex f.src with
    | none => s
    | some i => if s.dct.quiet then s.abandon (if i < 32 then i else 32) 2 f.cause f else s.pwfRecord (s.ownerVs i) f
  | 0x0A => s.lockReq o t
  | 0x0B => s.lockGranted o t id
  | 0x0C => s.lockRelease o t id
  | 0x0D => s.lockBreakIn o t id
  | _ => s

/-- Sends a LOCK_BREAK on towards the ends of its lock and the arbiter, from a device that is none of them (the message
names no destination: DESIGN CHOICE, log entry 24). -/
def State.breakOn (s : State) (m : List Byte) (arr : Nat) : State :=
  let fids := [beAt m 2 2 % 4096, beAt m 4 2 % 4096, s.arbFid]
  if fids.any s.ownFid then s
  else
    let links := (fids.filterMap s.cremaLink).eraseDups.filter fun l => l ≠ arr
    links.foldl (fun s l => s.putCrema l m none) s

/-- A routed message arrives on a link: consumed here or passed on; its crema credit returns when it leaves this link's
receive queue (R263). -/
def State.routedIn (s : State) (p : Nat) (m : List Byte) : State :=
  let x := s.sglOf p
  if x.phase ≠ 3 then s
  else if x.ccIn ≥ 16 then ((s.violation p Flt.SGL_CC_OVERFLOW).cntSgl p 11)
  else
    let s1 := s.setSgl p { x with ccIn := x.ccIn + 1 }
    match s1.cremaDst m with
    | none => ((s1.cremaAct m).breakOn m p).returnCrema (some p)
    | some d =>
      if s1.ownFid d then (s1.cremaAct m).returnCrema (some p)
      else match s1.sendCrema d m (some p) with
      | (true, s2) => s2
      | (false, s2) =>
        let s3 := if m.headD 0 = 0x09 then s2.count (R.BRG_CNT 8) else s2
        s3.returnCrema (some p)

/-- The six pool values of a CREDIT or CREDIT_INIT message (R264). -/
def poolVals (m : List Byte) : List (Nat × Nat) :=
  [0, 1, 2, 3, 4, 5].map fun j => let w := beAt m (4 + 4 * j) 4; (bitsOf w 20 12, bitsOf w 4 16)

/-- One crema message of an accepted flit (R263, R264). -/
def State.cremaIn (s : State) (p : Nat) (m : List Byte) : State :=
  match (m.headD 0).toNat with
  | 0x00 => s
  | 0x01 => s.ackMsgIn p (beAt m 2 2 % 4096) (bitAt (beAt m 1 1) 0)
  | 0x02 => s.creditIn p (beAt m 1 1) (beAt m 2 1) (poolVals m)
  | 0x03 => s.creditInitIn p (beAt m 1 1) (beAt m 2 1) (poolVals m)
  | 0x04 => s.linkParamIn p (beAt m 2 2 % 4096) (beAt m 4 1 % 128)
  | 0x05 => s.laneSwapIn p (beAt m 1 1)
  | 0x06 => s.laneSwapAckIn p (beAt m 1 1) (beAt m 2 1) (beAt m 4 2 % 4096)
  | 0x07 => s.laneSwapDoneIn p (beAt m 1 1)
  | n => if n ≤ 0x0D then s.routedIn p m else (s.cntSgl p 11).cntSgl p 10

/-- The slots of a CREMA payload. -/
def slots : Nat → List Byte → List (List Byte)
  | 0, _ => []
  | n + 1, bs => bs.take 32 :: slots n (bs.drop 32)

/-! ### Packets received (R246, R247, R274) -/

/-- Whether a packet from a link has credit in its pool (R258, R260). -/
def State.rxCredit (s : State) (p pool data : Nat) : Bool :=
  let q : Pool := tget {} (s.sglOf p).pools pool
  let k := s.credKey p pool
  (q.used + 1 + 4096 - q.ret) % 4096 ≤ s.fld k F.SGL_CRED_ADV_HDR
    && (q.usedD + data + 65536 - q.retD) % 65536 ≤ s.fld k F.SGL_CRED_ADV_DATA

/-- A packet of a link reaches the buffer with its first payload bytes (R78, R127, R260). The lookup is asked for unless
the packet has already been ended. -/
def State.sglEnter (s : State) (p : Nat) (bytes : List Byte) (whole ended : Bool) : State :=
  let h := readHdr bytes
  let raw := 4 * bitsOf (beAt bytes 8 8) 54 10
  let need := ceilDiv (32 + raw) 64
  if !s.rxCredit p h.pool need then (s.violation p Flt.SGL_OVERFLOW).retrain p
  else
    let x := s.sglOf p
    let q : Pool := tget {} x.pools h.pool
    let q' : Pool := { q with used := (q.used + 1) % 4096, usedD := (q.usedD + need) % 65536 }
    let s1 := s.setSgl p { x with pools := tput x.pools h.pool q' }
    let e := s1.portEpoch p
    let smp : Sample := {
      metaWord := sampleMeta p h.tc e h.size (s.us % 65536) false, time := s.now, bytes := sampleBytes (bytes.take 64) 32 false }
    match h.badVer with
    | some (v, k) =>
      (((s1.smpCount p noPkt smp).returnCredits (.port p) h.pool need x.life).count (R.RTE_CNT 11)).raise Flt.RTE_HDR_BAD 0
        (atBits h.src 28 12 ||| atBits h.dst 16 12 ||| atBits v 14 2 ||| atBits k 10 4) h.tc
    | none =>
      let pk : Pkt := {
        ingress := .port p, acct := p, tc := h.tc, hdr := h, orig := h, hoff := 32, pool := h.pool, raw := bytes.take 64, whole := whole
        arrivedPoisoned := h.poison, arr := s.now, epoch := e, vh := s1.fidVh e h.src }
      let (i, s2) := s1.receive pk (bytes.drop 32)
      let s3 : State := if whole then s2 else { s2 with xbc := { s2.xbc with rxCur := tput s2.xbc.rxCur p i } }
      if ended then
        ({ s3 with xbc := { s3.xbc with jobs := s3.xbc.jobs.filter (· ≠ Job.enter i) } }).endPacket i
      else if bitAt (s3.cellOf (s3.pkt i) 0).side 1 then s3 else s3.smpCount p i smp

/-- Ends the packet that a link is receiving (R75, R247, R272). One of which fewer than 32 bytes have come consumes no credit
and returns none (DESIGN CHOICE, log entry 164). -/
def State.rxEnd (s : State) (p : Nat) : State :=
  let x := s.sglOf p
  let s1 := s.setSgl p { x with rx := [], rxLeft := 0 }
  match tfind s.xbc.rxCur p with
  | some i => s1.endPacket i
  | none => if x.rx.length ≥ 32 then s1.sglEnter p x.rx false true else s1

/-- Takes packet bytes in (R246): what is left of a packet goes on; a word that is not pad starts the next one. -/
def State.rxBytes (s : State) (p : Nat) : Nat → List Byte → State
  | 0, _ => s
  | n + 1, bs =>
    if bs = [] then s
    else
      let x := s.sglOf p
      if x.rx = [] ∧ x.rxLeft = 0 then
        if beAt bs 0 4 / 2 ^ 30 = 0 then
          if bs.all (· == 0) then s
          else (s.modSgl p fun x => { x with rxSkip := true }).violation p Flt.SGL_FRAMING
        else (s.modSgl p fun x => { x with rx := bs.take 4 }).rxBytes p n (bs.drop 4)
      else if x.rx ≠ [] ∧ x.rx.length < 16 then
        let rx := x.rx ++ bs.take (16 - x.rx.length)
        let rest := bs.drop (16 - x.rx.length)
        if rx.length < 16 then s.modSgl p fun x => { x with rx := rx }
        else
          let len := bitsOf (beAt rx 8 8) 54 10
          if len > 128 then
            (s.modSgl p fun x => { x with rx := [], rxLeft := 0, rxSkip := true }).violation p Flt.SGL_FRAMING
          else (s.modSgl p fun x => { x with rx := rx, rxLeft := 16 + 4 * len }).rxBytes p n rest
      else
        let k := if x.rx ≠ [] then min x.rxLeft (64 - x.rx.length) else x.rxLeft
        let now := bs.take k
        let left := x.rxLeft - now.length
        if x.rx ≠ [] then
          let rx := x.rx ++ now
          if left = 0 ∨ rx.length = 64 then
            ((s.modSgl p fun x => { x with rx := [], rxLeft := left }).sglEnter p rx (left == 0) false).rxBytes p n (bs.drop k)
          else s.modSgl p fun x => { x with rx := rx, rxLeft := left }
        else
          let s1 := s.modSgl p fun x => { x with rxLeft := left }
          let s2 := match tfind s1.xbc.rxCur p with
            | some i => s1.moreData i now (left == 0)
            | none => s1
          s2.rxBytes p n (bs.drop k)

/-- Bytes still to come of the packet that a link is receiving, counted from the start of a payload, which may bring the
part of the header that says how long it is (R246). -/
def SglSt.rxRest (x : SglSt) (pl : List Byte) : Nat :=
  if x.rx ≠ [] ∧ x.rx.length < 16 then
    let len := bitsOf (beAt (x.rx ++ pl.take (16 - x.rx.length)) 8 8) 54 10
    16 - x.rx.length + (if len > 128 then 0 else 16 + 4 * len)
  else x.rxLeft

/-- The payload of an accepted DATA or DATA_ABORT flit (R246, R247, R274). -/
def State.rxData (s : State) (p : Nat) (abort : Bool) (start : Nat) (pl : List Byte) : State :=
  let s0 := if abort then s.rxEnd p else s
  let x := s0.sglOf p
  let busy := x.rx ≠ [] ∨ x.rxLeft > 0
  let left := x.rxRest pl
  let s1 := s0.modSgl p fun x => { x with rxSkip := false }
  if busy then
    if start < 59 ∧ 4 * start < left then
      ((s0.violation p Flt.SGL_FRAMING).rxEnd p).rxBytes p 160 (pl.drop (4 * start))
    else s0.rxBytes p 160 pl
  else if start ≥ 59 then
    if abort ∨ x.rxSkip then s0 else s0.violation p Flt.SGL_FRAMING
  else s1.rxBytes p 160 (pl.drop (4 * start))

/-! ### FLIT_RECEIVE (R250 to R254, R265, R267) -/

/-- Counts the bytes that FEC corrected, by lane, and asks for a swap where a lane reaches SWAP_THR (R250, R267). The windows
of 1 ms start at multiples of 1 ms of device time (DESIGN CHOICE, log entry 165). -/
def State.corrections (s : State) (p : Nat) (fixed : List Nat) : State :=
  if fixed = [] then s
  else
    let w := max 1 (s.width p)
    let x := s.sglOf p
    let win := s.now / 1000000
    let c0 := if x.corrSince = win then x.corr else []
    let add := fun (t : Tbl Nat) (i : Nat) => tput t (i % w) (tget 0 t (i % w) + 1)
    let c := fixed.foldl add c0
    let s0 := fixed.foldl (init := s) fun s i =>
      let n := if x.swap.rx = some (i % w) then s.spareOf p (i % w) else s.laneOf p (i % w)
      s.setLane n { s.lane n with errs := (s.lane n).errs + 1 }
    let s1 := (s0.setSgl p { x with corr := c, corrSince := win, corrR := fixed.foldl add x.corrR }).cntSgl p 1 fixed.length
    match c.find? fun e => e.2 ≥ s.sglCfg p F.SGL_CFG_SWAP_THR && s1.swapFree p e.1 with
    | some (l, _) => s1.swapRequest p l 1
    | none => s1

/-- Messages with which a side starts its half of initialisation (R264, R265). -/
def State.initMsgs (s : State) (p : Nat) : List (List Byte) :=
  let pool := fun q : Nat =>
    beBytes 4 (atBits (s.fld (s.credKey p q) F.SGL_CRED_ADV_HDR) 20 12 ||| atBits (s.fld (s.credKey p q) F.SGL_CRED_ADV_DATA) 4 16)
  let ci := [0, 6, 12, 18].map fun f : Nat =>
    crema ([0x03] ++ beBytes 1 f ++ [16, 0] ++ (([0, 1, 2, 3, 4, 5].map fun j => pool (f + j)).flatten))
  let wd := if s.width p = 4 then 1 else if s.width p = 8 then 2 else 3
  let spare := s.ownsSpare p 0 && !s.laneRetired (s.spareOf p 0) && (s.sglOf p).swap.tx.isNone
  ci ++ [crema ([0x04, 0x01] ++ beBytes 2 s.mgmtFid ++ beBytes 1 p
    ++ beBytes 1 (atBits wd 6 2 ||| atBits (s.sglOf p).rateIdx 4 2 ||| b2n spare))]

/-- A flit that passes FEC and CRC counts towards the eight that start initialisation (R265 step 2). -/
def State.goodFlit (s : State) (p : Nat) : State :=
  let x := s.sglOf p
  let n := x.goodRun + 1
  if x.st = 2 ∧ n ≥ 8 ∧ !x.initSent then
    s.setSgl p { x with goodRun := n, initSent := true, linkMsgs := x.linkMsgs ++ s.initMsgs p }
  else s.setSgl p { x with goodRun := n }

/-- Whether R254 lets a NAK for the flit expected next go: none for the same EXP within half of REPLAY_TMR. -/
def State.nakOpen (s : State) (p : Nat) : Bool :=
  let x := s.sglOf p
  match x.nakFor with
  | some (e, t) => e != x.exp || decide (s.now - t ≥ s.sglCfg p F.SGL_CFG_REPLAY_TMR / 2)
  | none => true

/-- FLIT_RECEIVE. The flit is taken by its FSN whatever its ACK is (R252, R253). A NAK that may go out and has not when the
flit expected next is accepted is still owed; one that R254 holds back is no longer. -/
def State.doFlitReceive (s : State) (p : Nat) (raw : List Byte) : State :=
  let x := s.sglOf p
  if !s.isScango p ∨ (x.st ≠ 2 ∧ x.st ≠ 3) then s
  else match decodeFlit raw with
  | none =>
    let s1 := s.corrections p (flitFixes raw)
    ((s1.modSgl p fun x => { x with goodRun := 0, nakDue := true }).cntSgl p 2).violation p Flt.SGL_FLIT_BAD
  | some (f, fixed) =>
    let hd := beAt f 0 4
    let ty := bitsOf hd 30 2
    let fsn := bitsOf hd 18 12
    let s1 := (((s.ev 5 4 p 0).corrections p fixed).ackIn p (bitsOf hd 6 12)).2
    let s2 := s1.goodFlit p
    let y := s2.sglOf p
    let d := (fsn + 4096 - y.exp) % 4096
    if ty = 0 then
      if 1 ≤ d ∧ d < 512 then s2.setSgl p { y with nakDue := true } else s2
    else if y.phase = 2 ∧ ty ≠ 3 then (s2.violation p Flt.SGL_PROTO).retrain p
    else if d = 0 then
      let s3 := (s2.setSgl p { y with exp := (y.exp + 1) % 4096, nakDue := y.nakDue && s2.nakOpen p }).cntSgl p 0
      if ty = 3 then (slots 7 (f.drop 4)).foldl (fun s m => s.cremaIn p m) s3
      else s3.rxData p (ty == 2) (bitsOf hd 0 6) ((f.drop 4).take 236)
    else if d < 512 then s2.setSgl p { y with nakDue := true }
    else if d < 2048 then (s2.violation p Flt.SGL_PROTO).retrain p
    else
      let ack := ackMsg false 0
      (s2.setSgl p { y with linkMsgs := if y.linkMsgs.contains ack then y.linkMsgs else y.linkMsgs ++ [ack] }).cntSgl p 5

/-! ### FLIT_SEND (R245 to R247, R251, R253, R255, R262, R281) -/

/-- One step of the PRBS31 scrambler x^31 + x^28 + 1 (R281). -/
def prbs31 (r : Nat) : Nat := (2 * r) % 2 ^ 31 + (b2n (bitAt r 30) + b2n (bitAt r 27)) % 2

/-- `n` steps of the scrambler. -/
def prbs31N : Nat → Nat → Nat
  | 0, r => r
  | n + 1, r => prbs31N n (prbs31 r)

/-- What a transmitter puts into a DATA payload: bytes, the place of the first packet that begins (0x3F for none), the
packets left, and those that end with it. -/
structure Packed where
  payload : List Byte := []
  start : Nat := 0x3F
  rest : List TxPkt := []
  done : List TxPkt := []
  /-- A packet still arriving has not enough bytes yet to fill the flit. -/
  short : Bool := false

/-- Packs packets back to back into what is left of 236 bytes (R246). -/
def packTx (fsn : Nat) : List TxPkt → Packed → Packed
  | [], a => a
  | t :: ts, a =>
    let pos := a.payload.length
    if pos ≥ 236 then { a with rest := a.rest ++ (t :: ts) }
    else
      let now := t.bytes.take (236 - pos)
      let t' := { t with
        bytes := t.bytes.drop (236 - pos), started := true, first := if t.started then t.first else fsn }
      let a' := { a with
        payload := a.payload ++ now, start := if t.started ∨ a.start ≠ 0x3F then a.start else pos / 4 }
      if t'.bytes = [] ∧ !t.more then packTx fsn ts { a' with done := a'.done ++ [t'] }
      else if t'.bytes = [] ∧ a'.payload.length < 236 then { a' with short := true, rest := a'.rest ++ (t' :: ts) }
      else { a' with rest := a'.rest ++ (t' :: ts) }

/-- The next eight bits of a scrambler, most significant bit first, added to a byte (R281; log entry 142). -/
def scrByte (r : Nat) (b : Byte) : Byte :=
  b ^^^ BitVec.ofNat 8 ((List.range 8).foldl (fun a i => 2 * a + prbs31N (i + 1) r % 2) 0)

/-- Bytes of one lane through its scrambler. -/
def scrBytes : Nat → List Byte → List Byte
  | _, [] => []
  | r, b :: bs => scrByte r b :: scrBytes (prbs31N 8 r) bs

/-- Flit bytes of port lane `l` of a link of width `w`: byte i travels on lane i mod w (R249). -/
def laneBytes (w l : Nat) (bytes : List Byte) : List Byte :=
  (List.range (bytes.length / w)).map fun k => bytes.getD (k * w + l) 0

/-- Cuts the bytes of a lane into the PCS's 128-bit blocks (R279). -/
def pcsBlocks (bs : List Byte) : List (List Byte) :=
  (List.range ((bs.length + 15) / 16)).map fun k => (bs.drop (16 * k)).take 16

/-- Sends a flit: every flit carries the ACK of the last flit accepted (R253). Its bytes go to the port lanes, through their
scramblers, in 128-bit blocks (R249, R279, R281). The spare, after the port lanes, carries those of the lane that it stands
for, which is driven no longer once a swap is done (R268, R287). -/
def State.putFlit (s : State) (p : Nat) (bytes : List Byte) : State :=
  let w := max 1 (s.width p)
  let x := s.sglOf p
  let one := fun l : Nat => pcsBlocks (scrBytes (x.scr.getD l 0) (laneBytes w l bytes))
  let main := (List.range w).map fun l => if x.swap.tx = some l ∧ !x.swap.txBoth then [] else one l
  let lanes := main ++ match x.swap.tx with | some l => [one l] | none => []
  ((s.modSgl p fun x => { x with scr := x.scr.map (prbs31N (2048 / w)) }).emit (.flit p bytes)).emit (.blocks p lanes)

/-- The ACK value of a link: the FSN of the last flit accepted (R245). -/
def SglSt.ackVal (x : SglSt) : Nat := (x.exp + 4095) % 4096

/-- Puts a new sequenced flit in the replay buffer and sends it (R251, R255). -/
def State.sendSeq (s : State) (p ty start : Nat) (payload : List Byte) : State :=
  let x := s.sglOf p
  let b := mkFlit ty x.txFsn x.ackVal start payload
  let y := { x with
    txFsn := (x.txFsn + 1) % 4096, buf := x.buf ++ [{ fsn := x.txFsn, bytes := b, crema := ty == 3 }]
    timer := if x.buf = [] then s.now else x.timer, tmo := if x.buf = [] then s.sglCfg p F.SGL_CFG_REPLAY_TMR else x.tmo
    cremaRun := if ty = 3 then 0 else x.cremaRun + 1 }
  let s := s.eccFresh 0xE4 (512 * p + x.txFsn % 512)
  let s1 := if ty = 3 then (s.ev 5 2 p 0).slotDue p 1 236 else s.ev 5 1 p 0
  (s1.setSgl p y).putFlit p b

/-- Whether a NAK is due and may go out: none for the same EXP within half of REPLAY_TMR (R254). -/
def State.nakNow (s : State) (p : Nat) : Bool :=
  let x := s.sglOf p
  x.nakDue && (x.st == 3 || x.initSent) && s.nakOpen p

/-- The CREDIT messages due: one for each range that has an unreported return (R264). -/
def SglSt.creditMsgs (x : SglSt) : List (Nat × List Byte) :=
  let due := [0, 6, 12, 18].filter fun f : Nat => [0, 1, 2, 3, 4, 5].any fun j => (tget ({} : Pool) x.pools (f + j)).unrep
  let due' := if due = [] ∧ x.ccUnrep then [0] else due
  due'.map fun f : Nat => (f, crema ([0x02] ++ beBytes 1 f ++ beBytes 1 x.ccUsed ++ [0]
    ++ (([0, 1, 2, 3, 4, 5].map fun j =>
      let q : Pool := tget {} x.pools (f + j)
      beBytes 4 (atBits q.ret 20 12 ||| atBits q.retD 4 16)).flatten)))

/-- Sends a CREMA flit with up to seven messages: NAK, credit returns and other link messages, then routed ones as crema
credit allows; the credit that a routed message held on the link it came by returns (R262, R263). -/
def State.sendCremaFlit (s : State) (p : Nat) : State :=
  let x := s.sglOf p
  let nak := s.nakNow p
  let m0 : List (List Byte) := if nak then [ackMsg true x.ackVal] else []
  let cr := x.creditMsgs.take (7 - m0.length)
  let m1 := m0 ++ cr.map (·.2)
  let lm := x.linkMsgs.take (7 - m1.length)
  let fix := fun m : List Byte =>
    let t := (m.headD 0).toNat
    if t = 1 then ackMsg false x.ackVal
    else if t = 6 ∧ (m.getD 2 0) = 0 then m.take 4 ++ beBytes 2 ((x.txFsn + 1) % 4096) ++ m.drop 6 else m
  let m2 := m1 ++ lm.map fix
  let rt := x.routed.take (min (7 - m2.length) x.cremaFree)
  let msgs := m2 ++ rt.map (·.2)
  let firsts := cr.map (·.1)
  let pools := x.pools.map fun e => (e.1, if firsts.contains (e.1 / 6 * 6) then { e.2 with unrep := false } else e.2)
  let inits := lm.any fun m => m.headD 0 = 3 || m.headD 0 = 4
  let y := { x with
    nakFor := if nak then some (x.exp, s.now) else x.nakFor, nakDue := x.nakDue && !nak, pools := pools
    ccUnrep := x.ccUnrep && cr.isEmpty, linkMsgs := x.linkMsgs.drop lm.length, routed := x.routed.drop rt.length
    ccCons := (x.ccCons + rt.length) % 256, initFsn := if inits then some x.txFsn else x.initFsn }
  let s1 := s.setSgl p y
  let s2 := if nak then s1.cntSgl p 3 else s1
  let s3 := rt.foldl (fun s m => s.returnCrema m.1) s2
  s3.sendSeq p 3 0 msgs.flatten

/-- Whether a crema message can go out. -/
def State.cremaReady (s : State) (p : Nat) : Bool :=
  let x := s.sglOf p
  s.nakNow p || !x.linkMsgs.isEmpty || (x.st == 3 && !x.creditMsgs.isEmpty) || (!x.routed.isEmpty && x.cremaFree > 0)

/-- A packet ended before any of its bytes stood in a flit takes its credits back; it never existed on the link. -/
def SglSt.dropUnsent (x : SglSt) : SglSt :=
  (x.tx.filter fun t => t.abort && !t.started).foldl (init := { x with tx := x.tx.filter fun t => !(t.abort && !t.started) })
    fun x t =>
      let q : Pool := tget {} x.pools t.hdr.pool
      { x with pools := tput x.pools t.hdr.pool { q with cons := (q.cons + 4095) % 4096, consD := (q.consD + 65536 - t.hdr.credits) % 65536 } }

/-- Sends a DATA or DATA_ABORT flit if its bytes are there (R246, R247). -/
def State.sendData (s : State) (p : Nat) : Option State :=
  let x := s.sglOf p
  let abort := match x.tx with | t :: _ => t.abort | [] => false
  let tx := if abort then x.tx.drop 1 else x.tx
  if x.tx = [] then none
  else
    let a := packTx x.txFsn tx {}
    if a.short then none
    else
      let kept := a.done.map fun t => {
        pkt := s.pkt t.pkt, dest := (s.pkt t.pkt).dest t.dest, data := t.data, first := t.first, last := x.txFsn : SentPkt }
      some ((s.setSgl p { x with tx := a.rest, sent := x.sent ++ kept }).sendSeq p (if abort then 2 else 1) a.start a.payload)

/-- A flit of the replay buffer, sent again with its FSN, TYPE, START and payload; its ACK is current (R251, R253; log
entry 25). -/
def TxFlit.again (f : TxFlit) (ack : Nat) : List Byte :=
  let hd := beAt f.bytes 0 4
  mkFlit (bitsOf hd 30 2) f.fsn ack (bitsOf hd 0 6) ((f.bytes.drop 4).take 236)

end Sys2Proof.Machine
end

