-- ==== Sys2Proof/Machine/Link.lean ====
section
/-! DEFINITION. SGL, part two: FLIT_SEND, link-down with the salvage of R144, and the ladder of retries (R265 to R273);
the blind bring-up of a link's lanes (R284 to R289). -/

namespace Sys2Proof.Machine

/-! ### Salvage and link-down (R75, R144, R145, R193, R202, R272) -/

/-- FID and link of a locked path: whether a link stands on the way to a FID (R202). -/
def State.onWay (s : State) (p fid : Nat) : Bool :=
  let e := s.cfg.epoch
  s.rteValid e fid && !s.rteLocal e fid && [0, 1, 2, 3].any fun h => (s.hop e fid h).2 ≠ 0 && (s.bundle e (s.hop e fid h).1).contains p

/-- Locks whose path a link that went down stands on are broken (R202): this device knows of them as the first device or
as the last one. -/
def State.breakLocks (s : State) (p : Nat) : State :=
  let s1 := (s.brg.locks.filter fun e => (e.2.st == 1 || e.2.st == 2) && s.onWay p e.2.target).foldl
    (fun s e => s.lockBreak 2 e.2.owner e.2.target e.2.id) s
  (s1.brg.lockedPorts.filter fun e => s1.onWay p e.owner).foldl
    (fun s e => s.lockBreak 2 e.owner e.target (e.id.getD 0)) s1

/-- Salvage is on; while decanting SALVAGE_EN and SKIP_EN have no effect (R144, R152). -/
def State.salvOn (s : State) : Bool := s.flag R.RTE_CFG F.RTE_CFG_SALVAGE_EN && !s.decanting

/-- The SEQ_SKIP of a sequenced packet that could not be salvaged (R145). -/
def State.skipOut (s : State) (h : Hdr) : State :=
  if h.byp ∨ !s.flag R.RTE_CFG F.RTE_CFG_SKIP_EN ∨ s.decanting then s else (s.sendCrema h.dst (skipMsg h.dst h.src h.tc h.seq)).2

/-- A packet of the replay buffer stands in the shared buffer again, its destination held; its copy counts in no CMT flow
any more, and a poison that it was sent with has been accounted for (R105). -/
def State.restore (s : State) (t : SentPkt) : Nat × State :=
  let d : Dest := { t.dest with st := .held, counted := false }
  s.store { t.pkt with
    hdr := d.hdr, fab := {}, far := false, hoff := 32, chg := 0, acct := 129, whole := true, dests := [d], readers := 1
    relD := [], stall := none, own := true, lossHit := false, wl := []
    arrivedPoisoned := t.pkt.arrivedPoisoned || t.dest.hdr.poison } t.data

/-- A sent request whose tracker entry has been freed since has nobody left to answer. -/
def State.answered (s : State) (t : SentPkt) : Bool :=
  match t.pkt.trkOut with
  | some k => match tfind s.brg.trk k with
    | some x => x.inbound || x.tag != t.pkt.hdr.tag && x.myTag != t.dest.hdr.tag
    | none => true
  | none => false

/-- A packet that the link has sent, of which some flit is not acknowledged: salvaged, or undeliverable (R144). With
SALVAGE_EN 0, and while decanting, every such packet is undeliverable as link lost, and skipped (DESIGN CHOICE, log entry
159). -/
def State.salvage (s : State) (t : SentPkt) (whole : Bool) : State :=
  let h := t.dest.hdr
  let keep := whole && !h.byp && s.salvOn
  if !keep ∧ h.kind.isNp ∧ s.answered t then (s.count (R.RTE_CNT 11)).skipOut h
  else
    let (i, s1) := s.restore t
    let h' := { h with salv := true }
    if keep ∧ !s.unreachable t.pkt.epoch h' then
      let p := s1.pkt i
      ((s1.setPkt { p with hdr := h', dests := p.dests.map fun d => { d with hdr := h' } }).count (R.RTE_CNT 10)).fabRoute i 0
    else ((s1.count (R.RTE_CNT 11)).skipOut h).undeliverable i 0 5

/-- A packet that the link was still sending when it went down: its bytes are still in the buffer (R144). A flit of it that
cannot be read counts as acknowledged (R256). -/
def State.redo (s : State) (i d : Nat) (t : Option TxPkt) (oldest : Nat) (ecc : List Nat) : State :=
  let p := s.pkt i
  let h := (p.dest d).hdr
  let started := match t with | some x => x.started | none => true
  let first := match t with | some x => x.first | none => oldest
  let held := s.setPkt { p with dests := p.dests.set d { p.dest d with st := .held } }
  if !started then held.fabRoute i d
  else if !fsnBefore first oldest ∧ !(ecc.any fun f => !fsnBefore f first) ∧ !h.byp ∧ s.salvOn
      ∧ !s.unreachable p.epoch { h with salv := true } then
    ((held.setPkt { p with dests := p.dests.set d { p.dest d with st := .held, hdr := { h with salv := true } } }).count
      (R.RTE_CNT 10)).fabRoute i d
  else ((held.count (R.RTE_CNT 11)).skipOut h).undeliverable i d 5

/-- Routed messages of a link that went down: sent again on another link, or discarded (R272). -/
def State.cremaAgain (s : State) (p : Nat) (m : List Byte) (arr : Option Nat) : State :=
  let gone := fun s : State => (s.cntSgl p 11).returnCrema arr
  let dst := match s.cremaDst m with | some d => some d | none => some (beAt m 2 2 % 4096)
  match dst with
  | none => gone s
  | some d => match s.sendCrema d m arr with
    | (true, s1) => s1
    | (false, s1) => gone (if m.headD 0 = 0x09 then s1.count (R.BRG_CNT 8) else s1)

/-- Routed messages that came in on a link that goes down hold no credit any more (R272). -/
def State.noArrival (s : State) (p : Nat) : State :=
  { s with sgl := s.sgl.map fun e =>
      (e.1, { e.2 with routed := e.2.routed.map fun r => if r.1 = some p then (none, r.2) else r }) }

/-- The routed messages in the replay buffer's CREMA flits, but for flits that cannot be read (R256). -/
def SglSt.unackedCrema (x : SglSt) (ecc : List Nat) : List (List Byte) :=
  ((x.buf.filter fun f => f.crema && !ecc.contains f.fsn).map fun f => (slots 7 (f.bytes.drop 4)).filter fun m => 8 ≤ (m.headD 0).toNat ∧ (m.headD 0).toNat ≤ 0x0D).flatten

/-- Whether a flit of a link's replay buffer cannot be read; its 512 places are upset under `State.upsets` (R256). -/
def State.flitBad (s : State) (p f : Nat) : Bool := s.eccBad 0xE4 (512 * p + f % 512)

/-- A Scango link goes down (R272). `ecc` names flits of the replay buffer that cannot be read: they count as acknowledged
(R256). -/
def State.sglDown (s : State) (p : Nat) (ecc : List Nat := []) : State :=
  let x := s.sglOf p
  let ecc := ecc ++ (x.buf.map (·.fsn)).filter (s.flitBad p)
  let st := if s.adminUp p ∧ !s.portContained p then 0 else 6
  if x.st = 0 ∨ x.st = 6 then s.setSgl p { x with st := st }
  else if x.st = 1 then (s.setSgl p { x with st := st, downSince := s.now, fails := x.fails + 1 }).setStep p 0
  else
    let s0 := s.swapAbandon p
    let s1 := (s0.rxEnd p).setSgl p {
      st := st, life := x.life, rateIdx := x.rateIdx, fails := (if x.phase = 2 then x.fails + 1 else x.fails), downSince := s.now }
    let s2 := (((s1.setRaw (R.XBC_PORT_SPEED p) 0).setStep p 0).unpin p).noArrival p
    -- what it was sending
    let mine := s2.xbc.sending.filter fun y => y.link == p
    let s3 : State := { s2 with xbc := { s2.xbc with sending := s2.xbc.sending.filter fun y => y.link != p } }
    -- in the safe state the buffer's contents stand still (R86, R414)
    let s4 := if s.safe then s3 else mine.foldl (init := s3) fun s y =>
      match x.tx.find? fun t => t.pkt == y.pkt && t.dest == y.dest with
      | some t => if t.abort then s else s.redo y.pkt y.dest (some t) x.oldest ecc
      | none => s.sentWhole y.pkt y.dest p
    -- what it had sent and not seen acknowledged
    let bad := fun t : SentPkt => ecc.any fun f => !fsnBefore f t.first && !fsnBefore t.last f
    let s5 := x.sent.foldl (fun s t => s.salvage t (!fsnBefore t.first x.oldest && !bad t && !s.safe)) s4
    -- what stands in its queues
    let qs := (s5.tmg.queues.map (·.1)).filter fun q => q < 32768 && q / 256 == p || q == mgmtQueue p
    let s6 := if s.safe then s5 else qs.foldl (init := s5) fun s q => (s.queue q).mem.foldl (fun s m => (s.unq m.1 m.2).fabRoute m.1 m.2) s
    -- routed messages
    let salv := s6.salvOn
    let s7 := (x.unackedCrema ecc).foldl (fun s m => if salv then s.cremaAgain p m none else s.cntSgl p 11) s6
    let s8 := x.routed.foldl (fun s m => s.cremaAgain p m.2 (if m.1 = some p then none else m.1)) s7
    -- in the safe state BRG closes nothing and breaks no lock (R213)
    let s9 := if s.safe then s8 else s8.closeUnreachable.breakLocks p
    (s9.raise Flt.SGL_LINK_DOWN p).cntSgl p 7

/-! ### FLIT_SEND -/

/-- A check finds a cell wrong whose bytes would stand in the next flit: that of the link's port controller, or that of a cell
read after the header has left. The packet ends there (R87, R89). -/
def State.linkCheck (s : State) (p : Nat) : State :=
  match (s.sglOf p).tx.find? fun t => !t.abort with
  | none => s
  | some t =>
    let pk := s.pkt t.pkt
    let at_ := pk.hoff + t.data.length - t.bytes.length
    let late := match s.xbc.sending.find? fun y => y.link == p && y.pkt == t.pkt && y.dest == t.dest with | some y => y.chk | none => 0
    let hit := (List.range pk.ncells).filter fun k =>
      decide (at_ < 64 * k + 64 ∧ 64 * k < at_ + 236)
        && (k > 0 && s.upsets.contains (0xE6, 64 * p + k) || k ≥ late && (s.cellOf pk k).dataBad)
    if hit = [] then s
    else (hit.foldl (fun s k => (s.takeUpset 0xE6 (64 * p + k)).2) (s.raise Flt.XBC_DATA_PARITY)).endDests t.pkt [t.dest]

/-- An IDLE flit, with the FSN that the next sequenced flit will carry (R245). -/
def State.putIdle (s : State) (p : Nat) : State :=
  let x := s.sglOf p
  let fsn := match x.replay.bind fun k => x.buf[x.buf.length - k]? with | some f => f.fsn | none => x.txFsn
  (s.setSgl p { x with run := 0 }).putFlit p (mkFlit 0 fsn x.ackVal 0x3F [])

/-- FLIT_SEND: one IDLE flit at least in 1,024 (R521), else a replay first, then crema messages, then packets, else IDLE (R245,
R255, R262). Packets that only the room of
the replay buffer holds back do not count as waiting for the crema's share (DESIGN CHOICE, log entry 166). `bad` says that the flit
to be replayed has an uncorrectable error in the replay buffer (R256). -/
def State.doFlitSend (s : State) (p : Nat) (bad : Bool) : State :=
  let x0 := s.sglOf p
  if !s.isScango p ∨ (x0.st ≠ 2 ∧ x0.st ≠ 3) then s
  else
    let s := s.linkCheck p
    let y := (s.sglOf p).dropUnsent
    let x : SglSt := { y with run := y.run + 1 }
    let s := s.setSgl p x
    if x.run > 1023 then s.putIdle p
    else match x.replay with
    | some k =>
      match x.buf[x.buf.length - k]? with
      | none => s.setSgl p { x with replay := none }
      | some f =>
        if bad ∨ s.flitBad p f.fsn then (s.raise Flt.SGL_REPLAY_ECC p).sglDown p [f.fsn]
        else (((s.ev 5 3 p 0).slotDue p 1 236).setSgl p { x with replay := if k ≤ 1 then none else some (k - 1) }).putFlit p
          (f.again x.ackVal)
    | none =>
      let room := x.buf.length < 496
      let data := if room then s.sendData p else none
      if s.cremaReady p ∧ x.buf.length < 512 ∧ (x.cremaRun ≥ 3 ∨ data.isNone) then s.sendCremaFlit p
      else match data with
      | some s1 => s1
      | none => s.putIdle p

/-! ### Timeouts and commands of the link layer -/

/-- LINK_INIT_TIMEOUT: the link is not UP within 10 µs (R265 step 4). -/
def State.doInitTmo (s : State) (p : Nat) : State :=
  let x := s.sglOf p
  if x.st = 2 ∧ s.now - x.initSince ≥ 10000 then s.sglDown p else s

/-- RETRAIN_TIMEOUT: a retrain has taken 500 µs, or the last second has seen RETRAIN_MAX of them (R270 step 5). -/
def State.doRetrainTmo (s : State) (p : Nat) : State :=
  let x := s.sglOf p
  let n := (x.retrains.filter fun t => s.now - t < 1000000000).length
  if (x.st = 4 ∧ s.now - x.retrainSince ≥ 500000) ∨ ((x.st = 3 ∨ x.st = 4) ∧ n ≥ s.sglCfg p F.SGL_CFG_RETRAIN_MAX) then s.sglDown p
  else s

/-- LANE_SWAP_TIMEOUT: no acknowledgement within 50 µs (R269). -/
def State.doSwapTmo (s : State) (p : Nat) : State :=
  let x := s.sglOf p
  match x.swap.rxPending with
  | some (_, why) =>
    if s.now - x.swapSince ≥ 50000 then
      (s.swapEnd p (some 7)).swapFailed p why
    else s
  | none => s

/-- ALIGNMENT_LOSS: one lane, or two and more, lose alignment without the retrain pattern (R267, R271). -/
def State.doAlignLoss (s : State) (p lane : Nat) (more : Bool) : State :=
  let x := s.sglOf p
  if x.st ≠ 2 ∧ x.st ≠ 3 then s
  else if more then s.sglDown p
  -- a swapped lane is out of service; one that is being swapped waits for the outcome
  else if x.swap.rx = some lane then s
  else if x.swap.rxPending.any (·.1 == lane) then s.setSgl p { x with swap := { x.swap with rxPending := some (lane, 2) } }
  else if s.swapFree p lane then s.swapRequest p lane 2
  else s.sglDown p

/-- A write that sets GO of SGLgg_SWAP_CMD has been taken in (R267). -/
def State.swapGo (s : State) (p : Nat) : State :=
  if (s.sglOf p).swap.rxPending.isSome then s else s.swapRequest p (s.fld (s.sk p R.SGL_SWAP_CMD) F.SGL_SWAP_CMD_LANE) 0

/-! ### Blind bring-up (R284 to R288) -/

/-- Whether a Scango link may start bring-up (R275, R284, R297, R373). -/
def State.mayBringUp (s : State) (p : Nat) : Bool :=
  s.isScango p && s.adminUp p && !s.safe && !s.portContained p && s.padsFree p && s.lanesNormal p

/-- Bring-up starts: the training stream goes out with the initial taps; a retired lane counts as failed (R284 step 1,
R494). MANUAL takes effect (R299). -/
def State.bringUp (s : State) (p : Nat) : State :=
  let all := s.upLanes p ++ s.upSpares p
  let s1 := all.foldl (init := s) fun s n =>
    let x := s.lane n
    let s' := s.setLane n { x with
      cdr := false, adapted := false, locked := false, pos := 0, hit := false, eqOk := false, rounds := 0, lost := false, slipAt := 0, skew := 0 }
    let s' := s'.laneStat n F.LG_LANE_STAT_ADAPTED 0
    let s' := ((s'.setLgBit F.LG_BRINGUP_CDR_LOCK n false).setLgBit F.LG_BRINGUP_BLOCK_LOCK n false).setLgBit
      F.LG_BRINGUP_FAILED n (s.laneRetired n)
    s'.initTaps n
  let s2 := if (s.upSpares p).isEmpty then s1 else (s.groupsOf p).foldl (init := s1) fun s g =>
    (s.setFld (R.LG_BRINGUP g) F.LG_BRINGUP_SPARE_USED 0).setFld (R.LG_BRINGUP g) F.LG_BRINGUP_SPARE_FOR 0
  let man := (s.groupsOf p).filter fun g => s.flag (R.LG_BRINGUP g) F.LG_BRINGUP_MANUAL
  ((s2.modSgl p fun x => { x with st := 1, manual := man }).setStep p 1).trainOut p 1 0

/-- The rate a link starts bring-up at: RATE, or the planner's cap under RATE_AUTO (R491). -/
def State.startRate (s : State) (p : Nat) : Nat :=
  let r := s.sglCfg p F.SGL_CFG_RATE
  let k := R.AGE_RATE_PLAN p
  if s.flag R.AGE_CFG F.AGE_CFG_RATE_AUTO ∧ s.flag k F.AGE_RATE_PLAN_VALID then min r (s.fld k F.AGE_RATE_PLAN_PLAN) else r

/-- BRINGUP_RETRY: every 10 ms while down; a rate lower after three failures (R273). -/
def State.doBringupRetry (s : State) (p : Nat) : State :=
  let x := s.sglOf p
  if x.st = 0 ∧ s.mayBringUp p ∧ s.now - x.downSince ≥ 10000000 then
    let low := decide (x.fails ≥ 3) && s.sglCfg p F.SGL_CFG_FALLBACK_EN == 1 && decide (x.rateIdx > 0)
    let r := if low then x.rateIdx - 1 else x.rateIdx
    let cap := if s.flag R.AGE_CFG F.AGE_CFG_RATE_AUTO ∧ s.flag (R.AGE_RATE_PLAN p) F.AGE_RATE_PLAN_VALID then
      min r (s.fld (R.AGE_RATE_PLAN p) F.AGE_RATE_PLAN_PLAN) else r
    (s.setSgl p { x with rateIdx := cap, fails := if low then 0 else x.fails }).bringUp p
  else s

/-- A link that may come up starts bring-up at its RATE: at power-up, and when ADMIN_UP is written from 0 to 1 (R273). -/
def State.sglStart (s : State) (p : Nat) : State :=
  let x := s.sglOf p
  if (x.st = 0 ∨ x.st = 6) ∧ s.adminUp p ∧ !s.portContained p then
    let s1 := s.setSgl p { x with st := 0, rateIdx := s.startRate p, fails := 0, downSince := s.now }
    if s1.mayBringUp p then s1.bringUp p else s1
  else s

/-- Lanes of a port's bring-up that have failed. -/
def State.failedLanes (s : State) (p : Nat) : List Nat := (s.upLanes p).filter (s.lgBit F.LG_BRINGUP_FAILED)

/-- Ends a bring-up attempt: the lanes that overran are recorded and the link layer tries again (R284). -/
def State.failAttempt (s : State) (p : Nat) (lanes : List Nat) : State :=
  let s1 := lanes.foldl (fun s n => (s.setLgBit F.LG_BRINGUP_FAILED n true).raise Flt.LG_ALIGN_FAIL n) s
  s1.sglDown p

/-- The lane of a bring-up that the spare replaces, if the spare can: one failed lane, and its group's spare has not
failed (R287). -/
def State.replaced (s : State) (p : Nat) : Option (Option Nat) :=
  match s.failedLanes p with
  | [] => some none
  | [n] =>
    let sp := n / 9 * 9 + 8
    if (s.upSpares p).contains sp ∧ !s.lgBit F.LG_BRINGUP_FAILED sp then some (some n) else none
  | _ => none

/-- Lanes whose bytes the link will carry: those not failed, and the spare in place of one; in a retrain the assignment in
force stands (R288). -/
def State.liveLanes (s : State) (p : Nat) : List Nat :=
  let x := s.sglOf p
  if x.st = 4 then
    match x.swap.rx with
    | some l => ((s.upLanes p).filter (· ≠ s.laneOf p l)) ++ [s.spareOf p l]
    | none => s.upLanes p
  else
    let ok := (s.upLanes p).filter fun n => !s.lgBit F.LG_BRINGUP_FAILED n
    match s.replaced p with | some (some n) => ok ++ [n / 9 * 9 + 8] | _ => ok

/-- Goes to a step, the training blocks showing what has been reached. -/
def State.toStep (s : State) (p step : Nat) : State := (s.setStep p step).trainOut p (s.sglOf p).trainType 0

/-- Whether the lanes that a link will carry stand in order, or all of them in reverse order (R284 step 5). -/
def State.inOrder (s : State) (p : Nat) (rev : Bool) : Bool := (s.liveLanes p).all fun n => s.laneInOrder p n rev

/-- Whether the lanes that a link will carry stand within the 16 ns that deskew can take up, and a lane more than that behind
the earliest (R284 step 5). -/
def State.skewed (s : State) (p n : Nat) : Bool :=
  (s.liveLanes p).any fun k => decide ((s.lane n).skew > (s.lane k).skew + 16000)

/-- Moves a bring-up on when every lane that counts has finished its step (R284): 2 CDR, 3 adaptation, 4 slip search,
5 deskew, the check of the lane order and the spare's assignment, 6 equalisation. Lanes in reverse order are reversed (R282).
A retrain goes through the steps 3, 4, 5 and 7 (R288). -/
def State.stepOn (s : State) (p : Nat) : State :=
  let x := s.sglOf p
  if x.st ≠ 1 ∧ x.st ≠ 4 then s
  else match if x.st = 4 then some none else s.replaced p with
  | none => s.failAttempt p (s.failedLanes p)
  | some rep =>
    let live := s.liveLanes p
    let all := fun f : LaneSt → Bool => live.all fun n => f (s.lane n)
    if x.bstep = 2 ∧ all (·.cdr) then s.toStep p 3
    else if x.bstep = 3 ∧ all (·.adapted) then s.toStep p 4
    else if x.bstep = 4 ∧ all (·.locked) then
      if (s.inOrder p false || s.inOrder p true) && !live.any (s.skewed p) then
        let s1 := match rep with
          | some n =>
            let k := R.LG_BRINGUP (n / 9)
            (s.setFld k F.LG_BRINGUP_SPARE_USED 1).setFld k F.LG_BRINGUP_SPARE_FOR (s.portLane p (n / 9) (n % 9))
          | none => s
        (s1.setSgl p { s1.sglOf p with rev := !s.inOrder p false }).toStep p (if x.st = 4 then 7 else 6)
      else s.toStep p 5
    else if x.bstep = 6 ∧ all (·.eqOk) then s.toStep p 7
    else s

/-- The Scango port in bring-up, or in a retrain, that a lane, or a spare, belongs to. -/
def State.upPortAt (s : State) (g l : Nat) : Option Nat :=
  (s.portsOn g).find? fun p => s.isScango p && ((s.sglOf p).st == 1 || (s.sglOf p).st == 4)
    && ((s.upLanes p).contains (9 * g + l) || (s.upSpares p).contains (9 * g + l))

/-- CDR_LOCK (R284 step 2). The first one shows that the signal is present (DESIGN CHOICE, log entry 168). -/
def State.doCdrLock (s : State) (g l : Nat) : State :=
  let n := 9 * g + l
  -- a lane that has lost its lock while up locks again (R292)
  let s := if (s.lane n).lost then (s.setLane n { s.lane n with lost := false }).setLgBit F.LG_BRINGUP_CDR_LOCK n true else s
  match s.upPortAt g l with
  | some p =>
    if s.lgBit F.LG_BRINGUP_FAILED n ∨ (s.sglOf p).st = 4 then s
    else
      let s0 := if (s.sglOf p).bstep = 1 then s.setStep p 2 else s
      let s1 := (s0.setLane n { s.lane n with cdr := true }).setLgBit F.LG_BRINGUP_CDR_LOCK n true
      -- steps follow on at once where a lane was the last of two steps
      ((s1.trainLaneOut p 1 0 n).stepOn p).stepOn p
  | none => s

/-- ADAPTED (R284 step 3). -/
def State.doAdapted (s : State) (g l : Nat) (coef : List Int) : State :=
  let n := 9 * g + l
  match s.upPortAt g l with
  | some p =>
    if (s.lane n).cdr ∧ !s.lgBit F.LG_BRINGUP_FAILED n then
      let s1 := (s.setLane n { s.lane n with adapted := true, coef := coef }).laneStat n F.LG_LANE_STAT_ADAPTED 1
      ((s1.trainLaneOut p (s.sglOf p).trainType 0 n).stepOn p).stepOn p
    else s
  | none => s

/-- BITSLIP_TRY: the four training periods of a slip position have passed; `o` is the block that was found three times,
64 blocks apart, no training block where there was no MATCH (R285), and how late it stands. A lane whose PATTERN arrives as
its complement is inverted (R282). Under MANUAL the engine does not search, and MATCH alone is reported (R286). The search of
a retrain begins at the present POS and goes on from position 0 behind the last one (R288; log entry 169). -/
def State.doBitslipTry (s : State) (g l : Nat) (o : SlipSeen) : State :=
  let blk := o.blk
  let n := 9 * g + l
  let hit := (trainIn blk).isSome
  match s.upPortAt g l with
  | none => s
  | some p =>
    let x := match trainIn blk with
      | some (b, inv) => { s.lane n with inv := inv, rxLane := beAt b 6 1, skew := o.skew } | none => s.lane n
    if !x.adapted ∨ x.locked ∨ s.lgBit F.LG_BRINGUP_FAILED n then s
    else if (s.sglOf p).manual.contains g then s.setLane n { x with hit := hit }
    else if hit then
      ((s.setLane n { x with hit := true, locked := true }).setLgBit F.LG_BRINGUP_BLOCK_LOCK n true).stepOn p
    else
      let step := if (s.sglOf p).rateIdx = 0 then 1 else 2
      let pos := (x.pos + step) % 128
      let s1 := s.setLgBit F.LG_BRINGUP_BLOCK_LOCK n false
      if pos = x.slipAt then (s1.setLgBit F.LG_BRINGUP_FAILED n true).stepOn p
      else s1.setLane n { x with pos := pos }

/-- BITSLIP_DONE: a write of DONE has been taken in; the lanes that match are locked, and bring-up goes on at step 5
(R286). -/
def State.bitslipDone (s : State) (g : Nat) : State :=
  let there := (s.portsOn g).filter fun p =>
    s.isScango p && ((s.sglOf p).st == 1 || (s.sglOf p).st == 4) && (s.sglOf p).bstep == 4 && (s.sglOf p).manual.contains g
  there.foldl (init := s) fun s p =>
    let s1 := (s.upLanes p ++ s.upSpares p).foldl (init := s) fun s n =>
      let x := s.lane n
      if n / 9 ≠ g then s
      else if x.hit then (s.setLane n { x with locked := true }).setLgBit F.LG_BRINGUP_BLOCK_LOCK n true
      else s.setLgBit F.LG_BRINGUP_FAILED n true
    s1.stepOn p

/-- A request of the partner for a lane's transmitter (R289, R290): Scango cursors, a PCI Express coefficient request, a
PCI Express preset. -/
def State.eqRequest (s : State) (n : Nat) : TxEqReq → State
  | .none => s
  | .scango pre post => s.reqTaps n pre post
  | .coef pre post => s.reqTaps n (pcieTap pre) (pcieTap post)
  | .preset k => s.presetTapsOn n k

/-- TXEQ_ROUND: a request round of a lane, of 10 µs at least, ends with the partner's request; `best` says that the lane is
satisfied (R289). -/
def State.doTxeqRound (s : State) (g l : Nat) (req : TxEqReq) (best : Bool) : State :=
  let n := 9 * g + l
  match s.upPortAt g l with
  | none =>
    match s.portAt g l with
    | some p =>
      -- the port reports its swing with every round (R290)
      if s.isPcie p ∧ s.eqRate p then (s.laneOut n "FS 63, LF 16").eqRequest n req else s
    | none => s
  | some p =>
    let x := s.lane n
    if (s.sglOf p).bstep ≠ 6 ∨ x.eqOk ∨ s.now - max x.roundAt (s.sglOf p).bsince < 10000 then s
    else
      let s1 := s.eqRequest n req
      let s2 := s1.setLane n { s1.lane n with roundAt := s.now, rounds := x.rounds + 1, eqOk := best || x.rounds + 1 ≥ 16 }
      (s2.trainLaneOut p 1 0 n).stepOn p

/-- BRINGUP_TIMEOUT: a step has overrun its bound; the lanes that have not finished it fail (R284, R286). A lane that fails
step 2, 3 or 4 of a bring-up may be replaced by the spare (R287). Without a CDR lock the command itself says that the signal
has been present (log entry 168). A step that overruns in a retrain takes the link down. -/
def State.doBringupTmo (s : State) (p : Nat) : State :=
  let x := s.sglOf p
  let bound := if x.bstep ≤ 2 then 100000 else if x.bstep = 3 then (if x.st = 4 then 200000 else 1000000)
    else if x.bstep = 4 then (if x.manual = [] then 200000 else 5000000) else if x.bstep = 5 then 50000 else if x.bstep = 6 then 500000 else 5000
  if (x.st ≠ 1 ∧ x.st ≠ 4) ∨ s.now - x.bsince < bound then s
  else
    let late := fun n : Nat =>
      let y := s.lane n
      if x.bstep ≤ 2 then !y.cdr else if x.bstep = 3 then !y.adapted else if x.bstep = 4 then !y.locked
      else if x.bstep = 5 then !s.laneInOrder p n false || s.skewed p n
      else if x.bstep = 6 then !y.eqOk else true
    if x.st = 1 ∧ x.bstep ≤ 4 then
      let slow := (s.upLanes p ++ s.upSpares p).filter fun n => late n && !s.lgBit F.LG_BRINGUP_FAILED n
      let s1 := slow.foldl (fun s n => s.setLgBit F.LG_BRINGUP_FAILED n true) (if x.bstep = 1 then s.setStep p 2 else s)
      match s1.replaced p with
      | some _ => s1.stepOn p
      | none => s1.failAttempt p slow
    else s.failAttempt p ((s.liveLanes p).filter late)

/-- The credits that a link may advertise (R259): by pool, header and data, with CLAMPED; none where NO_FIT. -/
def State.sglAdvert (s : State) (p : Nat) : Option (List (Nat × Nat × Nat) × Bool) :=
  let want := fun q : Nat => (s.fld (s.credKey p q) F.SGL_CRED_HDR, s.fld (s.credKey p q) F.SGL_CRED_DATA)
  let sum := fun t : Nat => (want t).2 + (want (8 + t)).2 + (want (16 + t)).2
  let hd := fun t : Nat => s.fld (R.XBC_ACCT p t) F.XBC_ACCT_HDRM
  let clamp := fun t : Nat => decide (sum t > hd t)
  let adv := (List.range 24).map fun q =>
    let t := q % 8
    (q, (want q).1, if clamp t then (want q).2 * hd t / sum t else (want q).2)
  if adv.any fun a => (want a.1).2 ≠ 0 ∧ a.2.2 < 9 ∧ clamp (a.1 % 8) then none
  else some (adv, (List.range 8).any clamp)

/-- The lanes are handed to the link layer: the advertisement is fixed and INIT begins, or the link stays down (R259,
R265 step 1). `tx` is the lane that the partner wants on the spare (R287). -/
def State.linkInit (s : State) (p : Nat) (tx : Option Nat) : State :=
  let k := s.sk p R.SGL_LINK_STAT
  let x := s.sglOf p
  let setAdv := fun (s : State) (q h d : Nat) =>
    (s.setFld (s.credKey p q) F.SGL_CRED_ADV_HDR h).setFld (s.credKey p q) F.SGL_CRED_ADV_DATA d
  match s.sglAdvert p with
  | none =>
    let s1 := (List.range 24).foldl (fun s q => setAdv s q 0 0) s
    let s2 := (s1.setFld k F.SGL_LINK_STAT_NO_FIT 1).setFld k F.SGL_LINK_STAT_CLAMPED 1
    (s2.setSgl p { x with st := 0, bstep := 0, downSince := s.now }).raise Flt.SGL_FC_NOFIT p
  | some (adv, clamped) =>
    let s1 := adv.foldl (fun s a => setAdv s a.1 a.2.1 a.2.2) s
    let s2 := (s1.setFld k F.SGL_LINK_STAT_NO_FIT 0).setFld k F.SGL_LINK_STAT_CLAMPED (b2n clamped)
    let rx := match s.replaced p with | some (some n) => some (s.portLane p (n / 9) (n % 9)) | _ => none
    (s2.setSgl p {
      st := 2, life := x.life + 1, rev := x.rev, manual := x.manual, rateIdx := x.rateIdx, fails := x.fails, initSince := s.now, downSince := x.downSince
      swap := { rx := rx, tx := tx } }).loadScr p

/-- ALIGN_DONE: eight training blocks have shown STATUS complete; the scramblers load and the link layer starts (R281,
R284 step 7). -/
def State.doAlignDone (s : State) (p : Nat) (tx : Option Nat) : State :=
  let x := s.sglOf p
  if s.isScango p ∧ x.st = 1 ∧ x.bstep = 7 then ((s.trainOut p 2 16).setStep p 0).linkInit p tx else s

end Sys2Proof.Machine
end

