-- ==== Sys2Proof/Machine/Faults.lean ====
section
/-! DEFINITION. FCR (15_faults_and_containment.md): capture, classification, reactions, containment, the safe state, and
the acknowledgement of records. -/

namespace Sys2Proof.Machine

/-! ### The unit of a fault (R400) -/

/-- Scope and number of the unit of a source (R400, R402): scope 0 device, 1 port, 2 virtual switch. -/
def State.faultUnit (s : State) (source : Nat) : Nat × Nat :=
  if source < 0x120 then match s.portAt (source / 9) (source % 9) with | some p => (1, p) | none => (0, 0)
  else if source < 0x1A0 then (1, source - 0x120)
  else if source < 0x220 then (1, source - 0x1A0)
  else if source < 0x240 then (2, source - 0x220)
  else if source < 0x260 then
    let k := R.SPC_ENABLE (source - 0x240)
    (1, s.fld k F.SPC_ENABLE_PORT)
  else (0, 0)

/-- Whether a fault is assigned to a source and KIND (R400, R401). -/
def faultKnown (source kind : Nat) : Bool := faultTable.any fun t => t.1 == faultId source kind

/-! ### Containment (R412, R413, R415) -/

/-- The unit that a containment acts on: an upstream port stands for its virtual switch (R412). -/
def State.normUnit (s : State) (u : Nat × Nat) : Nat × Nat := if u.1 = 1 ∧ s.role u.2 = 0 then (2, s.vsOf u.2) else u

/-- Whether a unit is contained. -/
def State.unitContained (s : State) (u : Nat × Nat) : Bool := if u.1 = 2 then s.vsContained u.2 else s.portContained u.2

/-- Marks a unit as contained, or no longer so. -/
def State.markUnit (s : State) (u : Nat × Nat) (on : Bool) : State :=
  if u.1 = 2 then
    let m := BitVec.ofNat 64 (2 ^ u.2)
    s.setRaw R.FCR_CONTAINED_VS (if on then s.raw R.FCR_CONTAINED_VS ||| m else s.raw R.FCR_CONTAINED_VS &&& ~~~m)
  else s.markContained u.2 on

/-- DPC by a software trigger at a downstream port (R240, R412). -/
def State.softDpc (s : State) (p : Nat) : State := s.dpcTrigger p 3

/-- What stands in the queues of a contained Scango link is removed by its kind, in queue order; a mirrored copy is
withdrawn (R105, R413). -/
def State.dropLink (s : State) (p : Nat) : State :=
  let qs := (s.tmg.queues.map (·.1)).filter fun q => q < 32768 && q / 256 == p
  qs.foldl (init := s) fun s q => (s.queue q).mem.foldl (init := s) fun s m =>
    let s1 := s.unq m.1 m.2
    if ((s.pkt m.1).dest m.2).rep.isSome then s1.copyFail m.1 m.2 2 else s1.undeliverable m.1 m.2 8

/-- The containment of a port or a virtual switch acts (R412, R413). -/
def State.containAct (s : State) (u : Nat × Nat) : State :=
  if u.1 = 2 then
    let v := u.2
    let downs := s.downPorts v
    let fresh := downs.filter fun p => !(s.pcpOf p).dpc
    let s0 : State := { s with fcr := { s.fcr with viaVs := s.fcr.viaVs ++ fresh } }
    let s1 := match s0.upPort v with
      | some p => (if (s0.pcpOf p).up then s0.linkDown p else s0.dropQueues p).emit (.link p "disable")
      | none => s0
    let s2 := downs.foldl State.softDpc s1
    ((s2.slicesOf v).foldl State.haltSlice s2).closeVs v
  else
    let p := u.2
    if s.isScango p then (s.dropLink p).sglDown p
    else if s.role p = 1 then
      (s.softDpc p).closeWhere (fun t => !t.inbound && t.ingress == .port p) State.dropTrk
    else if s.role p = 2 then
      let s1 := if (s.pcpOf p).up then s.linkDown p else (s.dropQueues p).closeEp p
      s1.emit (.link p "disable")
    else s

/-- Contains a unit; true where it already was (R412). In the safe state it is marked, and acts on leaving it (R415). -/
def State.contain (s : State) (u0 : Nat × Nat) : Bool × State :=
  let u := s.normUnit u0
  if s.unitContained u then (true, s)
  else
    let s1 := (s.markUnit u true).count (R.FCR_CNT 5)
    (false, if s1.safe then { s1 with fcr := { s1.fcr with deferred := s1.fcr.deferred ++ [u] } } else s1.containAct u)

/-- A PCI Express port may train again. -/
def State.trainAgain (s : State) (p : Nat) : State := if s.mayTrain p then s.emit (.link p "train") else s

/-- Lifts a containment that has acted (R412). -/
def State.releaseAct (s : State) (u : Nat × Nat) : State :=
  if u.1 = 2 then
    let v := u.2
    let mine := s.fcr.viaVs.filter fun p => s.vsOf p == v
    let s1 : State := { s with fcr := { s.fcr with viaVs := s.fcr.viaVs.filter fun p => s.vsOf p != v } }
    let s2 := mine.foldl State.doDpcRelease s1
    let s3 := match s2.upPort v with | some p => s2.trainAgain p | none => s2
    (s3.slicesOf v).foldl State.resumeSlice s3
  else if s.isScango u.2 then
    let s1 := s.modSgl u.2 fun x => { x with st := if s.adminUp u.2 then 0 else 6 }
    if s1.mayBringUp u.2 then s1.bringUp u.2 else s1
  else s.trainAgain u.2

/-- Releases a unit under FAULT_ACK; true where its containment was lifted. External downstream ports are released by
their host alone (R412, R419). -/
def State.releaseUnit (s : State) (u0 : Nat × Nat) : Bool × State :=
  let u := s.normUnit u0
  if u.1 = 0 ∨ (u.1 = 1 ∧ s.role u.2 = 1) ∨ !s.unitContained u then (false, s)
  else
    let s1 := s.markUnit u false
    if s1.fcr.deferred.contains u then
      (true, { s1 with fcr := { s1.fcr with deferred := s1.fcr.deferred.filter (· ≠ u) } })
    else (true, s1.releaseAct u)

/-! ### The safe state (R122, R213, R331, R414, R416) -/

/-- A PCI Express port is held in reset: to Detect, its packets left where they stand (R414, R86). -/
def State.safeHold (s : State) (p : Nat) : State :=
  let c := s.pcpOf p
  if !c.up then s
  else
    let s1 := (s.setPcp p { c with up := false, l1 := false, narrow := false }).setRaw (s.pk p R.PCP_LINK_STAT)
      (F.PCP_LINK_STAT_PM.set 0 7)
    let s2 : State := { s1.setRaw (R.XBC_PORT_SPEED p) 0 with
      xbc := { s1.xbc with sending := s1.xbc.sending.filter fun x => x.link ≠ p, rxCur := tdel s1.xbc.rxCur p } }
    ((s2.unpin p).cntPcp p 7).emit (.link p "Detect")

/-- MODE goes to LATCH (R405). -/
def State.setLatch (s : State) : State := s.setFld R.FCR_CFG F.FCR_CFG_MODE 1

/-- Entry to the safe state (R414). -/
def State.enterSafe (s : State) : State :=
  if s.safe then s
  else
    let mgr := s.upPort s.mgrVs
    let s1 := ({ s with fcr := { s.fcr with safe := true } }).count (R.FCR_CNT 6)
    let ports := (s1.cfg.ports.map (·.1)).filter fun p => some p ≠ mgr
    let s2 := ports.foldl (fun s p => if s.isScango p then s.sglDown p else s.safeHold p) s1
    let s3 := (List.range 32).foldl (fun s g => s.groupIdle g mgr) s2
    let s4 := (s3.dmv.slices.map (·.1)).foldl State.haltSlice s3
    s4.harvestSafe.setLatch

/-- A packet is removed on leaving the safe state: a write gets its record, a mirrored copy is withdrawn (R416). -/
def State.safeRemove (s : State) (i : Nat) : State :=
  if !s.hasPkt i then s
  else
    let p := s.pkt i
    let open_ := (List.range p.dests.length).filter fun d => (p.dest d).st != .done
    if p.group.isSome ∧ p.dests ≠ [] then open_.foldl (fun s d => s.copyFail i d 2) s
    else if p.hdr.kind = .mwr then
      let h := if p.far then p.fab else match p.dests with | d :: _ => d.fab.getD d.hdr | [] => p.waitHdr
      (s.pwfPkt p h 8).freePkt i
    else s.freePkt i

/-- Empties the buffer and every queue (R416 step 1). -/
def State.safeEmpty (s : State) : State :=
  let s1 : State := { s with
    tmg := { s.tmg with queues := s.tmg.queues.map fun e => (e.1, { e.2 with mem := [], wheel := none }) }
    rte := { s.rte with rsq := s.rte.rsq.map fun e => (e.1, { e.2 with slots := [], park := [], timer := none }) }
    pcp := s.pcp.map fun e => (e.1, { e.2 with hold := [] })
    xbc := { s.xbc with sending := [], jobs := [], refused := [], stalled := [], rxCur := [] } }
  (s1.xbc.pkts.map (·.1)).foldl State.safeRemove s1

/-- The exit rules of CMT, BRG and DMV (R122, R213, R331). A fence that still waits to be taken stays pending (DEDUCED, log
entry 147). -/
def State.safeExitRules (s : State) : State :=
  let s1 := s.mce.fences.foldl (init := s) fun s e =>
    (List.range e.2.reps.length).foldl (fun s r => if (e.2.reps.getD r {}).cause = 16 then s.setCause e.1 r 1 else s) s
  let s2 := s1.brg.trk.foldl (init := s1) fun s e => s.closeTrk e.1 (if e.2.inbound then 9 else 4) true
  let s3 := (s2.brg.locks.filter fun e => e.2.st == 1 || e.2.st == 2).foldl
    (fun s e => s.lockBreak 2 e.2.owner e.2.target e.2.id) s2
  let s4 := s3.brg.lockedPorts.foldl (fun s e => s.lockBreak 2 e.owner e.target (e.id.getD 0)) s3
  match s4.brg.arb with
  | some (o, t, i, _) => s4.lockBreak 2 o t i
  | none => s4

/-- Leaving the safe state by FAULT_ACK with EXIT_SAFE (R416). -/
def State.exitSafe (s : State) : State :=
  let s1 := s.safeEmpty.safeExitRules
  let s2 : State := { s1 with fcr := { s1.fcr with safe := false } }
  let def_ := s2.fcr.deferred
  let s3 := def_.foldl State.containAct { s2 with fcr := { s2.fcr with deferred := [] } }
  let s4 := (s3.cfg.ports.map (·.1)).foldl (init := s3) fun s p =>
    if s.isScango p then (if s.mayBringUp p ∧ (s.sglOf p).st = 0 then s.bringUp p else s)
    else if (s.pcpOf p).up then s else s.trainAgain p
  (s4.dmv.slices.map (·.1)).foldl State.resumeSlice s4

/-! ### Classification (R407, R408) -/

/-- W of a reaction register in ns. -/
def State.rxnLen (s : State) (f : Nat) : Nat :=
  let w := s.fld (R.FCR_RXN f) F.FCR_RXN_W
  w * [1000, 1000000, 1000000000].getD (s.fld (R.FCR_RXN f) F.FCR_RXN_W_UNIT) 0

/-- Closes the windows of an entry that have ended: none where the entry is freed (R408). -/
def CountEnt.closed (c : CountEnt) (now : Nat) : Option CountEnt :=
  if c.severe ∧ now - c.last ≥ c.len then none
  else if c.opened ∧ now - c.start ≥ c.len then (if c.severe then some { c with opened := false, n := 0 } else none)
  else some c

/-- COUNT_WINDOW_CLOSE: the windows that have ended close (R408). -/
def State.doWindowClose (s : State) : State :=
  { s with fcr := { s.fcr with counts := s.fcr.counts.filterMap (·.closed s.now) } }

/-- Counts a message in its pair's entry: the count and whether the entry is severe; none where no entry is free. -/
def State.countFault (s : State) (source f : Nat) : Option (Nat × Bool) × State :=
  let s := s.doWindowClose
  let n := s.fld (R.FCR_RXN f) F.FCR_RXN_N
  let len := s.rxnLen f
  let mine := fun c : CountEnt => c.source == source && c.fault == f
  match s.fcr.counts.find? mine with
  | some c =>
    let c1 := if c.opened then { c with n := c.n + 1, last := s.now } else
      { c with opened := true, start := s.now, len := len, n := 1, last := s.now }
    let c2 := { c1 with severe := c1.severe || c1.n ≥ n }
    (some (c2.n, c2.severe), { s with fcr := { s.fcr with counts := s.fcr.counts.map fun x => if mine x then c2 else x } })
  | none =>
    if s.fcr.counts.length ≥ 4096 then (none, s)
    else
      let c : CountEnt := { source := source, fault := f, start := s.now, len := len, n := 1, last := s.now, severe := decide (1 ≥ n) }
      (some (1, c.severe), { s with fcr := { s.fcr with counts := s.fcr.counts ++ [c] } })

/-- What FCR makes of a message: its level, and the bits ESCALATED, SEVERE and CAPPED, with the count. -/
structure Verdict where
  level : Nat := 0
  escalated : Bool := false
  severe : Bool := false
  capped : Bool := false
  n : Nat := 0
  deriving DecidableEq, Repr

/-- Whether a unit is the device, or the manager's own path, which is never contained (R407). -/
def State.ownPath (s : State) (u : Nat × Nat) : Bool :=
  u.1 == 0 || u == (2, s.mgrVs) || (u.1 == 1 && s.upPort s.mgrVs == some u.2)

/-- `applied_level` of R407; two faults have level L3 whatever their register holds (R493, R541). -/
def State.classify (s : State) (source f cls : Nat) (u : Nat × Nat) : Verdict × State :=
  let k := R.FCR_RXN f
  let lvl0 := if f = faultId (Flt.AGE_ENGINE_EXHAUSTED).source 0 ∨ f = faultId (Flt.DEV_THERM_CRIT).source 0 then 3
    else s.fld k F.FCR_RXN_LEVEL
  let (c, s1) := if s.flag k F.FCR_RXN_COUNT_EN then s.countFault source f else (some (0, false), s)
  let s2 := if c.isNone then s1.count (R.FCR_CNT 7) else s1
  let (n, sev) := c.getD (0, false)
  let lvl1 := if sev then max lvl0 (s2.fld k F.FCR_RXN_SEV_LEVEL) else lvl0
  let s3 := if sev then s2.count (R.FCR_CNT 4) else s2
  let esc := s3.flag k F.FCR_RXN_ESC_EN && cls != 0 && s3.fcr.pending.any fun r => r.cls == cls && r.unit == u
  let lvl2 := if esc then min (lvl1 + 1) 3 else lvl1
  let s4 := if esc then s3.count (R.FCR_CNT 3) else s3
  let cap := lvl2 == 2 && s4.ownPath u
  ({ level := if cap then 1 else lvl2, escalated := esc, severe := sev, capped := cap, n := n }, s4)

/-! ### Records (R405, R417, R418) -/

/-- A lost summary, its time left open until it is written (R417). -/
def lostSummary (first n : Nat) : List Byte :=
  leBytes 2 0x0F02 ++ [0, 0] ++ leBytes 4 first ++ leBytes 8 0 ++ leBytes 4 first ++ leBytes 4 n ++ leBytes 40 0

/-- Writes an FTR record that has room; a summary gets its time now. -/
def State.ftrWrite (s : State) (b : List Byte) : State :=
  let b' := if leAt b 0 2 = 0x0F02 then b.take 8 ++ leBytes 8 s.now ++ b.drop 16 else b
  let s1 := s.writeRecord .ftr b'
  if leAt b 0 2 = 0x0F02 then s1 else s1.count (R.FCR_CNT 1)

/-- Puts a record on the FTR, or in its queue, or loses it; a lost summary goes first once space has returned (R418). -/
def State.ftrPost (s : State) (b : List Byte) (seq : Nat) : State :=
  let sums := match s.fcr.lost with | some (f, n) => [lostSummary f n] | none => []
  if s.fcr.queue = [] ∧ s.ringRoom .ftr > sums.length then
    (sums.foldl State.ftrWrite { s with fcr := { s.fcr with lost := none } }).ftrWrite b
  else if s.fcr.queue.length + sums.length < 512 then
    { s with fcr := { s.fcr with queue := s.fcr.queue ++ sums ++ [b], lost := none } }
  else
    let s1 := (s.lose .ftr).count (R.FCR_CNT 2)
    match s.fcr.lost with
    | some (f, n) => { s1 with fcr := { s1.fcr with lost := some (f, n + 1) } }
    | none => ({ s1 with fcr := { s1.fcr with lost := some (seq, 1) } }).raise Flt.FCR_RING_LOST

/-- Writes the oldest FTR record that waits, if the ring has room (R418). -/
def State.ftrHeld (s : State) : State :=
  match s.fcr.queue with
  | [] => s
  | b :: rest =>
    if s.ringRoom .ftr > 0 then ({ s with fcr := { s.fcr with queue := rest } }).ftrWrite b else s

/-! ### FAULT_MESSAGE (R405 to R411) -/

/-- The virtual switch whose host owns the unit of a message: that of a port or virtual switch, and of the switch function
whose configuration space PCP_CFG_PARITY names (R404, R411). -/
def State.faultVs (s : State) (m : FaultIn) (u : Nat × Nat) : Option Nat :=
  let named := if bitsOf m.word 53 11 = (Flt.PCP_CFG_PARITY).source ∧ !m.forced then (1, m.word % 128) else u
  if named.1 = 2 then some named.2 else if named.1 = 1 ∧ s.role named.2 < 2 then some (s.vsOf named.2) else none

/-- L1: vector 1 fires, and a host other than the manager has an internal error logged (R411). -/
def State.interruptHost (s : State) (m : FaultIn) (u : Nat × Nat) : State :=
  let s1 := s.fire .ftr
  match s.faultVs m u with
  | some v => if v = s.mgrVs then s1 else s1.logAer (.dmv v) (if bitsOf m.word 46 2 = 0 then .corrInternal else .internal)
  | none => s1

/-- FCR takes one message (R405 to R417). -/
def State.takeFault (s : State) (m : FaultIn) : State :=
  let source := bitsOf m.word 53 11
  let kind := bitsOf m.word 48 5
  let cls := bitsOf m.word 46 2
  let f := faultId source kind
  let seq := s.fcr.seq
  let sk := R.FCR_STICKY (source / 64)
  let s1 := ({ s with fcr := { s.fcr with seq := (seq + 1) % 2 ^ 32 } }).count (R.FCR_CNT 0)
  let s2 := s1.setRaw sk (s1.raw sk ||| BitVec.ofNat 64 (2 ^ (source % 64)))
  let u := s2.faultUnit source
  let (v, s3) := s2.classify source f cls u
  let room := s3.fcr.pending.length < 1024
  let s4 : State := if v.level = 0 then s3
    else if room then
      { s3 with fcr := { s3.fcr with pending := s3.fcr.pending ++ [{ seq := seq, level := v.level, cls := cls, unit := u, source := source, fault := f }] } }
    else
      let s' := s3.setFld R.FCR_STAT F.FCR_STAT_PEND_OVF 1
      if s'.fcr.full then s' else ({ s' with fcr := { s'.fcr with full := true } }).raise Flt.FCR_PEND_OVF
  -- a level's reaction includes those of the levels below it, the manager's own path is never contained (R407, R410)
  let (already, s5) := if v.level ≥ 2 ∧ !s4.ownPath u then s4.contain u else (false, s4)
  let lv := v.level + 4 * b2n v.escalated + 8 * b2n v.severe + 16 * b2n m.forced + 32 * b2n (decide (v.level ≥ 1) && room)
    + 64 * b2n v.capped + 128 * b2n already
  let rec_ := leBytes 2 0x0F01 ++ leBytes 1 lv ++ [0] ++ leBytes 4 seq ++ leBytes 8 m.time ++ leBytes 8 m.word ++ leBytes 2 f
    ++ leBytes 2 (atBits u.1 14 2 ||| atBits u.2 0 7) ++ leBytes 2 (min v.n 0xFFFF) ++ leBytes 2 0 ++ leBytes 4 m.epoch
    ++ leBytes 28 0
  let s6 := if s5.flag R.FCR_CFG F.FCR_CFG_MODE then
      if s5.flag R.FCR_CFG F.FCR_CFG_FIRST_VALID then s5.setFld R.FCR_CFG F.FCR_CFG_FIRST_OVF 1
      else ((s5.setRaw R.FCR_FIRST (BitVec.ofNat 64 m.word)).setRaw R.FCR_FIRST_TIME (BitVec.ofNat 64 m.time)).setFld
        R.FCR_CFG F.FCR_CFG_FIRST_VALID 1
    else if m.quiet then s5 else s5.ftrPost rec_ seq
  let s7 := if v.level ≥ 1 then s6.interruptHost m u else s6
  if v.level = 3 then s7.enterSafe else s7

/-- Order of messages of one FAB cycle: SOURCE, detected before forced, KIND (R406, R421). -/
def FaultIn.order (m : FaultIn) : Nat := bitsOf m.word 53 11 * 64 + 32 * b2n m.forced + bitsOf m.word 48 5

/-- The message that FCR takes next, and those that still wait (R406). -/
def nextFault (l : List FaultIn) : Option (FaultIn × List FaultIn) :=
  match l with
  | [] => none
  | m :: _ =>
    match sortBy FaultIn.order (l.filter fun x => x.time == m.time) with
    | [] => none
    | x :: _ => some (x, l.erase x)

/-- FCR takes the next message that waits. -/
def State.faultNext (s : State) : State :=
  match nextFault s.fcr.inbox with
  | some (m, rest) => ({ s with fcr := { s.fcr with inbox := rest } }).takeFault m
  | none => s

/-- An engine stops for a fault of R402 with that KIND and waits for its spare (R402, R492). -/
def State.stopEngine (s : State) (e kind : Nat) : State :=
  if s.age.stopped.contains e ∨ bitAt (s.raw (R.AGE_EC_RETIRED (e / 64))).toNat (e % 64) then s
  else { s with age := { s.age with stopped := s.age.stopped ++ [e], stopWhy := tput s.age.stopWhy e kind } }

/-- An engine fault: EC_MEM_ECC and EC_WATCHDOG stop the engine, ROW_COR_MAX corrections within 24 h retire it (R402,
R493). -/
def State.engineFault (s : State) (e kind : Nat) : State :=
  if kind = 1 ∨ kind = 2 then s.stopEngine e kind
  else
    let ts := ((tget [] s.age.engCor e).filter fun t => s.now - t < 86400000000000) ++ [s.now]
    let s1 : State := { s with age := { s.age with engCor := tput s.age.engCor e ts } }
    if ts.length ≥ s.fld R.AGE_MARGIN_CFG F.AGE_MARGIN_CFG_ROW_COR_MAX then s1.stopEngine e kind else s1

/-- A stored entry is upset (R87 and the parity rules of its block). -/
def State.strike (s : State) (c i : Nat) : State :=
  if c = 2 ∨ c = 4 ∨ c = 5 ∨ c = 6 then
    { s with cfg := { s.cfg with faulty := if s.cfg.faulty.contains (c, i) then s.cfg.faulty else s.cfg.faulty ++ [(c, i)] } }
  else if c = 0x12 ∨ c = 0x14 ∨ c = 0x15 ∨ c = 0x16 then
    let e := (c - 0x10, i)
    { s with cfg := { s.cfg with faultySh := if s.cfg.faultySh.contains e then s.cfg.faultySh else s.cfg.faultySh ++ [e] } }
  else if 0xE7 ≤ c ∧ c ≤ 0xE9 then
    match s.xbc.sending.find? fun x => x.link == i / 64 with
    | some x => s.upsetPkt x.pkt { cell := i % 64, part := c - 0xE7, bit := 0 }
    | none => s
  else if c = 0xE2 ∨ c = 0xE4 then
    { s with upsets := if s.upsets.contains (c, i) then s.upsets.filter (· ≠ (c, i)) else s.upsets ++ [(c, i)] }
  else { s with upsets := if s.upsets.contains (c, i) then s.upsets else s.upsets ++ [(c, i)] }

/-- Bits written to FCR_FORCE_j raise forced messages (R421). -/
def State.forceFaults (s : State) (j bits : Nat) : State :=
  let kind := s.fld R.FCR_FORCE_CFG F.FCR_FORCE_CFG_KIND
  ((List.range 64).filter (bitAt bits)).foldl (init := s) fun s b =>
    let source := 64 * j + b
    if faultKnown source kind then
      { s with fcr := { s.fcr with inbox := s.fcr.inbox ++
          [{ word := faultWord source kind 0 0, time := s.now, epoch := s.cfg.epoch, forced := true, quiet := s.dct.quiet }] } }
    else s

/-! ### FAULT_ACK (R419, R420) -/

/-- FAULT_ACK: status, RESULT and state. -/
def State.faultAck (s : State) (first n flags : Nat) : Nat × Nat × State :=
  let hit := fun r : PendRec => bitAt flags 0 || decide ((r.seq + 2 ^ 32 - first) % 2 ^ 32 < n)
  let acked := s.fcr.pending.filter hit
  let left := s.fcr.pending.filter fun r => !hit r
  let exit := bitAt flags 2 && s.safe
  if n > 1024 ∨ (exit ∧ left.any fun r => r.level == 3) then (stBadParam, 0, s)
  else
    let s1 : State := { s with fcr := { s.fcr with pending := left, full := s.fcr.full && decide (left.length ≥ 1024) } }
    let units := (acked.map fun r => s1.normUnit r.unit).eraseDups
    let (k, s2) := if bitAt flags 1 then
        units.foldl (init := (0, s1)) fun acc u =>
          if left.any fun r => r.level ≥ 2 && acc.2.normUnit r.unit == u then acc
          else match acc.2.releaseUnit u with
            | (true, s') => (acc.1 + 1, s')
            | (false, s') => (acc.1, s')
      else (0, s1)
    let s3 : State := if bitAt flags 3 then
        { s2 with fcr := { s2.fcr with counts := s2.fcr.counts.filter fun c => !acked.any fun r => r.source == c.source && r.fault == c.fault } }
      else s2
    let s4 := if exit then s3.exitSafe else s3
    (stSuccess, atBits (b2n s4.safe) 63 1 ||| atBits acked.length 32 11 ||| atBits k 16 11 ||| atBits left.length 0 11, s4)

end Sys2Proof.Machine
end

