-- ==== Sys2Proof/Machine/Fences.lean ====
section
/-! DEFINITION. CMT at work (04_replication_and_commit.md R112 to R123): taking a fence, sending the flushes of its
replicas, their answers, and its record. -/

namespace Sys2Proof.Machine

/-- CMT is frozen while a decant runs and does nothing in the safe state (R122, R123). -/
def State.cmtFrozen (s : State) : Bool := s.safe || s.decanting

/-- FENCE_TAKE: the pending fence `n` is taken when no earlier fence of its source and TC is pending and the generations
before the present ones have drained (R112); the records saved through keep-warm go first (R123). -/
def State.doFenceTake (s : State) (n : Nat) : State :=
  match tfind s.mce.fences n with
  | some f => if f.st = 1 ∧ !s.cmtFrozen ∧ !s.earlierPending n f ∧ !(s.mce.fences.any fun e => e.2.saved) then s.fenceTake n f else s
  | none => s

/-- Header of the flush of a replica (R113): a zero-length read with FLUSH = 1. -/
def State.flushHdr (s : State) (f : Fence) (x : FenceRep) : Hdr :=
  { kind := .mrd, fab := true, hlen := 32, dst := x.fid, src := f.src, tc := f.tc, len := 1, fbe := 0, lbe := 0,
    offset := x.addr, reqId := s.dmvId f.vs, flush := true }

/-- Count and failure mark of a generation of a flow (R111). -/
def CmtFlow.mark (x : CmtFlow) (g : Nat) : Nat × Nat := if g = 0 then (x.c0, x.f0) else (x.c1, x.f1)

/-- Sends the flush of replica `r` of fence `n`: a tracker entry, a stamp and admission; it waits where one of them is
not free (R113). -/
def State.flushOut (s : State) (n r : Nat) (f : Fence) (x : FenceRep) : State :=
  let h := s.flushHdr f x
  let e := s.cfg.epoch
  let tmo := if f.tmo = 0 then 1000 * s.fld R.CMT_CFG F.CMT_CFG_FLUSH_TMO_DEF else f.tmo
  let t : Trk := {
    vs := f.vs, src := h.src, dst := h.dst, tc := h.tc, due := h.dueBytes, tmo := tmo, epoch := e,
    origin := .fence n r, req := h }
  match s.allocTrk t with
  | none => s
  | some (k, tag, s1) =>
    match s1.stampHdr e { h with tag := tag } with
    | none => s
    | some (h', s2) =>
      match s2.tryMake { internalPkt h' none with origin := .fence n r, trkOut := some k, vs := f.vs, vh := f.vs } [] with
      | none => s
      | some (i, s3) =>
        let s4 : State := { s3 with brg := { s3.brg with
          trk := tput s3.brg.trk k { t with myTag := tag, deadline := s.brgNow + t.tmo, req := h' } } }
        (((s4.setFence n { f with reps := f.reps.set r { x with st := 1 } }).count (R.CMT_CNT 5)).fabSend i h').ev 0xA 3 f.vs f.tc

/-- FLUSH_SEND: the copies of the fence's generation to replica `r` have left, and its flush is sent, or the replica
fails (R113, R116). -/
def State.doFlushSend (s0 : State) (n r : Nat) : State :=
  match tfind s0.mce.fences n with
  | none => s0
  | some f0 =>
    let s := s0.checkFlow (f0.key (f0.reps.getD r {}))
    match tfind s.mce.fences n with
    | none => s
    | some f =>
      let x := f.reps.getD r {}
      if f.st ≠ 2 ∨ x.st ≠ 0 ∨ s.cmtFrozen then s
      else
        let (c, m) := match s.flow? (f.key x) with | some y => y.mark x.gen | none => (0, 0)
        if c ≠ 0 then s
        else if m ≠ 0 then s.setCause n r m
        else if s.entryFaulty s.cfg.epoch 2 x.fid then
          (s.raise Flt.RTE_TBL_PARITY 0 (atBits 2 32 8 ||| atBits x.fid 0 16)).setCause n r 1
        else if s.unreachable s.cfg.epoch (s.flushHdr f x) then s.setCause n r 1
        else s.flushOut n r f x

/-- Cause that the answer to a flush gives its replica (R116): a Successful Completion confirms it, poisoned or not (16). -/
def flushCause (a : Answer) : Nat :=
  if a.lost ∨ a.status = 8 ∨ a.status = 9 then 1 else if a.status = 0 ∨ a.status = 16 then 0 else 2

/-- FLUSH_COMPLETION: the oldest answer to a flush sets its replica's cause (R116). -/
def State.doFlushCompletion (s : State) : State :=
  if s.cmtFrozen then s
  else match s.answers.find? Answer.ofFence with
  | some a =>
    let s1 : State := { s with answers := s.answers.erase a }
    match a.origin with
    | .fence n r => s1.setCause n r (flushCause a)
    | _ => s1
  | none => s

/-- FENCE_RECORD_WRITE: the record of a finished fence, once every earlier fence of its source and TC has written its
own (R119); that of a saved fence follows the delivery of the list (R354 step 8). -/
def State.doFenceRecord (s : State) (n : Nat) : State :=
  match tfind s.mce.fences n with
  | some f =>
    if f.st = 3 ∧ !s.cmtFrozen ∧ !(f.saved && s.dct.exitDue) ∧ !(s.mce.fences.any fun e => e.1 < n && e.2.src == f.src && e.2.tc == f.tc) then s.fenceRecord n f
    else s
  | none => s

end Sys2Proof.Machine
end

