-- ==== Sys2Proof/Machine/Control.lean ====
section
/-! DEFINITION. CTL (02_control_model.md): the rings and their doorbells, the MCR's commands, the tables, COMMIT and the
epoch. -/

namespace Sys2Proof.Machine

/-! ### Rings (R38 to R44, R568) -/

/-- Whether an MCR producer index may be written: the ring would not hold more than its size (R40). -/
def State.mcrIndexOk (s : State) (i : Nat) : Bool :=
  let n := s.ringSize .mcr
  i < 2 * n && (i + 2 * n - s.ringCi .mcr) % (2 * n) ≤ n

/-- Whether a consumer index may be written: it does not lie beyond the device's producer index (R40). -/
def State.ciOk (s : State) (r : RingId) (i : Nat) : Bool :=
  let n := s.ringSize r
  i < 2 * n && (i + 2 * n - s.ringCi r) % (2 * n) ≤ s.ringUsed r

/-- The fetch of each MCR descriptor not yet fetched starts (R40); none while the ring is disabled, a decant runs, or a
completion is held for EVR room (R42, R43, R66). -/
def State.mcrFetch (s : State) : State :=
  let n := s.ringSize .mcr
  let old := s.ctl.fetched
  let new := (s.ringPi .mcr + 2 * n - old) % (2 * n)
  if s.ringOn .mcr ∧ !s.decanting ∧ s.ctl.held = [] then
    (List.range new).foldl (fun s k => s.hostRead .mgmt ((s.raw (R.CTL_BASE 0)).toNat + 64 * ((old + k) % n)) 64)
      { s with ctl := { s.ctl with fetched := s.ringPi .mcr } }
  else s

/-- After a valid write of a ring's consumer index: moderation restarts from the records left, and IRQ_COUNT of them fire
the vector at once (R44; log entry 21). -/
def State.ciMoved (s : State) (r : RingId) : State :=
  let s1 := s.setRing r ((s.ring r).restart (s.ringUsed r) s.now)
  let c := s.fld r.cfg F.CTL_CFG_IRQ_COUNT
  if c ≠ 0 ∧ s.ringUsed r ≥ c then s1.fire r else s1

/-- Whether a ring may be enabled: its size and the alignment of its base (R38, R45). -/
def State.ringReady (s : State) (r : RingId) : Bool :=
  let l := s.fld r.cfg F.CTL_CFG_LOG2_SIZE
  6 ≤ l && l ≤ 16 && baseOk (s.raw r.base).toNat (2 ^ l)

/-- EN of a ring has gone from 0 to 1 (R43); SEQ of the sample records starts again with the SMR (R93). -/
def State.ringStart (s : State) (r : RingId) : State :=
  let s1 := ((s.setFld r.pi F.CTL_PI_INDEX 0).setFld r.ci F.CTL_CI_INDEX 0).setFld r.stat F.CTL_STAT_STOPPED 0
  let s2 := s1.setRing r {}
  match r with
  | .mcr => { s2 with ctl := { s2.ctl with fetched := 0 } }
  | .smr => { s2 with xbc := { s2.xbc with smpSeq := 0 } }
  | _ => s2

/-- After a write of a ring's CFG register, from the EN it had (R38, R43): an enable that is not allowed leaves EN at 0 and
is reported. -/
def State.ringCfgWritten (s : State) (r : RingId) (was : Bool) : State :=
  let on := s.ringOn r
  if on ∧ !was then
    if s.ringReady r then s.ringStart r
    else (s.setFld r.cfg F.CTL_CFG_EN 0).regErr stBadParam r.cfg
  else s

/-- Whether work begun on a ring is unfinished (R43). -/
def State.ringBusy (s : State) (r : RingId) : Bool :=
  match r with
  | .mcr => s.ctl.commit.isSome || s.ctl.busyCmd.isSome || s.ctl.fetched != s.ringCi .mcr
  | _ => false

/-- RING_STOPPED: the work of a disabled ring is done (R43). -/
def State.doRingStopped (s : State) (r : RingId) : State :=
  if !s.ringOn r ∧ !s.ringBusy r then s.setFld r.stat F.CTL_STAT_STOPPED 1 else s

/-- IRQ_TIME_EXPIRY (R44, R309). -/
def State.doIrqTime (s : State) : IrqSrc → State
  | .ring r =>
    let x := s.ring r
    let t := s.fld r.cfg F.CTL_CFG_IRQ_TIME
    if x.timing ∧ x.count > 0 ∧ t ≠ 0 ∧ s.now - x.first ≥ 1000 * t then s.fire r else s
  | .cq i =>
    let x := (s.slice i).irq
    let t := s.fld (R.DMV_CQ_CFG i) F.DMV_CQ_CFG_IRQ_TIME
    if x.timing ∧ x.count > 0 ∧ t ≠ 0 ∧ s.now - x.first ≥ 1000 * t then s.fireCq i else s

/-- HELD_RECORD_WRITE: the EVR, or the FTR, has a free slot and the next record that waits for it is written: the EVR's own
RING_OVERFLOW first, then a held completion, then the queued events (R42, R418, R568). -/
def State.doHeldRecord (s : State) : RingId → State
  | .evr =>
    if s.ringRoom .evr = 0 then s
    else if s.ctl.evrOvfFlag then
      ({ s with ctl := { s.ctl with evrOvfFlag := false } }).putEvr { code := 0x0005, data := leBytes 1 1 }
    else match s.ctl.held with
      | e :: t => (({ s with ctl := { s.ctl with held := t } } : State).putEvr e).mcrFetch
      | [] =>
        match s.ctl.evq with
        | e :: t => ({ s with ctl := { s.ctl with evq := t } }).putEvr e
        | [] => s
  | .ftr => s.ftrHeld
  | _ => s

/-! ### The MCR (R47, R48) -/

/-- Whether the MCR has a descriptor to take: the ring holds one, or, once disabled, it has been fetched (R43). -/
def State.mcrHas (s : State) : Bool :=
  if s.ringOn .mcr then s.ringUsed .mcr > 0 else s.ctl.fetched != s.ringCi .mcr

/-- Takes the next MCR descriptor: its slot, and the state with the consumer index moved past it. None while there is none, a
completion is held, a command is in progress, or a decant runs (R42, R43, R48, R66). -/
def State.mcrTake (s : State) : Option (Nat × State) :=
  if s.mcrHas ∧ s.ctl.held = [] ∧ s.ctl.commit = none ∧ s.ctl.busyCmd = none ∧ !s.decanting then
    let i := s.ringCi .mcr
    let n := s.ringSize .mcr
    some (i % n, s.setFld (R.CTL_CI 0) F.CTL_CI_INDEX ((i + 1) % (2 * n)))
  else none

/-- NOP. -/
def State.doNop (s : State) (d : Desc) : State :=
  match s.mcrTake with
  | some (k, s1) => s1.cmdDone k d stSuccess
  | none => s

/-- UNLISTED_OPCODE (R49): the opcodes of the command table have rows of their own. -/
def State.doUnlisted (s : State) (d : Desc) (op : Nat) : State :=
  if [0x00, 0x01, 0x02, 0x03, 0x04, 0x10, 0x20, 0x21, 0x30, 0x31].contains (op % 256) then s
  else match s.mcrTake with
    | some (k, s1) => s1.cmdDone k d stBadOpcode
    | none => s

/-- DESCRIPTOR_READ_ERROR (R48). -/
def State.doDescError (s : State) : State :=
  match s.mcrTake with
  | some (k, s1) => s1.cmdDone k {} stDmaError
  | none => s

/-! ### Tables (R50 to R52, R432) -/

/-- Bytes of an entry of a table (R51). -/
def entrySize (t : Nat) : Nat := if t = 1 ∨ t = 4 then 8 else if t = 3 then 64 else if t = 5 then 32 else 16

/-- Entries of a table (R97, R130, R159, R167, R181, R208); 0 for a TABLE_ID that is not listed. -/
def State.tableLen (s : State) (t : Nat) : Nat :=
  match t with
  | 1 => s.regionSize 0 / 8
  | 2 => 4096
  | 3 => 1024
  | 4 => 8192
  | 5 => 256
  | 6 => 32768
  | _ => 0

/-- Whether a table is kept on die (R51). -/
def onDieTable (t : Nat) : Bool := t == 2 || t == 4 || t == 5 || t == 6

/-- Region kind of a table in table memory (R426). -/
def tableKind (t : Nat) : Nat := if t = 1 then 0 else 1

/-- Whether the operands of a table command are valid (R50, R51). -/
def State.tableOk (s : State) (op : TableOp) : Bool :=
  (onDieTable op.tableId || op.tableId == 1 || op.tableId == 3) && 1 ≤ op.count && op.count ≤ 65536 && op.addr % 64 == 0
    && op.first + op.count ≤ s.tableLen op.tableId

/-- Key of the shadow block that holds a byte offset of a table in table memory. -/
def blockKey (t o : Nat) : Nat := t * 2 ^ 24 + o / 4096

/-- Shadow blocks that are free (R45 FREE). -/
def State.shadowFree (s : State) : Nat := s.poolSize - s.cfg.shBlocks.length - s.cfg.prevBlocks

/-- The shadow blocks that a write of `n` bytes at offset `o` still needs. -/
def State.blocksNeeded (s : State) (t o n : Nat) : List Nat :=
  ((List.range ((o + n - 1) / 4096 + 1 - o / 4096)).map fun k => o / 4096 + k).filter fun b =>
    !s.cfg.shBlocks.contains (t * 2 ^ 24 + b)

/-- Whether the copy of block `b` for a shadow meets an unreadable word that the write at `[o, o + n)` does not cover
whole (R432). -/
def State.copyBad (s : State) (t o n b : Nat) : Bool :=
  (List.range 128).any fun k =>
    let w := 4096 * b + 32 * k
    match s.tblAddr (tableKind t) w with
    | some a => s.wordBad a && !(o ≤ w && w + 32 ≤ o + n)
    | none => false

/-- A block of the shadow pool for a shadow block: which of the free ones is a free value (log entry 174). -/
def State.placeBlock (s : State) (key : Nat) : State :=
  let used := s.cfg.shPlace.map (·.2) ++ s.cfg.prevPlace
  let free := (List.range s.poolSize).filter fun n => !used.contains n
  let (v, s1) := s.fresh
  { s1 with cfg := { s1.cfg with
      shBlocks := s1.cfg.shBlocks ++ [key], shPlace := tput s1.cfg.shPlace key (free.getD (v.toNat % max 1 free.length) 0) } }

/-- Takes a shadow block: a copy of the block in force (R51). -/
def State.takeBlock (s : State) (t b : Nat) : State :=
  (List.range 128).foldl (init := s.placeBlock (t * 2 ^ 24 + b)) fun s k =>
    match s.tblAddr (tableKind t) (4096 * b + 32 * k) with
    | some a =>
      let s1 := s.tmRead 16 a 32
      let bytes := leBytes 32 (s1.tmNum s1.cfg.epoch a 32)
      ({ s1 with
        cfg := { s1.cfg with tmSh := Mem.wrN 0 s1.cfg.tmSh a bytes }
        tbm := { s1.tbm with
          flips := s1.tbm.flips.filter fun e => e.1 < 2 ^ 30 + a || 2 ^ 30 + a + 32 ≤ e.1
          poison := s1.tbm.poison.filter (· ≠ (2 ^ 30 + a) / 32) } } : State)
    | none => s

/-- Writes one byte of a table's shadow copy in table memory, in a write of the bytes `[lo, hi)` of the table: a damaged word
stays damaged unless the write replaces it whole (R431). -/
def State.shadowByte (s : State) (t lo hi o : Nat) (b : Byte) : State :=
  match s.tblAddr (tableKind t) o with
  | some a =>
    let whole := lo ≤ o / 32 * 32 && o / 32 * 32 + 32 ≤ hi
    { s with
      cfg := { s.cfg with tmSh := Mem.wr 0 s.cfg.tmSh a b }
      tbm := { s.tbm with
        flips := if eccOf (s.flipsAt (2 ^ 30 + a)) == .bad && !whole then s.tbm.flips else tdel s.tbm.flips (2 ^ 30 + a)
        poison := if whole then s.tbm.poison.filter (· ≠ (2 ^ 30 + a) / 32) else s.tbm.poison } }
  | none => s

/-- Writes bytes of a table's shadow copy in table memory from an offset on, in a write of `[lo, hi)`. -/
def State.shadowBytes (s : State) (t lo hi : Nat) : Nat → List Byte → State
  | _, [] => s
  | o, b :: bs => (s.shadowByte t lo hi o b).shadowBytes t lo hi (o + 1) bs

/-- Installs the data of a TABLE_WRITE in the shadow copy of an on-die table; entries written pass their parity. -/
def State.onDieWrite (s : State) (op : TableOp) (bytes : List Byte) : State :=
  let n := entrySize op.tableId
  { s with cfg := { s.cfg with
      onDieSh := Mem.wrN 0 s.cfg.onDieSh (onDieBase op.tableId + n * op.first) bytes
      dirty := s.cfg.dirty ++ [(op.tableId, op.first, op.count)]
      faultySh := s.cfg.faultySh.filter fun e => !(e.1 == op.tableId && op.first ≤ e.2 && e.2 < op.first + op.count) } }

/-- TABLE_WRITE on valid operands: the status, and the state with the shadow copy written (R52, R432). -/
def State.tableWrite (s : State) (op : TableOp) (data : Option (List Byte)) : Nat × State :=
  let n := entrySize op.tableId * op.count
  let o := entrySize op.tableId * op.first
  if !s.tableOk op ∨ op.copy ≠ 0 then (stBadParam, s)
  else
    let s := s.hostRead .mgmt op.addr n
    if onDieTable op.tableId then
      match data with
      | none => (stDmaError, s)
      | some bs => (stSuccess, s.onDieWrite op (padTo n bs))
    else
      let need := s.blocksNeeded op.tableId o n
      if need.length > s.shadowFree then (stNoSpace, s)
      else match data with
        | none => (stDmaError, s)
        | some bs =>
          if need.any (s.copyBad op.tableId o n) then
            -- the copy's reads are made, and report what they meet
            let s1 := need.foldl (init := s) fun s b =>
              match s.tblAddr (tableKind op.tableId) (4096 * b) with
              | some a => s.tmRead 16 a 4096
              | none => s
            (stTableEcc, s1)
          else (stSuccess, (need.foldl (fun s b => s.takeBlock op.tableId b) s).shadowBytes op.tableId o (o + n) o (padTo n bs))

/-- TABLE_WRITE (R50, R52, R67). -/
def State.doTableWrite (s : State) (d : Desc) (op : TableOp) (data : Option (List Byte)) : State :=
  match s.mcrTake with
  | some (k, s1) =>
    if s1.safe then s1.cmdDone k d stSafeState
    else
      let (st, s2) := s1.tableWrite op data
      s2.cmdDone k d st
  | none => s

/-- Byte of an entry as TABLE_READ finds it, and whether its word or entry is damaged. -/
def State.tableByte (s : State) (t copy o : Nat) : Nat × Bool :=
  if onDieTable t then
    let i := o / entrySize t
    if copy = 0 then (s.onDieAt s.cfg.epoch t o 1, s.cfg.faulty.contains (t, i))
    else (ofLe (Mem.rdN 0 s.cfg.onDieSh (onDieBase t + o) 1), s.cfg.faultySh.contains (t, i))
  else match s.tblAddr (tableKind t) o with
    | none => (0, false)
    | some a =>
      if copy = 1 ∧ s.cfg.shBlocks.contains (blockKey t o) then
        ((Mem.rd 0 s.cfg.tmSh a).toNat ^^^ wrongBits (s.flipsAt (2 ^ 30 + a)), s.wordBad (2 ^ 30 + a))
      else (s.tmByte s.cfg.epoch a, s.wordBad a)

/-- Bytes from an offset on, up to the first damaged word or entry, and whether one was met. -/
def State.tableBytes (s : State) (t copy : Nat) : Nat → Nat → List Byte × Bool
  | _, 0 => ([], false)
  | o, n + 1 =>
    let (b, bad) := s.tableByte t copy o
    if bad then ([], true)
    else
      let (bs, e) := s.tableBytes t copy (o + 1) n
      (BitVec.ofNat 8 b :: bs, e)

/-- CTL reads `n` bytes of a table in table memory from an offset on, in force or, where the block has a shadow, in the shadow
copy: word by word, each in its region (R426, R430, R431). -/
def State.tableReads (s : State) (t copy o n : Nat) : State :=
  if s.tbm.flips = [] ∧ s.tbm.poison = [] then s
  else (List.range ((o + n - 1) / 32 + 1 - o / 32)).foldl (init := s) fun s k =>
    let w := o / 32 * 32 + 32 * k
    match s.tblAddr (tableKind t) w with
    | some a => s.readWord 16 ((if copy = 1 ∧ s.cfg.shBlocks.contains (blockKey t w) then 2 ^ 30 + a else a) / 32)
    | none => s

/-- TABLE_READ (R50, R432): whole entries before the first damaged one reach the host. -/
def State.doTableRead (s : State) (d : Desc) (op : TableOp) : State :=
  match s.mcrTake with
  | none => s
  | some (k, s1) =>
    if !s1.tableOk op ∨ op.copy > 1 then s1.cmdDone k d stBadParam
    else
      let n := entrySize op.tableId
      let (bs, bad) := s1.tableBytes op.tableId op.copy (n * op.first) (n * op.count)
      let whole := bs.take (bs.length / n * n)
      let s2 := if onDieTable op.tableId then s1
        else s1.tableReads op.tableId op.copy (n * op.first) (min (n * op.count) (bs.length + 1))
      let s3 := if whole = [] then s2 else s2.hostWrite .mgmt op.addr whole
      s3.cmdDone k d (if bad then stTableEcc else stSuccess)

/-- SHADOW_DISCARD (R49). -/
def State.doShadowDiscard (s : State) (d : Desc) : State :=
  match s.mcrTake with
  | none => s
  | some (k, s1) =>
    let wasDirty := fun e : Nat × Nat => s1.cfg.dirty.any fun r => r.1 == e.1 && r.2.1 ≤ e.2 && e.2 < r.2.1 + r.2.2
    let s2 : State := { s1 with
      cfg := { s1.cfg with
        shadow := [], onDieSh := s1.cfg.onDie, tmSh := [], shBlocks := [], shPlace := [], dirty := []
        faultySh := s1.cfg.faultySh.filter (fun e => !wasDirty e) ++ s1.cfg.faulty.filter wasDirty }
      tbm := { s1.tbm with
        flips := s1.tbm.flips.filter fun e => e.1 < 2 ^ 30
        poison := s1.tbm.poison.filter fun w => w < 2 ^ 25 } }
    s2.cmdDone k d stSuccess

/-! ### COMMIT (R59 to R64, R120, R160, R184, R206, R444) -/

/-- The SH fields of a register taken from a word. -/
def mergeSh (key : Nat) (old new : Word) : Word :=
  match regAt key with
  | none => old
  | some d => d.fields.foldl (init := old) fun w f => if f.cls = .sh then (⟨f.hi, f.lo⟩ : Fld).set w ((⟨f.hi, f.lo⟩ : Fld).get new) else w

/-- The registers in force once a set of shadow values is installed. -/
def State.installRegs (s : State) (set : Tbl Word) : State :=
  set.foldl (fun s e => s.setRaw e.1 (mergeSh e.1 (s.raw e.1) e.2)) s

/-- Table memory once the shadow blocks are installed. -/
def State.installTm (s : State) : State :=
  let spans := s.cfg.shBlocks.foldl (init := ([] : List Nat)) fun l b =>
    l ++ (List.range 128).filterMap fun k => s.tblAddr (tableKind (b / 2 ^ 24)) (4096 * (b % 2 ^ 24) + 32 * k)
  let s1 := spans.foldl (init := s) fun s a => s.tmWrite a (Mem.rdN 0 s.cfg.tmSh a 32)
  let flips := s1.tbm.flips.foldl (init := ([] : Tbl Nat)) fun t e => tput t (if e.1 ≥ 2 ^ 30 then e.1 - 2 ^ 30 else e.1) e.2
  { s1 with
    cfg := { s1.cfg with tmSh := [], shBlocks := [], shPlace := [] }
    tbm := { s1.tbm with flips := flips, poison := s1.tbm.poison.map fun w => if w ≥ 2 ^ 25 then w - 2 ^ 25 else w } }

/-- What would be in force after the install: the copy the commit checks look at. -/
def State.candidate (s : State) (set : Tbl Word) : State :=
  let s1 := (s.installRegs set).installTm
  { s1 with cfg := { s1.cfg with onDie := s1.cfg.onDieSh, faulty := s1.cfg.faultySh, prev := none } }

/-- Lane groups by their mode allow a port (R19). -/
def State.portAllowed (s : State) (x : PortInfo) : Bool :=
  let mode := fun g => s.flag (R.LG_CFG g) F.LG_CFG_MODE
  let one := mode x.group == x.scango
  match x.lanes with
  | 2 => !x.scango && one
  | 4 => one
  | 8 => one
  | 16 => one && mode (x.group + 1) == x.scango && x.group % 2 == 0
  | _ => false

/-- Entries of an on-die table that are not all zeros, in ascending order: an entry not among them has VALID = 0. -/
def State.onDieUsed (s : State) (t : Nat) : List Nat :=
  let n := entrySize t
  ((s.cfg.onDie.filter fun c => onDieBase t ≤ c.1 && c.1 < onDieBase (t + 1)).map fun c => (c.1 - onDieBase t) / n).eraseDups

/-- Check 5 of an entry of the route table (R61, R130). -/
def State.routeGood (s : State) (fid : Nat) : Bool :=
  let e := s.cfg.epoch
  let w := s.rteWord e fid 0
  if !bitAt w 63 ∨ (bitAt w 62 ∧ bitsOf w 60 2 = 3) then true
  else if fid = 0xFFF then false
  else if s.rteLocal e fid then true
  else
    ([0, 1, 2, 3].any fun h => (s.hop e fid h).2 ≠ 0) && (s.usedHops e fid).all fun h =>
      let b := s.bundle e (s.hop e fid h).1
      b ≠ [] && b.all s.isScango

/-- Check 6 of a mirror-group entry (R61, R98). -/
def State.groupGood (s : State) (g : Nat) : Bool :=
  let x := s.group s.cfg.epoch g
  x.bad || !x.valid || (x.reps ≠ [] && x.reps.all fun r => x.fid r ≠ 0xFFF)

/-- Check 7 of an entry of the queue parameter table (R61, R159). -/
def State.queueGood (s : State) (q : Nat) : Bool :=
  let e := s.cfg.epoch
  let w0 := s.onDieAt e 6 (16 * q) 8
  let w1 := s.onDieAt e 6 (16 * q + 8) 8
  let ok := fun n => decide (64 ≤ n)
  (!(bitAt w0 63 || q % 32 == 0) || ok (bitsOf w0 32 16)) && (!(q % 32 == 0 && q / 32 % 8 ≤ 6) || ok (bitsOf w1 48 16))

/-- The first enabled window that overlaps an earlier one of its virtual switch (R61 check 8, R180). -/
def State.badWindow (s : State) : Option Nat :=
  let ws := (s.listed (R.BRG_WIN_CFG 0) 0x20 2048).filter fun w =>
    s.flag (R.BRG_WIN_CFG w) F.BRG_WIN_CFG_EN && s.fld (R.BRG_WIN_CFG w) F.BRG_WIN_CFG_SIZE ≠ 0
  let lo := fun w => s.fld (R.BRG_WIN_BASE w) F.BRG_WIN_BASE_BASE
  let n := fun w => s.fld (R.BRG_WIN_CFG w) F.BRG_WIN_CFG_SIZE
  let v := fun w => s.fld (R.BRG_WIN_CFG w) F.BRG_WIN_CFG_VS
  ws.find? fun w => ws.any fun x => x < w && v x == v w && lo x < lo w + n w && lo w < lo x + n x

/-- Cells of the shared pool (R77), computed whenever a minimum or a headroom in force changes. -/
def State.setPool (s : State) : State :=
  let n := (List.range 1048).foldl (init := 0) fun n k =>
    let key := R.XBC_ACCT (k / 8) (k % 8)
    n + s.fld key F.XBC_ACCT_MIN + (if k < 1024 then s.fld key F.XBC_ACCT_HDRM else 0)
  s.setFld R.XBC_SHARED F.XBC_SHARED_SIZE (1048576 - n)

/-- The account and TC at which the running total of minimums and headroom first exceeds the buffer (R61 check 3). -/
def State.overMin (s : State) : Option Nat :=
  let r := (List.range 1048).foldl (init := ((0 : Nat), (none : Option Nat))) fun x k =>
    match x.2 with
    | some _ => x
    | none =>
      let key := R.XBC_ACCT (k / 8) (k % 8)
      let n := x.1 + s.fld key F.XBC_ACCT_MIN + (if k < 1024 then s.fld key F.XBC_ACCT_HDRM else 0)
      (n, if n > 1048576 then some key else none)
  r.2

/-- The first commit check that fails, with its number and first offending index or register offset (R61). The offset of a
register is the one from the start of BAR0: R53 does not say from where it counts (the model's choice; log entry 134). -/
def State.commitChecks (s : State) : Option (Nat × Nat) :=
  let e := s.cfg.epoch
  match s.cfg.ports.find? fun p => !s.portAllowed p.2 with
  | some p => some (1, p.1)
  | none =>
  if (List.range 8).any fun t => bitsOf (s.raw R.RTE_TC_VC).toNat (2 * t) 2 == 3 then some (2, R.RTE_TC_VC)
  else match s.overMin with
  | some k => some (3, k)
  | none =>
  if (List.range 8).any fun t => bitsOf (s.raw R.XBC_ALPHA).toNat (8 * t) 7 > 64 then some (4, R.XBC_ALPHA)
  else match (s.onDieUsed 2).find? fun f => !s.routeGood f with
  | some f => some (5, f)
  | none =>
  match (List.range 1024).find? fun g => !s.groupGood g with
  | some g => some (6, g)
  | none =>
  match (s.cfg.ports.map fun p => (List.range 256).map fun k => 256 * p.1 + k).flatten.find? fun q => !s.queueGood q with
  | some q => some (7, q)
  | none =>
  match s.badWindow with
  | some w => some (8, w)
  | none =>
  match (List.range 8).find? fun t =>
      let n := s.fldE e (R.XBC_AGE_LIMIT_TC t) F.XBC_AGE_LIMIT_TC_LIMIT
      n < 10 || n > 256000 with
  | some t => some (9, R.XBC_AGE_LIMIT_TC t)
  | none =>
  match (List.range 8).find? fun t =>
      let n := s.fldE e (R.RTE_GAP_TMO_TC t) F.RTE_GAP_TMO_TC_TMO
      n < 1 || n > 1000 with
  | some t => some (9, R.RTE_GAP_TMO_TC t)
  | none => none

/-- COMMIT is fetched (R59, R60 step 1, R67). -/
def State.doCommit (s : State) (d : Desc) : State :=
  match s.mcrTake with
  | none => s
  | some (k, s1) =>
    if s1.safe then s1.cmdDone k d stSafeState
    else
      let c : CommitSt := { desc := d, slot := k, since := s1.now, step := 1, set := s1.cfg.shadow }
      { s1 with ctl := { s1.ctl with commit := some c } }

/-- EPOCH_STUCK: WAIT_MAX has passed and the previous epoch still drains (R60 step 1). -/
def State.doEpochStuck (s : State) : State :=
  match s.ctl.commit with
  | some c =>
    if c.step = 1 ∧ s.cfg.prev.isSome ∧ s.now - c.since ≥ 1000000 * s.fld R.CTL_COMMIT_CFG F.CTL_COMMIT_CFG_WAIT_MAX then
      ({ s with ctl := { s.ctl with commit := none } }).cmdDone c.slot c.desc stEpochStuck
    else s
  | none => s

/-- Step 5 of R60: every port has adopted the new epoch, and the completion is written; during a decant that leaves the EVR
no room, the carafe keeps it (R66). -/
def State.commitDone (s : State) : State :=
  match s.ctl.commit with
  | some c =>
    if c.step = 4 ∧ s.ctl.adopting = [] then
      let s1 : State := { s with ctl := { s.ctl with commit := none, epochDone := true } }
      if s1.decanting ∧ (s1.ringRoom .evr = 0 ∨ s1.ctl.held ≠ []) then
        { s1 with dct := { s1.dct with owed := { slot := c.slot, desc := c.desc, status := stSuccess, result := s1.cfg.epoch } :: s1.dct.owed } }
      else s1.cmdDone c.slot c.desc stSuccess s.cfg.epoch
    else s
  | none => s

/-- The quantum and shaping that a sub-queue of port `p` had, kept until it is empty where the epoch that the port now
adopts clears its VALID (R160). -/
def State.keepQueues (s : State) (p : Nat) : State :=
  match s.cfg.prev with
  | none => s
  | some old =>
    s.tmg.queues.foldl (init := s) fun s e =>
      let w0 := s.onDieAt old.epoch 6 (16 * e.1) 8
      if e.1 / 256 = p ∧ e.1 % 32 ≠ 0 ∧ e.2.mem ≠ [] ∧ bitAt w0 63 ∧ !bitAt (s.onDieAt s.cfg.epoch 6 (16 * e.1) 8) 63 then
        s.setQueue e.1 { e.2 with kept := some (w0, s.onDieAt old.epoch 6 (16 * e.1 + 8) 8) }
      else s

/-- Step 3 of R60: the shadow set is installed and the epoch flips; what was in force is kept for the packets of the previous
epoch, and every port has yet to adopt. -/
def State.install (s : State) (c : CommitSt) : State :=
  let old : PrevEpoch := { epoch := s.cfg.epoch, regs := s.cfg.regs, onDie := s.cfg.onDie, tm := s.cfg.tm, faulty := s.cfg.faulty }
  let blocks := s.cfg.shBlocks
  let pf := s.brg.pf.filter fun e =>
    s.flag (R.BRG_WIN_CFG e.2.win) F.BRG_WIN_CFG_SEF && s.flag (R.BRG_WIN_CFG e.2.win) F.BRG_WIN_CFG_PF_EN
  let s1 := ((s.installRegs c.set).installTm).setPool
  let left := s.cfg.shadow.filter fun e => tfind c.set e.1 ≠ some e.2
  let cache := s1.brg.cache.map fun x => if blocks.contains (blockKey 1 (8 * x.idx)) then x else { x with both := true }
  let dies := (List.range 4).foldl (init := s1.tbm.dies) fun t d =>
    if (tget {} t d).held.isSome ∨ !c.set.any (fun e => R.TM_ARB_CFG 0 ≤ e.1 && e.1 < R.TM_ARB_CFG 4) then t
    else tput t d { (tget {} t d) with held := some (s.fld (R.TM_ARB_CFG d) F.TM_ARB_CFG_REQ_EN, (List.range 32).map fun r =>
      (s.fld (R.TM_ARB_REQ d r) F.TM_ARB_REQ_TICKETS, s.fld (R.TM_ARB_REQ d r) F.TM_ARB_REQ_PRIO)) }
  let s2 : State := { s1 with
    cfg := { s1.cfg with
      onDie := s1.cfg.onDieSh, faulty := s1.cfg.faultySh, prev := some old, prevBlocks := blocks.length, prevPlace := s.cfg.shPlace.map (·.2)
      epoch := (s1.cfg.epoch + 1) % 2 ^ 32, shadow := left, dirty := [] }
    tmg := { s1.tmg with found := [] }
    ctl := { s1.ctl with commit := some { c with step := 4 }, adopting := s1.cfg.ports.map (·.1), epochDone := false }
    brg := { s1.brg with cache := cache }
    rte := { s1.rte with cur := [] }
    tbm := { s1.tbm with dies := dies } }
  let s3 := (pf.filter fun e =>
    !(s2.flag (R.BRG_WIN_CFG e.2.win) F.BRG_WIN_CFG_SEF && s2.flag (R.BRG_WIN_CFG e.2.win) F.BRG_WIN_CFG_PF_EN)).foldl
    (fun s e => s.pfDrop e.1) s2
  State.fillBuckets s s3

/-- Steps 2 and 3 of R60: the checks, then the install and the flip; at a failing check CFG_MISMATCH (R64). -/
def State.doCommitChecks (s : State) : State :=
  match s.ctl.commit with
  | none => s
  | some c =>
    if c.step ≠ 1 ∨ s.cfg.prev.isSome then s
    else if s.safe then ({ s with ctl := { s.ctl with commit := none } }).cmdDone c.slot c.desc stSafeState
    else match (s.candidate c.set).commitChecks with
    | some (n, i) =>
      ({ s with ctl := { s.ctl with commit := none } }).cmdDone c.slot c.desc stCfgMismatch 0 (atBits n 56 8 ||| atBits i 0 32)
    | none => (s.install c).commitDone

/-- PORT_ADOPT_EPOCH: a port adopts the new epoch at its next packet boundary; after the last, the completion is written
(R60 steps 4 and 5). -/
def State.doPortAdopt (s : State) (p : Nat) : State :=
  if p ∈ s.ctl.adopting then
    (({ s with ctl := { s.ctl with adopting := s.ctl.adopting.filter (· ≠ p) } } : State).keepQueues p).commitDone
  else s

/-- EPOCH_DRAINED: no packet of the previous epoch is left, and the flip's completion has been written (R60 step 6). -/
def State.doEpochDrained (s : State) : State :=
  match s.cfg.prev with
  | some q =>
    if s.ctl.adopting = [] ∧ s.ctl.epochDone ∧ !(s.xbc.pkts.any fun e => e.2.epoch == q.epoch) then
      let cache := (s.brg.cache.filter fun x => x.epoch == s.cfg.epoch || x.both).map fun x =>
        { x with epoch := s.cfg.epoch, both := false }
      ({ s with
        cfg := { s.cfg with prev := none, prevBlocks := 0, prevPlace := [] }
        brg := { s.brg with cache := cache } } : State).event { code := 0x0002, data := leBytes 4 q.epoch }
    else s
  | none => s

end Sys2Proof.Machine
end

