-- ==== Sys2Proof/Machine/SlotPower.lean ====
section
/-! DEFINITION. The slot power controllers (14_slot_power.md): presence, states, the 1 µs sample, trips and
turn-offs. -/

namespace Sys2Proof.Machine

/-- A slot power controller. -/
def State.spcSt (s : State) (n : Nat) : SpcSt := tget {} s.spc n
/-- Replaces it. -/
def State.setSpc (s : State) (n : Nat) (x : SpcSt) : State := { s with spc := tput s.spc n x }

/-- The port whose slot a controller powers (R237, R396). -/
def State.spcPort (s : State) (n : Nat) : Option Nat :=
  let p := s.fld (R.SPC_ENABLE n) F.SPC_ENABLE_PORT
  if s.hasSlot p ∧ s.spcOf p = n then some p else none

/-- The enable that a controller is asked for: Power Controller Control of Slot Control, or PWR_CTL (R387). -/
def State.spcWanted (s : State) (n : Nat) : Bool :=
  match s.spcPort n with
  | some p =>
    if s.role p = 2 then s.flag (s.slotKey p) F.PCP_SLOT_CFG_PWR_CTL else s.cfgBits (.port p) 0x1E 10 1 == 0
  | none => false

/-- Whether a rail is in use. -/
def State.railOn (s : State) (n r : Nat) : Bool := s.flag (R.SPC_RAIL_CFG n r) F.SPC_RAIL_CFG_EN

/-- Drives the gates of the rails in use: ramped up together, each to reach its nominal voltage in RAMP_MS with its shunt
voltage capped at LIM, or turned off (R390, R393). -/
def State.gates (s : State) (n : Nat) (on : Bool) : State :=
  ([0, 1].filter (s.railOn n)).foldl (init := s) fun s r =>
    let s1 := s.emit (.pin (if r = 0 then "SPC_GATE12" else "SPC_GATE3") n on)
    let k := R.SPC_RAIL_CFG n r
    if on then s1.emit (.ramp n r (s.fld (R.SPC_TIMING n) F.SPC_TIMING_RAMP_MS) (s.fld k F.SPC_RAIL_CFG_LIM) (s.fld k F.SPC_RAIL_CFG_FAST))
    else s1

/-- The gates turn off, with a cause and the next state; power-good falls (R393). -/
def State.spcOff (s : State) (n cause next : Nat) : State :=
  let c := s.spcSt n
  let s1 := (s.setSpc n { c with st := next, pg := false, cause := cause, offAt := some (s.now : Int) }).gates n false
  match s1.spcPort n with
  | some p => s1.slotPg p false
  | none => s1

/-- A slot event: in Slot Status, or through the sideband bridge for a fabric endpoint port, whose slot status value is
sent with it (R207, R393; log entry 20). -/
def State.slotEvent (s : State) (n bit code : Nat) : State :=
  match s.spcPort n with
  | some p =>
    if s.role p = 2 then
      let s1 := s.sideband s.cfg.epoch p code 0 []
      let (v, s2) := s1.fresh
      s2.sideband s2.cfg.epoch p 32 0 (leBytes 8 v.toNat)
    else s.cfgOr (.port p) 0x1E (2 ^ bit)
  | none => s

/-- A trip: causes FAST 1, TIMER 2, RAMP_TMO 3 latch the controller and set Power Fault Detected (R393, R398). -/
def State.spcTrip (s : State) (n cause : Nat) : State :=
  let k := if cause = 1 then Flt.SPC_FAST_TRIP else if cause = 2 then Flt.SPC_TIMER_TRIP else Flt.SPC_RAMP_TMO
  (((s.spcOff n cause 4).count (R.SPC_CNT n cause)).slotEvent n 17 26).raise k n n

/-- Presence Detect State of a slot shows the input, unless its pad bank is held (R386). -/
def State.showPresence (s : State) (n : Nat) (on : Bool) : State :=
  match s.spcPort n with
  | some p =>
    if s.bankHeld (32 + n) then s
    else
      let s1 := s.setPcp p { s.pcpOf p with present := on }
      let s2 := if s1.role p ≠ 1 then s1
        else if on then s1.cfgOr (.port p) 0x1E (2 ^ 22) else s1.cfgClear (.port p) 0x1E (2 ^ 22)
      s2.slotEvent n 19 25
  | none => s

/-- Presence is lost: the gates of a controller in RAMP or ON turn off, and the port handles a surprise removal
(R239, R386, R393). -/
def State.spcGone (s : State) (n : Nat) : State :=
  let c := s.spcSt n
  let s1 := if c.st = 2 ∨ c.st = 3 then (s.spcOff n 5 5).count (R.SPC_CNT n 5) else s
  let s2 := s1.showPresence n false
  match s2.spcPort n with
  | some p => if (s2.pcpOf p).up then s2.linkDown p else s2
  | none => s2

/-- Whether a rail's input lies strictly inside its window (R388). -/
def State.railIn (s : State) (n r : Nat) (x : RailIn) : Bool :=
  let k := R.SPC_RAIL_CFG n r
  !s.railOn n r || (10 * s.fld k F.SPC_RAIL_CFG_UV < x.vin && x.vin < 10 * s.fld k F.SPC_RAIL_CFG_OV)

/-- Whether the loop of a rail in use caps its shunt voltage at LIM, in 0.2 mV units (R390). -/
def State.railLim (s : State) (n r : Nat) (x : RailIn) : Bool :=
  s.railOn n r && decide (x.shunt ≥ 20 * s.fld (R.SPC_RAIL_CFG n r) F.SPC_RAIL_CFG_LIM)

/-- Whether the shunt voltage of a rail in use reaches FAST, in 0.5 mV units (R392). -/
def State.railFast (s : State) (n r shunt : Nat) : Bool :=
  s.railOn n r && decide (shunt ≥ 50 * s.fld (R.SPC_RAIL_CFG n r) F.SPC_RAIL_CFG_FAST)

/-- Whether a rail's output has reached PG. -/
def State.railPg (s : State) (n r : Nat) (x : RailIn) : Bool :=
  !s.railOn n r || x.vout ≥ 10 * s.fld (R.SPC_RAIL_CFG n r) F.SPC_RAIL_CFG_PG

/-- The averages of a millisecond, which also feed the power telemetry value (R207, R396). -/
def State.spcAvg (s : State) (n : Nat) (a : (Nat × Nat × Nat) × (Nat × Nat × Nat)) : State :=
  let put := fun (s : State) (r : Nat) (m : Nat × Nat × Nat) =>
    s.setRaw (R.SPC_RAIL_MEAS n r) (F.SPC_RAIL_MEAS_VIN.set (F.SPC_RAIL_MEAS_VOUT.set (F.SPC_RAIL_MEAS_SENSE.set 0 m.2.2) m.2.1) m.1)
  let s1 := put (put s 0 a.1) 1 a.2
  match s1.spcPort n with
  | some p =>
    if s1.role p = 2 then
      let (v, s2) := s1.fresh
      s2.sideband s2.cfg.epoch p 34 0 (leBytes 8 v.toNat)
    else s1
  | none => s1

/-- Presence in a sample (R386): the state, with presence gained, kept or lost. -/
def State.spcPresence (s : State) (n : Nat) (low : Bool) : State :=
  let c := s.spcSt n
  if low then
    let s1 := s.setSpc n { c with present := true, highs := 0, gained := if c.present ∧ c.highs = 0 then c.gained else s.now }
    if c.present then s1 else s1.showPresence n true
  else
    let h := min 8 (c.highs + 1)
    let s1 := s.setSpc n { c with highs := h, present := c.present && decide (h < 8) }
    if c.present ∧ h = 8 then s1.spcGone n else s1

/-- The input of a rail of a controller in RAMP or ON out of its window for the fourth sample in a row (R393). -/
def State.spcInput (s : State) (n : Nat) (in12 in3 : Bool) : State :=
  let c := s.spcSt n
  if c.st ≠ 2 ∧ c.st ≠ 3 then s.setSpc n { c with outs := (0, 0) }
  else
    let o := (if in12 then 0 else c.outs.1 + 1, if in3 then 0 else c.outs.2 + 1)
    let s1 := s.setSpc n { c with outs := o }
    if o.1 ≥ 4 ∨ o.2 ≥ 4 then ((s1.spcOff n 4 5).count (R.SPC_CNT n 4)).raise Flt.SPC_INPUT n n else s1

/-- The fault-timer count and power-good logic of a sample in RAMP or ON (R391); a rail at its FAST threshold trips first
(R392, R394). -/
def State.spcCount (s : State) (n : Nat) (fast lim pg : Bool) : State :=
  let c := s.spcSt n
  if c.st ≠ 2 ∧ c.st ≠ 3 then s
  else if fast then s.spcTrip n 1
  else
    let count := if lim then c.count + 1 else if c.samples % 8 = 0 then c.count - 1 else c.count
    let s1 := s.setSpc n { c with count := count }
    if count ≥ s.fld (R.SPC_TIMING n) F.SPC_TIMING_FLT_TMO_US then s1.spcTrip n 2
    else if c.st = 2 then
      if !lim ∧ pg then
        let s2 := s1.setSpc n { c with count := count, st := 3, pg := true }
        match s2.spcPort n with | some p => s2.slotPg p true | none => s2
      else if s.now - c.rampAt ≥ 1000000 * s.fld (R.SPC_TIMING n) F.SPC_TIMING_PG_TMO_MS then s1.spcTrip n 3
      else s1
    else s1

/-- The start of the ramp, and the end of the re-arm hold (R387, R388). -/
def State.spcStart (s : State) (n : Nat) (inWin : Bool) : State :=
  let c := s.spcSt n
  let held := match c.offAt with
    | some t => decide ((s.now : Int) - t < 1000000 * s.fld (R.SPC_TIMING n) F.SPC_TIMING_REARM_MS)
    | none => false
  if c.st = 5 then (if held then s else s.setSpc n { c with st := if c.en then 1 else 0 })
  else if c.st = 1 ∧ c.en ∧ c.present ∧ s.now - c.gained ≥ 1000000 * s.fld (R.SPC_TIMING n) F.SPC_TIMING_INS_DLY_MS
      ∧ inWin ∧ !held then
    ((s.setSpc n { c with st := 2, count := 0, rampAt := s.now, outs := (0, 0) }).gates n true).count (R.SPC_CNT n 0)
  else s

/-- SPC_SAMPLE (R386 to R393). A controller whose ramp starts in this sample begins its count with the next. -/
def State.doSpcSample (s : State) (n : Nat) (x : SpcIn) : State :=
  let c := s.spcSt n
  let in12 := s.railIn n 0 x.r12
  let in3 := s.railIn n 1 x.r3
  let inWin := in12 && in3
  let lim := s.railLim n 0 x.r12 || s.railLim n 1 x.r3
  let fast := s.railFast n 0 x.r12.shunt || s.railFast n 1 x.r3.shunt
  let pg := s.railPg n 0 x.r12 && s.railPg n 1 x.r3
  let s1 := s.setSpc n { c with samples := c.samples + 1, inWindow := inWin, inLimit := lim }
  let s2 := match x.avg with | some a => s1.spcAvg n a | none => s1
  let s3 := s2.spcPresence n x.present
  let s4 := if (s3.spcSt n).st = 2 ∨ (s3.spcSt n).st = 3 then (s3.spcInput n in12 in3).spcCount n fast lim pg else s3.spcStart n inWin
  s4

/-- FAST_TRIP: the analog half has found a rail's shunt voltage at its FAST threshold in RAMP or ON (R392). A TIMER trip of the
same sample takes the cause FAST (R394). -/
def State.doFastTrip (s : State) (x : FastSeen) : State :=
  let n := x.ctl
  let c := s.spcSt n
  if !s.railFast n x.rail x.shunt then s
  else if c.st = 2 ∨ c.st = 3 then s.spcTrip n 1
  else if c.st = 4 ∧ c.cause = 2 ∧ c.offAt.any (fun t => decide ((s.now : Int) - t < 1000)) then
    let k := R.SPC_CNT n 2
    let s1 := (s.setSpc n { c with cause := 1 }).setFld k F.SPC_CNT_COUNT (s.fld k F.SPC_CNT_COUNT - 1)
    (s1.count (R.SPC_CNT n 1)).raise Flt.SPC_FAST_TRIP n n
  else s

/-- A sample, taken only where it ends as `p` says (log entry 6). -/
def State.spcOnly (s : State) (n : Nat) (x : SpcIn) (p : SpcSt → SpcSt → Bool) : State :=
  let s1 := s.doSpcSample n x
  if p (s.spcSt n) (s1.spcSt n) then s1 else s

/-- TIMER_TRIP (R391). -/
def State.doTimerTrip (s : State) (n : Nat) (x : SpcIn) : State :=
  s.spcOnly n x fun a b => a.st != 4 && b.st == 4 && b.cause == 2
/-- RAMP_TMO (R391). -/
def State.doRampTmo (s : State) (n : Nat) (x : SpcIn) : State :=
  s.spcOnly n x fun a b => a.st != 4 && b.st == 4 && b.cause == 3
/-- INPUT_TURN_OFF (R393). -/
def State.doInputOff (s : State) (n : Nat) (x : SpcIn) : State :=
  s.spcOnly n x fun a b => (a.st == 2 || a.st == 3) && b.st == 5 && b.cause == 4
/-- PRESENCE_LOST (R386). -/
def State.doPresenceLost (s : State) (n : Nat) (x : SpcIn) : State :=
  s.spcOnly n x fun a b => a.present && !b.present
/-- INSERTION_DELAY_END (R388). -/
def State.doInsertionEnd (s : State) (n : Nat) (x : SpcIn) : State :=
  s.spcOnly n x fun a b => a.st == 1 && b.st == 2
/-- REARM_HOLD_END (R387). -/
def State.doRearmEnd (s : State) (n : Nat) (x : SpcIn) : State :=
  s.spcOnly n x fun a b => a.st == 5 && b.st != 5

/-- SLOT_ENABLE (R387). -/
def State.doSlotEnable (s : State) (n : Nat) : State :=
  let c := s.spcSt n
  if s.spcWanted n ∧ !c.en then s.setSpc n { c with en := true, st := if c.st = 0 then 1 else c.st } else s

/-- SLOT_DISABLE (R387, R389, R393). -/
def State.doSlotDisable (s : State) (n : Nat) : State :=
  let c := s.spcSt n
  if s.spcWanted n ∨ !c.en then s
  else
    let s1 := s.setSpc n { c with en := false, st := if c.st = 1 ∨ c.st = 4 then 0 else c.st }
    if c.st = 2 ∨ c.st = 3 then s1.spcOff n 6 5 else s1

/-- A controller loses the analog die (R393, R404): it turns off with cause ANALOG and latches; one whose enable is 0 has
nothing to latch and stays OFF (log entry 172). -/
def State.analogOff (s : State) (n : Nat) : State :=
  let c := s.spcSt n
  let s1 := if c.st = 2 ∨ c.st = 3 then s.spcOff n 8 4
    else s.setSpc n { c with cause := 8, st := if c.en then 4 else 0, pg := false }
  s1.raise Flt.SPC_ANALOG n n

/-- The analog die is lost to every slot power controller (R404). -/
def State.analogDie (s : State) : State := (List.range 32).foldl State.analogOff s

/-- ANALOG_LOSS: some controllers lose the analog die, or all of them at once (R393, R404). -/
def State.doAnalogLoss (s : State) (ctls : Nat) : State :=
  if (List.range 32).all (bitAt ctls) then (s.raise Flt.SPC_ANALOG_DIE).analogDie
  else ((List.range 32).filter (bitAt ctls)).foldl State.analogOff s

/-- Every controller goes to OFF with cause DEVICE: step 7 of a decant, POWER_STATE OFF (R393, R395). -/
def State.spcDevice (s : State) : State :=
  (List.range 32).foldl (init := s) fun s n =>
    let c := s.spcSt n
    if c.st = 2 ∨ c.st = 3 then s.spcOff n 7 0
    else s.setSpc n { c with st := 0, pg := false, cause := 7 }

/-- ATTENTION_BUTTON_PRESSED (R207, R237): a slot whose image assigns it a button. -/
def State.doAttention (s : State) (n : Nat) : State :=
  match s.spcPort n with
  | some p =>
    if s.role p = 2 then s.slotEvent n 16 24
    else if s.isDown (.port p) ∧ s.buttonOf p ≠ 0 then s.slotEvent n 16 24 else s
  | none => s

/-- A slot's pad bank is released: presence is shown as it is, PERST_N takes its level (R373, R386). -/
def State.slotRelease (s : State) (n : Nat) : State :=
  match s.spcPort n with
  | some p =>
    let s1 := if (s.pcpOf p).present ≠ (s.spcSt n).present then s.showPresence n (s.spcSt n).present else s
    s1.emit (.pin "SLOT_PERST_N" p !(s1.pcpOf p).perst)
  | none => s

end Sys2Proof.Machine
end

