-- ==== Sys2Proof/Machine/Decant.lean ====
section
/-! DEFINITION. Decanting (12_decanting_and_keep_warm.md R338 to R353, R356): from PWRFAIL_N, or the start of
POWER_STATE KEEP_WARM or OFF, to keep-warm or OFF. -/

namespace Sys2Proof.Machine

/-! ### Arming and PWRFAIL_N (R338, R339, R376) -/

/-- Whether the life-cycle state is DEVELOPMENT or PRODUCTION (R338, R365). -/
def State.lcLive (s : State) : Bool := s.sec.otp.lc == 1 || s.sec.otp.lc == 2

/-- DECANT_ARM (R338). -/
def State.doDecantArm (s : State) (d : Desc) (mode : Nat) : State :=
  match s.mcrTake with
  | none => s
  | some (k, s1) =>
    let m := mode % 256
    if m > 2 then s1.cmdDone k d stBadParam
    else if m ≠ 0 ∧ !s1.lcLive then s1.cmdDone k d stDenied
    else
      let old := s1.fld R.DCT_ARM F.DCT_ARM_MODE
      let s2 := (s1.setFld R.DCT_ARM F.DCT_ARM_MODE m).setFld R.DCT_ARM F.DCT_ARM_ARMED (b2n (m ≠ 0))
      s2.cmdDone k d stSuccess old

/-- PWRFAIL_FALL (R339). -/
def State.doPwrfailFall (s : State) : State :=
  { s with aon := { s.aon with pwrfail := false, fellAt := s.now, confirmed := false } }

/-- PWRFAIL_RISE: a wake event in OFF and in a keep-warm entered by command, which a decant in progress holds (R376, R377,
R379). -/
def State.doPwrfailRise (s : State) : State :=
  if s.aon.pwrfail then s
  else { s with aon := { s.aon with pwrfail := true, wake := s.aon.wake || s.aon.mode == 1 || s.aon.mode == 2 || s.dct.active } }

/-! ### Writes that can still leave (R344) -/

/-- Whether a port still holds a drainable write (R344): up, not contained, and a write stands in one of its queues or is
being sent. -/
def State.drainableAt (s : State) (p : Nat) : Bool :=
  s.portOpen p && s.xbc.pkts.any fun e => e.2.hdr.kind == .mwr && e.2.dests.any fun x => x.port == p &&
    (match x.st with | .queued => true | .sending _ => true | _ => false)

/-- Whether the buffer holds a drainable write. -/
def State.drainable (s : State) : Bool := s.cfg.ports.any fun e => s.drainableAt e.1

/-- Time since t0 of the decant, in µs, as DCT_LAST holds it. -/
def State.sinceT0 (s : State) : Nat := min ((s.now - s.dct.t0) / 1000) 0xFFFF

/-! ### The start (R66, R342 steps 1 and 2, R343, R379) -/

/-- A command is abandoned: it completes with a status after the exit (R66). -/
def State.owe (s : State) (slot : Nat) (d : Desc) (result : Nat := 0) : State :=
  { s with dct := { s.dct with owed := s.dct.owed ++ [{ slot := slot, desc := d, result := result }] } }

/-- The RESULT word of a POWER_STATE (R366). -/
def pwrResult (domain reason stopped target : Nat) : Nat :=
  atBits domain 56 8 ||| atBits reason 48 8 ||| atBits stopped 40 8 ||| atBits target 38 2

/-- Descriptors fetched and not yet taken are abandoned (R66). Their commands have not come yet: TAG and IRQ of their completions
are free values (log entry 171). -/
def State.abandonFetched (s : State) : State :=
  let n := 2 * s.ringSize .mcr
  let ci := s.ringCi .mcr
  let s1 := (List.range ((s.ctl.fetched + n - ci) % n)).foldl (init := s) fun s k =>
    let (w, s1) := s.fresh
    s1.owe ((ci + k) % s.ringSize .mcr) { tag := w.toNat % 2 ^ 16, irq := bitAt w.toNat 16 }
  s1.setFld (R.CTL_CI 0) F.CTL_CI_INDEX s.ctl.fetched

/-- Commands in progress are abandoned (R66, R379): a COMMIT before its step 2, a HARVEST, a POWER_STATE unless it is the
one that decants; then those fetched. An abandoned POWER_STATE names no domain (R366). -/
def State.abandonCmds (s : State) (keep : Bool) : State :=
  let s1 := match s.ctl.commit with
    | some c => if c.step = 1 then ({ s with ctl := { s.ctl with commit := none } } : State).owe c.slot c.desc else s
    | none => s
  let s2 := match s1.ctl.busyCmd with
    | some (op, slot, d) =>
      if op = 0x20 ∧ keep then s1
      else
        let s' : State := { s1 with
          ctl := { s1.ctl with busyCmd := none }
          wlg := { s1.wlg with harvest := none }
          pwr := { s1.pwr with cmd := none } }
        let target := match s1.pwr.cmd with | some c => c.target | none => if s1.dct.off then 3 else 2
        s'.owe slot d (if op = 0x20 then pwrResult 0xFF 0 0 target else 0)
    | none => { s1 with pwr := { s1.pwr with cmd := none } }
  s2.abandonFetched

/-- The producers freeze and the drain begins, with its deadline and the end of its flush wait in ns after t0 (R342 step
2, R375 step 1). -/
def State.startDrain (s : State) (t0 deadline budget : Nat) (vaux : Bool) (cmd : Option (Nat × Desc)) : State :=
  let s1 := (s.setFld R.DCT_STAT F.DCT_STAT_LIST_OVF 0).setFld R.DCT_STAT F.DCT_STAT_VAUX_OK (b2n vaux)
  { s1 with dct := { s1.dct with
      active := true, quiet := true, drain := true, phase := 2, t0 := t0, deadline := deadline, budget := budget
      vauxOk := vaux && s1.sec.keyStore, cmd := cmd, cmdQuiet := false, flushes := [], draining := s1.cfg.prev.isSome } }

/-- Powers PD60 (R379, R375). -/
def State.powerPd60 (s : State) : State := s.setRaw R.PWR_ON (s.raw R.PWR_ON ||| BitVec.ofNat 64 (2 ^ 60))

/-! ### The list (R345, R347, R348) -/

/-- The entry of a decant flush that was not answered with Successful Completion (R347, R348, R573). -/
def State.flushEntry (s : State) (p code : Nat) : State :=
  let a := s.fld (R.DCT_FLUSH p) F.DCT_FLUSH_ADDR * 4
  let e := leBytes 1 3 ++ [0] ++ leBytes 1 code ++ [0, 0, 0] ++ leBytes 2 p ++ leBytes 8 a ++ leBytes 8 0 ++ leBytes 8 s.now
  let s1 := (s.count (R.DCT_CNT 6)).raise Flt.DCT_FLUSH_FAIL 0 (atBits code 8 3 ||| atBits p 0 7)
  let s2 := if s1.dct.off then s1 else s1.listEntry 32 false e
  { s2 with dct := { s2.dct with flushes := tput s2.dct.flushes p 2 } }

/-- Ports that a decant flushes (R346): enabled, and PCI Express downstream or fabric endpoint ports. -/
def State.flushPorts (s : State) : List Nat :=
  (s.cfg.ports.map (·.1)).filter fun p => (s.role p == 1 || s.role p == 2) && s.flag (R.DCT_FLUSH p) F.DCT_FLUSH_EN

/-- A write still in the buffer is listed, one entry for each copy (R345). -/
def State.unsent (s : State) (p : Pkt) (h : Hdr) (rep : Option Nat) : State :=
  let known := h.fab ∨ p.orig.fab
  let h' := if h.fab then h else if p.orig.fab then p.orig else h
  let f := p.pwfOf h' 0 (match p.group, rep with | some g, some r => some (g, r) | _, _ => none)
  let f := if p.orig.fab then { f with hostAddr := none, hdr := none } else f
  let own := if known then s.fidIndex f.src else some p.vs
  let f := if known then f else { f with src := s.srcFid p.vs }
  s.abandon (match own with | some i => if i < 32 then i else 32 | none => 32) 1 0 f

/-- Every write of a packet that has not left. -/
def State.unsentPkt (s : State) (p : Pkt) : State :=
  if p.hdr.kind ≠ .mwr then s
  else if p.dests = [] then s.unsent p p.waitHdr none
  else (p.dests.filter fun x => x.st != .done).foldl (fun s x => s.unsent p (if p.far then p.fab else x.fab.getD x.hdr) x.rep) s

/-- A write that a link has sent and that its partner has not acknowledged (R144, R345). -/
def State.unacked (s : State) (t : SentPkt) : State :=
  if t.pkt.hdr.kind = .mwr then
    s.pwfPkt t.pkt (if t.dest.hdr.fab then t.dest.hdr else t.dest.fab.getD t.dest.hdr) 5
      (match t.pkt.group, t.dest.rep with | some g, some r => some (g, r) | _, _ => none)
  else s

/-! ### Steps 5 and 7 of R342 -/

/-- What packets, links, routing and traffic state hold is gone, and fault records that still wait (R152, R176, R214, R275,
R331, R422). -/
def State.clearTraffic (s : State) : State :=
  { s with
    xbc := {}, mce := { fences := s.mce.fences, nextFence := s.mce.nextFence }, rte := {}, tmg := {}, brg := {}, answers := []
    wlg := { s.wlg with cache := [], harvest := none }, dmv := { failQ := s.dmv.failQ, msix := s.dmv.msix }
    pcp := s.pcp.map fun e => (e.1, { perst := e.2.perst, present := e.2.present, perstIn := e.2.perstIn, pgSince := e.2.pgSince })
    sgl := s.sgl.map fun e => (e.1, { swap := e.2.swap })
    fcr := { s.fcr with queue := [], lost := none } }

/-- A link stops: a packet in progress ends unfinished (R75, R247). -/
def State.stopLink (s : State) (p : Nat) : State :=
  let mine := s.xbc.sending.filter fun x => x.link == p
  let s1 := mine.foldl (init := s) fun s x =>
    if s.isScango p then s.emit (.link p "abort") else s.emit (.nullified p ((s.pkt x.pkt).dest x.dest).hdr)
  let s2 := if s1.isScango p then s1.setFld (s1.sk p R.SGL_LINK_STAT) F.SGL_LINK_STAT_STATE 0
    else s1.setRaw (s1.pk p R.PCP_LINK_STAT) (F.PCP_LINK_STAT_PM.set 0 7)
  (s2.setRaw (R.XBC_PORT_SPEED p) 0).emit (.link p "stop")

/-- Levels of the balls: driven from OUT, MAIN_EN driven high while the part runs, the others as the board or their pull-up
gives them (R559). -/
def State.pads (s : State) : Nat :=
  let oe := s.fld R.DEV_GPIO_CFG F.DEV_GPIO_CFG_OE
  let w := s.raw R.PWR_WAKE_CFG
  let me := if F.PWR_WAKE_CFG_MAIN_EN_EN.get w = 1 then 2 ^ F.PWR_WAKE_CFG_MAIN_EN_GPIO.get w else 0
  ((s.clk.pins &&& (255 - oe)) ||| (s.fld R.DEV_GPIO_DATA F.DEV_GPIO_DATA_OUT &&& oe) ||| me) % 256

/-- Every slot's PERST_N asserted, its gates off, and every pad bank latched (R342 step 7, R373, R377). -/
def State.slotsAndPads (s : State) : State :=
  let slots := (s.cfg.ports.map (·.1)).filter s.hasSlot
  let s1 := slots.foldl (fun s p => s.setPerst p true) s.spcDevice
  let s2 := (s1.setRaw (R.PWR_PAD_HOLD 0) (BitVec.allOnes 64)).setRaw (R.PWR_PAD_HOLD 1) 1
  { s2 with pwr := { s2.pwr with latched := [(64, s2.pads)] } }

/-- MAIN_EN low or high, if a GPIO drives it (R375 to R378). -/
def State.mainEn (s : State) (w : Word) (on : Bool) : State :=
  if F.PWR_WAKE_CFG_MAIN_EN_EN.get w = 1 then s.emit (.pin "GPIO" (F.PWR_WAKE_CFG_MAIN_EN_GPIO.get w) on) else s

/-- What outlives the loss of the core: the AON island with the carafe, the slot controllers' analog die, OTP and flash,
and what AGE keeps in them; the model's own fields. -/
def State.coreOff (s : State) : State :=
  { pending := s.pending, now := s.now, freeCtr := s.freeCtr, out := s.out, aon := s.aon, spc := s.spc
    sec := { otp := s.sec.otp, flash := s.sec.flash, rom := s.sec.rom, keyStore := false }
    age := { gb := s.age.gb, base := s.age.base, remap := s.age.remap, waiting := s.age.waiting, rowDue := s.age.rowDue, ledger := s.age.ledger, other := s.age.other, seq := s.age.seq, onNs := s.age.onNs, lastSum := s.age.lastSum
             cycles := s.age.cycles, trips := s.age.trips, retrains := s.age.retrains, repairs := s.age.repairs } }

/-- The device goes to safe quiet or OFF: only AON runs; the next start reports `code` (R341, R355, R362, R377). -/
def State.goOff (s : State) (code : Nat) : State :=
  let s1 := s.coreOff
  { s1 with aon := { s1.aon with mode := 2, exitCode := code, carafe := none, wakeCfg := (s.raw R.PWR_WAKE_CFG), wake := false, offNs := s.aon.ns } }

/-- The drain step ends (R342 step 3). -/
def State.drainEnds (s : State) : State :=
  let s1 := s.setFld R.DCT_LAST F.DCT_LAST_DRAIN_END s.sinceT0
  { s1 with dct := { s1.dct with drain := false, phase := 3 } }

/-- Step 5 of R342: links stop and the list is built; POWER_STATE OFF goes on to OFF (R377), and a device without VAUX to
safe quiet (R341). A step 3 that has not ended ends with it. -/
def State.stopLinks (s : State) : State :=
  let s0 := ((if s.dct.phase = 2 then s.drainEnds else s).powerPd60).setFld R.DCT_LAST F.DCT_LAST_FLUSH_END s.sinceT0
  let s1 := (sortBy (fun p : Pkt => p.arr) (s0.xbc.pkts.map (·.2))).foldl State.unsentPkt s0
  let s2 := s1.sgl.foldl (fun s e => e.2.sent.foldl State.unacked s) s1
  let s3 := ((s2.cfg.ports.map (·.1)).foldl State.stopLink s2).clearTraffic
  let s4 : State := { s3 with dct := { s3.dct with phase := 4, drain := false } }
  if s4.dct.off then
    let w := s4.raw R.PWR_WAKE_CFG
    ((s4.slotsAndPads).mainEn w false).goOff 0
  else if !s4.dct.vauxOk then s4.goOff 5
  else s4

/-- Flushes that no answer has come for by the end of the flush wait, and ports whose flush was never sent (R346,
R347). -/
def State.flushesLate (s : State) : State :=
  s.flushPorts.foldl (init := s) fun s p =>
    match tfind s.dct.flushes p with | some 1 => s | some 2 => s | _ => s.flushEntry p 7

/-! ### The rows of R342 to R347 -/

/-- PWRFAIL_CONFIRM: PWRFAIL_N has stayed low for DEGLITCH; `vaux` says that VAUX is within range (R339, R341, R342,
R379). -/
def State.doPwrfailConfirm (s : State) (vaux : Bool) : State :=
  if s.aon.pwrfail ∨ s.aon.confirmed ∨ s.now - s.aon.fellAt < 100 * s.fld R.DCT_CFG F.DCT_CFG_DEGLITCH then s
  else
    let s0 := ({ s with aon := { s.aon with confirmed := true } } : State).setFld R.DCT_STAT F.DCT_STAT_VAUX_OK (b2n vaux)
    if !s0.flag R.DCT_ARM F.DCT_ARM_ARMED then
      ({ s0 with aon := { s0.aon with ignored := true } } : State).event { code := 0x0502 } |>.raise Flt.DCT_PWRFAIL_IGNORED
    else if s0.dct.active ∧ (s0.dct.cmd = none ∨ s0.dct.phase ≥ 4) then s0
    else
      let b := s0.fld R.DCT_CFG F.DCT_CFG_BUDGET_US
      let f := s0.fld R.DCT_CFG F.DCT_CFG_FLUSH_US
      let s1 := (s0.raise Flt.DCT_DECANT).count (R.DCT_CNT 0)
      let s2 := s1.abandonCmds false
      let s2 : State := { s2 with dct := { s2.dct with cmd := none, off := false, abandonOk := false } }
      let s3 := (s2.startDrain s0.aon.fellAt (1000 * (b - f)) (1000 * b) vaux none).powerPd60
      if s3.fld R.DCT_ARM F.DCT_ARM_MODE = 2 then s3.stopLinks
      else if s3.safe then s3.flushesLate.stopLinks
      else s3

/-- DRAIN_END: the buffer holds no drainable write (R344). -/
def State.doDrainEnd (s : State) : State :=
  if s.dct.active ∧ s.dct.phase = 2 ∧ !s.drainable then s.drainEnds else s

/-- DRAIN_DEADLINE (R342). -/
def State.doDrainDeadline (s : State) : State :=
  if s.dct.active ∧ s.dct.phase = 2 ∧ s.now - s.dct.t0 ≥ s.dct.deadline then s.drainEnds else s

/-- PORT_FLUSH: the port holds no drainable write, or the drain has ended (R346). -/
def State.doPortFlush (s : State) (p : Nat) : State :=
  if !s.dct.active ∨ (s.dct.phase ≠ 2 ∧ s.dct.phase ≠ 3) ∨ !s.flushPorts.contains p ∨ (tfind s.dct.flushes p).isSome
      ∨ (s.drainableAt p ∧ s.dct.phase = 2 ∧ s.now - s.dct.t0 < s.dct.deadline) then s
  else if !s.portOpen p then s.flushEntry p 7
  else
    let v := s.vsOf p
    let unit := if s.role p = 2 then 32 + p else v
    match s.freeTag true unit (s.tagSpace unit) with
    | none => s.flushEntry p 7
    | some tag =>
      let rid := if s.role p = 2 then s.epId p else s.dmvId v
      let hd : Hdr := { kind := .mrd, hlen := 16, len := 1, fbe := 0, lbe := 0, addr := s.fld (R.DCT_FLUSH p) F.DCT_FLUSH_ADDR * 4,
                        tag := tag, reqId := rid }
      let s1 : State := { s with
        brg := { s.brg with loc := tput s.brg.loc (unit * 16384 + tag) { origin := .decant p } }
        dct := { s.dct with flushes := tput s.dct.flushes p 0 } }
      s1.addJob (.make { internalPkt hd (some p) with origin := .decant p, vs := v, vh := v } [])

/-- DECANT_FLUSH_ANSWER: the oldest answer to a decant flush (R347). -/
def State.doDecantAnswer (s : State) : State :=
  match s.answers.find? Answer.ofDecant with
  | none => s
  | some a =>
    let s1 : State := { s with answers := s.answers.erase a }
    match a.origin with
    | .decant p =>
      if !s1.dct.active ∨ tfind s1.dct.flushes p ≠ some 0 then s1
      else if a.status = 0 ∧ !a.lost ∧ s1.now - s1.dct.t0 < s1.dct.budget then
        ({ s1 with dct := { s1.dct with flushes := tput s1.dct.flushes p 1 } } : State).count (R.DCT_CNT 5)
      else s1.flushEntry p (if !a.lost ∧ (a.status = 1 ∨ a.status = 2 ∨ a.status = 4) then a.status else 7)
    | _ => s1

/-- A POWER_STATE completes: PWR_LAST, its counter, and its completion (R366, R369, R380). -/
def State.pwrDone (s : State) (slot : Nat) (d : Desc) (ok quiet : Bool) (result : Nat) : State :=
  let s1 := ((s.setRaw R.PWR_LAST (BitVec.ofNat 64 result)).count (R.PWR_CNT (if ok then 0 else 1)))
  let s2 : State := { s1 with ctl := { s1.ctl with busyCmd := none }, pwr := { s1.pwr with cmd := none } }
  if quiet then s2 else s2.cmdDone slot d (if ok then stSuccess else stRefused) result

/-- Ingress and producers restart: a decant by command ends without keep-warm (R375 step 2, R379). -/
def State.decantStops (s : State) : State :=
  { s with dct := { s.dct with
      active := false, quiet := false, drain := false, cmd := none, flushes := []
      phase := if s.dct.exitDue ∨ s.dct.list ≠ [] ∨ s.dct.summ ≠ [] then 6 else 0 } }

/-- BUDGET_END: every flush is answered, or the flush wait is over, or the safe state ends the drain (R342 steps 4 and 5,
R356, R375 step 2). -/
def State.doBudgetEnd (s : State) : State :=
  let done := s.flushPorts.all fun p => match tfind s.dct.flushes p with | some 1 => true | some 2 => true | _ => false
  if !s.dct.active ∨ !(s.safe && (s.dct.phase == 2 || s.dct.phase == 3)
      || s.dct.phase == 3 && (done || decide (s.now - s.dct.t0 ≥ s.dct.budget))) then s
  else match s.dct.cmd with
  | some (slot, d) =>
    if s.drainable ∧ !s.dct.abandonOk then
      s.decantStops.pwrDone slot d false false (pwrResult 0xFE 9 0 (if s.dct.off then 3 else 2))
    else s.flushesLate.stopLinks
  | none => s.flushesLate.stopLinks

/-! ### The carafe (R350 to R352) -/

/-- Registers that the carafe keeps whole: the decant's counters and times, the rings, the write-log contexts, the wear
state (R350, R499). -/
def keptWhole (key : Nat) : Bool :=
  (R.DCT_CNT 0 ≤ key && key < R.DCT_CNT 7) || key == R.DCT_LAST || key == R.DCT_ARM
    || (R.CTL_BASE 0 ≤ key && key < R.CTL_EPOCH) || (R.WLG_CTX_CFG 0 ≤ key && key < R.WLG_CTX_CFG 1024)
    || (R.AGE_EC 0 ≤ key && key < R.AGE_PDM 0)

/-- What the carafe keeps of a register beside those: its LIVE, SH and QUIESCE fields; the others at their reset values. -/
def keptWord (s : State) (key : Nat) (w : Word) : Word :=
  if keptWhole key then w
  else match regAt key with
  | none => 0
  | some d => d.fields.foldl (init := resetWord s.cfg.img s.cfg.otp key) fun x f =>
      if f.cls = .none then x else (⟨f.hi, f.lo⟩ : Fld).set x ((⟨f.hi, f.lo⟩ : Fld).get w)

/-- A register as the carafe gives it back: the fields it keeps, the others as they stand. -/
def givenBack (key : Nat) (old w : Word) : Word :=
  if keptWhole key then w
  else match regAt key with
  | none => old
  | some d => d.fields.foldl (init := old) fun x f => if f.cls = .none then x else (⟨f.hi, f.lo⟩ : Fld).set x ((⟨f.hi, f.lo⟩ : Fld).get w)

/-- The retained die: TM0, or once TM0 has been relocated the die of the reserve (R352, R449). None where that die is not
in service either. -/
def State.keptDie (s : State) : Option Nat :=
  let k := if s.tbm.out = some 0 ∧ !s.relocBusy then (s.regions 4).head?.map fun r => r.1 / 2 ^ 27 else some 0
  match k with
  | some d => if s.tbm.gone.contains d then none else some d
  | none => none

/-- A fence as the carafe saves it: every required replica without a cause gets DECANT, and one not yet taken ends with
DECANT_INTERRUPTED (R123), REPLICAS 0 and CAUSE 0xFFFF (DESIGN CHOICE, log entry 150). -/
def Fence.kept (f : Fence) : Fence :=
  if f.st = 3 then { f with saved := true }
  else if f.st = 2 then
    { f with st := 3, saved := true, slice := none
             reps := f.reps.map fun y => if y.st = 2 then y else { y with cause := 4, st := 2 } }
  else { f with st := 3, saved := true, slice := none, bad := some 4 }

/-- Sources that have an entry of an abandoned write in the list, or an error of an earlier exit still to log (R349). -/
def State.listSources (s : State) : List Nat :=
  (((s.dct.list.filter fun e => leAt e.2 0 1 ≠ 3).map (·.1)) ++ s.dct.summ.map (·.1) ++ s.dct.aerDue).eraseDups

/-- SEAL: the carafe is saved and sealed (R342 step 6, R350, R351). Events that wait for EVR room, and the EVR's own
RING_OVERFLOW flag, are not among its parts and are dropped (DEDUCED, log entry 145). -/
def State.doSeal (s : State) : State :=
  if !s.dct.active ∨ s.dct.phase ≠ 4 then s
  else
    let s1 := s.setFld R.DCT_LAST F.DCT_LAST_SAVE_END s.sinceT0
    let owedC := match s1.ctl.commit with
      | some c => if c.step = 4 then [({ slot := c.slot, desc := c.desc, status := stSuccess, result := s1.cfg.epoch } : Owed)] else []
      | none => []
    let heldC := (s1.ctl.held.filter fun r => r.code == 1).map fun r =>
      ({ slot := r.slot, desc := { irq := r.irq, tag := r.tag }, status := r.status, result := r.result, detail := r.detail } : Owed)
    let cmdC := match s1.dct.cmd with
      | some (slot, d) => if s1.dct.cmdQuiet then [] else [({ slot := slot, desc := d, status := stSuccess, result := pwrResult 0xFF 0 0 2 } : Owed)]
      | none => []
    let die := s1.keptDie
    let here := fun a : Nat => match die with | some k => s1.phys a / 2 ^ 27 == k | none => false
    let lost := (s1.regionList.filter fun r => r.2.2.1 ≤ 1 && some r.2.2.2 != die && 1 ≤ r.2.2.2).foldl
      (fun m r => m ||| 2 ^ (r.2.2.2 - 1)) 0
    let c : Carafe := {
      format := 1, counter := (s1.aon.saveCtr + 1) % 2 ^ 64, digest := s1.sec.digests.getD 2 [], sealed := true
      mode := s1.fld R.DCT_ARM F.DCT_ARM_MODE
      -- the slices' pages are not kept: every slice is DISABLED after the exit (R331)
      regs := (s1.cfg.regs.filter fun e => (pageSlice e.1).isNone).map fun e => (e.1, keptWord s1 e.1 e.2)
      epoch := s1.cfg.epoch, draining := s1.dct.draining
      finished := heldC ++ owedC ++ s1.dct.owed.filter (·.status == stSuccess)
      owed := s1.dct.owed.filter (·.status != stSuccess) ++ cmdC
      onDie := s1.cfg.onDie, fences := s1.mce.fences.map fun e => (e.1, e.2.kept), nextFence := s1.mce.nextFence
      snaps := s1.lg.lanes.filterMap fun e => e.2.snap.map fun x => (e.1, x)
      spares := s1.sgl.filterMap fun e => if e.2.swap.rx.isSome ∨ e.2.swap.tx.isSome then some (e.1, e.2.swap.rx, e.2.swap.tx) else none
      list := s1.dct.list, summ := s1.dct.summ, listOvf := s1.fld R.DCT_STAT F.DCT_STAT_LIST_OVF, aer := s1.listSources
      held := (s1.raw (R.PWR_PAD_HOLD 0)).toNat + 2 ^ 64 * ((s1.raw (R.PWR_PAD_HOLD 1)).toNat % 2)
      die := die, tm := s1.cfg.tm.filter fun e => here e.1, flips := s1.tbm.flips.filter fun e => e.1 < 2 ^ 30 && here e.1
      lostDies := lost, reloc := s1.relocBusy }
    { s1 with aon := { s1.aon with saveCtr := (s1.aon.saveCtr + 1) % 2 ^ 64, carafe := some c }, dct := { s1.dct with phase := 5 } }

/-- KEEP_WARM_ENTRY: step 7 of R342 ends; the device is in keep-warm (R373, R375, R395, R526). -/
def State.doKeepWarmEntry (s : State) : State :=
  if !s.dct.active ∨ s.dct.phase ≠ 5 then s
  else
    let t := s.sinceT0
    let s1 := s.slotsAndPads
    let w := s1.raw R.PWR_WAKE_CFG
    let s2 := if s1.dct.cmd.isSome then s1.mainEn w false else s1
    let c := s2.aon.carafe.map fun c =>
      { c with regs := tput c.regs R.DCT_LAST (F.DCT_LAST_KEEP_ENTRY.set (s2.raw R.DCT_LAST) t) }
    let a : AonSt := { s2.aon with
      mode := 1, carafe := c, offNs := s2.aon.ns, tsRec := s2.now, tickRec := s2.aon.ns, entered := s2.aon.ns
      keepMax := s2.fld R.DCT_KEEP F.DCT_KEEP_KEEP_MAX_H, byCmd := s2.dct.cmd.isSome, wakeAfter := s2.dct.wakeAfter
      wakeCfg := w, vauxDrop := false, keepExpired := false, ignored := false }
    { s2.coreOff with aon := a }

/-! ### Keep-warm (R353, R355, R376) -/

/-- KEEP_EXPIRED: KEEP_MAX_H hours have passed in keep-warm; AON discards the carafe (R353). -/
def State.doKeepExpired (s : State) : State :=
  if s.aon.mode = 1 ∧ s.aon.keepMax ≠ 0 ∧ s.aon.ns - s.aon.entered ≥ s.aon.keepMax * 3600000000000 then
    { s with aon := { s.aon with carafe := none, keepExpired := true } }
  else s

/-- VAUX_DROP during keep-warm (R355). -/
def State.doVauxDrop (s : State) : State :=
  if s.aon.mode = 1 then { s with aon := { s.aon with vauxDrop := true } } else s

/-- WAKE_GPIO: the WAKE ball has reached its active level; a wake event during the entry is held (R376, R379). -/
def State.doWakeGpio (s : State) : State :=
  let w := if s.aon.mode = 0 then s.raw R.PWR_WAKE_CFG else s.aon.wakeCfg
  if F.PWR_WAKE_CFG_WAKE_EN.get w = 1 ∧ (s.aon.mode = 1 ∨ s.aon.mode = 2 ∨ (s.dct.active ∧ s.dct.cmd.isSome)) then
    { s with aon := { s.aon with wake := true } }
  else s

/-- CALENDAR_WAKE: WAKE_AFTER_S has elapsed in keep-warm (R376). -/
def State.doCalendarWake (s : State) : State :=
  if s.aon.mode = 1 ∧ s.aon.byCmd ∧ s.aon.wakeAfter ≠ 0 ∧ s.aon.ns - s.aon.entered ≥ s.aon.wakeAfter * 1000000000 then
    { s with aon := { s.aon with wake := true } }
  else s

/-- MAIN_SUPPLY_LOSS: the main supplies fall or leave their range (R339, R351, R355, R362). A carafe that is already sealed
keeps the device in keep-warm. -/
def State.doMainLoss (s : State) : State :=
  let s0 : State := { s with aon := { s.aon with main := false } }
  if s0.aon.mode = 0 then
    if s0.dct.active ∧ s0.dct.phase = 5 then s0.doKeepWarmEntry
    -- a decant that saves nothing for want of VAUX reports that (R341)
    else s0.goOff (if s0.dct.active ∧ !s0.dct.off then (if s0.flag R.DCT_STAT F.DCT_STAT_VAUX_OK then 2 else 5)
      else if s0.aon.ignored then 0xB else 0)
  else s0

/-! ### The list after the exit (R348, R349) -/

/-- The entry of a summary (R348). -/
def State.summEntry (s : State) (source : Nat) (x : Nat × Nat) : List Byte :=
  let fid := s.srcFid (if source < 32 then source else 160)
  leBytes 1 4 ++ [0, 0, 0] ++ leBytes 2 fid ++ [0, 0] ++ leBytes 8 x.1 ++ leBytes 8 0 ++ leBytes 8 x.2

/-- DECANT_ABANDONED: the next entry of the list is delivered to a free EVR slot; after the last, event 0x0501 (R349,
R352). -/
def State.doDecantAbandoned (s : State) : State :=
  if s.decanting ∨ s.ringRoom .evr = 0 ∨ s.ctl.held ≠ [] then s
  else match s.dct.list with
  | e :: t => ({ s with dct := { s.dct with list := t } } : State).putEvr { code := 0x0500, data := e.2 }
  | [] =>
    match s.dct.summ with
    | (k, x) :: t => ({ s with dct := { s.dct with summ := t } } : State).putEvr { code := 0x0500, data := s.summEntry k x }
    | [] =>
      if s.dct.exitDue then
        ({ s with dct := { s.dct with exitDue := false, phase := 0 } } : State).putEvr { code := 0x0501, data := leBytes 1 s.dct.lost }
      else s

end Sys2Proof.Machine
end

