-- ==== Sys2Proof/Machine/Power.lean ====
section
/-! DEFINITION. POWER_STATE and the switched domains (13_power_states_and_domains.md R362 to R379). -/

namespace Sys2Proof.Machine

/-! ### Masks and orders (R33, R365, R368) -/

/-- Whether a domain is on and its logic ready (R380). -/
def State.pdOn (s : State) (d : Nat) : Bool := bitAt (s.raw R.PWR_ON).toNat d

/-- The domains in the stop order (R368). -/
def stopOrder : List Nat :=
  [61, 62, 63] ++ List.range 32 ++ (List.range 8).map (· + 48) ++ [60] ++ [56, 57, 58, 59]

/-- The set of domains that a TRIM asks for: each quadrant follows its lane groups (R33, R365). -/
def wantedMask (onMask : Nat) (d : Nat) : Bool :=
  if 48 ≤ d ∧ d ≤ 55 then (List.range 4).any fun k => bitAt onMask (4 * (d - 48) + k) else bitAt onMask d

/-- Whether ON_MASK of a TRIM is valid (R365). -/
def trimOk (onMask runMask : Nat) : Bool :=
  (List.range 64).all fun d =>
    (48 ≤ d && d ≤ 55) || ((!bitAt onMask d || bitAt runMask d) && (bitAt onMask d || !(32 ≤ d && d ≤ 47 || d == 56)))

/-! ### Why a block refuses (R366, R367) -/

/-- Whether a port is held down (R367): ADMIN_UP = 0; Link Disable, DPC or an empty slot. -/
def State.heldDown (s : State) (p : Nat) : Bool :=
  if s.isScango p then !s.adminUp p
  else s.cfgBits (.port p) 0x1C 4 1 == 1 || (s.pcpOf p).dpc || (s.hasSlot p && !(s.spcSt (s.spcOf p)).present)

/-- The REASON with which a domain's block refuses to stop; none where it agrees (R367). -/
def State.refusal (s : State) (d : Nat) : Option Nat :=
  if d < 32 then
    let mgr := match s.upPort s.mgrVs with | some p => s.groupsOf p | none => []
    if mgr.contains d then some 2 else if (s.portsOn d).all s.heldDown then none else some 1
  else if 56 ≤ d ∧ d ≤ 59 then
    if (List.range 16).any fun k => s.flag (R.TBM_REGION k) F.TBM_REGION_VALID && s.fld (R.TBM_REGION k) F.TBM_REGION_DIE == d - 56
    then some 3 else none
  else if d = 60 then
    if s.sec.sessions ≠ [] ∨ s.sec.keys.any (fun e => !e.2.active.isEmpty) then some 4 else none
  else if d = 61 then (if s.dmv.slices.any fun e => e.2.st ≠ 0 then some 5 else none)
  else if d = 62 then (if s.wlg.harvest.isSome then some 6 else none)
  else none

/-! ### Switching (R367, R370 to R373) -/

/-- A pad bank is latched (R373). -/
def State.latchBank (s : State) (b : Nat) : State :=
  let k := R.PWR_PAD_HOLD (b / 64)
  s.setRaw k (s.raw k ||| BitVec.ofNat 64 (2 ^ (b % 64)))

/-- The effects of a domain that is off, whose datapath state and memories are lost (R298, R330, R361, R367, R481). -/
def State.domainDies (s : State) (d : Nat) : State :=
  if d < 32 then
    let s1 := (s.groupIdle d).latchBank d
    { s1 with lg := { s1.lg with lanes := s1.lg.lanes.filter fun e => e.1 / 9 ≠ d } }
  else if d = 60 then { s with sec := { s.sec with keys := [], sessions := [] } }
  else if d = 62 then ({ s with wlg := { s.wlg with cache := [] } } : State).allCtxLost
  else if 56 ≤ d ∧ d ≤ 59 then { s with tbm := { s.tbm with dies := tput s.tbm.dies (d - 56) { up := false } } }
  else s

/-- Switches a domain off (R370). -/
def State.domainOff (s : State) (d : Nat) : State :=
  let m := BitVec.ofNat 64 (2 ^ d)
  ((s.setRaw R.PWR_ON (s.raw R.PWR_ON &&& ~~~m)).count (R.PWR_CNT 4)).domainDies d

/-- A domain is on and its logic ready (R371); `test` is the result of PD60's self-test (R483). -/
def State.domainOn (s : State) (d : Nat) (test : Bool) : State :=
  let s1 := s.setRaw R.PWR_ON (s.raw R.PWR_ON ||| BitVec.ofNat 64 (2 ^ d))
  if 56 ≤ d ∧ d ≤ 59 then { s1 with tbm := { s1.tbm with dies := tput s1.tbm.dies (d - 56) {} } }
  else if d = 60 then
    let s2 := s1.setFld R.SEC_STAT F.SEC_STAT_SELFTEST_OK (b2n test)
    if test then s2 else s2.raise Flt.SEC_SELFTEST
  else s1

/-- Bound in µs of a stage of a domain's wake: regulator, oscillator, memory, logic (R371). -/
def wakeBound (d stage : Nat) : Nat :=
  let l := if d < 32 then [20, 50, 10, 1]
    else if d ≤ 47 then [20, 2, 200, 1]
    else if d ≤ 55 then [20, 2, 40, 1]
    else if d ≤ 59 then [50, 20, 2250, 1]
    else if d = 60 then [20, 2, 5, 20]
    else [20, 2, 10, 1]
  l.getD stage 0

/-- Takes the command on: switches off what has agreed and starts the wakes, or completes (R370). -/
def State.pwrSwitch (s : State) (c : PwrCmd) : State :=
  let s1 := c.stopped.foldl State.domainOff s
  let c1 : PwrCmd := { c with stops := [], stopped := [], stage := 0, since := s1.now }
  if c.wakes = [] then s1.pwrDone c.slot c.desc true c.quiet (pwrResult 0xFF 0 0 c.target)
  else { s1 with pwr := { s1.pwr with cmd := some c1 } }

/-- A block refuses, or the device as a whole does: the stopped blocks restart, nothing is switched (R369). -/
def State.pwrRefuse (s : State) (c : PwrCmd) (domain reason : Nat) : State :=
  (s.raise Flt.PWR_REFUSED).pwrDone c.slot c.desc false c.quiet (pwrResult domain reason c.stopped.length c.target)

/-! ### The rows -/

/-- A POWER_STATE is turned away with a status: its RESULT names no domain and no reason, and PWR_LAST holds it (R366). -/
def State.pwrTurned (s : State) (slot : Nat) (d : Desc) (status target : Nat) : State :=
  let r := pwrResult 0xFF 0 0 (target % 4)
  (s.setRaw R.PWR_LAST (BitVec.ofNat 64 r)).cmdDone slot d status r

/-- POWER_STATE_TRIM: TARGET RUN or TRIM, or one that is not listed (R67, R364 to R368). -/
def State.doTrim (s : State) (d : Desc) (target onMask : Nat) : State :=
  let t := target % 256
  if t = 2 ∨ t = 3 then s
  else match s.mcrTake with
  | none => s
  | some (k, s1) =>
    let run := (s1.raw R.PWR_RUN_MASK).toNat
    let mask := if t = 0 then run else onMask % 2 ^ 64
    if s1.safe then s1.pwrTurned k d stSafeState t
    else if t > 3 ∨ (t = 1 ∧ !trimOk mask run) then s1.pwrTurned k d stBadParam t
    else
      let stops := stopOrder.filter fun x => s1.pdOn x && !wantedMask mask x
      let wakes := stopOrder.reverse.filter fun x => !s1.pdOn x && wantedMask mask x
      let c : PwrCmd := { slot := k, desc := d, target := t, stops := stops, wakes := wakes, since := s1.now }
      let s2 : State := { s1 with ctl := { s1.ctl with busyCmd := some (0x20, k, d) } }
      if stops = [] then s2.pwrSwitch c else { s2 with pwr := { s2.pwr with cmd := some c } }

/-- STOP_ANSWER: the block that PWR waits for answers AGREE or REFUSE (R367 to R370). -/
def State.doStopAnswer (s : State) : State :=
  match s.pwr.cmd with
  | none => s
  | some c =>
    match c.stops with
    | [] => s
    | d :: rest =>
      -- a block that answers too late has refused with TIMEOUT
      match if s.now - c.since > 1000 * s.fld R.PWR_CFG F.PWR_CFG_STOP_TMO_US then some 7 else s.refusal d with
      | some r => s.pwrRefuse c d r
      | none =>
        let c1 : PwrCmd := { c with stops := rest, stopped := c.stopped ++ [d], since := s.now }
        if rest = [] then s.pwrSwitch c1 else { s with pwr := { s.pwr with cmd := some c1 } }

/-- STOP_TIMEOUT (R368, R369). -/
def State.doStopTimeout (s : State) : State :=
  match s.pwr.cmd with
  | none => s
  | some c =>
    match c.stops with
    | [] => s
    | d :: _ => if s.now - c.since ≥ 1000 * s.fld R.PWR_CFG F.PWR_CFG_STOP_TMO_US then s.pwrRefuse c d 7 else s

/-- DOMAIN_WAKE_READY: the ready signal of a stage arrives within its bound (R371); that of a die's memory stage follows its
fill (R437). -/
def State.doWakeReady (s : State) (test : Bool) : State :=
  match s.pwr.cmd with
  | none => s
  | some c =>
    match c.stops, c.wakes with
    | [], d :: rest =>
      let tm := decide (56 ≤ d ∧ d ≤ 59)
      let x : TmDie := tget {} s.tbm.dies (d - 56)
      if s.now - c.since > 1000 * wakeBound d c.stage ∨ (tm ∧ c.stage = 2 ∧ x.filling) then s
      else if c.stage < 3 then
        -- the memory stage of a die fills it (R437)
        let s1 : State := { s with pwr := { s.pwr with cmd := some { c with stage := c.stage + 1, since := s.now } } }
        if tm ∧ c.stage = 1 then { s1 with tbm := { s1.tbm with dies := tput s1.tbm.dies (d - 56) { x with filling := true } } } else s1
      else
        let s1 := s.domainOn d test
        if rest = [] then s1.pwrDone c.slot c.desc true c.quiet (pwrResult 0xFF 0 0 c.target)
        else { s1 with pwr := { s1.pwr with cmd := some { c with wakes := rest, stage := 0, since := s.now } } }
    | _, _ => s

/-- The wake of a domain fails: it is switched off again, and the command is refused (R372). -/
def State.wakeFailed (s : State) (c : PwrCmd) (d : Nat) : State :=
  (((s.domainOff d).count (R.PWR_CNT 3)).raise Flt.PWR_WAKE_FAIL).pwrDone c.slot c.desc false c.quiet (pwrResult d 8 0 c.target)

/-- WAKE_TIMEOUT (R372). -/
def State.doWakeTimeout (s : State) : State :=
  match s.pwr.cmd with
  | none => s
  | some c =>
    match c.stops, c.wakes with
    | [], d :: _ => if s.now - c.since > 1000 * wakeBound d c.stage then s.wakeFailed c d else s
    | _, _ => s

/-- The analog calibration of a lane group fails at the oscillator stage of its wake (R404). -/
def State.calFailed (s : State) (g : Nat) : State :=
  match s.pwr.cmd with
  | none => s
  | some c => if c.stops = [] ∧ c.wakes.head? = some g ∧ c.stage = 1 then s.wakeFailed c g else s

/-- The safe state entered during the stop handshake is a refusal (R379). -/
def State.pwrSafe (s : State) : State :=
  match s.pwr.cmd with
  | some c => if s.safe ∧ c.stops ≠ [] then s.pwrRefuse c 0xFE 7 else s
  | none => s

/-- KEEP_WARM and OFF: the drain of R342 begins under the command's own times (R365, R375, R377). -/
def State.doPowerDrain (s : State) (d : Desc) (target flags drainMs wakeAfter : Nat) : State :=
  match s.mcrTake with
  | none => s
  | some (k, s1) =>
    let ms := drainMs % 65536
    let noWake := target = 2 ∧ wakeAfter % 2 ^ 32 = 0 ∧ !s1.flag R.PWR_WAKE_CFG F.PWR_WAKE_CFG_WAKE_EN
    if s1.safe then s1.pwrTurned k d stSafeState target
    else if ms = 0 ∨ ms > 1000 ∨ noWake then s1.pwrTurned k d stBadParam target
    else if !s1.lcLive then s1.pwrTurned k d stDenied target
    else
      let s2 : State := { s1 with ctl := { s1.ctl with busyCmd := some (0x20, k, d) }, aon := { s1.aon with wake := false } }
      let f := s2.fld R.DCT_CFG F.DCT_CFG_FLUSH_US
      let s3 := (s2.abandonCmds true).startDrain s2.now (1000000 * ms) (1000000 * ms + 1000 * f) s2.aon.vaux (some (k, d))
      { s3 with dct := { s3.dct with
          abandonOk := bitAt flags 0, off := decide (target = 3), wakeAfter := if target = 2 then wakeAfter % 2 ^ 32 else 0 } }

/-- POWER_STATE_KEEP_WARM (R375). -/
def State.doKeepWarm (s : State) (d : Desc) (flags drainMs wakeAfter : Nat) : State := s.doPowerDrain d 2 flags drainMs wakeAfter

/-- POWER_STATE_OFF (R377). -/
def State.doOff (s : State) (d : Desc) (flags drainMs : Nat) : State := s.doPowerDrain d 3 flags drainMs 0

/-- A Function Level Reset of the management function during a POWER_STATE (R379). -/
def State.pwrFlr (s : State) : State :=
  match s.pwr.cmd with
  | some c =>
    if c.stops ≠ [] then s.pwrRefuse { c with quiet := true } 0xFE 7
    else { s with pwr := { s.pwr with cmd := some { c with quiet := true } } }
  | none =>
    match s.dct.cmd with
    | some (slot, d) =>
      if s.dct.phase = 2 ∨ s.dct.phase = 3 then
        s.decantStops.pwrDone slot d false true (pwrResult 0xFE 9 0 (if s.dct.off then 3 else 2))
      else { s with dct := { s.dct with cmdQuiet := true } }
    | none => s

/-! ### Pad banks (R373, R374) -/

/-- Whether the domain of a pad bank is on (R374). -/
def State.bankPowered (s : State) (b : Nat) : Bool := b ≥ 32 || s.pdOn b

/-- Ports whose pads have been released start to come up (R374). -/
def State.padsUp (s : State) (g : Nat) : State :=
  (s.portsOn g).foldl (init := s) fun s p =>
    if s.isScango p then (if s.mayBringUp p ∧ (s.sglOf p).st = 0 then s.bringUp p else s)
    else if (s.pcpOf p).up then s else s.trainAgain p

/-- A pad bank is released (R374). -/
def State.bankRelease (s : State) (b : Nat) : State :=
  if !s.bankHeld b then s
  else if !s.bankPowered b then s.badParam (R.PWR_PAD_HOLD (b / 64))
  else
    let k := R.PWR_PAD_HOLD (b / 64)
    let s1 := s.setRaw k (s.raw k &&& ~~~BitVec.ofNat 64 (2 ^ (b % 64)))
    if b < 32 then s1.padsUp b
    else if b < 64 then s1.slotRelease (b - 32)
    else { s1 with pwr := { s1.pwr with latched := [] } }

/-! ### FAULT_MESSAGE (R402, R404, R405) -/

/-- What a block does at a fault of R402 or R404 beside raising it. -/
def State.faultEffect (s : State) (source kind info : Nat) : State :=
  if (Flt.EC_MEM_COR).source ≤ source ∧ source < (Flt.EC_MEM_COR).source + 144 then s.engineFault (source - (Flt.EC_MEM_COR).source) kind
  else if source = (Flt.EC_FW_ECC).source then { s with age := { s.age with fwBad := true } }
  else if source = (Flt.LG_CAL_FAIL).source then s.calFailed (info % 32)
  else if source = (Flt.SPC_ANALOG_DIE).source then s.analogDie
  else if source = (Flt.LG_REF_DIST).source then
    let ports := (s.cfg.ports.map (·.1)).filter fun p => (s.groupsOf p).any (bitAt info)
    ports.foldl (fun s p => if s.isScango p then s.sglDown p else s.linkDown p) s
  else if source = (Flt.PCP_CFG_PARITY).source then
    ({ s with pci := tdel s.pci ((Fn.port (info % 128)).num * 1024 + bitsOf info 8 10) } : State)
  else if source = (Flt.SGL_CC_QUEUE_PARITY).source then
    match s.sgl.find? fun e => s.quadrant e.1 == info % 8 && !e.2.routed.isEmpty with
    | some (p, x) =>
      let arr := (x.routed.headD (none, [])).1
      (((s.setSgl p { x with routed := x.routed.drop 1 }).cntSgl (arr.getD p) 11)).returnCrema arr
    | none => s
  else s

/-- FAULT_MESSAGE. -/
def State.doFaultMessage (s : State) : FaultEvent → State
  | .next => s.faultNext
  | .raised source kind block info =>
    if faultKnown source kind then
      let w := faultWord source kind block info
      let s1 : State := s.faultEffect source kind info
      ({ s1 with fcr := { s1.fcr with inbox := s1.fcr.inbox ++
          [{ word := w, time := s.now, epoch := s.cfg.epoch, quiet := s.dct.quiet }] } } : State).faultNext
    else s
  | .strike c i => s.strike c i

end Sys2Proof.Machine
end

