-- ==== Sys2Proof/Machine/Security.lean ====
section
/-! DEFINITION. SEC (17_security.md R454 to R473, R479 to R484): the flash, SPDM and IDE_KM, authorisation objects and the
life cycle, the debug port. The MPU stands with the registers. -/

namespace Sys2Proof.Machine

/-- Changes SEC's state. -/
def State.onSec (s : State) (f : SecSt → SecSt) : State := { s with sec := f s.sec }

/-- Fresh bytes of the SEC random generator (log entry 5). -/
def State.freshBytes (s : State) : Nat → List Byte × State
  | 0 => ([], s)
  | n + 1 =>
    let (w, s1) := s.fresh
    let (t, s2) := s1.freshBytes n
    (leBytes 8 w.toNat ++ t, s2)

/-! ### Owner keys (R454, R456, R470) -/

/-- Whether an owner slot holds a key that is not revoked. -/
def OtpSt.ownerOk (o : OtpSt) (k : Nat) : Bool := k ≤ 3 && (tfind o.owners k).isSome && !bitAt o.revoked k

/-- OWNER_KEYS of SEC_STAT (R483). -/
def OtpSt.ownerBits (o : OtpSt) : Nat := (List.range 4).foldl (fun n k => n + 2 ^ k * b2n (o.ownerOk k)) 0

/-! ### Flash (R459, R482) -/

/-- First flash byte of a 4 KiB sector. -/
def sectorBase (n : Nat) : Nat := n * 4096

/-- An erased sector: a byte not listed reads 0xFF (log entry 26). -/
def State.eraseSector (s : State) (n : Nat) : State :=
  s.onSec fun x => { x with flash := x.flash.filter fun e => !(sectorBase n ≤ e.1 && e.1 < sectorBase n + 4096) }

/-- The bytes of a sector replaced. -/
def State.putSector (s : State) (n : Nat) (bs : List Byte) : State :=
  s.onSec fun x => { x with flash := Mem.wrN 0xFF x.flash (sectorBase n) (bs.take 4096) }

/-- A flash operation ends with a RESULT. -/
def State.flashEnd (s : State) (result : Nat) : State :=
  ((s.setFld R.SEC_FLASH_CMD F.SEC_FLASH_CMD_BUSY 0).setFld R.SEC_FLASH_CMD F.SEC_FLASH_CMD_RESULT result).onSec
    fun x => { x with flashOp := none }

/-- A write has set GO of SEC_FLASH_CMD. -/
def State.flashGo (s : State) : State :=
  let op := s.fld R.SEC_FLASH_CMD F.SEC_FLASH_CMD_OP
  let n := s.fld R.SEC_FLASH_CMD F.SEC_FLASH_CMD_SECTOR
  if !s.flag R.SEC_BOOT F.SEC_BOOT_RECOVERY ∧ n / 4096 = s.fld R.SEC_BOOT F.SEC_BOOT_BANK then s.flashEnd 2
  else
    let s1 := (s.setFld R.SEC_FLASH_CMD F.SEC_FLASH_CMD_BUSY 1).onSec fun x => { x with flashOp := some (op, n) }
    if op = 1 then s1.hostRead .mgmt (s.fld R.SEC_FLASH_ADDR F.SEC_FLASH_ADDR_ADDR * 4096) 4096 else s1

/-- FLASH_DONE: `data` is what the host buffer gave for a program, none where the host access failed; `err` a flash error,
after an erase or program of which the sector's bytes are free values. -/
def State.doFlashDone (s : State) (data : Option (List Byte)) (err : Bool) : State :=
  match s.sec.flashOp with
  | none => s
  | some (op, n) =>
    if err then
      if op = 2 then s.flashEnd 4
      else
        let (b, s1) := s.freshBytes 512
        ((s1.eraseSector n).putSector n b).flashEnd 4
    else if op = 0 then (s.eraseSector n).flashEnd 0
    else if op = 1 then
      match data with
      | some d => ((s.eraseSector n).putSector n (padTo 4096 d)).flashEnd 0
      | none => (s.eraseSector n).flashEnd 3
    else
      match data with
      | some _ => (s.hostWrite .mgmt (s.fld R.SEC_FLASH_ADDR F.SEC_FLASH_ADDR_ADDR * 4096)
          (Mem.rdN 0xFF s.sec.flash (sectorBase n) 4096)).flashEnd 0
      | none => s.flashEnd 3

/-! ### Authorisation objects (R469, R470) -/

/-- A fresh nonce of the register channel (R470). -/
def State.newNonce (s : State) : Word × State :=
  let (w, s1) := s.fresh
  (w, s1.onSec fun x => { x with nonce := some w })

/-- An object's fields (R469). -/
structure AuthObj where
  typ : Nat := 0
  target : Nat := 0
  key : Nat := 0
  serial : Nat := 0
  nonce : Nat := 0
  hash : List Byte := []
  deriving DecidableEq, Repr, Inhabited

/-- Reads the 192 bytes of an object. -/
def authObj (b : List Byte) : AuthObj :=
  { typ := leAt b 0 2, target := leAt b 2 1, key := leAt b 3 1, serial := leAt b 8 8, nonce := leAt b 16 8, hash := (b.drop 24).take 48 }

/-- Whether a transition is allowed (R472), owner key present where one is needed. -/
def OtpSt.transition (o : OtpSt) (t : Nat) : Bool :=
  let owner := decide (o.ownerBits ≠ 0)
  (o.lc == 0 && (t == 1 || t == 2 && owner)) || (o.lc == 1 && t == 2 && owner) || ((o.lc == 1 || o.lc == 2) && t == 3)
    || (o.lc != 4 && t == 4)

/-- Whether the key of a life-cycle object is the one the transition needs, and its signature good (R472). -/
def OtpSt.lcSigned (o : OtpSt) (t key : Nat) (sigOk : Bool) : Bool :=
  if t = 4 then true
  else if o.lc = 0 then key == 0x20 && sigOk
  else if t = 3 then o.ownerOk key && sigOk
  else true

/-- The check of an object on the register channel (R470, R472, R473): its RESULT. -/
def State.lcResult (s : State) (a : AuthObj) (sigOk : Bool) : Nat :=
  let o := s.sec.otp
  let none_ := decide (o.ownerBits = 0)
  if a.serial ≠ o.serial ∨ s.sec.nonce ≠ some (BitVec.ofNat 64 a.nonce) then 4
  else if a.typ = 1 then
    if a.target ≠ s.fld R.SEC_LC_CMD F.SEC_LC_CMD_TARGET ∨ !o.transition a.target then 2
    else if o.lcSigned a.target a.key sigOk then 1 else 3
  else if a.typ = 3 then
    if a.target > 3 ∨ (tfind o.owners a.target).isSome then 2
    else if none_ ∧ a.key = 0xFF ∧ o.lc ≤ 1 then 1
    else if o.ownerOk a.key ∧ sigOk then 1 else 3
  else if a.typ = 4 then
    if !o.ownerOk a.target ∨ o.ownerBits = 2 ^ a.target then 2
    else if a.key ≠ a.target ∧ o.ownerOk a.key ∧ sigOk then 1 else 3
  else 2

/-- A check on the register channel ends with a RESULT. -/
def State.lcEnd (s : State) (result : Nat) : State :=
  let s1 := (s.setFld R.SEC_LC_CMD F.SEC_LC_CMD_BUSY 0).setFld R.SEC_LC_CMD F.SEC_LC_CMD_RESULT result
  if result = 2 ∨ result = 3 ∨ result = 4 then s1.raise Flt.SEC_AUTH_REJECT else s1

/-- An owner key is added or revoked in OTP. -/
def State.ownerChange (s : State) (a : AuthObj) : State :=
  let o := s.sec.otp
  let o' := if a.typ = 3 then { o with owners := tput o.owners a.target a.hash } else { o with revoked := o.revoked ||| 2 ^ a.target }
  (s.onSec fun x => { x with otp := o' }).setFld R.SEC_STAT F.SEC_STAT_OWNER_KEYS o'.ownerBits

/-- A write has set GO of SEC_LC_CMD (R473, R482). -/
def State.lcGo (s : State) : State :=
  if s.decanting then s.setFld R.SEC_LC_CMD F.SEC_LC_CMD_RESULT 6
  else
    ((s.setFld R.SEC_LC_CMD F.SEC_LC_CMD_BUSY 1).setFld R.SEC_LC_CMD F.SEC_LC_CMD_RESULT 0).hostRead
      .mgmt (s.fld R.SEC_LC_AUTH F.SEC_LC_AUTH_ADDR * 64) 192

/-- The check ends, up to the cold reset that a life-cycle change goes on with: the new life-cycle state, where there is
one. -/
def State.lcCheck (s : State) (obj : Option (List Byte)) (sigOk : Bool) : Option Nat × State :=
  if !s.flag R.SEC_LC_CMD F.SEC_LC_CMD_BUSY then (none, s)
  else match obj with
  | none => (none, s.lcEnd 5)
  | some b =>
    let a := authObj b
    let r := s.lcResult a sigOk
    let s1 := (s.onSec fun x => { x with nonce := none }).lcEnd r
    if r ≠ 1 then (none, s1)
    else if a.typ = 1 then (some a.target, s1.onSec fun x => { x with otp := { x.otp with lc := a.target } })
    else (none, s1.ownerChange a)

/-! ### SPDM (R462 to R465) -/

/-- Whether a transport is there: the SMBus, or the DOE of a virtual switch whose upstream port is up and ready (R463). -/
def State.spdmVia (s : State) (via : Nat) : Bool :=
  via == 32 || (match s.upPort via with | some p => (s.pcpOf p).up && (s.pcpOf p).ready | none => false)

/-- An answer. -/
def State.spdm (s : State) (via code : Nat) (fields : List Nat) (bytes : List Byte := []) : State :=
  s.emit (.spdm via code fields bytes)

/-- ERROR. -/
def State.spdmError (s : State) (via err : Nat) : State := s.spdm via 0x7F [err, 0]

/-- The error with which a request that needs SEC's engines is answered; `sign` says that it needs a signature (R465). -/
def State.spdmShut (s : State) (sign : Bool) : Option Nat :=
  if !s.domainRuns 60 then some 3
  else if !s.flag R.SEC_STAT F.SEC_STAT_SELFTEST_OK then some 5
  else if sign ∧ s.flag R.SEC_STAT F.SEC_STAT_CORE_DEBUG_USED then some 5
  else none

/-- The certificate chain of slot 0: its contents are free (R461; log entry 7). -/
def State.certChain (s : State) : List Byte :=
  Config.digest ((1 : Byte) :: BitVec.ofNat 8 (s.sec.otp.lc / 3) :: BitVec.ofNat 8 (b2n s.sec.otp.curve)
    :: s.sec.otp.uds ++ s.sec.digests.headD [])

/-- GET_VERSION: version 1.2 alone. -/
def State.doGetVersion (s : State) (via : Nat) : State := if s.spdmVia via then s.spdm via 0x04 [1, 0x1200] else s

/-- The capability flags of R462: CERT, CHAL, MEAS with signature, ENCRYPT, MAC, KEY_EX, HBEAT, KEY_UPD (log entry 27). -/
def spdmFlags : Nat := 2 ||| 4 ||| (2 <<< 3) ||| 0x40 ||| 0x80 ||| 0x200 ||| 0x2000 ||| 0x4000

/-- GET_CAPABILITIES. -/
def State.doGetCapabilities (s : State) (via : Nat) : State := if s.spdmVia via then s.spdm via 0x61 [spdmFlags] else s

/-- NEGOTIATE_ALGORITHMS: the signature, hash, key exchange and AEAD of the OTP curve (R462). -/
def State.doNegotiate (s : State) (via : Nat) : State :=
  if s.spdmVia via then
    let c := s.sec.otp.curve
    s.spdm via 0x63 [if c then 0x80 else 0x10, if c then 2 else 1, if c then 0x10 else 8, 2]
  else s

/-- GET_DIGESTS: slot 0 alone holds a chain. -/
def State.doGetDigests (s : State) (via : Nat) : State :=
  if s.spdmVia via then s.spdm via 0x01 [1] (Config.digest s.certChain) else s

/-- GET_CERTIFICATE: a portion of the chain of slot 0, with its length and what remains (R461). -/
def State.doGetCertificate (s : State) (via slot off len : Nat) : State :=
  if !s.spdmVia via then s
  else if slot ≠ 0 then s.spdmError via 1
  else
    let c := s.certChain
    let b := (c.drop off).take len
    s.spdm via 0x02 [slot, b.length, c.length - off - b.length] b

/-- CHALLENGE: a response signed over a fresh nonce, for slot 0. -/
def State.doChallenge (s : State) (via slot : Nat) (nonce : List Byte) : State :=
  if !s.spdmVia via then s
  else if slot ≠ 0 then s.spdmError via 1
  else match s.spdmShut true with
  | some e => s.spdmError via e
  | none =>
    let (r, s1) := s.freshBytes 4
    s1.spdm via 0x03 [0, 1] (Config.digest s.certChain ++ r ++ Config.digest ((3 : Byte) :: nonce ++ r))

/-- The 256 LOCK bits and the digest of the 256 RIGHTS bytes (R464). -/
def State.mpuBlock (s : State) : List Byte :=
  let bit := fun n => s.fld (R.MPU_SLOT n) F.MPU_SLOT_LOCK
  (List.range 32).map (fun k => BitVec.ofNat 8 ((List.range 8).foldl (fun x j => x + 2 ^ j * bit (8 * k + j)) 0))
    ++ Config.digest ((List.range 256).map fun n => BitVec.ofNat 8 (s.fld (R.MPU_SLOT n) F.MPU_SLOT_RIGHTS))

/-- A measurement block (R464). -/
def State.measurement (s : State) (k : Nat) : List Byte :=
  if k = 1 then leBytes 4 s.sec.rom
  else if k ≤ 4 then s.sec.digests.getD (k - 2) []
  else if k = 5 then
    [s.sec.otp.lc, s.fld R.SEC_BOOT F.SEC_BOOT_BANK, s.fld R.SEC_BOOT F.SEC_BOOT_FALLBACK,
      s.fld R.SEC_STAT F.SEC_STAT_DEBUG_OPEN, s.fld R.SEC_STAT F.SEC_STAT_CORE_DEBUG_USED].map (BitVec.ofNat 8)
  else if k = 6 then (List.range 4).map fun j => BitVec.ofNat 8 (s.fld (R.SEC_SVN j) F.SEC_SVN_VALUE)
  else s.mpuBlock

/-- GET_MEASUREMENTS: index 0 asks how many blocks there are, 0xFF for all, 1 to 7 for one; signed on request. -/
def State.doGetMeasurements (s : State) (via index : Nat) (sign : Bool) (nonce : List Byte) : State :=
  if !s.spdmVia via then s
  else if 7 < index ∧ index ≠ 0xFF then s.spdmError via 1
  else match (if sign then s.spdmShut true else none) with
  | some e => s.spdmError via e
  | none =>
    let ks := if index = 0 then [] else if index = 0xFF then (List.range 7).map (· + 1) else [index]
    let b := ks.flatMap fun k => BitVec.ofNat 8 k :: s.measurement k
    let n := if index = 0 then 7 else ks.length
    if sign then
      let (r, s1) := s.freshBytes 4
      s1.spdm via 0x60 [index, n] (b ++ r ++ Config.digest (b ++ nonce ++ r))
    else s.spdm via 0x60 [index, n] b

/-- SESSIONS of SEC_STAT follows the sessions open. -/
def State.showSessions (s : State) : State := s.setFld R.SEC_STAT F.SEC_STAT_SESSIONS s.sec.sessions.length

/-- KEY_EXCHANGE: opens a session, at most eight over all transports (R462). -/
def State.doKeyExchange (s : State) (via : Nat) (share : List Byte) : State :=
  if !s.spdmVia via then s
  else match s.spdmShut true with
  | some e => s.spdmError via e
  | none =>
    if s.sec.sessions.length ≥ 8 then s.spdmError via 0x0A
    else
      let n := s.sec.nextSession
      let (r, s1) := s.freshBytes 4
      ((s1.onSec fun x => { x with sessions := x.sessions ++ [{ id := n, via := via }], nextSession := n + 1 }).showSessions).spdm via 0x64
        [n] (r ++ Config.digest ((0x64 : Byte) :: share ++ r))

/-- SPDM_SESSION_END: a session is ended, or lost; the keys already programmed stay (R467). -/
def State.doSessionEnd (s : State) (id : Nat) (lost : Bool) : State :=
  match s.sec.sessions.find? fun x => x.id == id with
  | none => s
  | some x =>
    let s1 := (s.onSec fun y => { y with sessions := y.sessions.filter fun z => z.id != id }).showSessions
    if lost then s1 else s1.spdm x.via 0x6C []

/-! ### IDE_KM (R466) -/

/-- The port of a PortIndex in a session of a virtual switch (R221, R466). -/
def State.idePort (s : State) (v i : Nat) : Option Nat :=
  if i = 0 then s.upPort v
  else if i ≤ 31 then (s.downPorts v)[i - 1]?
  else if 0x80 ≤ i ∧ i < 0x100 ∧ v = s.mgrVs ∧ s.role (i - 0x80) = 2 then some (i - 0x80)
  else none

/-- The virtual switch in whose DOE a session runs, where SEC's engines answer; else the answer already made (R465, R466). -/
def State.ideSession (s : State) (id : Nat) : Option Nat × State :=
  match s.sec.sessions.find? fun x => x.id == id with
  | none => (none, s)
  | some x =>
    if x.via = 32 ∨ !s.spdmVia x.via then (none, s)
    else match s.spdmShut false with
      | some e => (none, s.spdmError x.via e)
      | none => (some x.via, s)

/-- QUERY: the port and its device and function number, or status 2 for a PortIndex that is not one. -/
def State.doIdeQuery (s : State) (id index : Nat) : State :=
  match s.ideSession id with
  | (some v, s1) =>
    (match s1.idePort v index with
    | some p => s1.spdm v 1 [index, s1.busOf (.port p), 0, s1.role p]
    | none => s1.spdm v 1 [index, 2])
  | (none, s1) => s1

/-- KEY_PROG: status 0, 2 for a PortIndex that is not one, 4 where the link is down (R466, R482). -/
def State.doKeyProg (s : State) (id index set sub dir : Nat) (key : List Byte) : State :=
  match s.ideSession id with
  | (some v, s1) =>
    (match s1.idePort v index with
    | none => s1.spdm v 3 [index, 2]
    | some p =>
      if !(s1.pcpOf p).up ∨ s1.portContained p then s1.spdm v 3 [index, 4]
      else
        let k := tget {} s1.sec.keys p
        let e := (set % 2, sub % 3, dir % 2, key)
        let k' := { k with keys := k.keys.filter (fun x => !(x.1 == e.1 && x.2.1 == e.2.1 && x.2.2.1 == e.2.2.1)) ++ [e] }
        (s1.onSec fun x => { x with keys := tput x.keys p k' }).spdm v 3 [index, 0])
  | (none, s1) => s1

/-- IDE_LINK of a port follows its stream; a stream keyed anew is no longer Insecure (R241, R468). -/
def State.showIde (s : State) (p : Nat) : State :=
  let on := s.ideSecure p
  let s1 := s.setFld (s.pk p R.PCP_LINK_STAT) F.PCP_LINK_STAT_IDE_LINK (b2n on)
  if on then s1.setPcp p { s1.pcpOf p with insecure := false } else s1

/-- K_SET_GO: a key set programmed for the substream and direction becomes the active one. -/
def State.doKeyGo (s : State) (id index set sub dir : Nat) : State :=
  match s.ideSession id with
  | (some v, s1) =>
    (match s1.idePort v index with
    | none => s1.spdm v 6 [index, 2]
    | some p =>
      let k := tget {} s1.sec.keys p
      let e := (set % 2, sub % 3, dir % 2)
      if !k.keys.any fun x => x.1 == e.1 && x.2.1 == e.2.1 && x.2.2.1 == e.2.2 then s1.spdm v 6 [index, 4]
      else
        let k' := { k with active := k.active.filter (fun x => x.2 != e.2) ++ [e] }
        ((s1.onSec fun x => { x with keys := tput x.keys p k' }).showIde p).spdm v 6 [index, 0])
  | (none, s1) => s1

/-- K_SET_STOP. -/
def State.doKeyStop (s : State) (id index set sub dir : Nat) : State :=
  match s.ideSession id with
  | (some v, s1) =>
    (match s1.idePort v index with
    | none => s1.spdm v 6 [index, 2]
    | some p =>
      let k := tget {} s1.sec.keys p
      let k' := { k with active := k.active.filter fun x => x != (set % 2, sub % 3, dir % 2) }
      let s2 := if (tfind s1.sec.keys p).isSome then (s1.onSec fun x => { x with keys := tput x.keys p k' }).showIde p else s1
      s2.spdm v 6 [index, 0])
  | (none, s1) => s1

/-! ### The debug port (R471, R479 to R481) -/

/-- Whether a debug-port instruction is available (R471, R479); one that is not acts as BYPASS. What needs the core waits for
it to run. -/
def State.jtagOk (s : State) (code : Nat) : Bool :=
  let lc := s.sec.otp.lc
  let op := s.flag R.SEC_STAT F.SEC_STAT_DEBUG_OPEN
  if code = 0x01 ∨ code = 0x02 ∨ code = 0xFF then true
  else if s.aon.mode ≠ 0 then false
  else if code = 0x00 then lc == 0 || lc == 1 || lc == 3 || (lc == 2 && op)
  else if code = 0x10 then lc == 0 || lc == 1 || ((lc == 2 || lc == 3) && op)
  else if code = 0x11 then lc != 4
  else if code = 0x12 then lc != 4 && lc != 0
  else if code = 0x13 then (lc == 1 || lc == 3) && op
  else false

/-- An instruction is taken in: the instruction register; the pads go back to the device once EXTEST is left, and ports
that may train do so. -/
def State.jtagIr (s : State) (code : Nat) : State :=
  let c := if s.jtagOk code then code else 0xFF
  let was := s.sec.extest
  let s1 := s.onSec fun x => { x with ir := c, extest := c == 0 }
  if was ∧ c ≠ 0 then s1.cfg.ports.foldl (fun s e => if !e.2.scango && s.mayTrain e.1 then s.emit (.link e.1 "train") else s) s1
  else s1

/-- BYPASS, or an instruction that is not available. -/
def State.doBypass (s : State) : State := s.jtagIr 0xFF

/-- EXTEST: the pads are taken from the device, and every link drops (R479). -/
def State.doExtest (s : State) : State :=
  let s1 := s.jtagIr 0
  if s1.sec.extest then s1.cfg.ports.foldl (fun s e => if e.2.scango then s.sglDown e.1 else s.linkDown e.1) s1 else s1

/-- SAMPLE/PRELOAD. -/
def State.doSample (s : State) : State := s.jtagIr 1

/-- IDCODE shifts out 0x1288_0F3B. -/
def State.doIdcode (s : State) : State := (s.jtagIr 2).emit (.jtag 0x12880F3B 32)

/-- UNLOCK_CHALLENGE shifts out SERIAL and a fresh nonce (R470). -/
def State.doUnlockChallenge (s : State) : State :=
  let s1 := s.jtagIr 0x11
  if s1.sec.ir ≠ 0x11 then s1
  else
    let (w, s2) := s1.fresh
    (s2.onSec fun x => { x with jtagNonce := some w }).emit (.jtag (s.sec.otp.serial % 2 ^ 64 + 2 ^ 64 * w.toNat) 128)

/-- UNLOCK shifts in an object of TYPE 0x0002 (R470, R479). -/
def State.doUnlock (s : State) (obj : List Byte) (sigOk : Bool) : State :=
  let s1 := s.jtagIr 0x12
  if s1.sec.ir ≠ 0x12 then s1
  else
    let a := authObj obj
    let o := s1.sec.otp
    let good := decide (a.serial = o.serial) && decide (s1.sec.jtagNonce = some (BitVec.ofNat 64 a.nonce)) && decide (a.typ = 2)
      && sigOk && (if o.lc = 3 then decide (a.key = 0x21) else o.ownerOk a.key)
    let s2 := s1.onSec fun x => { x with jtagNonce := none }
    if good then (s2.setFld R.SEC_STAT F.SEC_STAT_DEBUG_OPEN 1).raise Flt.SEC_DEBUG_UNLOCK else s2.raise Flt.SEC_AUTH_REJECT

/-- CORE_DEBUG: its first use erases the DeviceID, Alias and carafe keys (R481). -/
def State.doCoreDebug (s : State) : State :=
  let s1 := s.jtagIr 0x13
  if s1.sec.ir ≠ 0x13 ∨ s1.flag R.SEC_STAT F.SEC_STAT_CORE_DEBUG_USED then s1
  else ((s1.onSec fun x => { x with keyStore := false }).setFld R.SEC_STAT F.SEC_STAT_CORE_DEBUG_USED 1).raise Flt.SEC_DEBUG_UNLOCK

end Sys2Proof.Machine
end

