-- ==== Sys2Proof/Machine/TableBlock.lean ====
section
/-! DEFINITION. TBM at work (16_table_memory_and_integrity.md R430 to R449): the arbiters of the dies, reads of table
words, the scrubs, the fill, and degraded operation. Table accesses take effect within the commands that make them; the
requests that an arbiter ranks are operands of its phase. -/

namespace Sys2Proof.Machine

/-- A die. -/
def State.die (s : State) (d : Nat) : TmDie := tget {} s.tbm.dies d
/-- Replaces it. -/
def State.setDie (s : State) (d : Nat) (x : TmDie) : State := { s with tbm := { s.tbm with dies := tput s.tbm.dies d x } }

/-! ### The arbiter (R438 to R444, R448) -/

/-- MODE: fixed priority where more than 16 requesters are enabled (R441). -/
def State.fixedMode (s : State) (d : Nat) : Bool := ((List.range 32).filter (bitAt (s.reqEn d))).length > 16

/-- A step of the LFSR (R441); a seed of 0 acts as 1. -/
def lfsrStep (x0 : Nat) : Nat :=
  let x := if x0 = 0 then 1 else x0
  (x / 2) ^^^ (if x % 2 = 1 then 0x80200003 else 0)

/-- Data cycles that a transaction still needs (R439). -/
def TmReq.cycles (r : TmReq) : Nat := if r.rmw then 4 else max 1 (ceilDiv (r.words - r.done) 3)

/-- TICKETS and PRIO of a requester: those of its registers, or the old ones, before the first phase after a COMMIT and of a
request that the COMMIT has disabled (R444). -/
def State.ranks (s : State) (d : Nat) (r : TmReq) : Nat × Nat :=
  match r.old, (s.die d).held with
  | some o, _ => o
  | none, some h => h.2.getD r.num (0, 0)
  | none, none => (s.fld (R.TM_ARB_REQ d r.num) F.TM_ARB_REQ_TICKETS, s.fld (R.TM_ARB_REQ d r.num) F.TM_ARB_REQ_PRIO)
/-- TICKETS of a requester. -/
def State.tickets (s : State) (d : Nat) (r : TmReq) : Nat := (s.ranks d r).1
/-- PRIO of a requester. -/
def State.prio (s : State) (d : Nat) (r : TmReq) : Nat := (s.ranks d r).2

/-- The member whose cumulative ticket range holds `x` (R441). -/
def State.lottery (s : State) (d : Nat) : Nat → List TmReq → Option TmReq
  | _, [] => none
  | x, r :: rs => if x < s.tickets d r then some r else s.lottery d (x - s.tickets d r) rs

/-- The member of highest PRIO, the highest number on a tie. -/
def State.highest (s : State) (d : Nat) : List TmReq → Option TmReq
  | [] => none
  | r :: rs =>
    match s.highest d rs with
    | none => some r
    | some q => if s.prio d q > s.prio d r ∨ (s.prio d q = s.prio d r ∧ q.num > r.num) then some q else some r

/-- The member that became urgent first, the lowest number on a tie (R442). -/
def firstUrgent : List TmReq → Option TmReq
  | [] => none
  | r :: rs =>
    match r.urgent, firstUrgent rs with
    | none, q => q
    | some _, none => some r
    | some a, some q => match q.urgent with
      | some b => if b < a ∨ (b = a ∧ q.num < r.num) then some q else some r
      | none => some r

/-- The winner of a phase among the members of E (R441, R443). -/
def State.arbWin (s : State) (d lfsr : Nat) (e : List TmReq) : Option TmReq :=
  let dct := e.find? fun r => r.num == 31
  if s.decanting ∧ dct.isSome then dct
  else match firstUrgent e with
  | some r => some r
  | none =>
    if s.fixedMode d then s.highest d e
    else
      let t := e.foldl (fun n r => n + s.tickets d r) 0
      s.lottery d (lfsr % (max 1 t)) e

/-- The first request of each requester that waits, by number. -/
def heads (l : List TmReq) : List TmReq :=
  let nums := (l.map (·.num)).eraseDups
  sortBy (fun r => r.num) (nums.filterMap fun n => l.find? fun r => r.num == n)

/-- Replaces the first waiting request of a requester. -/
def putHead (x : TmReq) : List TmReq → List TmReq
  | [] => []
  | r :: rs => if r.num = x.num then x :: rs else r :: putHead x rs

/-- Removes the first waiting request of a requester. -/
def dropHead (n : Nat) : List TmReq → List TmReq
  | [] => []
  | r :: rs => if r.num = n then rs else r :: dropHead n rs

/-- TBL cycles pass at a die: back-offs and the owner's data phase count down; at 0 its last data cycle runs. -/
def TmDie.pass (x : TmDie) (n : Nat) : TmDie :=
  { x with
    cycle := x.cycle + n, left := x.left - n
    waiting := x.waiting.map fun r => { r with backoff := r.backoff - n }
    owner := if x.left < n then none else x.owner }

/-- New requests join; one of a disabled requester goes to the first member of its group (R438). -/
def State.join (s : State) (d : Nat) (asks : List TmAsk) (x : TmDie) : TmDie :=
  { x with waiting := x.waiting ++ asks.filterMap fun a =>
      if 25 ≤ a.num ∧ a.num ≤ 30 ∨ a.num > 31 then none
      else some ({ num := s.requester d a.num, words := max 1 (min 8 a.words), write := a.write, rmw := a.rmw, since := x.cycle } : TmReq) }

/-- The first phase after a COMMIT that has changed them: the new REQ_EN, TICKETS and PRIO come into use; a requester that is
now disabled keeps its old ones for the request that waits (R444). -/
def State.adoptArb (s : State) (d : Nat) : State :=
  let x := s.die d
  match x.held with
  | none => s
  | some h =>
    let s1 := s.setDie d { x with held := none }
    s1.setDie d { x with
      held := none
      waiting := x.waiting.map fun r =>
        if bitAt (s1.reqEn d) r.num ∨ r.old.isSome then r else { r with old := some (h.2.getD r.num (0, 0)) } }

/-- The losers of a phase back off (R441). The back-off counts down from the cycle after the phase, so that it leaves E for
one cycle more, as the table after R444 has it. -/
def TmDie.backOff (x : TmDie) (losers : List TmReq) : TmDie :=
  { x with waiting := losers.foldl (init := x.waiting) fun l r =>
      putHead { r with losses := r.losses + 1, backoff := min (2 ^ r.losses) 1024 + 1 } l }

/-- BACKOFF of a request: the cycles that remain (R441). -/
def TmReq.remaining (r : TmReq) : Nat := min r.backoff (min (2 ^ (r.losses - 1)) 1024)

/-- The die is granted to a requester, and the losers back off (R441); `back` is the owner that it was taken from. The winner
stays urgent while it holds the die (R448). -/
def State.grant (s : State) (d : Nat) (x : TmDie) (w : TmReq) (e : List TmReq) (back : List TmReq := []) : State :=
  let losers := e.filter fun r => r.num ≠ w.num
  let x1 := ({ x with waiting := dropHead w.num x.waiting } : TmDie).backOff losers
  let g : TmReq := { w with losses := 0, backoff := 0 }
  (((s.setDie d { x1 with waiting := back ++ x1.waiting, owner := some g, left := g.cycles }).count (R.TM_CNT d 0)).count
    (R.TM_CNT d 1) losers.length).ev 8 1 d 0

/-- Whether requester 31 takes a die from its owner during a decant: at once, or at the end of the write that has begun
(R443). -/
def TmDie.yields (x : TmDie) (o : TmReq) (e : List TmReq) : Bool :=
  o.num ≠ 31 && !(o.write && x.left < o.cycles) && e.any fun r => r.num == 31

/-- ARBITRATION_PHASE of a die, `cycles` TBL cycles after its last: the requests that have arrived join, and where the die
is idle, in its owner's last data cycle, or may be taken from its owner, a phase runs (R440, R441, R443, R448). With no
member of E no phase is taken, and the LFSR stands (DESIGN CHOICE, log entry 152). -/
def State.doArbPhase (s : State) (d cycles : Nat) (asks : List TmAsk) : State :=
  let s0 := s
  let y := (s0.die d).pass cycles
  if !y.up ∨ y.filling then s0
  else
    let inE := fun r : TmReq => r.backoff == 0 || r.urgent.isSome
    let came := asks ≠ [] ∨ (heads y.waiting).any inE
    let open' := y.owner.isNone || y.left == 0 || s0.tbm.out.isSome || (s0.decanting && (y.owner.any fun o => o.num ≠ 31))
    let s := if came ∧ open' then (s0.setDie d y).adoptArb d else s0.setDie d y
    let x := s.join d asks (s.die d)
    let e := (heads x.waiting).filter inE
    let lfsr := lfsrStep (s.fld (R.TM_LFSR d) F.TM_LFSR_STATE)
    let ran := fun s : State => s.setFld (R.TM_LFSR d) F.TM_LFSR_STATE lfsr
    match (if x.left = 0 ∧ e ≠ [] then none else x.owner) with
    | none =>
      if e = [] then s.setDie d x
      else match s.arbWin d lfsr e with
        | some w => (ran s).grant d x w e
        | none => (ran s).setDie d { x with owner := none }
    | some o =>
      let used := o.cycles - x.left
      if s.decanting ∧ x.yields o e then
        match e.find? fun r => r.num == 31 with
        | some w => ((ran s).grant d x w e [{ o with done := 0 }]).count (R.TM_CNT d 2)
        | none => s.setDie d x
      else if s.tbm.out.isSome then
        let e' := if o.urgent.isSome then e else sortBy (fun r => r.num) (o :: e)
        if e = [] then s.setDie d x
        else match s.arbWin d lfsr e' with
          | some w =>
            if w.num = o.num then ((ran s).setDie d (x.backOff e)).count (R.TM_CNT d 1) e.length
            else if o.rmw ∨ o.urgent.isSome ∨ used = 0 then (ran s).setDie d x
            else
              let o' : TmReq := { o with done := min o.words (o.done + 3 * used) }
              ((ran s).grant d x w e [o']).count (R.TM_CNT d 3)
          | none => (ran s).setDie d x
      else s.setDie d x

/-- URGENT: a requester has waited STARVE cycles since the first of its requests (R442). -/
def State.doUrgent (s : State) (d r cycles : Nat) : State :=
  let x := (s.die d).pass cycles
  match (heads x.waiting).find? fun q => q.num == r with
  | some q =>
    if q.urgent = none ∧ x.cycle - q.since ≥ s.fld (R.TM_ARB_CFG d) F.TM_ARB_CFG_STARVE then
      ((s.setDie d { x with waiting := putHead { q with urgent := some x.cycle } x.waiting }).count
        (R.TM_CNT d 4)).raise Flt.TBM_STARVE 0 (atBits r 29 5) d
    else s.setDie d x
  | none => s.setDie d x

/-! ### Reads and scrubs (R430, R431, R434 to R436) -/

/-- The place of a byte in `TbmSt.flips`: its logical address, at 2^30 and above a byte of a shadow block. -/
def flipPlace (a : Nat) : Nat := if bitAt a 30 then 2 ^ 30 + a % 2 ^ 29 else a % 2 ^ 29

/-- Bits of stored codewords are upset: (byte address, bit 0 to 12 of the codeword) (R428). -/
def State.upsetBits (s : State) (l : List (Nat × Nat)) : State :=
  l.foldl (init := s) fun s b =>
    let m := s.flipsAt (flipPlace b.1) ^^^ 2 ^ (b.2 % 13)
    { s with tbm := { s.tbm with
        flips := if m = 0 then tdel s.tbm.flips (flipPlace b.1) else tput s.tbm.flips (flipPlace b.1) m } }

/-- Whether the die that serves a logical address can be read. -/
def State.dieServes (s : State) (a : Nat) : Bool :=
  let d := s.phys a / 2 ^ 27 % 4
  s.pdOn (56 + d) && (s.die d).up && !(s.die d).filling

/-- TABLE_WORD_READ: requester `r` reads the table word that holds byte `a`; `strikes` are the bits upset before it
(R430, R431). -/
def State.doWordRead (s : State) (r a : Nat) (strikes : List (Nat × Nat)) : State :=
  if s.dieServes (flipPlace a) then (s.upsetBits strikes).readWord r (flipPlace a / 32) else s

/-- Corrects a table word, in force or of a shadow block, and rewrites it as it is read: its bytes hold good codewords again
(R430, R434). -/
def State.rewriteWord (s : State) (w : Nat) : State :=
  let mine := s.tbm.flips.filter fun e => e.1 / 32 == w
  let s1 : State := mine.foldl (init := s) fun s e =>
    let v := BitVec.ofNat 8 (wrongBits e.2)
    if e.1 < 2 ^ 30 then { s with cfg := { s.cfg with tm := Mem.wr 0 s.cfg.tm e.1 (Mem.rd 0 s.cfg.tm e.1 ^^^ v) } }
    else { s with cfg := { s.cfg with tmSh := Mem.wr 0 s.cfg.tmSh (e.1 - 2 ^ 30) (Mem.rd 0 s.cfg.tmSh (e.1 - 2 ^ 30) ^^^ v) } }
  { s1 with tbm := { s1.tbm with flips := s1.tbm.flips.filter fun e => e.1 / 32 ≠ w } }

/-- Whether a read of a table word corrects it. -/
def State.wordCor (s : State) (w : Nat) : Bool := s.tbm.flips.any fun e => e.1 / 32 == w && (eccOf e.2).fixes

/-- The scrubber reads a table word, and rewrites it where it corrects (R434). -/
def State.scrubWord (s : State) (r w : Nat) : State :=
  if s.wordBad (32 * w) then s.readWord r w
  else if s.wordCor w then
    let s1 := s.readWord r w
    let s2 : State := { s1 with tbm := { s1.tbm with revisit := s1.tbm.revisit.filter (· ≠ w) } }
    (s2.rewriteWord w).count (R.TBM_CNT 2)
  else s

/-- The place in `TbmSt.flips` of a logical address: of the shadow block that lies there, in the shadow pool (R51). -/
def State.shadowed (s : State) (a : Nat) : Nat :=
  match s.cfg.shPlace.find? fun e => s.tblAddr 3 (4096 * e.2) == some (a / 4096 * 4096) with
  | some e =>
    match s.tblAddr (tableKind (e.1 / 2 ^ 24)) (4096 * (e.1 % 2 ^ 24) + a % 4096) with
    | some b => 2 ^ 30 + b
    | none => a
  | none => a

/-- The logical address that a physical one serves (R446). -/
def State.logical (s : State) (p : Nat) : Nat :=
  match s.tbm.out, (s.regions 4).head? with
  | some d, some (b, n) =>
    if b ≤ p ∧ p < b + n ∧ p - b < 4096 * s.tbm.copied then
      let on := sortBy (fun r => r.1) ((s.regionList.filter fun r => r.2.2.1 ≠ 4 && r.1 / 2 ^ 27 == d).map fun r => (r.1, r.2.1))
      (inRegions on (p - b)).getD p
    else p
  | _, _ => p

/-- Whether the patrol of a die is due at its next block: a block in each 524,288th part of PASS_H (R434). -/
def State.patrolDue (s : State) (d : Nat) : Bool :=
  let t := 3600000000000 * s.fld R.TBM_CFG F.TBM_CFG_PASS_H / 524288
  match (s.die d).patrolAt with | some last => s.now / t != last / t | none => true

/-- PATROL_SCRUB of a die: the oldest revisit address on it, or its next 256-byte block where one is due (R434, R435, R450). -/
def State.doPatrol (s : State) (d : Nat) (strikes : List (Nat × Nat)) : State :=
  if !s.flag R.TBM_CFG F.TBM_CFG_SCRUB_EN ∨ s.decanting ∨ !s.pdOn (56 + d) ∨ !(s.die d).up ∨ (s.die d).filling ∨ s.tbm.out = some d then s
  else
    let s0 := s.upsetBits strikes
    match s0.tbm.revisit.find? fun w => s0.phys (32 * w) / 2 ^ 27 % 4 == d with
    | some w => (({ s0 with tbm := { s0.tbm with revisit := s0.tbm.revisit.filter (· ≠ w) } } : State)).scrubWord 0 w
    | none =>
      let x := s0.die d
      if !s0.patrolDue d then s0
      else
        let s1 := (List.range 8).foldl (fun s k => s.scrubWord 0 (s0.shadowed (s0.logical (d * 2 ^ 27 + x.patrol + 32 * k)) / 32)) s0
        s1.setDie d { (s1.die d) with patrol := (x.patrol + 256) % 2 ^ 27, patrolAt := some s.now }

/-- Whether an entry of the shadow copy of an on-die table is clean (R436). -/
def State.shadowClean (s : State) (t i : Nat) : Bool :=
  !s.cfg.dirty.any fun r => r.1 == t && r.2.1 ≤ i && i < r.2.1 + r.2.2

/-- Whether a pass of the on-die table scrub is due: one starts in each period of ONDIE_PASS_MS (R436). -/
def State.ondieDue (s : State) : Bool :=
  let t := 1000000 * s.fld R.TBM_CFG F.TBM_CFG_ONDIE_PASS_MS
  match s.tbm.ondieAt with | some last => s.now / t != last / t | none => true

/-- A pass of the on-die table scrub: faulty entries in force are repaired from clean shadow entries, or reported (R436). -/
def State.ondiePass (s : State) : State :=
  s.cfg.faulty.foldl (init := s) fun s e =>
    if s.shadowClean e.1 e.2 ∧ !s.cfg.faultySh.contains e then
      let n := entrySize e.1
      let a := onDieBase e.1 + n * e.2
      ({ s with
        tmg := { s.tmg with found := s.tmg.found.filter (· ≠ e) }
        cfg := { s.cfg with
          faulty := s.cfg.faulty.filter (· ≠ e)
          onDie := Mem.wrN 0 s.cfg.onDie a (Mem.rdN 0 s.cfg.onDieSh a n) } } : State).count (R.TBM_CNT 4)
    else s.raise Flt.TBM_ONDIE_PARITY 0 (atBits e.1 32 8 ||| atBits e.2 0 16)

/-- ONDIE_SCRUB. -/
def State.doOndieScrub (s : State) : State :=
  if s.ondieDue then ({ s with tbm := { s.tbm with ondieAt := some s.now } } : State).ondiePass else s

/-! ### The fill (R437) -/

/-- Every location of a die holds the all-zero codeword. -/
def State.zeroDie (s : State) (d : Nat) : State :=
  let here := fun a : Nat => s.phys a / 2 ^ 27 % 4 == d
  { s with
    cfg := { s.cfg with tm := s.cfg.tm.filter fun e => !here e.1 }
    tbm := { s.tbm with
      flips := s.tbm.flips.filter fun e => !here e.1
      revisit := s.tbm.revisit.filter fun w => !here (32 * w)
      poison := s.tbm.poison.filter fun w => !here (32 * w) } }

/-- FILL_DONE: the zero fill of a die is complete, and its requesters may be granted (R437). -/
def State.doFillDone (s : State) (d : Nat) : State :=
  if (s.die d).filling then
    let s1 := s.zeroDie d
    s1.setDie d { s1.die d with filling := false }
  else s

/-! ### Degraded operation (R445 to R449) -/

/-- The regions that lay on a die write their new die, the reserve's (R446 step 5). -/
def State.regionsMoved (s : State) (d dst : Nat) : State :=
  (List.range 16).foldl (init := s) fun s k =>
    let key := R.TBM_REGION k
    if s.flag key F.TBM_REGION_VALID ∧ s.fld key F.TBM_REGION_KIND ≠ 4 ∧ s.fld key F.TBM_REGION_BASE / 2 ^ 21 = d then
      s.setFld key F.TBM_REGION_DIE dst
    else s

/-- The last block is copied: the regions move, and event 0x0900 is written (R446 step 5). -/
def State.relocEnd (s : State) (d : Nat) : State :=
  let dst := ((s.regions 4).headD (0, 0)).1 / 2 ^ 27
  ((s.regionsMoved d dst).count (R.TBM_CNT 0)).event { code := 0x0900, data := leBytes 1 d ++ leBytes 1 dst }

/-- Whether the relocation reserve lies on another die and holds every region of a die (R446 step 1). -/
def State.reserveFits (s : State) (d : Nat) : Bool :=
  match (s.regions 4).head? with
  | some (b, n) =>
    b / 2 ^ 27 != d && decide ((s.regionList.filter fun r => r.2.2.1 ≠ 4 && r.1 / 2 ^ 27 == d).foldl (fun n r => n + r.2.1) 0 ≤ n)
  | none => false

/-- Steps 1 and 2 of R446: a die that is still readable is spared out. -/
def State.relocStart (s : State) (d : Nat) : State :=
  if s.tbm.out.isSome then s
  else if !s.reserveFits d then s.raise Flt.TBM_RELOC_FAIL
  else
    let s1 := ({ s with tbm := { s.tbm with out := some d, copied := 0 } } : State).raise Flt.TBM_SPARED
    if s1.relocBlocks = 0 then s1.relocEnd d else s1

/-- The copier meets an unreadable word: zeros in its place, and the poison list (R447). -/
def State.poisonWord (s : State) (w : Nat) : State :=
  let s1 : State := if w < 2 ^ 25 then s.tmWrite (32 * w) (leBytes 32 0)
    else { s with
      cfg := { s.cfg with tmSh := Mem.wrN 0 s.cfg.tmSh (32 * (w - 2 ^ 25)) (leBytes 32 0) }
      tbm := { s.tbm with flips := s.tbm.flips.filter fun e => e.1 / 32 ≠ w } }
  if s1.tbm.poison.length < 256 then { s1 with tbm := { s1.tbm with poison := s1.tbm.poison ++ [w] } }
  else s1.raise Flt.TBM_RELOC_FAIL 0 (s1.phys (32 * w))

/-- RELOC_BLOCK: the copier finishes a 4 KiB block (R446, R447, R450). -/
def State.doRelocBlock (s : State) : State :=
  match s.tbm.out with
  | none => s
  | some d =>
    if !s.relocBusy ∨ s.decanting then s
    else
      let on := sortBy (fun r => r.1) ((s.regionList.filter fun r => r.2.2.1 ≠ 4 && r.1 / 2 ^ 27 == d).map fun r => (r.1, r.2.1))
      let words := (List.range 128).filterMap fun k => (inRegions on (4096 * s.tbm.copied + 32 * k)).map fun a => s.shadowed a / 32
      let s1 := words.foldl (init := s) fun s w =>
        if s.wordBad (32 * w) then (s.readWord 15 w).poisonWord w
        else if s.wordCor w then (s.readWord 15 w).rewriteWord w else s
      let s2 : State := { s1 with tbm := { s1.tbm with copied := s1.tbm.copied + 1, revisit := s1.tbm.revisit.filter fun w => !words.contains w } }
      if s2.relocBusy then s2 else s2.relocEnd d

/-- Regions of a failed die move to the reserve at once: zeros, but all ones for the WLG region, whose enabled contexts
set LOST (R447). -/
def State.dieLost (s : State) (d : Nat) : State :=
  let on := s.regionList.filter fun r => r.2.2.1 ≠ 4 && r.1 / 2 ^ 27 == d
  let lost := fun a : Nat => on.any fun r => decide (r.1 ≤ a) && decide (a < r.1 + r.2.1)
  -- a shadow block is lost where the block of the pool that it lies in is
  let gone := fun a : Nat => lost (if 2 ^ 30 ≤ a then s.poolAddr a else a)
  let s1 : State := { s with
    cfg := { s.cfg with
      tm := s.cfg.tm.filter fun e => !lost e.1, tmSh := s.cfg.tmSh.filter fun e => !gone (2 ^ 30 + e.1)
      prev := s.cfg.prev.map fun p => { p with tm := p.tm.filter fun e => !lost e.1 } }
    tbm := { s.tbm with flips := s.tbm.flips.filter fun e => !gone e.1, poison := s.tbm.poison.filter fun w => !gone (32 * w) } }
  match on.find? fun r => r.2.2.1 == 2 with
  | some r => (s1.tmWrite r.1 (List.replicate r.2.1 0xFF)).allCtxLost
  | none => s1

/-- DIE_FAIL: a die's interface has lost training and not regained it within 1 ms (R445, R447, R449). -/
def State.doDieFail (s : State) (d : Nat) : State :=
  if !s.pdOn (56 + d) ∨ s.tbm.gone.contains d then s
  else
    let fits := s.tbm.out.isNone && s.reserveFits d
    let s1 := (s.raise Flt.TBM_DIE_FAIL 0 0 d).raise Flt.TBM_SPARED 0 0 d
    let s2 : State := { s1 with tbm := { s1.tbm with gone := s1.tbm.gone ++ [d], dies := tput s1.tbm.dies d { up := false } } }
    let s3 := s2.dieLost d
    if fits then
      let s4 : State := { s3 with tbm := { s3.tbm with out := some d } }
      let s5 : State := { s4 with tbm := { s4.tbm with copied := s4.relocBlocks } }
      s5.regionsMoved d (((s5.regions 4).headD (0, 0)).1 / 2 ^ 27)
    else (if s3.tbm.out.isNone then { s3 with tbm := { s3.tbm with out := some d } } else s3).raise Flt.TBM_RELOC_FAIL

end Sys2Proof.Machine
end

