-- ==== Sys2Proof/Machine/Wear.lean ====
section
/-! DEFINITION. AGE (18_wear_and_repair.md): cupping, the guardband, rate caps, spare engines, lanes and rows, the life
ledger, the calendar. -/

namespace Sys2Proof.Machine

/-- Changes AGE's state. -/
def State.onAge (s : State) (f : AgeSt → AgeSt) : State := { s with age := f s.age }

/-! ### The calendar and power-on time (R500) -/

/-- Calendar seconds now. -/
def State.calNow (s : State) : Nat := (s.aon.cal + (s.aon.ns - s.aon.calAt) / 1000000000) % 2 ^ 48

/-! ### The life ledger (R497, R498) -/

/-- A record of the ledger. -/
def State.ledgerRec (s : State) (typ : Nat) (body : List Byte) : List Byte :=
  let b := leBytes 2 typ ++ [0, 0] ++ leBytes 4 s.age.seq ++ leBytes 8 (if s.aon.calValid then s.calNow else 0)
    ++ leBytes 8 (s.age.onNs / 1000000000) ++ padTo 32 body
  b ++ leBytes 8 (crc64 b)

/-- The body of a summary. -/
def State.summaryBody (s : State) : List Byte :=
  leBytes 4 (s.age.onNs / 3600000000000) ++ leBytes 4 s.age.cycles ++ leBytes 4 s.age.retrains ++ leBytes 4 s.age.trips
    ++ leBytes 4 s.age.repairs ++ leBytes 2 s.age.gb

/-- A record is written to the active half, at its end. -/
def State.ledgerAppend (s : State) (typ : Nat) (body : List Byte) : State :=
  let r := s.ledgerRec typ body
  s.onAge fun a => { a with ledger := a.ledger ++ [r], seq := (a.seq + 1) % 2 ^ 32 }

/-- The active half is full: the other half is erased and starts with a summary and every repair and retirement. -/
def State.ledgerTurn (s : State) : State :=
  let old := s.age.ledger
  let s1 := (s.onAge fun a => { a with ledger := [], other := old }).ledgerAppend 1 s.summaryBody
  (old.filter fun r => leAt r 0 2 == 2 || leAt r 0 2 == 3).foldl (fun s r => s.ledgerAppend (leAt r 0 2) ((r.drop 24).take 32)) s1

/-- A record is written at once, or waits where the firmware may not write: 64 may wait (R498). -/
def State.ledgerPut (s : State) (typ : Nat) (body : List Byte) : State :=
  if s.decanting then
    if s.age.waiting.length < 64 then
      let r := s.ledgerRec typ body
      s.onAge fun a => { a with waiting := a.waiting ++ [r], seq := (a.seq + 1) % 2 ^ 32 }
    else s
  else (if s.age.ledger.length ≥ 2048 then s.ledgerTurn else s).ledgerAppend typ body

/-- Records that waited are written. -/
def State.ledgerFlush (s : State) : State :=
  if s.decanting ∨ s.age.waiting = [] then s
  else
    let s1 := if s.age.ledger.length + s.age.waiting.length > 2048 then s.ledgerTurn else s
    s1.onAge fun a => { a with ledger := a.ledger ++ a.waiting, waiting := [] }

/-- A repair (TYPE 2) or retirement (TYPE 3) is recorded, with event 0x0800: KIND 1 engine, 2 lane, 3 row, 4 die. -/
def State.ageRecord (s : State) (typ kind unit row fault : Nat) : State :=
  let body := leBytes 1 kind ++ [0] ++ leBytes 2 unit ++ leBytes 4 row ++ leBytes 2 (fault % 1024)
  let s1 := if typ = 2 then s.onAge fun a => { a with repairs := a.repairs + 1 } else s
  (s1.ledgerPut typ body).event { code := 0x0800, data := padTo 32 body }

/-- BLOCK and INFO of the faults of engines, lanes and rows (R503). -/
def ageInfo (unit row : Nat) : Nat := atBits unit 0 16 ||| atBits row 16 24

/-- LEDGER_SUMMARY: every 24 h of power-on time (R498). -/
def State.doLedgerSummary (s : State) : State :=
  if s.age.onNs - s.age.lastSum ≥ 86400000000000 then
    (s.onAge fun a => { a with lastSum := a.onNs }).ledgerPut 1 s.summaryBody
  else s

/-- GO of AGE_LEDGER_SEL has been written: the record's bytes, and whether its CHECK fails (R501). A record not written
reads as erased flash. -/
def State.ledgerGo (s : State) : State :=
  let i := s.fld R.AGE_LEDGER_SEL F.AGE_LEDGER_SEL_INDEX
  let r := (s.age.ledger[i]?).getD (List.replicate 64 0xFF)
  let bad := decide (leAt r 56 8 ≠ crc64 (r.take 56))
  let s1 := (List.range 8).foldl (fun s k => s.setRaw (R.AGE_LEDGER_DATA k) (BitVec.ofNat 64 (leAt r (8 * k) 8))) s
  (s1.setFld R.AGE_LEDGER_SEL F.AGE_LEDGER_SEL_GO 0).setFld R.AGE_LEDGER_SEL F.AGE_LEDGER_SEL_ERR (b2n bad)

/-! ### The guardband (R489, R490, R557) -/

/-- The setpoint in mV of a guardband. -/
def State.vcore (s : State) (gb : Nat) : Nat := 500 + 5 * s.age.base + gb

/-- A VID frame without its ACK: START, ADDR, CMD, CODE, PARITY (R557). The address is of the image, at key 2^37. -/
def State.vidFrame (s : State) (mv : Nat) : Nat :=
  let addr := (tget 0 s.cfg.img (2 ^ 37)).toNat
  let w := atBits addr 16 4 ||| atBits 1 13 3 ||| atBits ((mv - 500) / 5) 5 8
  atBits 5 20 4 ||| w ||| atBits (parityBit w) 4 1

/-- GB_MV and VCORE_MV follow the guardband. -/
def State.showGb (s : State) : State :=
  (s.setFld R.AGE_STAT F.AGE_STAT_GB_MV s.age.gb).setFld R.AGE_STAT F.AGE_STAT_VCORE_MV (s.vcore s.age.gb)

/-- The guardband changes: a frame, sent up to three times again where the regulator does not accept it; refused for good,
the last setpoint stays and AGE_MARGIN_LOW is raised (R557). Every change writes a record (R490). -/
def State.setGb (s : State) (gb rule : Nat) (slack : Int) (ok : Bool) : State :=
  if gb = s.age.gb then s
  else
    let f := Out.vid (s.vidFrame (s.vcore gb))
    if ok then
      let s1 := ((s.emit f).onAge fun a => { a with gb := gb }).showGb
      s1.ledgerPut 4 (leBytes 2 gb ++ [BitVec.ofInt 8 slack] ++ leBytes 1 rule)
    else ((((s.emit f).emit f).emit f).emit f).raise Flt.AGE_MARGIN_LOW

/-- The planner raises GB by one step, unless that would pass GB_MAX or 0.80 V (R489). -/
def State.gbStep (s : State) (rule : Nat) (slack : Int) (ok : Bool) : State :=
  let g := s.age.gb + 5
  if g > s.fld R.AGE_MARGIN_CFG F.AGE_MARGIN_CFG_GB_MAX ∨ s.vcore g > 800 then s.raise Flt.AGE_MARGIN_LOW
  else
    let s1 := if rule = 1 then s.onAge fun a => { a with lastFast := some s.now } else s
    s1.setGb g rule slack ok

/-- SLACK_SAMPLE: `worst` is the lowest slack of the valid monitors in ps, `ok` whether the regulator accepts a frame. -/
def State.doSlackSample (s : State) (worst : Int) (ok : Bool) : State :=
  let free : Bool := match s.age.lastFast with | some t => decide (s.now - t ≥ 10000000) | none => true
  if worst < (s.fld R.AGE_MARGIN_CFG F.AGE_MARGIN_CFG_SLACK_CRIT : Int) ∧ free then s.gbStep 1 worst ok else s

/-! ### Rate caps (R491) -/

/-- Caps a Scango link one rate below the rate in use; a cap is never raised. The lowest rate has none below it. -/
def State.capRate (s : State) (p : Nat) : State :=
  let k := R.AGE_RATE_PLAN p
  let r := (s.sglOf p).rateIdx
  let old := if s.flag k F.AGE_RATE_PLAN_VALID then some (s.fld k F.AGE_RATE_PLAN_PLAN) else none
  if r = 0 ∨ !s.isScango p then s
  else
    let new := match old with | some o => min o (r - 1) | none => r - 1
    if old = some new then s
    else ((s.setFld k F.AGE_RATE_PLAN_VALID 1).setFld k F.AGE_RATE_PLAN_PLAN new).event
      { code := 0x0801, data := leBytes 1 p ++ leBytes 1 new }

/-! ### Lanes (R494) -/

/-- A Scango lane is retired, or the retirement refused and the link's rate capped. -/
def State.retireLane (s : State) (n fault : Nat) : State :=
  if s.laneRetired n then s
  else
    let g := n / 9
    let p := match s.portAt g (n % 9) with | some p => p | none => ((s.portsOn g).filter s.isScango).headD 128
    let other := (List.range 8).any fun l => decide (9 * g + l ≠ n) && s.laneRetired (9 * g + l)
    if n % 9 ≠ 8 ∧ (other ∨ s.laneRetired (9 * g + 8)) then (s.raise Flt.AGE_LANE_NOSPARE 0 (ageInfo n 0)).capRate p
    else
      let k := R.AGE_LANE_RETIRED (n / 64)
      ((s.setRaw k (s.raw k ||| BitVec.ofNat 64 (2 ^ (n % 64)))).raise Flt.AGE_LANE_RETIRED 0 (ageInfo n 0)).ageRecord 3 2 n 0 fault

/-- Whether a lane belongs to a Scango link, or is a spare. -/
def State.sglLane (s : State) (n : Nat) : Bool :=
  match s.portAt (n / 9) (n % 9) with
  | some p => s.isScango p
  | none => true

/-- Thirty days in ns. -/
def days30 : Nat := 2592000000000000

/-- Swaps and pinnings of lanes are counted over 30 days of power-on time (R494). -/
def State.laneEvents (s : State) : State :=
  s.lg.events.foldl (init := ({ s with lg := { s.lg with events := [] } } : State)) fun s e =>
    let n := e.1
    let add := fun t : Tbl (List Nat) => tput t n (((tget [] t n).filter fun x => s.age.onNs - x < days30) ++ [s.age.onNs])
    if e.2.1 = 0 then
      let t := add s.age.swaps
      let s1 := s.onAge fun a => { a with swaps := t }
      if (tget [] t n).length ≥ s.fld R.AGE_MARGIN_CFG F.AGE_MARGIN_CFG_RETIRE_SWAPS then
        s1.retireLane n (faultId Flt.SGL_LANE_SWAP.source Flt.SGL_LANE_SWAP.kind)
      else s1
    else
      let t := add s.age.pins
      let s1 := s.onAge fun a => { a with pins := t }
      if (tget [] t n).length ≥ 2 ∧ s.sglLane n then
        s1.retireLane n (faultId Flt.LG_ADAPT_REVERT.source Flt.LG_ADAPT_REVERT.kind)
      else s1

/-! ### Engines (R25, R492, R493) -/

/-- Host of role `r` of cluster `c`. -/
def State.engHost (s : State) (c r : Nat) : Nat := s.fld (R.AGE_EC c) (F.AGE_EC_HOST r)

/-- The role that an engine serves: its cluster and number. -/
def State.engRole (s : State) (e : Nat) : Option (Nat × Nat) :=
  ((List.range 128).find? fun n => s.engHost (n / 8) (n % 8) == e).map fun n => (n / 8, n % 8)

/-- Whether an engine is retired. -/
def State.engRetired (s : State) (e : Nat) : Bool := bitAt (s.raw (R.AGE_EC_RETIRED (e / 64))).toNat (e % 64)

/-- Whether E8 of a cluster is a free spare: not retired, not stopped and without a role. -/
def State.spareFree (s : State) (c : Nat) : Bool :=
  let e := 9 * c + 8
  !s.engRetired e && !s.age.stopped.contains e && (s.engRole e).isNone

/-- SPARES_FREE follows the spares. -/
def State.showSpares (s : State) : State :=
  s.setFld R.AGE_STAT F.AGE_STAT_SPARES_FREE ((List.range 16).filter s.spareFree).length

/-- An engine is retired: never loaded again. -/
def State.retireEngine (s : State) (e : Nat) : State :=
  let k := R.AGE_EC_RETIRED (e / 64)
  s.setRaw k (s.raw k ||| BitVec.ofNat 64 (2 ^ (e % 64)))

/-- Index of account `m` of engine `e` in the counter space (R504). -/
def tdeIdx (e m : Nat) : Nat := 2688 + 5 * e + m

/-- The accounts of an engine are made up: the slots it has earned since the last time fall in the four accounts by free
values (R508, R509; log entry 28). -/
def State.engSync (s : State) (e : Nat) : State :=
  let n := s.pmc.engSlots - tget 0 s.pmc.engBase e
  let s0 : State := { s with pmc := { s.pmc with engBase := tput s.pmc.engBase e s.pmc.engSlots } }
  if (s.engRole e).isNone ∨ n = 0 then s0
  else
    let (a, s1) := s0.fresh
    let (b, s2) := s1.fresh
    let (c, s3) := s2.fresh
    let r := a.toNat % (n + 1)
    let w := b.toNat % (n - r + 1)
    let f := c.toNat % (n - r - w + 1)
    ((((s3.pmcAdd (tdeIdx e 0) n).pmcAdd (tdeIdx e 1) r).pmcAdd (tdeIdx e 2) w).pmcAdd (tdeIdx e 3) f).pmcAdd (tdeIdx e 4) (n - r - w - f)

/-- The role of a stopped engine passes to a spare: its own cluster's, else that of the lowest cluster that has one free. -/
def State.replaceEngine (s : State) (e : Nat) : State :=
  let s1 := ((s.retireEngine e).onAge fun a => { a with stopped := a.stopped.filter (· ≠ e), stopWhy := tdel a.stopWhy e })
  match s1.engRole e with
  | none => s1.showSpares
  | some (c, r) =>
    let spare := if s1.spareFree c then some c else (List.range 16).find? s1.spareFree
    match spare with
    | some t => ((((s1.engSync e).engSync (9 * t + 8)).setFld (R.AGE_EC c) (F.AGE_EC_HOST r) (9 * t + 8)).showSpares).raise Flt.AGE_ENGINE_SPARED 0 (ageInfo e 0)
    | none => s1.raise Flt.AGE_ENGINE_EXHAUSTED 0 (ageInfo e 0)

/-- ENGINE_STOP: the stopped engine with the lowest number is replaced and retired (R492). `loaded` says that spares have
been loaded again since their firmware copy failed its code (R404). -/
def State.doEngineStop (s : State) (loaded : Bool) : State :=
  match (List.range 144).find? s.age.stopped.contains with
  | none => s
  | some e =>
    if s.age.fwBad ∧ !loaded then s
    else
      let f := faultId Flt.EC_MEM_COR.source (tget 2 s.age.stopWhy e)
      ((s.onAge fun a => { a with fwBad := false }).replaceEngine e).ageRecord 3 1 e 0 f

/-- ENGINE_WATCHDOG: an engine has not serviced its watchdog within 1 ms and stops (R402). -/
def State.doEngineWatchdog (s : State) (e : Nat) : State :=
  if s.engRetired e ∨ s.age.stopped.contains e then s else (s.raise Flt.EC_WATCHDOG e).stopEngine e 2

/-! ### Rows (R495) -/

/-- Spare rows of a die in use. -/
def State.rowsUsed (s : State) (d : Nat) : Nat := s.fld (R.AGE_ROWS d) F.AGE_ROWS_USED

/-- Rows that qualify on a die without a free spare row: the die is retired (R445, R495). -/
def State.rowsOut (s : State) : State :=
  match s.age.rowDue.find? fun e => s.rowsUsed (e.1 / 65536) ≥ 128 with
  | none => s
  | some (row, f) =>
    let d := row / 65536
    let s1 := (s.onAge fun a => { a with rowDue := a.rowDue.filter fun e => e.1 / 65536 ≠ d }).raise Flt.AGE_ROWS_OUT 0 (ageInfo d row)
    if s1.tbm.out.isSome ∨ !s1.reserveFits d then s1.relocStart d else (s1.relocStart d).ageRecord 3 4 d 0 f

/-- DIE_FAIL, which retires the die: the ledger records it (R445). -/
def State.doDieRetire (s : State) (d : Nat) : State :=
  let s1 := s.doDieFail d
  if !s.tbm.gone.contains d ∧ s1.tbm.gone.contains d then
    s1.ageRecord 3 4 d 0 (faultId Flt.TBM_DIE_FAIL.source Flt.TBM_DIE_FAIL.kind)
  else s1

/-- The logical address that is served from a physical one (R427, R446). -/
def State.logicalOf (s : State) (p : Nat) : Option Nat :=
  let r := (s.regions 4).headD (0, 0)
  match s.tbm.out with
  | some d =>
    let on := sortBy (fun r => r.1) ((s.regionList.filter fun r => r.2.2.1 ≠ 4 && r.1 / 2 ^ 27 == d).map fun r => (r.1, r.2.1))
    if r.1 ≤ p ∧ p - r.1 < 4096 * s.tbm.copied then inRegions on (p - r.1) else if s.phys p = p then some p else none
  | none => some p

/-- ROW_REPAIR_DONE: the first row that qualifies, on a die in service with a free spare row, has been copied into a spare row,
which then serves it. No row is copied during a decant (R496). -/
def State.doRowRepair (s : State) : State :=
  match s.age.rowDue.find? fun e => s.tbm.out ≠ some (e.1 / 65536) ∧ s.rowsUsed (e.1 / 65536) < 128 with
  | none => s
  | some (row, f) =>
    let d := row / 65536
    if s.decanting then s
    else
      let words := (List.range 64).filterMap fun k => (s.logicalOf (2048 * row + 32 * k)).map fun a => s.shadowed a / 32
      let s1 := words.foldl (init := s) fun s w =>
        if s.wordBad (32 * w) then (s.readWord 15 w).poisonWord w
        else if s.wordCor w then (s.readWord 15 w).rewriteWord w else s
      let n := s1.rowsUsed d
      let s2 := (s1.setFld (R.AGE_ROWS d) F.AGE_ROWS_USED (n + 1)).onAge fun a => { a with
        rowDue := a.rowDue.filter (·.1 ≠ row), rowCor := tdel a.rowCor row, remap := tput a.remap row n }
      (s2.raise Flt.AGE_ROW_SPARED 0 (ageInfo d (row % 65536))).ageRecord 2 3 d (row % 65536) f

/-! ### Cupping (R487, R488) -/

/-- The path monitors' registers. -/
def State.cupSlack (s : State) (l : List (Nat × Int)) : State :=
  (List.range 512).foldl (init := s) fun s k =>
    match l.find? fun e => e.1 == k with
    | some (_, v) => s.setRaw (R.AGE_PDM k) (F.AGE_PDM_VALID.set (F.AGE_PDM_VALUE.set 0 (BitVec.ofInt 20 v).toNat) 1)
    | none => if s.flag (R.AGE_PDM k) F.AGE_PDM_VALID then s.setFld (R.AGE_PDM k) F.AGE_PDM_VALID 0 else s

/-- The oscillators' registers; one of a domain that is off is skipped. -/
def State.cupRings (s : State) (l : List (Nat × Nat)) : State :=
  (List.range 68).foldl (init := s) fun s k =>
    match l.find? fun e => e.1 == k && (k ≥ 64 || bitAt (s.raw R.PWR_ON).toNat k) with
    | some (_, v) => s.setRaw (R.AGE_RO k) (F.AGE_RO_VALID.set (F.AGE_RO_VALUE.set 0 v) 1)
    | none => if s.flag (R.AGE_RO k) F.AGE_RO_VALID then s.setFld (R.AGE_RO k) F.AGE_RO_VALID 0 else s

/-- Whether a lane is one of a port's, or the spare that carries one of them (R487, R491). -/
def State.laneOfPort (s : State) (p n : Nat) : Bool :=
  s.portAt (n / 9) (n % 9) == some p || (n % 9 == 8 && (s.portsOn (n / 9)).contains p && (s.sglOf p).swap.rx.isSome)

/-- The narrowest eye of each port, and what follows from three rounds below EYE_MIN (R491). -/
def State.cupPort (s : State) (eyes : List (Nat × Nat)) (p : Nat) : State :=
  let mine := (eyes.filter fun e => s.laneOfPort p e.1).map (·.2)
  match mine with
  | [] => s
  | w :: ws =>
    let m := ws.foldl min w
    let low := decide (m < s.fld R.AGE_MARGIN_CFG F.AGE_MARGIN_CFG_EYE_MIN)
    let n := if low then tget 0 s.age.eyeLow p + 1 else 0
    let s1 := (s.setFld (R.AGE_RATE_PLAN p) F.AGE_RATE_PLAN_EYE_WORST m).onAge fun a => { a with eyeLow := tput a.eyeLow p n }
    if n ≥ 3 then s1.capRate p else s1

/-- The eye of a Scango lane, and its retirement after three rounds below half of EYE_MIN (R494). -/
def State.cupLane (s : State) (e : Nat × Nat) : State :=
  let low := decide (2 * e.2 < s.fld R.AGE_MARGIN_CFG F.AGE_MARGIN_CFG_EYE_MIN)
  let n := if low then tget 0 s.age.eyeBad e.1 + 1 else 0
  let s1 := s.onAge fun a => { a with eyeBad := tput a.eyeBad e.1 n }
  if n ≥ 3 ∧ s.sglLane e.1 then s1.retireLane e.1 (faultId Flt.AGE_LANE_RETIRED.source 0) else s1

/-- CUPPING_ROUND: a round ends. `ok` says whether the regulator accepts a frame. A lane that a higher user of the offset
sampler holds is left out (R295). -/
def State.doCupping (s : State) (c : Cup) (ok : Bool) : State :=
  if !s.flag R.AGE_CFG F.AGE_CFG_CUP_EN ∨ s.dct.quiet
      ∨ s.now - s.age.roundAt < 60000000000 * s.fld R.AGE_CFG F.AGE_CFG_PERIOD_MIN then s
  else
    let eyes := c.eyes.filter fun e => s.laneUp (e.1 / 9) (e.1 % 9) && !s.samplerTaken e.1
    let s1 := (((s.onAge fun a => { a with roundAt := s.now }).cupSlack c.slack).cupRings c.rings)
    let s2 := (s1.cfg.ports.map (·.1)).foldl (fun s p => s.cupPort eyes p) s1
    let s3 := eyes.foldl State.cupLane s2
    let r := s3.fld R.AGE_STAT F.AGE_STAT_ROUNDS
    let s4 := s3.setFld R.AGE_STAT F.AGE_STAT_ROUNDS ((r + 1) % 2 ^ 30)
    let worst : Option Int := match c.slack with | [] => none | e :: es => some (es.foldl (fun m x => min m x.2) e.2)
    let s5 := match worst with | some w => s4.setFld R.AGE_STAT F.AGE_STAT_WORST_SLACK (BitVec.ofInt 8 w).toNat | none => s4
    let w : Int := worst.getD 0
    let s6 := if s5.age.clr then (s5.onAge fun a => { a with clr := false }).setGb 0 2 w ok else s5
    if worst.isSome ∧ w < (s6.fld R.AGE_MARGIN_CFG F.AGE_MARGIN_CFG_SLACK_MIN : Int) then s6.gbStep 0 w ok else s6

/-- What AGE does after each command: the events of lanes, rows without a spare, records that waited. -/
def State.ageSettle (s : State) : State :=
  let s1 := if s.lg.events = [] then s else s.laneEvents
  let s2 := if s1.age.rowDue = [] then s1 else s1.rowsOut
  s2.ledgerFlush

end Sys2Proof.Machine
end

