-- ==== Sys2Proof/Machine/Pmc.lean ====
section
/-! DEFINITION. PMC (19_observability.md): condition events, slot accounts, counter dumps, engine samples, user windows. -/

namespace Sys2Proof.Machine

/-! ### What time brings (R506 to R509) -/

/-- Units and classes that a selection looks at, of all units of its group. -/
def evUnits (w : Word) (all : List Nat) : List Nat := if F.PMC_SEL_FILTER_EN.get w = 1 then [F.PMC_SEL_UNIT.get w] else all
/-- See `evUnits`. -/
def evTcs (w : Word) : List Nat :=
  (List.range 8).filter fun t => F.PMC_SEL_FILTER_EN.get w == 0 || bitAt (F.PMC_SEL_TC_MASK.get w) t

/-- Whether the condition that a selection names holds (R506): an account at its ALPHA bound, a queue backlogged and not
eligible, an outbound request waiting for a tracker entry, a requester of a die waiting. -/
def State.evHolds (s : State) (w : Word) : Bool :=
  let e := F.PMC_SEL_EVENT.get w
  let ports := s.cfg.ports.map (·.1)
  if e = 0x1010 then
    (evUnits w ports).any fun p => (evTcs w).any fun t => (s.admission p t 1 s.cfg.epoch).1 == 0
  else if e = 0x2010 then
    s.tmg.queues.any fun q => (evUnits w ports).contains (q.1 / 256) && (evTcs w).contains (q.1 / 32 % 8)
      && !q.2.mem.isEmpty && !s.eligible (q.1 / 256) q.1
  else if e = 0x4010 then
    s.xbc.stalled.any fun i => (s.pkt i).stall == some .tracker && (evUnits w (List.range 32)).contains (s.pkt i).vs
      && (evTcs w).contains (s.pkt i).tc
  else if e = 0x8010 then (evUnits w [0, 1, 2, 3]).any fun d => !(s.die d).waiting.isEmpty
  else false

/-- Whether a selection is enabled in a mode. -/
def selMode (w : Word) (m : Nat) : Bool := F.PMC_SEL_EN.get w == 1 && F.PMC_SEL_MODE.get w == m

/-- Cycles of the clock of a group in a number of 5 ns steps (R29, R506). -/
def evCycles (g dt : Nat) : Nat := if g = 7 then 6 * dt else if g = 8 then 4 * dt else 8 * dt

/-- The cycles in which conditions hold, as time passes: the state stands still between commands. -/
def State.condTick (s : State) (dt : Nat) : State :=
  (s.pmcSels.filter fun k => selMode k.2 1 && s.evHolds k.2).foldl (init := s) fun s k =>
    s.pmcAdd k.1 (evCycles (F.PMC_SEL_EVENT.get k.2 / 4096) dt)

/-- The cycles in which conditions become true, looked at after each command. -/
def State.condEdge (s : State) : State :=
  let ks := s.pmcSels.filter fun k => selMode k.2 2
  let now_ := (ks.filter fun k => s.evHolds k.2).map (·.1)
  if ks = [] ∧ s.pmc.held = [] then s
  else
    let s1 := (now_.filter fun k => !s.pmc.held.contains k).foldl (fun s k => s.pmcAdd k 1) s
    { s1 with pmc := { s1.pmc with held := now_ } }

/-- Events inside the engines, whose amounts are free values below the cycles that have passed (log entry 28). -/
def State.engTick (s : State) (dt : Nat) : State :=
  (s.pmcSels.filter fun k => F.PMC_SEL_EN.get k.2 == 1 && F.PMC_SEL_EVENT.get k.2 / 4096 == 7).foldl (init := s) fun s k =>
    let e := F.PMC_SEL_EVENT.get k.2 % 4096
    let m := F.PMC_SEL_MODE.get k.2
    let units := if F.PMC_SEL_FILTER_EN.get k.2 = 1 then b2n (s.engRole (F.PMC_SEL_UNIT.get k.2)).isSome else 128
    if (e = 1 ∧ m = 0) ∨ (0x10 ≤ e ∧ e ≤ 0x12 ∧ (m = 1 ∨ m = 2)) then
      let (f, s1) := s.fresh
      let n := f.toNat % (6 * dt * units + 1)
      let smp := s1.flag R.PMC_SMP_CFG F.PMC_SMP_CFG_EN && s1.fld R.PMC_SMP_CFG F.PMC_SMP_CFG_COUNTER == k.1
      let s2 : State := if smp then { s1 with pmc := { s1.pmc with smpDue := s1.pmc.smpDue + n } } else s1
      s2.pmcAdd k.1 n
    else s

/-- Index of account `m` of port `p` (R504). -/
def tdpIdx (p m : Nat) : Nat := 2048 + 5 * p + m

/-- The slots that a port earns as time passes, and the accounts they fall in (R508, R509): what was wasted, then what was
delivered, then BACK while a queue off the wheel waits for the link, else FRONT. -/
def State.portTick (s : State) (dt p : Nat) : State :=
  if !s.flag (R.XBC_PORT_SPEED p) F.XBC_PORT_SPEED_UP then s
  else
    let acc := tget 0 s.pmc.frac p + 5 * dt * s.fld (R.XBC_PORT_SPEED p) F.XBC_PORT_SPEED_SPEED
    let n := acc / 4000
    let w := min n (tget 0 s.pmc.due (2 * p + 1))
    let r := min (n - w) (tget 0 s.pmc.due (2 * p))
    let due := tput (tput s.pmc.due (2 * p) (tget 0 s.pmc.due (2 * p) - r)) (2 * p + 1) (tget 0 s.pmc.due (2 * p + 1) - w)
    let back := s.tmg.queues.any fun q => q.1 / 256 == p && !q.2.mem.isEmpty && !s.onWheel q.1
    let s1 : State := { s with pmc := { s.pmc with frac := tput s.pmc.frac p (acc % 4000), due := due } }
    (((s1.pmcAdd (tdpIdx p 0) n).pmcAdd (tdpIdx p 1) r).pmcAdd (tdpIdx p 2) w).pmcAdd (tdpIdx p (if back then 4 else 3)) (n - w - r)

/-- What PMC counts while `dt` steps of 5 ns pass. -/
def State.pmcTick (s : State) (dt : Nat) : State :=
  if dt = 0 ∨ s.flag R.PMC_CFG F.PMC_CFG_FREEZE then s
  else
    let s1 := (s.condTick dt).engTick dt
    let s2 := (s1.cfg.ports.map (·.1)).foldl (fun s p => s.portTick dt p) s1
    { s2 with pmc := { s2.pmc with engSlots := s2.pmc.engSlots + 6 * dt } }

/-! ### Dumps (R510 to R513, R517, R520) -/

/-- First index and number of counters of a set: events, ports, engines (R504, R510). -/
def dumpSet (k : Nat) : Nat × Nat := if k = 0 then (0, 2048) else if k = 1 then (2048, 640) else (2688, 720)

/-- Data records of a set, seven values each (R512). -/
def State.dumpData (s : State) (seq k : Nat) : List (List Byte) :=
  let (f, n) := dumpSet k
  (List.range (ceilDiv n 7)).map fun j =>
    leBytes 2 0x0C02 ++ [0, 0] ++ leBytes 2 (seq % 65536) ++ leBytes 2 (f + 7 * j)
      ++ (List.range 7).flatMap fun i => leBytes 8 (if 7 * j + i < n then tget 0 s.pmc.cnt (f + 7 * j + i) else 0)

/-- Zeroes the counters of the sets of a dump. -/
def State.dumpClear (s : State) (sets : Nat) : State :=
  let hit := fun i : Nat => if i < 2048 then bitAt sets 0 else if i < 2688 then bitAt sets 1 else bitAt sets 2
  { s with pmc := { s.pmc with cnt := s.pmc.cnt.filter fun e => !hit e.1 } }

/-- A dump: its snapshot and its records, or, where the CDR has not room for all of them, none (R42, R512). Answers
whether it was skipped, the records written and its DUMP_SEQ. -/
def State.dump (s : State) (cause sets : Nat) (clear : Bool) : Bool × Nat × Nat × State :=
  let s0 := if bitAt sets 2 then (List.range 144).foldl State.engSync s else s
  let seq := (s0.fld R.PMC_STAT F.PMC_STAT_DUMP_SEQ + 1) % 2 ^ 32
  let s1 := s0.setFld R.PMC_STAT F.PMC_STAT_DUMP_SEQ seq
  let data := ((List.range 3).filter (bitAt sets)).flatMap (s1.dumpData seq)
  let head := leBytes 2 0x0C01 ++ leBytes 1 cause ++ [0] ++ leBytes 4 seq ++ leBytes 8 s1.now ++ leBytes 1 (sets % 8)
    ++ leBytes 1 (b2n clear + 2 * s1.fld R.PMC_CFG F.PMC_CFG_FREEZE) ++ leBytes 2 data.length ++ leBytes 4 s1.cfg.epoch
  let s2 := if clear then s1.dumpClear sets else s1
  if s2.ringRoom .cdr < data.length + 1 then
    let s3 := s2.setFld R.PMC_STAT F.PMC_STAT_SKIPPED (min 0x7FFF (s2.fld R.PMC_STAT F.PMC_STAT_SKIPPED + 1))
    let s4 := if s3.pmc.skipRun then s3 else s3.raise Flt.PMC_DUMP_SKIP 0 seq
    (true, 0, seq, ({ s4 with pmc := { s4.pmc with skipRun := true } } : State).lose .cdr)
  else
    let s3 := (head :: data).foldl (fun s b => s.writeRecord .cdr b) s2
    (false, data.length + 1, seq, { s3 with pmc := { s3.pmc with skipRun := false } })

/-- COUNTER_DUMP (R511, R513). -/
def State.doCounterDump (s : State) (d : Desc) (set_ : Nat) (clear : Bool) : State :=
  match s.mcrTake with
  | none => s
  | some (k, s1) =>
    if set_ % 8 = 0 then s1.cmdDone k d stBadParam
    else
      let (skip, n, seq, s2) := s1.dump 1 (set_ % 8) clear
      s2.cmdDone k d stSuccess (atBits (b2n skip) 63 1 ||| atBits n 32 16 ||| seq)

/-- PERIODIC_DUMP: PERIOD_US has passed since the last one was due; from step 2 of R342 no dump starts (R511, R517). -/
def State.doPeriodicDump (s : State) : State :=
  let k := R.PMC_DUMP_CFG
  if s.flag k F.PMC_DUMP_CFG_EN ∧ !s.dct.quiet ∧ s.now - s.pmc.lastDump ≥ 1000 * s.fld k F.PMC_DUMP_CFG_PERIOD_US then
    let (_, _, _, s1) := ({ s with pmc := { s.pmc with lastDump := s.now } } : State).dump 0 (s.fld k F.PMC_DUMP_CFG_SET)
      (s.flag k F.PMC_DUMP_CFG_CLEAR)
    s1
  else s

/-! ### Engine samples (R514, R515, R517) -/

/-- Samples that wait are written while the CDR has room. -/
def State.smpDrain (s : State) : Nat → State
  | 0 => s
  | n + 1 =>
    match s.pmc.samples with
    | [] => s
    | b :: rest =>
      if s.ringRoom .cdr = 0 then s
      else (({ s with pmc := { s.pmc with samples := rest } } : State).writeRecord .cdr b).smpDrain n

/-- ENGINE_SAMPLE: the sampled counter has counted PERIOD increments since the last sample. The engine gives the retired
instructions between, its kind of work and the address. -/
def State.doEngineSample (s : State) (skid work addr : Nat) : State :=
  let k := s.fld R.PMC_SMP_CFG F.PMC_SMP_CFG_COUNTER
  let e := s.fld (R.PMC_SEL k) F.PMC_SEL_UNIT
  let per := s.fld R.PMC_SMP_CFG F.PMC_SMP_CFG_PERIOD
  if !s.flag R.PMC_SMP_CFG F.PMC_SMP_CFG_EN ∨ s.dct.quiet ∨ s.pmc.smpDue < per ∨ s.engRetired e then s
  else
    let (c, r) := (s.engRole e).getD (0, 0)
    let b := leBytes 2 0x0C03 ++ leBytes 1 (min 12 skid) ++ [0] ++ leBytes 4 s.pmc.smpSeq ++ leBytes 8 s.now ++ leBytes 2 e
      ++ leBytes 1 (16 * c + r) ++ leBytes 1 (work % 8) ++ leBytes 4 addr ++ leBytes 8 (tget 0 s.pmc.cnt k)
    let s1 : State := { s with pmc := { s.pmc with smpDue := s.pmc.smpDue - per, smpSeq := (s.pmc.smpSeq + 1) % 2 ^ 32 } }
    if s1.pmc.samples.length ≥ 64 then
      s1.setFld R.PMC_STAT F.PMC_STAT_SMP_LOST (min 0xFFFF (s1.fld R.PMC_STAT F.PMC_STAT_SMP_LOST + 1))
    else ({ s1 with pmc := { s1.pmc with samples := s1.pmc.samples ++ [b] } } : State).smpDrain 64

/-! ### Reads (R504, R516) -/

/-- The value of a counter of the counter space, and the state after it has been looked at; an index beyond 3,407 reads
0. -/
def State.pmcRead (s : State) (i : Nat) : Nat × State :=
  let s1 := if 2688 ≤ i ∧ i < 3408 then s.engSync ((i - 2688) / 5) else s
  (if i < 3408 then tget 0 s1.pmc.cnt i else 0, s1)

/-- Entry `j` of the user window of slice `i` (R516). -/
def State.uwinRead (s : State) (i j : Nat) : Nat × State :=
  let k := R.PMC_UWIN i
  if s.flag k F.PMC_UWIN_EN ∧ j < s.fld k F.PMC_UWIN_COUNT then s.pmcRead (s.fld k F.PMC_UWIN_FIRST + j) else (0, s)

/-- What PMC does after each command. -/
def State.pmcSettle (s : State) : State := (if s.pmc.samples = [] then s else s.smpDrain 64).condEdge

end Sys2Proof.Machine
end

