-- ==== Sys2Proof/Machine/Device.lean ====
section
/-! DEFINITION. The DEV block and CLK while the part runs (20_clocks_reset_boot.md R521 to R526, 21_register_map.md R540 to
R544): temperature, the GPIO balls, the reference, the crystal, PTM. -/

namespace Sys2Proof.Machine

/-! ### Temperature (R497, R540, R541) -/

/-- The highest of the readings, and the first sensor that gives it. -/
def hottest : List Int → Int × Nat
  | [] => (0, 0)
  | [t] => (t, 0)
  | t :: ts =>
    let r := hottest ts
    if r.1 > t then (r.1, r.2 + 1) else (t, 0)

/-- INFO of the thermal faults (R541). -/
def thermInfo (t : Int) (sensor : Nat) : Nat := (BitVec.ofInt 16 t).toNat ||| atBits sensor 16 4

/-- The junction temperature in 1/16 °C that DEV_THERM_CRIT stands at: the grade's maximum plus 10 °C. -/
def State.critTemp (s : State) : Int := if s.fld R.DEV_VARIANT F.DEV_VARIANT_TEMP_GRADE = 1 then 1840 else 1760

/-- A signed 8-bit field. -/
def signed8 (n : Nat) : Int := if n ≥ 128 then (n : Int) - 256 else n

/-- The thermal-cycle count: readings a second apart (R497). -/
def State.thermCycle (s : State) (t : Int) : State :=
  let due : Bool := match s.age.tAt with | some a => decide (s.now - a ≥ 1000000000) | none => true
  if !due then s
  else
    let s1 := s.onAge fun a => { a with tAt := some s.now }
    match s.age.tmin with
    | none => s1.onAge fun a => { a with tmin := some t }
    | some m =>
      if t ≥ m + 640 then s1.onAge fun a => { a with tmin := some t, cycles := a.cycles + 1 }
      else s1.onAge fun a => { a with tmin := some (min m t) }

/-- The thermal telemetry of the fabric endpoint ports: its format is free (R207). -/
def State.thermValue (s : State) : State :=
  ((s.cfg.ports.filter fun e => e.2.role == 2).map (·.1)).foldl (init := s) fun s p =>
    let (v, s1) := s.fresh
    s1.sideband s1.cfg.epoch p 33 0 (leBytes 8 v.toNat)

/-- THERMAL_SAMPLE: the readings of the sensors in 1/16 °C, by number. -/
def State.doThermal (s : State) (ts : List Int) : State :=
  let (t, n) := hottest ts
  let peak := match s.clk.peak with | some q => max q t | none => t
  let s1 := ((s.setFld R.DEV_TEMP F.DEV_TEMP_TJ_MAX (BitVec.ofInt 16 t).toNat).setFld R.DEV_TEMP F.DEV_TEMP_SENSOR n).setFld
    R.DEV_TEMP F.DEV_TEMP_TJ_PEAK (BitVec.ofInt 16 peak).toNat
  let k := R.DEV_THERM_CFG
  let w := signed8 (s1.fld k F.DEV_THERM_CFG_WARN_C) * 16
  let h : Int := (s1.fld k F.DEV_THERM_CFG_HYST_C : Int) * 16
  let warn := decide (t ≥ w) && s1.flag k F.DEV_THERM_CFG_WARN_EN
  let s2 := if warn ∧ !s1.clk.warn then s1.raise Flt.DEV_THERM_WARN 0 (thermInfo t n) else s1
  let hot := decide (t ≥ s2.critTemp)
  let s3 := if hot ∧ !s2.clk.crit then s2.raise Flt.DEV_THERM_CRIT 0 (thermInfo t n) else s2
  let s4 : State := { s3 with clk := { s3.clk with
    peak := some peak, warn := (s3.clk.warn || warn) && decide (t ≥ w - h), crit := hot } }
  (s4.thermCycle t).thermValue

/-! ### GPIO (R543, R544) -/

/-- Balls that PWR_WAKE_CFG owns. -/
def wakeOwned (w : Word) : Nat :=
  (if F.PWR_WAKE_CFG_WAKE_EN.get w = 1 then 2 ^ F.PWR_WAKE_CFG_WAKE_GPIO.get w else 0)
    ||| (if F.PWR_WAKE_CFG_MAIN_EN_EN.get w = 1 then 2 ^ F.PWR_WAKE_CFG_MAIN_EN_GPIO.get w else 0)

/-- OWNED: the image's balls and those of PWR_WAKE_CFG. -/
def State.owned (s : State) : Nat := s.fld R.DEV_GPIO_CFG F.DEV_GPIO_CFG_OWNED ||| wakeOwned (s.raw R.PWR_WAKE_CFG)

/-- The OE and OUT bits of owned balls read 0. -/
def State.clearOwned (s : State) : State :=
  let m := 255 - s.owned % 256
  (s.setFld R.DEV_GPIO_CFG F.DEV_GPIO_CFG_OE (s.fld R.DEV_GPIO_CFG F.DEV_GPIO_CFG_OE &&& m)).setFld R.DEV_GPIO_DATA
    F.DEV_GPIO_DATA_OUT (s.fld R.DEV_GPIO_DATA F.DEV_GPIO_DATA_OUT &&& m)

/-- IN: the latched levels while bank 64 is held. -/
def State.gpioIn (s : State) : Nat := match tfind s.pwr.latched 64 with | some x => x | none => s.pads

/-! ### The reference, the crystal and PTM (R522, R524, R525) -/

/-- REF_LOST: REF gives no edge for 100 ns, or the PLL loses lock; the PLL holds over. -/
def State.doRefLost (s : State) (pll : Bool) : State :=
  if s.clk.holdover.isSome then s
  else
    let s1 := s.setFld R.CLK_STAT F.CLK_STAT_HOLDOVER 1
    let s2 := if pll then (s1.setFld R.CLK_STAT F.CLK_STAT_PLL_LOCK 0).raise Flt.CLK_PLL_UNLOCK
      else (s1.setFld R.CLK_STAT F.CLK_STAT_REF_OK 0).raise Flt.CLK_REF_LOST
    { s2 with clk := { s2.clk with holdover := some s2.now } }

/-- Lock returns while the PLL holds over. -/
def State.relock (s : State) : State :=
  if s.clk.holdover.isNone then s
  else
    let s1 := ((s.setFld R.CLK_STAT F.CLK_STAT_HOLDOVER 0).setFld R.CLK_STAT F.CLK_STAT_REF_OK 1).setFld R.CLK_STAT F.CLK_STAT_PLL_LOCK 1
    { s1 with clk := { s1.clk with holdover := none } }

/-- XTAL_FAIL: the calendar stops. -/
def State.doXtalFail (s : State) : State :=
  let s1 : State := { s with aon := { s.aon with xtal := false, calValid := false } }
  if s.aon.mode = 0 ∧ s.aon.xtal then (s1.setFld R.CLK_STAT F.CLK_STAT_XTAL_OK 0).raise Flt.CLK_XTAL_FAIL else s1

/-- XTAL_RESTART. -/
def State.doXtalRestart (s : State) : State :=
  let s1 : State := { s with aon := { s.aon with xtal := true } }
  if s.aon.mode = 0 then s1.setFld R.CLK_STAT F.CLK_STAT_XTAL_OK 1 else s1

/-- PTM_CAPTURE: a dialogue of an upstream port has completed; its local time is the timestamp. -/
def State.doPtm (s : State) (p master : Nat) : State :=
  let k := R.CLK_PTM_CFG
  if s.flag k F.CLK_PTM_CFG_EN ∧ s.fld k F.CLK_PTM_CFG_PORT = p ∧ s.isPcie p ∧ s.role p = 0 ∧ s.linkUp p then
    (s.setRaw R.CLK_PTM_LOCAL (BitVec.ofNat 64 s.now)).setRaw R.CLK_PTM_MASTER (BitVec.ofNat 64 master)
  else s

end Sys2Proof.Machine
end

