-- ==== Sys2Proof/Machine/Boot.lean ====
section
/-! DEFINITION. Cold boot, keep-warm exit and what holds the part in reset (12 R354, R355; 13 R378; 17 R456 to R460, R471,
R473; 20 R527 to R531). -/

namespace Sys2Proof.Machine

/-! ### Held in reset (R524, R527) -/

/-- The core is held in reset, for a cause, with the LAST_EXIT that the next start reports. -/
def State.holdReset (s : State) (cause code : Nat) : State :=
  let w := if s.aon.mode = 0 then s.raw R.PWR_WAKE_CFG else s.aon.wakeCfg
  let s1 := s.coreOff
  { s1 with aon := { s1.aon with
      mode := 3, cause := cause, exitCode := code, carafe := none, wakeCfg := w, wake := false, ignored := false
      offNs := if s.aon.mode = 0 then s.aon.ns else s.aon.offNs } }

/-- RESET_N is held low: during decanting or keep-warm the carafe is gone with it (R355, R356). `dt5` is how long, in 5 ns
steps. -/
def State.doResetN (s : State) (low : Nat) : State :=
  if low < 200 then s
  else s.holdReset 1 (if s.aon.mode = 1 ∨ (s.aon.mode = 0 ∧ s.dct.active) then 8 else if s.aon.mode = 0 then 0 else s.aon.exitCode)

/-- HOLDOVER_END: lock has not returned within 1 ms (R524). -/
def State.doHoldoverEnd (s : State) : State :=
  match s.clk.holdover with
  | some t => if s.now - t ≥ 1000000 then s.holdReset 4 0 else s
  | none => s

/-! ### The boot chain (R456 to R458, R471) -/

/-- An anti-rollback counter. -/
def OtpSt.svnOf (o : OtpSt) (k : Nat) : Nat := if k ≤ 3 then tget 0 o.svn k else 0

/-- Why an image is rejected, as SEC_BOOT.CAUSE; 0 where it is accepted (R457). -/
def OtpSt.reject (o : OtpSt) (typ limit : Nat) (x : ImageIn) : Nat :=
  let key := if typ = 3 then o.ownerOk x.key else decide (0x10 ≤ x.key ∧ x.key ≤ 0x1F) && !bitAt o.uthelRevoked (x.key - 0x10)
  if !x.magicOk ∨ x.typ ≠ typ then 1
  else if x.length > limit then 2
  else if !key then 3
  else if !x.digestOk then 4
  else if !x.sigOk then 5
  else if x.svn < o.svnOf x.svnIndex then 6
  else 0

/-- The images that a life-cycle state reads of a bank, in order, with their types and limits. -/
def OtpSt.chain (o : OtpSt) (b : BankIn) : List (Nat × Nat × ImageIn) :=
  if o.lc = 0 then [(1, 393216, b.fw)]
  else if o.lc = 3 then [(4, 393216, b.fw)]
  else [(1, 393216, b.fw), (2, 131072, b.eng), (3, 524288, b.pers)]

/-- The first image of a bank that is rejected: its TYPE and the cause. -/
def OtpSt.bankReject (o : OtpSt) (b : BankIn) : Option (Nat × Nat) :=
  ((o.chain b).map fun x => (x.1, o.reject x.1 x.2.1 x.2.2)).find? fun r => r.2 ≠ 0

/-- What the boot chain ends with: the bank, whether A was rejected, recovery, the first rejection as TYPE and cause, the
images booted and the personality in force. -/
structure Booted where
  bank : Nat := 0
  fallback : Bool := false
  recovery : Bool := false
  first : Nat × Nat := (0, 0)
  images : List ImageIn := []
  image : Personality := {}
  deriving DecidableEq, Repr, Inhabited

/-- What the recovery port alone brings up: the upstream port of VS00, and the manager's rights on slots 0 to 3 and 6; the
layout of the OTP item is the model's (R454, R458, R471). -/
def OtpSt.recoveryImage (o : OtpSt) : Personality :=
  { regs := (List.range 256).map fun n =>
      (R.MPU_SLOT n, F.MPU_SLOT_RIGHTS.set 0 (if n ≤ 3 ∨ n = 6 then 0x0F else 0x0C))
    ports := [(0, { group := o.recovery % 32, lanes := [2, 4, 8, 16].getD (o.recovery / 32 % 4) 8 })] }

/-- The boot chain over both banks (R457, R458). -/
def OtpSt.bootChain (o : OtpSt) (x : BootIn) : Booted :=
  let image := fun b : BankIn => if o.lc = 1 ∨ o.lc = 2 then b.image else o.recoveryImage
  let used := fun b : BankIn => (o.chain b).map fun y => y.2.2
  match o.bankReject x.a with
  | none => { images := used x.a, image := image x.a }
  | some r =>
    match o.bankReject x.b with
    | none => { bank := 1, fallback := true, first := r, images := used x.b, image := image x.b }
    | some _ => { fallback := true, recovery := true, first := r, image := o.recoveryImage }

/-- The counters that images with ADVANCE move (R460). -/
def OtpSt.advance (o : OtpSt) (l : List ImageIn) : OtpSt :=
  l.foldl (init := o) fun o x =>
    if x.advance ∧ x.svnIndex ≤ 3 ∧ x.svn > o.svnOf x.svnIndex then { o with svn := tput o.svn x.svnIndex (min 128 x.svn) } else o

/-- Fields that take their values from OTP (R455, R483, R537). -/
def OtpSt.words (o : OtpSt) : Tbl Word :=
  let stat := F.SEC_STAT_OWNER_KEYS.set (F.SEC_STAT_CURVE.set (F.SEC_STAT_LC.set 0 o.lc) (b2n o.curve)) o.ownerBits
  let t : Tbl Word := [(R.DEV_VARIANT, F.DEV_VARIANT_TEMP_GRADE.set 0 o.grade), (R.DEV_SERIAL, BitVec.ofNat 64 o.serial),
    (R.DEV_STATUS, F.DEV_STATUS_LC.set 0 o.lc), (R.SEC_STAT, stat)]
  t ++ (List.range 4).map fun k => (R.SEC_SVN k, F.SEC_SVN_VALUE.set 0 (o.svnOf k))

/-! ### The life ledger at boot (R445, R492 to R499) -/

/-- An engine's retirement is put in force again: its role passes to a spare; true where none is free. -/
def State.bootEngine (s : State) (e : Nat) : Bool × State :=
  let s1 := s.retireEngine e
  match s1.engRole e with
  | none => (false, s1)
  | some (c, r) =>
    match (if s1.spareFree c then some c else (List.range 16).find? s1.spareFree) with
    | some t => (false, s1.setFld (R.AGE_EC c) (F.AGE_EC_HOST r) (9 * t + 8))
    | none => (true, s1)

/-- Puts one record of the ledger in force. -/
def State.bootRecord (s : State) (r : List Byte) : State :=
  let typ := leAt r 0 2
  let kind := leAt r 24 1
  let unit := leAt r 26 2
  if typ = 4 then s.onAge fun a => { a with gb := leAt r 24 2 }
  else if typ = 1 then s.onAge fun a => { a with gb := leAt r 44 2 }
  else if typ = 3 ∧ kind = 1 then
    let (out, s1) := s.bootEngine unit
    if out then s1.raise Flt.AGE_ENGINE_EXHAUSTED 0 (ageInfo unit 0) else s1
  else if typ = 3 ∧ kind = 2 then
    let k := R.AGE_LANE_RETIRED (unit / 64)
    s.setRaw k (s.raw k ||| BitVec.ofNat 64 (2 ^ (unit % 64)))
  else if typ = 2 ∧ kind = 3 then
    let n := s.rowsUsed unit
    (s.setFld (R.AGE_ROWS unit) F.AGE_ROWS_USED (n + 1)).onAge fun a => { a with remap := tput a.remap (65536 * unit + leAt r 28 4) n }
  else s

/-- The die that the ledger records as retired. -/
def AgeSt.dieOut (a : AgeSt) : Option Nat :=
  (a.ledger.find? fun r => leAt r 0 2 == 3 && leAt r 24 1 == 4).map fun r => leAt r 26 2

/-- A spared-out die stays out: its regions lie in the reserve (R445, R446). -/
def State.bootDie (s : State) : State :=
  match s.age.dieOut with
  | none => s
  | some d =>
    if !s.reserveFits d then s.raise Flt.TBM_RELOC_FAIL
    else
      let s1 := ({ s with tbm := { s.tbm with out := some d } } : State).raise Flt.TBM_SPARED 0 0 d
      let s2 : State := { s1 with tbm := { s1.tbm with copied := s1.relocBlocks } }
      s2.regionsMoved d (((s2.regions 4).headD (0, 0)).1 / 2 ^ 27)

/-- The ledger at a cold boot. Records whose CHECK fails are skipped with AGE_LEDGER_ERR; one that cannot be read leaves GB 0
and no repairs. -/
def State.bootLedger (s : State) (ok : Bool) : State :=
  let s0 := s.onAge fun a => { a with gb := 0, remap := [], waiting := [] }
  if !ok then s0.raise Flt.AGE_LEDGER_ERR
  else
    let good := fun r : List Byte => leAt r 56 8 == crc64 (r.take 56)
    let s1 := (s0.age.ledger.filter good).foldl State.bootRecord s0
    if s1.age.ledger.all good then s1 else s1.raise Flt.AGE_LEDGER_ERR

/-! ### The start (R378, R457, R529 to R531) -/

/-- The core starts, from cleared state: registers at their reset values, memories filled. The timestamp stands at `ts`, that of
PLL_LOCK, which what the start itself finds carries (R7; log entry 153). -/
def State.coreStart (s : State) (x : BootIn) (r : Booted) (cause : Nat) (wiped : Bool) (ts : Nat) : State :=
  let o := s.sec.otp
  let s1 : State := { s with
    now := ts
    cfg := { img := r.image.regs, otp := o.words, ports := r.image.ports, overlay := r.image.overlay }
    sec := { otp := o, flash := s.sec.flash, rom := s.sec.rom, digests := r.images.map (·.digest) }
    aon := { s.aon with mode := 0, main := true, carafe := none, exitCode := 0, ignored := false, confirmed := false, wake := false, vauxDrop := false, keepExpired := false, cause := cause } }
  let boot := F.SEC_BOOT_IMAGE.set (F.SEC_BOOT_CAUSE.set (F.SEC_BOOT_WIPED.set (F.SEC_BOOT_RECOVERY.set (F.SEC_BOOT_FALLBACK.set
    (F.SEC_BOOT_BANK.set 0 r.bank) (b2n r.fallback)) (b2n r.recovery)) (b2n wiped)) r.first.2) r.first.1
  let stat := F.CLK_STAT_XTAL_OK.set (F.CLK_STAT_PLL_LOCK.set (F.CLK_STAT_REF_OK.set 0 1) 1) (b2n s.aon.xtal)
  let s2 := (((s1.setRaw R.SEC_BOOT boot).setRaw R.CLK_STAT stat).setRaw R.CLK_DOMAIN_RUN (BitVec.ofNat 64 (2 ^ 40 - 1))).setFld
    R.CLK_RESET F.CLK_RESET_CAUSE cause
  let s3 := (s2.setRaw R.DEV_IMG_WARN s2.overlayWarn).setFld R.SEC_STAT F.SEC_STAT_SELFTEST_OK (b2n x.selftest)
  -- a die whose domain is off is not up
  let dies := ((List.range 4).filter fun d => !s3.pdOn (56 + d)).foldl (fun t d => tput t d { up := false }) s3.tbm.dies
  ({ s3 with tbm := { s3.tbm with dies := dies } } : State).setPool

/-- The end of a start: its milestones, its faults, the setpoint, and ports and links that come up (R529 steps 6 and 7,
R531, R557, R570). -/
def State.coreReady (s : State) (x : BootIn) (r : Booted) (at_ : Nat) : State :=
  let bs := F.CLK_BOOT_STAT_REG_TICKS.set (F.CLK_BOOT_STAT_RETRIED.set (F.CLK_BOOT_STAT_READY.set 0 1) (b2n x.fail1.isSome))
    (min 0xFFFF x.regTicks)
  let bs' := match s.aon.wakeFail with
    | some st => F.CLK_BOOT_STAT_WAKE_STAGE.set (F.CLK_BOOT_STAT_WAKE_FAIL.set bs 1) st
    | none => bs
  let s1 := ((s.setRaw R.CLK_BOOT_STAT bs').setRaw R.CLK_BOOT_T0 (BitVec.ofNat 64 (x.logicAt % 2 ^ 32 * 2 ^ 32 + x.fillAt % 2 ^ 32))).setRaw
    R.CLK_BOOT_T1 (BitVec.ofNat 64 (x.imgAt % 2 ^ 32 * 2 ^ 32 + x.readyAt % 2 ^ 32))
  let s2 : State := { s1 with
    now := (at_ + 1000 * x.readyAt) % 2 ^ 64
    aon := { s1.aon with wakeFail := none, fellAt := at_ + 1000 * x.readyAt, confirmed := false, ns := if s1.aon.xtal then s1.aon.ns + 1000 * x.readyAt else s1.aon.ns } }
  let s3 := if r.fallback then s2.raise Flt.SEC_BOOT_FALLBACK else s2
  let s4 := if r.recovery then s3.raise Flt.SEC_RECOVERY else s3
  let s5 := if x.selftest then s4 else s4.raise Flt.SEC_SELFTEST
  let s6 := if s.aon.wakeFail.isSome then s5.raise Flt.CLK_WAKE_RETRY else s5
  let s7 := if s6.flag R.DEV_IMG_WARN F.DEV_IMG_WARN_WARN
    then s6.raise Flt.DEV_IMG_WARN 0 (s6.fld R.DEV_IMG_WARN F.DEV_IMG_WARN_IGNORED) else s6
  let s8 := (s7.emit (.vid (s7.vidFrame (s7.vcore 0)))).showGb.showSpares
  let s9 := if s8.age.gb = 0 then s8 else s8.emit (.vid (s8.vidFrame (s8.vcore s8.age.gb)))
  let o := s9.sec.otp.advance r.images
  let s10 := (s9.onSec fun y => { y with otp := o })
  let s11 := (List.range 4).foldl (fun s k => s.setFld (R.SEC_SVN k) F.SEC_SVN_VALUE (o.svnOf k)) s10
  s11.cfg.ports.foldl (fun s e => if e.2.scango then s.sglStart e.1 else s.trainAgain e.1) s11

/-- The wake of R378 with its one retry: a stage that fails again leaves the device in reset, with WAKE_FAIL in AON. -/
def State.wakes (s : State) (x : BootIn) : Bool × State :=
  match x.fail1, x.fail2 with
  | some _, some st => (false, { s.coreOff with aon := { s.aon with mode := 3, wakeFail := some st.val } })
  | _, _ => (true, s)

/-- Slot controllers after a start: OFF, their re-arm holds still counting over the `dn` ns in which the core stood still, in
the terms of a timestamp that goes on at `ts`; a cold boot clears CAUSE (R393, R395). -/
def State.spcAfter (s : State) (ts dn : Nat) (cold : Bool) : Tbl SpcSt :=
  s.spc.map fun e => (e.1, {
    cause := if cold then 0 else e.2.cause, offAt := e.2.offAt.map fun t => (ts : Int) - ((s.now : Int) + dn - t) })

/-- A cold boot from the regulator stage, or after REF_LOSS the oscillator stage, with the timestamp at PLL_LOCK and the
LAST_EXIT to be reported (R355, R457, R473, R529). -/
def State.bootFrom (s : State) (x : BootIn) (cause last ts : Nat) : State :=
  let (up, s0) := s.wakes x
  if !up then s0
  else
    let o := s0.sec.otp
    let wiped := o.lc ≠ o.wiped
    let s1 := s0.coreOff
    let s2 : State := if wiped then { s1 with
        sec := { s1.sec with otp := { o with wiped := o.lc } }
        aon := { s1.aon with saveCtr := 0, carafe := none } } else s1
    if o.lc = 4 then { s2 with aon := { s2.aon with mode := 3 } }
    else
      let r := s2.sec.otp.bootChain x
      let fell := decide (last ≥ 2)
      let dn := if s.aon.mode = 1 then ts - s.now else s.aon.ns - s.aon.offNs
      let s3 : State := { s2 with spc := s.spcAfter ts dn true, aon := { s2.aon with fallbacks := if fell then s2.aon.fallbacks + 1 else s2.aon.fallbacks } }
      let s4 := ((s3.coreStart x r cause wiped ts).bootLedger x.ledgerOk).bootDie
      let s5 := (s4.setFld R.DCT_STAT F.DCT_STAT_LAST_EXIT last).setRaw (R.DCT_CNT 7) (BitVec.ofNat 64 (min s4.aon.fallbacks (2 ^ 48 - 1)))
      let s6 := s5.coreReady x r ts
      if fell then s6.raise Flt.DCT_FALLBACK else s6

/-- COLD_BOOT: supplies have come up, or RESET_N is high again; `first` says that AON was unpowered before (R355, R529). Out of
OFF the main supplies have been away, or a wake event has come (R377). The regulator stage drives MAIN_EN high (R378). -/
def State.doColdBoot (s : State) (first : Bool) (x : BootIn) : State :=
  if s.aon.mode = 0 ∨ s.aon.mode = 1 ∨ (s.aon.mode = 3 ∧ s.aon.cause = 4)
      ∨ (s.aon.mode = 2 ∧ s.aon.main ∧ !s.aon.wake ∧ !first) then s
  else
    let cause := if s.aon.mode = 2 then 0 else s.aon.cause
    let s1 : State := if first then { s with spc := [], aon := { mode := s.aon.mode, pwrfail := s.aon.pwrfail } } else s
    let s2 := ({ s1 with aon := { s1.aon with main := true, vaux := true } } : State).mainEn s1.aon.wakeCfg true
    s2.bootFrom x cause (if first then 0 else s.aon.exitCode) 0

/-- REF_RETURN: after a holdover that ended in reset, a cold reset with cause REF_LOSS; while the PLL still holds over, lock
returns (R524). -/
def State.doRefReturn (s : State) (x : BootIn) : State :=
  if s.aon.mode = 0 then s.relock
  else if s.aon.mode = 3 ∧ s.aon.cause = 4 then s.bootFrom x 4 s.aon.exitCode 0
  else s

/-! ### Keep-warm exit (R354, R355) -/

/-- The timestamp at PLL_LOCK of an exit (R526). -/
def State.resumeTime (s : State) : Nat :=
  let ticks := s.aon.ns * 32768 / 10 ^ 9 - s.aon.tickRec * 32768 / 10 ^ 9
  (s.aon.tsRec * 32768 + ticks * 10 ^ 9) / 32768 / 5 * 5

/-- The upset bits of one byte, of those listed. -/
def bitsUpset (l : List (Nat × Nat)) (a : Nat) : Nat :=
  (l.filter fun b => b.1 == a).foldl (fun m b => m ^^^ 2 ^ (b.2 % 13)) 0

/-- Whether every byte of the carafe SRAM can be read after the upsets listed: single errors are corrected (R428, R429). -/
def sramGood (l : List (Nat × Nat)) : Bool := l.all fun b => eccOf (bitsUpset l b.1) != .bad

/-- The retained die's codewords after upsets through keep-warm (R428). -/
def Carafe.upset (c : Carafe) (l : List (Nat × Nat)) : Carafe :=
  { c with flips := (l.map (·.1)).eraseDups.foldl (init := c.flips) fun t a =>
      let m := tget 0 t a ^^^ bitsUpset l a
      if m = 0 then tdel t a else tput t a m }

/-- The first check of R355 that fails, as LAST_EXIT; 1 where the carafe is accepted. `macOk` is the verdict on the seal. -/
def State.exitCheck (s : State) (r : Booted) (macOk : Bool) : Nat :=
  let lost := if s.aon.vauxDrop then 5 else if s.aon.keepExpired then 9 else 0
  match s.aon.carafe with
  | none => if lost ≠ 0 then lost else if s.aon.exitCode ≠ 0 then s.aon.exitCode else 0
  | some c =>
    if !c.sealed then 2
    else if !macOk then 3
    else if c.counter ≠ s.aon.saveCtr then 4
    else if s.aon.vauxDrop then 5
    else if c.digest ≠ (r.images.map (·.digest)).getD 2 [] ∨ c.format ≠ 1 then 6
    else if c.flips.any fun e => eccOf e.2 == .bad then 7
    else if s.aon.keepExpired then 9
    else if s.sec.otp.lc ≠ s.sec.otp.wiped then 0xA
    else 1

/-- A write-log context that was enabled when the carafe was sealed is LOST (R330). -/
def State.ctxAfterExit (s : State) : State :=
  (s.listed (R.WLG_CTX_CFG 0) 0x20 1024).foldl (init := s) fun s c =>
    if s.flag (R.WLG_CTX_CFG c) F.WLG_CTX_CFG_EN then s.ctxLost c else s

/-- Restores the parts of an accepted carafe (R123, R350, R352, R354 steps 4 and 5). -/
def State.restoreCarafe (s : State) (c : Carafe) : State :=
  let regs := c.regs.foldl (init := s.cfg.regs) fun t e => tput t e.1 (givenBack e.1 (s.raw e.1) e.2)
  let s1 : State := { s with
    cfg := { s.cfg with regs := regs, epoch := c.epoch, onDie := c.onDie, onDieSh := c.onDie, tm := c.tm }
    mce := { s.mce with fences := c.fences, nextFence := c.nextFence }
    tbm := { s.tbm with flips := c.flips }
    lg := { s.lg with lanes := c.snaps.foldl (fun t e => tput t e.1 { coef := e.2.1, snap := some e.2 }) [] }
    sgl := c.spares.foldl (fun t e => tput t e.1 { swap := { rx := e.2.1, tx := e.2.2 } }) []
    dct := { s.dct with list := c.list, summ := c.summ, aerDue := c.aer, exitDue := true, lost := c.lostDies, phase := 6 } }
  let s2 := [RingId.mcr, .evr, .ftr, .smr, .cdr].foldl (fun s r => (s.setFld r.cfg F.CTL_CFG_EN 0).setFld r.stat F.CTL_STAT_STOPPED 1) s1
  let s3 := ((s2.setFld R.DCT_ARM F.DCT_ARM_MODE c.mode).setFld R.DCT_ARM F.DCT_ARM_ARMED (b2n (c.mode ≠ 0))).setFld R.FCR_CFG F.FCR_CFG_MODE 1
  let s3 := s3.setFld R.DCT_STAT F.DCT_STAT_LIST_OVF c.listOvf
  let s4 := ((s3.setRaw (R.PWR_PAD_HOLD 0) (BitVec.ofNat 64 c.held)).setRaw (R.PWR_PAD_HOLD 1) (BitVec.ofNat 64 (c.held / 2 ^ 64))).ctxAfterExit
  let s5 := s4.setPool
  if c.reloc then (match s5.age.dieOut with | some d => s5.relocStart d | none => s5) else s5.bootDie

/-- The completions owed after an exit: those of finished commands, then EPOCH_DRAINED, which follows the completion of its
COMMIT and goes ahead of the ABORTED ones, then the others (R60 step 6, R66, R354 step 8). -/
def State.owedAfter (s : State) (c : Carafe) : State :=
  let drained : List Rec := if c.draining then
      [{ code := 0x0002, data := leBytes 4 (c.epoch + 2 ^ 32 - 1) }] else []
  let done := fun o : Owed =>
    ({ code := 0x0001, status := o.status, tag := o.desc.tag, slot := o.slot, result := o.result, detail := o.detail, irq := o.desc.irq } : Rec)
  let s1 : State := { s with ctl := { s.ctl with held := c.finished.map done ++ drained ++ c.owed.map done } }
  -- PWR_LAST holds the RESULT of an abandoned POWER_STATE, the one command whose RESULT is not 0 then (R366)
  match c.owed.find? fun o => o.status == 8 && o.result ≠ 0 with
  | some o => s1.setRaw R.PWR_LAST (BitVec.ofNat 64 o.result)
  | none => s1

/-- KEEP_WARM_EXIT: the exit condition is met; a keep-warm entered by command needs a wake event. PWRFAIL_N low before step 5
returns to keep-warm (R354 to R356, R376). The regulator stage drives MAIN_EN high (R378). -/
def State.doKeepWarmExit (s : State) (x : BootIn) (macOk falls : Bool) : State :=
  if s.aon.mode ≠ 1 ∨ !s.aon.pwrfail ∨ (s.aon.byCmd ∧ !s.aon.wake) then s
  else if falls then { s with aon := { s.aon with pwrfail := false, fellAt := s.now } }
  else
    let s1 := ({ s with aon := { s.aon with main := true, carafe := s.aon.carafe.map (·.upset x.kept) } } : State).mainEn s.aon.wakeCfg true
    let r := s1.sec.otp.bootChain x
    -- an unreadable byte of the carafe SRAM fails the seal (log entry 175)
    let last := s1.exitCheck r (macOk && sramGood x.sram)
    let ts := s1.resumeTime
    match last, s1.aon.carafe with
    | 1, some c =>
      let (up, s2) := s1.wakes x
      if !up then { s2 with aon := { s2.aon with exitCode := 0, carafe := none } }
      else
        let cmd := s1.aon.byCmd
        let s3 := ({ s1.coreOff with spc := s1.spcAfter ts (ts - s1.now) false } : State).coreStart x r s1.aon.cause false ts
        let s4 := (s3.restoreCarafe c).setFld R.DCT_STAT F.DCT_STAT_LAST_EXIT 1
        let s5 := s4.setFld R.DCT_STAT F.DCT_STAT_TM_LOST c.lostDies
        let s6 := s5.setRaw (R.DCT_CNT 7) (BitVec.ofNat 64 (min s5.aon.fallbacks (2 ^ 48 - 1)))
        let s7 := if cmd then ((s6.count (R.PWR_CNT 2)).count (R.PWR_CNT 0)).setRaw R.PWR_LAST (BitVec.ofNat 64 (pwrResult 0xFF 0 0 2)) else s6
        (s7.coreReady x r ts).owedAfter c
    | 1, none => s1.bootFrom x 0 0 ts
    | n, _ => s1.bootFrom x 0 n ts

end Sys2Proof.Machine
end

