-- ==== Sys2Proof/Machine/Resets.lean ====
section
/-! DEFINITION. The resets confined to a virtual switch or a function (02 R65; 08 R224, R234 to R236), and the warm reset
(20 R527, R528). -/

namespace Sys2Proof.Machine

/-! ### A virtual switch (R234) -/

/-- A downstream port is reset: its link goes down, and its slot's PERST_N is asserted. -/
def State.resetDown (s : State) (p : Nat) : State :=
  let s1 := (s.emit (.link p "hot reset")).linkDown p
  if s1.hasSlot p then s1.setPerst p true else s1

/-- Secondary Bus Reset of a downstream port: the bit stands until the host clears it. -/
def State.secondaryReset (s : State) (p : Nat) : State :=
  if s.isDown (.port p) then (s.cfgOr (.port p) 15 (2 ^ 22)).resetDown p else s

/-- The reset of a virtual switch: its upstream link and its downstream links in ascending port number, its DMV function
with the slices, its outbound entries and its lock, its switch functions. -/
def State.vsReset (s : State) (v : Nat) : State :=
  let s1 := match s.upPort v with | some p => s.linkDown p | none => s
  let downs := s1.downPorts v
  let s2 := downs.foldl State.resetDown s1
  -- what the upstream port held is discarded with it (R230)
  let held := fun s : State => match s.upPort v with
    | some p => (s.pcpOf p).hold.foldl (fun (s : State) (m : Nat × Nat) => s.freePkt m.1) (s.setPcp p { s.pcpOf p with hold := [] })
    | none => s
  let s3 := (((held s2).dmvReset v).closeVs v).setLock v {}
  let s4 := (downs.map Fn.port ++ [.internal v, .dmv v]).foldl State.cfgResetFn s3
  match s4.upPort v with | some p => s4.cfgResetFn (.port p) | none => s4

/-- PERST_N of an upstream port falls (`low`) or rises (R224, R234, R553). -/
def State.doPerstN (s : State) (p : Nat) (low : Bool) : State :=
  if s.role p ≠ 0 then s
  else if low then
    (s.setPcp p { s.pcpOf p with perstIn := true, ready := false }).vsReset (s.vsOf p)
  else (s.setPcp p { s.pcpOf p with perstIn := false }).trainAgain p

/-- HOT_RESET received on an upstream port. -/
def State.doHotReset (s : State) (p : Nat) : State :=
  if s.role p = 0 ∧ (s.pcpOf p).up then (s.vsReset (s.vsOf p)).trainAgain p else s

/-- VS_READY: requests are answered again (R224). -/
def State.doVsReady (s : State) (v : Nat) : State :=
  match s.upPort v with
  | some p => if (s.pcpOf p).perstIn then s else s.setPcp p { s.pcpOf p with ready := true }
  | none => s

/-- BUS_MASTER_CLEAR: the host clears Bus Master Enable of a switch function (R236). -/
def State.doBmeClear (s : State) (p : Nat) : State :=
  if s.role p < 2 then s.cfgClear (.port p) 1 4 else s

/-! ### The management function (R65) -/

/-- MGMT_FLR: rings disabled; what has not begun is abandoned, descriptors only fetched among it, what has begun finishes without a completion. -/
def State.doMgmtFlr (s : State) : State :=
  let s1 := [RingId.mcr, .evr, .ftr, .smr, .cdr].foldl (fun s r => s.setFld r.cfg F.CTL_CFG_EN 0) s
  let s2 : State := { s1 with ctl := { s1.ctl with commit := none, epochDone := true, fetched := s1.ringCi .mcr } }
  let s3 := s2.harvestFlr
  let s4 : State := match s3.ctl.busyCmd with
    | some (0x20, _) => s3.pwrFlr
    | _ => { s3 with ctl := { s3.ctl with busyCmd := none } }
  -- what it was reading is nobody's any more (R235)
  ({ s4 with brg := { s4.brg with loc := s4.brg.loc.filter fun e => e.2.origin != .own .mgmt } } : State).cfgFlr .mgmt

/-! ### Warm reset (R528) -/

/-- Registers whose values a warm reset keeps: those of locked slots, slot 0x06, RIGHTS and LOCK of every slot, the wear
state, and what CLK shows of the clocks and of the last start. -/
def State.warmKeeps (s : State) (key : Nat) : Bool :=
  let slot := key / 0x40000
  slot == 0x06 || s.flag (R.MPU_SLOT slot) F.MPU_SLOT_LOCK || (R.MPU_SLOT 0 ≤ key && key < R.MPU_SLOT 256)
    || (R.AGE_EC 0 ≤ key && key ≤ R.AGE_RATE_PLAN 127)
    || [R.CLK_STAT, R.CLK_DOMAIN_RUN, R.CLK_BOOT_STAT, R.CLK_BOOT_T0, R.CLK_BOOT_T1].contains key

/-- Domains outside PWR_RUN_MASK are off after a start: their dies are not up. -/
def State.diesByDomain (s : State) : State :=
  let dies := ((List.range 4).filter fun d => !s.pdOn (56 + d)).foldl (fun t d => tput t d { up := false }) s.tbm.dies
  { s with tbm := { s.tbm with dies := dies } }

/-- The state after the warm reset of a device whose links have stopped. -/
def State.warmState (s : State) : State :=
  let regs := s.cfg.regs.filter fun e => s.warmKeeps e.1
  { pending := s.pending, now := s.now, freeCtr := s.freeCtr, out := s.out, aon := { s.aon with cause := 2 }
    sec := { s.sec with keys := [] }
    cfg := { regs := regs, img := s.cfg.img, otp := s.cfg.otp, ports := s.cfg.ports, overlay := s.cfg.overlay }
    spc := s.spcAfter s.now 0 false
    age := { s.age with clr := false, lastFast := none, eyeLow := [], eyeBad := [], swaps := [], pins := [], rowCor := [], engCor := []
                        stopped := [], stopWhy := [], fwBad := false }
    clk := { holdover := s.clk.holdover, pins := s.clk.pins } }

/-- A warm reset. `engOk`: the engine image passes its check against its recorded digest; if not, the reset becomes a cold
one. -/
def State.warmReset (s : State) (engOk : Bool) : State :=
  if s.dct.active ∨ s.ctl.busyCmd.any (fun c => c.1 == 0x20) then s.cfgErr stCfgBusy R.CLK_RESET
  else if !engOk then s.holdReset 5 0
  else
    let s1 := ((s.cfg.ports.map (·.1)).foldl State.stopLink s).spcDevice
    let s2 := ((s1.cfg.ports.map (·.1)).filter s1.hasSlot).foldl (fun s p => s.setPerst p true) s1
    let s3 := ((s2.warmState).setFld R.CLK_RESET F.CLK_RESET_CAUSE 2).setRaw (R.DCT_CNT 7)
      (BitVec.ofNat 64 (min s2.aon.fallbacks (2 ^ 48 - 1)))
    -- the device is disarmed, be slot 0x11 locked or not
    let s4 := if s2.flag (R.MPU_SLOT 0) F.MPU_SLOT_LOCK then s3 else s3.setRaw R.DEV_IMG_WARN s3.overlayWarn
    let s5 := ((((s4.setRaw R.DCT_ARM 0).diesByDomain).bootDie).setPool).showGb.showSpares
    s5.cfg.ports.foldl (fun s e => if e.2.scango then s.sglStart e.1 else s.trainAgain e.1) s5

end Sys2Proof.Machine
end

