-- ==== Sys2Proof/Machine/RegView.lean ====
section
/-! DEFINITION. What a read of a register shows: stored fields, shadow values (R9), and the fields that mirror the state of
a block. -/

namespace Sys2Proof.Machine

/-- The first key of the array that a register belongs to; 0 for a key that is no register's. -/
def regBase (key : Nat) : Nat := match regAt key with | some d => d.base | none => 0

/-- Whether a register belongs to the array that starts at `base`. -/
def isReg (key base : Nat) : Bool := (regAt key).isSome && regBase key == base

/-- The port whose register page, PCI Express or Scango, a key lies in. -/
def State.pagePort (s : State) (key : Nat) : Option Nat :=
  (s.cfg.ports.find? fun e =>
    let base := (if e.2.scango then R.SGL_CFG e.2.group e.2.inst else R.PCP_PORT_CFG e.2.group e.2.inst)
    base ≤ key && key < base + 0x2000).map (·.1)

/-- Fields put into a word, one after another. -/
def putFields (w : Word) (l : List (Fld × Nat)) : Word := l.foldl (fun w e => e.1.set w e.2) w

/-! ### The blocks' status registers -/

/-- XBC_OCC_a_t. -/
def State.viewOcc (s : State) (k : Nat) : Word :=
  let o := s.occOf (k / 8) (k % 8)
  putFields 0 [(F.XBC_OCC_HDRM_USED, o.hdrm), (F.XBC_OCC_SHARED_USED, o.shared), (F.XBC_OCC_MIN_USED, o.min)]

/-- CMT_STAT. -/
def State.viewCmt (s : State) : Word :=
  let n := fun f : Fence → Bool => (s.mce.fences.filter fun e => f e.2).length
  putFields 0 [(F.CMT_STAT_FLOW_USED, s.mce.flows.length), (F.CMT_STAT_PENDING, n fun f => f.st == 1),
    (F.CMT_STAT_IN_FLIGHT, n fun f => f.st != 0)]

/-- RTE_STAT. -/
def State.viewRte (s : State) : Word :=
  putFields 0 [(F.RTE_STAT_STAMP_USED, s.rte.stamps.length), (F.RTE_STAT_RSQ_FLOWS, s.rte.rsq.length), (F.RTE_STAT_RSQ_SLOTS, s.rsqSlots)]

/-- BRG_TRK_STAT. -/
def State.viewTrk (s : State) : Word :=
  let n := fun b : Bool => (s.brg.trk.filter fun e => e.2.inbound == b).length
  putFields 0 [(F.BRG_TRK_STAT_OUT_USED, n false), (F.BRG_TRK_STAT_INB_USED, n true), (F.BRG_TRK_STAT_QUARANTINED, min 0xFFFF s.brg.quar.length)]

/-- BRG_LOCK_STAT: the lock in force as the arbiter knows it, else as an end of its path does (log entry 88). -/
def State.viewLock (s : State) : Word :=
  let first := (s.brg.locks.map (·.2)).find? fun x => x.st == 2
  let path := !s.brg.lockedPorts.isEmpty || first.isSome
  let (o, t, id) := match s.brg.arb, first, s.brg.lockedPorts with
    | some (o, t, id, _), _, _ => (o, t, id)
    | none, some x, _ => (x.owner, x.target, x.id)
    | none, none, x :: _ => (x.owner, x.target, x.id.getD 0)
    | none, none, [] => (0, 0, 0)
  putFields 0 [(F.BRG_LOCK_STAT_PATH, b2n path), (F.BRG_LOCK_STAT_GRANTED, b2n s.brg.arb.isSome), (F.BRG_LOCK_STAT_QUEUED, s.brg.arbQ.length),
    (F.BRG_LOCK_STAT_OWNER_FID, o), (F.BRG_LOCK_STAT_TARGET_FID, t), (F.BRG_LOCK_STAT_LOCK_ID, id)]

/-- SGLgg_LINK_STAT_s of a port. -/
def State.viewSgl (s : State) (w : Word) (p : Nat) : Word :=
  let x := s.sglOf p
  let st := if x.st = 3 ∧ (x.swap.rxPending.isSome ∨ x.swap.txBoth) then 5 else x.st
  putFields w [(F.SGL_LINK_STAT_STATE, st), (F.SGL_LINK_STAT_RATE, x.rateIdx),
    (F.SGL_LINK_STAT_RX_SPARED, b2n x.swap.rx.isSome), (F.SGL_LINK_STAT_RX_SPARE_LANE, x.swap.rx.getD 0),
    (F.SGL_LINK_STAT_TX_SPARED, b2n x.swap.tx.isSome), (F.SGL_LINK_STAT_TX_SPARE_LANE, x.swap.tx.getD 0), (F.SGL_LINK_STAT_UNACKED, x.buf.length)]

/-- LGgg_BITSLIP: POS and MATCH of the selected lane. -/
def State.viewBitslip (s : State) (w : Word) (g : Nat) : Word :=
  let x := s.lane (9 * g + F.LG_BITSLIP_LANE.get w)
  putFields w [(F.LG_BITSLIP_POS, x.pos), (F.LG_BITSLIP_MATCH, b2n x.hit)]

/-- LGgg_TXEQ_l: the cursors in force (R299). -/
def State.viewTaps (s : State) (w : Word) (g l : Nat) : Word :=
  let x := s.lane (9 * g + l)
  putFields w [(F.LG_TXEQ_C_PRE, x.pre), (F.LG_TXEQ_C_POST, x.post)]

/-- DMV_STAT. -/
def State.viewDmv (s : State) : Word :=
  let cells := (List.range 8).foldl (fun n t => let o := s.occOf 128 t; n + o.hdrm + o.min + o.shared) 0
  putFields 0 [(F.DMV_STAT_SLICES_RUN, (s.dmv.slices.filter fun e => e.2.st == 1 || e.2.st == 2).length),
    (F.DMV_STAT_READS_OUT, s.dmv.slices.foldl (fun n e => n + e.2.reads.length) 0), (F.DMV_STAT_CELLS_USED, cells)]

/-- DMV_SLICE_STAT_i. -/
def State.viewSlice (s : State) (i : Nat) : Word :=
  let x := s.slice i
  putFields 0 [(F.DMV_SLICE_STAT_STATE, x.st), (F.DMV_SLICE_STAT_DEPTH_USED, (x.descs.filter fun d => d.fin.isNone).length),
    (F.DMV_SLICE_STAT_TRK_USED, x.reads.length), (F.DMV_SLICE_STAT_CELLS_USED, s.sliceCells i)]

/-- DMV_SLICE_OWN_j of a virtual switch: the slices assigned to it (R303). -/
def State.viewOwn (s : State) (v j : Nat) : Word :=
  BitVec.ofNat 64 ((List.range 64).foldl (fun n b =>
    let k := R.DMV_SLICE_MAP (64 * j + b)
    if s.flag k F.DMV_SLICE_MAP_VALID ∧ s.fld k F.DMV_SLICE_MAP_VS = v then n + 2 ^ b else n) 0)

/-- WLG_STAT. -/
def State.viewWlg (s : State) : Word :=
  let ready := ((s.listed (R.WLG_CTX_CFG 0) 0x20 1024).filter fun c => s.flag (R.WLG_CTX_STAT c) F.WLG_CTX_STAT_READY).length
  putFields 0 [(F.WLG_STAT_CACHE_USED, s.wlg.cache.length), (F.WLG_STAT_CTX_READY, ready), (F.WLG_STAT_HARVEST_BUSY, b2n s.wlg.harvest.isSome)]

/-- DCT_STAT. -/
def State.viewDct (s : State) (w : Word) : Word :=
  putFields w [(F.DCT_STAT_ACTIVE, b2n s.dct.active), (F.DCT_STAT_PHASE, s.dct.phase), (F.DCT_STAT_TM_RETAIN, b2n s.keptDie.isSome),
    (F.DCT_STAT_LIST_PENDING, s.dct.list.length + s.dct.summ.length)]

/-- Whether a POWER_STATE runs. -/
def State.pwrBusy (s : State) : Bool := match s.ctl.busyCmd with | some c => c.1 == 0x20 | none => false

/-- PWR_STAT. -/
def State.viewPwr (s : State) : Word :=
  let st := if s.pwrBusy then 2 else if s.raw R.PWR_ON ≠ s.raw R.PWR_RUN_MASK then 1 else 0
  putFields 0 [(F.PWR_STAT_STATE, st), (F.PWR_STAT_PADS_HELD, b2n (s.raw (R.PWR_PAD_HOLD 0) ≠ 0 || s.raw (R.PWR_PAD_HOLD 1) ≠ 0))]

/-- SPCnn_STAT. -/
def State.viewSpc (s : State) (n : Nat) : Word :=
  let c := s.spcSt n
  putFields 0 [(F.SPC_STAT_STATE, c.st), (F.SPC_STAT_PG, b2n c.pg), (F.SPC_STAT_PRESENT, b2n c.present), (F.SPC_STAT_IN_WINDOW, b2n c.inWindow),
    (F.SPC_STAT_IN_LIMIT, b2n c.inLimit), (F.SPC_STAT_CAUSE, c.cause), (F.SPC_STAT_COUNT, c.count)]

/-- FCR_STAT. -/
def State.viewFcr (s : State) (w : Word) : Word :=
  putFields w [(F.FCR_STAT_SAFE, b2n s.safe), (F.FCR_STAT_PENDING, s.fcr.pending.length), (F.FCR_STAT_COUNTING, s.fcr.counts.length),
    (F.FCR_STAT_NEXT_SEQ, s.fcr.seq)]

/-- TBM_STAT. -/
def State.viewTbm (s : State) : Word :=
  putFields 0 [(F.TBM_STAT_DEGRADED, b2n s.tbm.out.isSome), (F.TBM_STAT_OUT_DIE, s.tbm.out.getD 0), (F.TBM_STAT_RELOC_BUSY, b2n s.relocBusy),
    (F.TBM_STAT_RETAIN_DIE, s.keptDie.getD 0), (F.TBM_STAT_POISONED, s.tbm.poison.length)]

/-- TMd_STAT. -/
def State.viewDie (s : State) (d : Nat) : Word :=
  let x := s.die d
  putFields 0 [(F.TM_STAT_UP, b2n x.up), (F.TM_STAT_FILLING, b2n x.filling), (F.TM_STAT_SPARED_OUT, b2n (s.tbm.out == some d)),
    (F.TM_STAT_FALLBACK, b2n (s.tbm.out.isSome && s.tbm.out != some d)), (F.TM_STAT_MODE, b2n (s.fixedMode d)),
    (F.TM_STAT_OWNER_VALID, b2n x.owner.isSome), (F.TM_STAT_OWNER, match x.owner with | some r => r.num | none => 0),
    (F.TM_STAT_WAITING, x.waiting.foldl (fun n r => n ||| 2 ^ r.num) 0)]

/-- Requesters that are always enabled, and those that never request (R438). -/
def reqFixed (en : Nat) : Nat := (en &&& 0x81FFFFFF) ||| 0x8003A203

/-- Seconds of the AON calendar (R500). -/
def State.calendar (s : State) : Nat := (s.aon.cal + (s.aon.ns - s.aon.calAt) / 10 ^ 9) % 2 ^ 48

/-- DEV_STATUS mirrors its sources (R538). -/
def State.viewDev (s : State) (w : Word) : Word :=
  putFields w [(F.DEV_STATUS_CFG_READY, s.fld R.CLK_BOOT_STAT F.CLK_BOOT_STAT_READY), (F.DEV_STATUS_SAFE, b2n s.safe),
    (F.DEV_STATUS_TBM_DEGRADED, b2n s.tbm.out.isSome), (F.DEV_STATUS_RECOVERY, s.fld R.SEC_BOOT F.SEC_BOOT_RECOVERY),
    (F.DEV_STATUS_DECANT_ACTIVE, b2n s.dct.active), (F.DEV_STATUS_LC, s.sec.otp.lc)]

/-- ECcc_STAT (R492, R544). -/
def State.viewEc (s : State) (c : Nat) : Word :=
  let bits := fun f : Nat → Bool => (List.range 9).foldl (fun n e => if f (9 * c + e) then n + 2 ^ e else n) 0
  let run := bits fun e => (s.engRole e).isSome && !s.age.stopped.contains e && s.pdOn (32 + c)
  let (b, x, r) := match s.engRole (9 * c + 8) with | some (x, r) => (1, x, r) | none => (0, 0, 0)
  putFields 0 [(F.EC_STAT_POWERED, b2n (s.pdOn (32 + c))), (F.EC_STAT_RUNNING, run), (F.EC_STAT_RETIRED, bits s.engRetired),
    (F.EC_STAT_SPARE_BUSY, b), (F.EC_STAT_SPARE_CLUSTER, x), (F.EC_STAT_SPARE_ROLE, r)]

/-! ### A whole register -/

/-- Whether a clock domain runs (R29, R523): that of a quadrant, an engine cluster or a table-memory die from the oscillator
stage of its domain's wake to step 2 of its switching off, the others always (log entry 135). -/
def State.clockRuns (s : State) (k : Nat) : Bool :=
  if k ≥ 32 then true
  else
    let d := if k < 8 then 48 + k else if k < 24 then 24 + k else 56 + k % 4
    s.pdOn d || (match s.pwr.cmd with | some c => c.stops == [] && c.wakes.head? == some d && decide (c.stage ≥ 2) | none => false)

/-- Whether a key lies in the registers of a port or link instance that holds none: such an instance reads as 0 and ignores
writes (R20, R242, R276). -/
def State.absent (s : State) (key : Nat) : Bool :=
  R.PCP_PORT_CFG 0 0 ≤ key && key < R.PCP_PORT_CFG 32 0 && (key - R.PCP_PORT_CFG 0 0) % 0x40000 < 0xFF00 && (s.pagePort key).isNone

/-- Bits that are reserved in some instances of a register, where they read 0 (R12): moderation of the MCR (R45), headroom of
the accounts without credits (R95), what only a fabric endpoint port has (R242). -/
def State.rsvBits (s : State) (key : Nat) : Nat :=
  let b := regBase key
  if key = R.CTL_CFG 0 then F.CTL_CFG_IRQ_TIME.mask ||| F.CTL_CFG_IRQ_COUNT.mask
  else if b = R.XBC_ACCT 0 0 ∧ (key - b) / 0x40 ≥ 128 then F.XBC_ACCT_HDRM.mask
  else if b = R.PCP_PORT_CFG 0 0 ∧ !(s.pagePort key).any (fun p => s.role p == 2) then F.PCP_PORT_CFG_INB_TAG.mask
  else 0

/-- The value of a register that the blocks' state gives, reserved bits of single instances apart. -/
def State.viewAll (s : State) (key : Nat) : Word :=
  let b := regBase key
  let w := mergeSh key (s.raw key) (s.shadowOf key)
  let i := (key - b) / 8
  if b = 0 ∧ key ≠ 0 then 0
  else if key = R.CTL_EPOCH then putFields 0 [(F.CTL_EPOCH_DRAINING, b2n s.cfg.prev.isSome), (F.CTL_EPOCH_EPOCH, s.cfg.epoch)]
  else if key = R.CTL_SHADOW_POOL then putFields 0 [(F.CTL_SHADOW_POOL_FREE, s.shadowFree), (F.CTL_SHADOW_POOL_SIZE, s.poolSize)]
  else if key = R.WLG_REGION then putFields 0 [(F.WLG_REGION_SIZE, s.wlgRegion.2 / 2 ^ 20), (F.WLG_REGION_BASE, s.wlgRegion.1 / 64)]
  else if key = R.XBC_SHARED then F.XBC_SHARED_FREE.set w s.sharedFree
  else if b = R.XBC_OCC 0 0 then s.viewOcc ((key - b) / 0x40 * 8 + (key - b) / 8 % 8)
  else if key = R.MCE_STAT then F.MCE_STAT_FANOUT_USED.set 0 s.mce.fanout.length
  else if key = R.CMT_STAT then s.viewCmt
  else if key = R.RTE_STAT then s.viewRte
  else if b = R.TMG_CAL_STAT 0 then
    F.TMG_CAL_STAT_ENTRIES.set w (s.tmg.queues.filter fun e => e.2.wheel.isSome && s.quadrant (e.1 / 256) == i).length
  else if key = R.BRG_TRK_STAT then s.viewTrk
  else if key = R.BRG_LOCK_STAT then s.viewLock
  else if b = R.SGL_LINK_STAT 0 0 then (match s.pagePort key with | some p => if s.isScango p then s.viewSgl w p else w | none => w)
  else if b = R.LG_BITSLIP 0 then s.viewBitslip w ((key - b) / 0x40000)
  else if b = R.LG_TXEQ 0 0 then s.viewTaps w ((key - b) / 0x40000) ((key - b) % 0x40000 / 0x20)
  else if b = R.LG_TEST 0 0 then (if s.laneThere ((key - b) / 0x40000) ((key - b) % 0x40000 / 0x20) then w else 0)
  else if b = R.LG_LANE_STAT 0 0 then
    (if s.laneIdle ((key - b) / 0x40000) ((key - b) % 0x40000 / 0x20) then F.LG_LANE_STAT_FROZEN.set w 1 else w)
  else if key = R.DMV_STAT then s.viewDmv
  else if b = R.DMV_SLICE_STAT 0 then s.viewSlice i
  else if key = R.WLG_STAT then s.viewWlg
  else if key = R.DCT_STAT then s.viewDct w
  else if key = R.PWR_STAT then s.viewPwr
  else if b = R.SPC_ENABLE 0 then F.SPC_ENABLE_EN.set w (b2n (s.spcSt ((key - b) / 0x40000)).en)
  else if b = R.SPC_STAT 0 then s.viewSpc ((key - b) / 0x40000)
  else if key = R.FCR_STAT then s.viewFcr w
  else if key = R.TBM_STAT then s.viewTbm
  else if b = R.TM_ARB_CFG 0 then F.TM_ARB_CFG_REQ_EN.set w (reqFixed (F.TM_ARB_CFG_REQ_EN.get w))
  else if b = R.TM_STAT 0 then s.viewDie ((key - b) / 0x40000)
  else if b = R.TM_ARB_REQ 0 0 then
    let r := (key - b) % 0x40000 / 8
    F.TM_ARB_REQ_BACKOFF.set w (match (s.die ((key - b) / 0x40000)).waiting.find? fun x => x.num == r with | some x => x.remaining | none => 0)
  else if key = R.SEC_STAT then putFields w [(F.SEC_STAT_LC, s.sec.otp.lc), (F.SEC_STAT_SESSIONS, s.sec.sessions.length)]
  else if key = R.AGE_CFG then F.AGE_CFG_GB_CLR.set w (b2n s.age.clr)
  else if key = R.AGE_STAT then F.AGE_STAT_CAL_VALID.set w (b2n s.aon.calValid)
  else if key = R.AGE_CAL_SEC then BitVec.ofNat 64 s.calendar
  else if key = R.CLK_DOMAIN_RUN then
    BitVec.ofNat 64 ((List.range 40).foldl (fun n k => if s.clockRuns k then n + 2 ^ k else n) 0)
  else if key = R.CLK_TS then BitVec.ofNat 64 s.now
  else if key = R.DEV_STATUS then s.viewDev w
  else if key = R.DEV_GPIO_CFG then F.DEV_GPIO_CFG_OWNED.set w s.owned
  else if key = R.DEV_GPIO_DATA then F.DEV_GPIO_DATA_IN.set w s.gpioIn
  else if b = R.EC_STAT 0 then s.viewEc ((key - b) / 0x40000)
  else if b = R.DMV_SLICE_CTL 0 then F.DMV_SLICE_CTL_STATE.set w (s.slice ((key - b) / 0x1000)).st
  else if b = R.DMV_DB_STAT 0 then
    let x := s.slice ((key - b) / 0x1000)
    putFields 0 [(F.DMV_DB_STAT_STATE, x.st), (F.DMV_DB_STAT_SQ_CI, x.sqCi)]
  else if b = R.DMV_SLICE_OWN 0 0 then s.viewOwn ((key - b) / 0x10000) ((key - b) % 0x10000 / 8)
  else w

/-- The value that a read of a register shows, performance counters apart. -/
def State.view (s : State) (key : Nat) : Word :=
  if s.absent key then 0 else s.viewAll key &&& ~~~BitVec.ofNat 64 (s.rsvBits key)

/-- A read of a register: its value, and the state after it. A read of SEC_LC_NONCE draws a fresh nonce (R470); counters of
the counter space show their value at the read (R504). -/
def State.readReg (s : State) (key : Nat) : Word × State :=
  let b := regBase key
  let cnt := fun i : Nat => let (n, s1) := s.pmcRead i; (BitVec.ofNat 64 n, s1)
  if key = R.SEC_LC_NONCE then s.newNonce
  else if b = R.PMC_CNT 0 then cnt ((key - b) / 8)
  else if b = R.PMC_TDP 0 0 then cnt (2048 + (key - b) / 8)
  else if b = R.PMC_TDE 0 0 then cnt (2688 + (key - b) / 8)
  else (s.view key, s)

end Sys2Proof.Machine
end

