-- ==== Sys2Proof/Machine/Registers.lean ====
section
/-! DEFINITION. Accesses to registers: the MPU (17 R474 to R478), which writes are ignored as a whole, what a write does
field by field (R8 to R16, R46, R56 to R58), and what follows it in the block. -/

namespace Sys2Proof.Machine

/-! ### The MPU (R474 to R478, R485, R486) -/

/-- Number of a master class (R474). -/
def Master.num : Master → Nat
  | .manager => 0 | .firmware => 1 | .engine => 2 | .debug => 3

/-- Whether a slot is locked. -/
def State.slotLocked (s : State) (n : Nat) : Bool := s.flag (R.MPU_SLOT n) F.MPU_SLOT_LOCK

/-- Whether a class may read or write a slot. -/
def State.mpuRight (s : State) (m : Master) (slot : Nat) (write : Bool) : Bool :=
  bitAt (s.fld (R.MPU_SLOT slot) F.MPU_SLOT_RIGHTS) (2 * m.num + b2n write)

/-- A violation: counted, and captured and raised while none is held. Of two at the same moment the lower class is captured
(R477, R482, R486). -/
def State.violate (s : State) (m : Master) (addr size : Nat) (write lk : Bool) : State :=
  let s1 := s.count R.MPU_CNT
  let sz := if size = 4 then 0 else if size = 8 then 1 else 2
  let w := putFields 0 [(F.MPU_VIOL_VALID, 1), (F.MPU_VIOL_SLOT, addr / 0x40000), (F.MPU_VIOL_CLASS, m.num), (F.MPU_VIOL_WRITE, b2n write),
    (F.MPU_VIOL_LK_WRITE, b2n lk), (F.MPU_VIOL_SIZE, sz), (F.MPU_VIOL_OFFSET, addr % 0x40000)]
  if s1.flag R.MPU_VIOL F.MPU_VIOL_VALID then
    if s1.raw R.MPU_VIOL_TIME = BitVec.ofNat 64 s1.now ∧ m.num < s1.fld R.MPU_VIOL F.MPU_VIOL_CLASS then s1.setRaw R.MPU_VIOL w else s1
  else
    let block := m.num + 4 * b2n write + 8 * b2n lk + 16 * sz
    ((s1.setRaw R.MPU_VIOL w).setRaw R.MPU_VIOL_TIME (BitVec.ofNat 64 s1.now)).raise Flt.MPU_VIOLATION 0
      (addr / 0x40000 * 2 ^ 18 + addr % 0x40000) block

/-- Whether the LK fields of a register are read-only: its slot is locked, and for RIGHTS the slot it governs (R10, R478). -/
def State.lkHeld (s : State) (key : Nat) : Bool :=
  key < 0x4000000 && (s.slotLocked (key / 0x40000) || (isReg key (R.MPU_SLOT 0) && s.slotLocked ((key - R.MPU_SLOT 0) / 8)))

/-! ### QUIESCE (R14, R58) -/

/-- Whether a lane is in use, so that its test mode may not change (R297). -/
def State.laneBusy (s : State) (g l : Nat) : Bool :=
  match s.portAt g l with
  | some p => !(s.heldDown p && !s.linkUp p && !(s.isScango p && (s.sglOf p).st == 1))
  | none => s.spareHeld g

/-- Whether a port is not down. -/
def State.portRuns (s : State) (p : Nat) : Bool :=
  if s.isScango p then (s.sglOf p).st != 0 && (s.sglOf p).st != 6 else (s.pcpOf p).up

/-- Whether the block that owns the QUIESCE fields of a register runs. -/
def State.quiesceRuns (s : State) (key : Nat) : Bool :=
  let b := regBase key
  let o := key - b
  if b = R.CTL_BASE 0 ∨ b = R.CTL_CFG 0 then s.flag (R.CTL_CFG (o / 0x40)) F.CTL_CFG_EN
  else if b = R.DMV_FAIL_BASE 0 ∨ b = R.DMV_FAIL_CFG 0 then s.flag (R.DMV_FAIL_CFG (o / 0x10000)) F.DMV_FAIL_CFG_EN
  else if b = R.XBC_ACCT 0 0 then s.portRuns (o / 0x40)
  else if b = R.PCP_PORT_CFG 0 0 ∨ b = R.PCP_FC 0 0 ∨ b = R.SGL_CFG 0 0 ∨ b = R.SGL_CRED 0 0 0 then
    (match s.pagePort key with | some p => s.portRuns p | none => false)
  else if b = R.SGL_SPARE 0 then (s.portsOn (o / 0x40000)).any fun p => s.isScango p && s.portRuns p
  else if b = R.LG_CFG 0 ∨ b = R.LG_TXEQ 0 0 then (s.portsOn (o / 0x40000)).any s.portRuns
  else if b = R.LG_TEST 0 0 then s.laneBusy (o / 0x40000) (o % 0x40000 / 0x20)
  else if b = R.DMV_SLICE_MAP 0 then (s.slice (o / 8)).st != 0
  else if b = R.DMV_SQ_BASE 0 ∨ b = R.DMV_SQ_CFG 0 ∨ b = R.DMV_CQ_BASE 0 ∨ b = R.DMV_CQ_CFG 0 then (s.slice (o / 0x1000)).st != 0
  else if b = R.WLG_CTX_CFG 0 ∨ b = R.WLG_CTX_HOST 0 ∨ b = R.WLG_CTX_BMP 0 then s.flag (R.WLG_CTX_CFG (o / 0x20)) F.WLG_CTX_CFG_EN
  else if b = R.SPC_TIMING 0 ∨ b = R.SPC_RAIL_CFG 0 0 then
    let st := (s.spcSt (o / 0x40000)).st
    st == 1 || st == 2 || st == 3 || st == 5
  else false

/-! ### Writes ignored as a whole (R46 and the owning chapters) -/

/-- Whether a number lies in a range. -/
def within (n lo hi : Nat) : Bool := decide (lo ≤ n ∧ n ≤ hi)

/-- Whether a lane runs at a PAM4 rate. -/
def State.pam4 (s : State) (g l : Nat) : Bool :=
  match (if l = 8 then (s.portsOn g).head? else s.portAt g l) with
  | some p => if s.isScango p then decide ((s.sglOf p).rateIdx ≥ 1) else s.fld (s.pk p R.PCP_LINK_STAT) F.PCP_LINK_STAT_RATE == 5
  | none => false

/-- Whether values of the port and link registers are refused (R225, R243, R277). -/
def State.badPort (s : State) (key : Nat) (w : Word) : Bool :=
  let b := regBase key
  if b = R.PCP_PORT_CFG 0 0 then F.PCP_PORT_CFG_TC_EN.get w == 0 || !within (F.PCP_PORT_CFG_NP_HOLD.get w) 1 32 || F.PCP_PORT_CFG_INB_TAG.get w == 3
  else if b = R.PCP_PM_CFG 0 0 then F.PCP_PM_CFG_L1_IDLE.get w == 0 || F.PCP_PM_CFG_L0P_IDLE.get w == 0
  else if b = R.PCP_SLOT_CFG 0 0 then F.PCP_SLOT_CFG_PERST_DLY.get w == 0
  else if b = R.PCP_FC 0 0 then
    F.PCP_FC_PH.get w == 0 || F.PCP_FC_NPH.get w == 0 || F.PCP_FC_CPLH.get w == 0 || F.PCP_FC_PD.get w < 32 || F.PCP_FC_NPD.get w < 4
      || F.PCP_FC_CPLD.get w < 32
  else if b = R.PCP_CFGRQ 0 0 then F.PCP_CFGRQ_GO.get w == 1 && s.flag key F.PCP_CFGRQ_BUSY
  else if b = R.SGL_CFG 0 0 then
    F.SGL_CFG_RATE.get w == 3 || F.SGL_CFG_REPLAY_MAX.get w == 0 || F.SGL_CFG_RETRAIN_MAX.get w == 0 || F.SGL_CFG_REPLAY_TMR.get w < 200
      || F.SGL_CFG_SWAP_THR.get w == 0
  else if b = R.SGL_CRED 0 0 0 then
    let h := F.SGL_CRED_HDR.get w
    let d := F.SGL_CRED_DATA.get w
    h > 2047 || within d 1 8 || d > 32767 || ((h == 0) != (d == 0))
  else if b = R.SGL_SWAP_CMD 0 0 then
    F.SGL_SWAP_CMD_GO.get w == 1 && (match s.pagePort key with | some p => decide (F.SGL_SWAP_CMD_LANE.get w ≥ s.width p) | none => false)
  else false

/-- Whether values of the lane registers are refused (R286, R295, R300). -/
def State.badLane (s : State) (key : Nat) (w : Word) : Bool :=
  let b := regBase key
  let g := (key - b) / 0x40000
  if b = R.LG_CFG 0 then F.LG_CFG_TX_INIT_PRESET.get w > 10
  else if b = R.LG_BITSLIP 0 then
    let l := F.LG_BITSLIP_LANE.get w
    l > 8 || (s.pam4 g l && F.LG_BITSLIP_POS.get w % 2 == 1)
  else if b = R.LG_ADAPT_CFG 0 then F.LG_ADAPT_CFG_DRIFT_MAX.get w == 0
  else if b = R.LG_EYE_CFG 0 then
    let l := F.LG_EYE_CFG_LANE.get w
    let e := F.LG_EYE_CFG_EYE.get w
    l > 8 || e > 2 || (e > 0 && !s.pam4 g l) || !within (F.LG_EYE_CFG_DWELL.get w) 10 40
      || (F.LG_EYE_CFG_GO.get w == 1 && s.flag (R.LG_EYE_STAT g) F.LG_EYE_STAT_BUSY)
  else if b = R.LG_TXEQ 0 0 then
    let c := F.LG_TXEQ_C_PRE.get w
    let d := F.LG_TXEQ_C_POST.get w
    c > 16 || d > 24 || c + d > 24
  else if b = R.LG_TEST 0 0 then F.LG_TEST_MODE.get w > 6
  else false

/-- Whether values of the switching blocks' registers are refused (R96, R125, R155, R178, R216, R335, R337, R452). -/
def badSwitch (key : Nat) (w : Word) : Bool :=
  let b := regBase key
  if key = R.XBC_CFG then F.XBC_CFG_CT_STALL_MAX.get w == 0 || !within (F.XBC_CFG_SWEEP_US.get w) 1 1000
  else if b = R.XBC_SMP_CFG 0 then F.XBC_SMP_CFG_EN.get w == 1 && F.XBC_SMP_CFG_N.get w == 0
  else if key = R.CMT_CFG then F.CMT_CFG_FLUSH_TMO_DEF.get w == 0
  else if key = R.RTE_CFG then F.RTE_CFG_TTL_INIT.get w == 0
  else if key = R.RTE_ESC_THR then !within (F.RTE_ESC_THR_THR_NS.get w) 100 1000000
  else if key = R.RTE_FLOW_CFG then !within (F.RTE_FLOW_CFG_IDLE_MS.get w) 1 1000
  else if key = R.TMG_HIST_CFG then !within (F.TMG_HIST_CFG_INTERVAL_NS.get w) 256 1000000
  else if key = R.BRG_CFG then F.BRG_CFG_EPT_TMO.get w == 0 || !within (F.BRG_CFG_TMO_DEF.get w) 1 64000
  else if key = R.BRG_TRK_CFG then F.BRG_TRK_CFG_OUT_RSV.get w + F.BRG_TRK_CFG_INB_RSV.get w > 32768
  else if b = R.DMV_SLICE_MAP 0 then F.DMV_SLICE_MAP_QUANTUM.get w < 64 || !within (F.DMV_SLICE_MAP_TRK_MAX.get w) 1 4096
  else if key = R.WLG_CFG then !within (F.WLG_CFG_FLUSH_TMO.get w) 1 1000
  else if key = R.TBM_CFG then F.TBM_CFG_PASS_H.get w == 0 || !within (F.TBM_CFG_ONDIE_PASS_MS.get w) 10 10000
  else if b = R.TM_ARB_CFG 0 then F.TM_ARB_CFG_STARVE.get w < 256
  else if b = R.TM_ARB_REQ 0 0 then F.TM_ARB_REQ_TICKETS.get w == 0
  else false

/-- Whether a write to DCT_CFG is ignored as a whole: DEGLITCH 0, BUDGET_US outside 100 to 20,000, FLUSH_US outside 10 to
4,000 or not below BUDGET_US (R358). -/
def badDctCfg (w : Word) : Bool :=
  let f := F.DCT_CFG_FLUSH_US.get w
  let u := F.DCT_CFG_BUDGET_US.get w
  F.DCT_CFG_DEGLITCH.get w == 0 || !within u 100 20000 || !within f 10 4000 || f ≥ u

/-- Whether values of the supply, slot and clock registers are refused (R358, R381, R397, R533, R542). -/
def State.badPower (s : State) (key : Nat) (w : Word) : Bool :=
  let b := regBase key
  if key = R.DCT_CFG then badDctCfg w
  else if key = R.PWR_CFG then F.PWR_CFG_STOP_TMO_US.get w < 10
  else if key = R.PWR_WAKE_CFG then
    F.PWR_WAKE_CFG_WAKE_EN.get w == 1 && F.PWR_WAKE_CFG_MAIN_EN_EN.get w == 1 && F.PWR_WAKE_CFG_WAKE_GPIO.get w == F.PWR_WAKE_CFG_MAIN_EN_GPIO.get w
  else if b = R.SPC_TIMING 0 then
    F.SPC_TIMING_INS_DLY_MS.get w == 0 || F.SPC_TIMING_REARM_MS.get w == 0 || !within (F.SPC_TIMING_RAMP_MS.get w) 1 100
      || F.SPC_TIMING_PG_TMO_MS.get w ≤ F.SPC_TIMING_RAMP_MS.get w || F.SPC_TIMING_FLT_TMO_US.get w < 10
  else if b = R.SPC_RAIL_CFG 0 0 then
    let l := F.SPC_RAIL_CFG_LIM.get w
    let f := F.SPC_RAIL_CFG_FAST.get w
    !within l 25 250 || !within f 10 200 || 5 * f ≤ 2 * l || F.SPC_RAIL_CFG_UV.get w ≥ F.SPC_RAIL_CFG_OV.get w
      || F.SPC_RAIL_CFG_PG.get w ≥ F.SPC_RAIL_CFG_OV.get w
  else if key = R.CLK_PTM_CFG then s.role (F.CLK_PTM_CFG_PORT.get w) != 0
  else if key = R.DEV_THERM_CFG then
    let c := signed8 (F.DEV_THERM_CFG_WARN_C.get w)
    decide (c < -40 ∨ 125 < c) || !within (F.DEV_THERM_CFG_HYST_C.get w) 1 20
  else false

/-- Whether values of the management registers are refused (R40, R178, R424, R484, R502, R514, R519, R567). -/
def State.badMgmt (s : State) (key : Nat) (w : Word) : Bool :=
  let b := regBase key
  if b = R.CTL_PI 0 then key == R.CTL_PI 0 && !s.mcrIndexOk (F.CTL_PI_INDEX.get w)
  else if b = R.CTL_CI 0 then
    !(match [RingId.mcr, .evr, .ftr, .smr, .cdr].find? fun r => r.ci == key && r != .mcr with
      | some r => s.ciOk r (F.CTL_CI_INDEX.get w) | none => true)
  else if b = R.DMV_FAIL_CI 0 then !s.ciOk (.fail (Fin.ofNat 32 ((key - b) / 0x10000))) (F.DMV_FAIL_CI_INDEX.get w)
  else if key = R.CTL_COMMIT_CFG then F.CTL_COMMIT_CFG_WAIT_MAX.get w == 0
  else if key = R.TMG_SNAP_SEL then F.TMG_SNAP_SEL_QUEUE.get w > 32767
  else if b = R.FCR_RXN 0 then
    let f := (key - b) / 8
    (F.FCR_RXN_COUNT_EN.get w == 1 && (F.FCR_RXN_N.get w == 0 || F.FCR_RXN_W.get w == 0)) || F.FCR_RXN_W_UNIT.get w == 3
      || (F.FCR_RXN_SCOPE.get w == 0 && (F.FCR_RXN_LEVEL.get w == 2 || F.FCR_RXN_SEV_LEVEL.get w == 2))
      || !(faultTable.any fun t => t.1 == f)
  else if key = R.SEC_LC_CMD then
    F.SEC_LC_CMD_GO.get w == 1 && (F.SEC_LC_CMD_TARGET.get w > 4 || s.flag key F.SEC_LC_CMD_BUSY)
  else if key = R.SEC_FLASH_CMD then
    F.SEC_FLASH_CMD_OP.get w == 3 || (F.SEC_FLASH_CMD_GO.get w == 1 && s.flag key F.SEC_FLASH_CMD_BUSY)
  else if key = R.AGE_CFG then !within (F.AGE_CFG_PERIOD_MIN.get w) 1 1440
  else if key = R.AGE_MARGIN_CFG then
    let m := F.AGE_MARGIN_CFG_SLACK_MIN.get w
    let c := F.AGE_MARGIN_CFG_SLACK_CRIT.get w
    let g := F.AGE_MARGIN_CFG_GB_MAX.get w
    c ≥ m || !within m 2 127 || !within c 1 126 || !within g 5 100 || g % 5 != 0 || !within (F.AGE_MARGIN_CFG_EYE_MIN.get w) 2 127
      || F.AGE_MARGIN_CFG_RETIRE_SWAPS.get w == 0 || F.AGE_MARGIN_CFG_ROW_COR_MAX.get w == 0
  else if b = R.PMC_SEL 0 then F.PMC_SEL_MODE.get w == 3
  else if key = R.PMC_DUMP_CFG then
    F.PMC_DUMP_CFG_PERIOD_US.get w < 100 || (F.PMC_DUMP_CFG_EN.get w == 1 && F.PMC_DUMP_CFG_SET.get w == 0)
  else if key = R.PMC_SMP_CFG then
    let c := s.raw (R.PMC_SEL (F.PMC_SMP_CFG_COUNTER.get w))
    F.PMC_SMP_CFG_PERIOD.get w < 1000 || (F.PMC_SMP_CFG_EN.get w == 1
      && !(F.PMC_SEL_EN.get c == 1 && F.PMC_SEL_EVENT.get c / 4096 == 7 && F.PMC_SEL_FILTER_EN.get c == 1))
  else if b = R.PMC_UWIN 0 then F.PMC_UWIN_FIRST.get w > 3407 || F.PMC_UWIN_COUNT.get w > 256
  else false

/-- Whether a write that would leave a register at `w` is ignored as a whole and reported as BAD_PARAM. -/
def State.regBad (s : State) (key : Nat) (w : Word) : Bool :=
  let c := (key - R.WLG_CTX_CFG 0) / 0x20
  s.badPort key w || s.badLane key w || badSwitch key w || s.badPower key w || s.badMgmt key w
    -- a context is enabled only with its bitmaps in order (R325)
    || (isReg key (R.WLG_CTX_CFG 0) && F.WLG_CTX_CFG_EN.get w == 1 && !s.flag key F.WLG_CTX_CFG_EN && !s.ctxOk c)

/-! ### What a write does (R8 to R12, R57, R58) -/

/-- Fields that are read-only in some instances of a register: those reserved there (`State.rsvBits`), the device's own ring
indices (R45), what only a fabric endpoint port has (R242), the balls that another use owns (R543). -/
def State.roBits (s : State) (key : Nat) : Nat :=
  let b := regBase key
  let other := !(s.pagePort key).any (fun p => s.role p == 2)
  if s.rsvBits key ≠ 0 then s.rsvBits key
  else if (b = R.CTL_PI 0 ∧ key ≠ b) ∨ key = R.CTL_CI 0 ∨ b = R.DMV_FAIL_PI 0 then F.CTL_PI_INDEX.mask
  else if b = R.PCP_SLOT_CFG 0 0 ∧ other then F.PCP_SLOT_CFG_PWR_CTL.mask ||| F.PCP_SLOT_CFG_PERST_ASSERT.mask
  else if b = R.PCP_PM_CFG 0 0 ∧ other then F.PCP_PM_CFG_ASPM_L1.mask ||| F.PCP_PM_CFG_L0P_EN.mask
  else if b = R.LG_BITSLIP 0 ∧ !s.flag (R.LG_BRINGUP ((key - b) / 0x40000)) F.LG_BRINGUP_MANUAL then F.LG_BITSLIP_POS.mask
  else if b = R.LG_TEST 0 0 ∧ !s.laneThere ((key - b) / 0x40000) ((key - b) % 0x40000 / 0x20) then 2 ^ 32 - 1
  else if key = R.DEV_GPIO_CFG ∨ key = R.DEV_GPIO_DATA then atBits s.owned 16 8
  else 0

/-- The bits of a field in a 64-bit word. -/
def FieldDef.mask (f : FieldDef) : Nat := (⟨f.hi, f.lo⟩ : Fld).mask

/-- Masks of the fields of a register that meet a test. -/
def fieldsMask (d : RegDef) (p : FieldDef → Bool) : Nat := (d.fields.filter p).foldl (fun m f => m ||| f.mask) 0

/-- A word with the bits of a mask taken from another. -/
def mixBits (old new : Word) (m : Nat) : Word := (old &&& ~~~BitVec.ofNat 64 m) ||| (new &&& BitVec.ofNat 64 m)

/-- Whether a W1S bit stays set until the block clears it; the others start something and read 0. -/
def w1sStays (key : Nat) : Bool := isReg key (R.MPU_SLOT 0) || isReg key (R.SGL_SWAP_CMD 0 0)

/-! ### What follows a write in its block -/

/-- Writes that follow in the rings, the switch core and the traffic manager. -/
def State.afterSwitch (s : State) (key : Nat) (old w : Word) : State :=
  let b := regBase key
  if b = R.CTL_CFG 0 ∨ b = R.DMV_FAIL_CFG 0 then
    let r := if b = R.CTL_CFG 0 then [RingId.mcr, .evr, .ftr, .smr, .cdr].find? fun r => r.cfg == key
      else some (.fail (Fin.ofNat 32 ((key - b) / 0x10000)))
    (match r with | some r => s.ringCfgWritten r (F.CTL_CFG_EN.get old == 1) | none => s)
  else if key = R.CTL_PI 0 then s.mcrFetch
  else if b = R.CTL_CI 0 then
    (match [RingId.evr, .ftr, .smr, .cdr].find? fun r => r.ci == key with | some r => s.ciMoved r | none => s)
  else if b = R.DMV_FAIL_CI 0 then s.ciMoved (.fail (Fin.ofNat 32 ((key - b) / 0x10000)))
  else if b = R.XBC_ACCT 0 0 then s.setPool
  else if b = R.XBC_SMP_CFG 0 then
    let p := (key - b) / 8
    if F.XBC_SMP_CFG_EN.get old = 0 ∧ F.XBC_SMP_CFG_EN.get w = 1 then
      let (n, s1) := s.smpReload p
      { s1 with xbc := { s1.xbc with smpCnt := tput s1.xbc.smpCnt p n } }
    else s
  else if key = R.TMG_CAL_CFG then (if F.TMG_CAL_CFG_SHAPE_EN.get w = 0 then s.wheelsOff else s)
  else if key = R.TMG_SNAP_SEL then s.doSnapshot (F.TMG_SNAP_SEL_CLR.get w == 1) (F.TMG_SNAP_SEL_QUEUE.get w)
  else if b = R.WLG_CTX_CFG 0 then
    let c := (key - b) / 0x20
    let was := F.WLG_CTX_CFG_EN.get old == 1
    let on := F.WLG_CTX_CFG_EN.get w == 1
    if on ∧ !was then s.ctxEnabled c else if was ∧ !on then s.ctxDisabled c else s
  else s

/-- Writes that follow at a port, a link or a lane group; `m` holds the bits that the write may change, `env` is what the part
finds of an eye scan's lane. -/
def State.afterPort (s : State) (key : Nat) (old w ones : Word) (m : Nat) (env : Option Bool) : State :=
  let b := regBase key
  let g := (key - b) / 0x40000
  if b = R.PCP_SLOT_CFG 0 0 then
    (match s.pagePort key with
    | some p => if s.role p = 2 ∧ F.PCP_SLOT_CFG_PERST_ASSERT.get w = 1 then s.setPerst p true else s
    | none => s)
  else if b = R.PCP_CFGRQ 0 0 then
    (match s.pagePort key with
    | some p => if s.role p = 2 ∧ F.PCP_CFGRQ_GO.get ones = 1 then s.cfgrqGo p else s
    | none => s)
  else if b = R.SGL_CFG 0 0 then
    (match s.pagePort key with
    | some p =>
      let was := F.SGL_CFG_ADMIN_UP.get old
      let on := F.SGL_CFG_ADMIN_UP.get w
      if was = 1 ∧ on = 0 then s.sglDown p else if was = 0 ∧ on = 1 then s.sglStart p else s
    | none => s)
  else if b = R.SGL_SWAP_CMD 0 0 then
    (match s.pagePort key with
    | some p => if F.SGL_SWAP_CMD_GO.get ones = 1 then s.swapGo p else s
    | none => s)
  else if b = R.LG_BITSLIP 0 then
    let n := 9 * g + F.LG_BITSLIP_LANE.get w
    let pos := F.LG_BITSLIP_POS.get w
    -- a new position starts MATCH anew; the position as it stands, written with another field, does not (log entry 170)
    let s1 := if m &&& F.LG_BITSLIP_POS.mask ≠ 0 ∧ pos ≠ (s.lane n).pos then s.setLane n { s.lane n with pos := pos, hit := false } else s
    if F.LG_BITSLIP_DONE.get ones = 1 then s1.bitslipDone g else s1
  else if b = R.LG_EYE_CFG 0 then
    if F.LG_EYE_CFG_GO.get ones = 1 then
      match env with
      | some m => s.eyeGo g m
      | none => let (f, s1) := s.fresh; s1.eyeGo g (f.toNat % 2 == 1)
    else s
  else if b = R.LG_TEST 0 0 then
    let l := (key - b) % 0x40000 / 0x20
    let s1 := if F.LG_TEST_MODE.get old ≠ F.LG_TEST_MODE.get w ∨ F.LG_TEST_INJ_RATE.get old ≠ F.LG_TEST_INJ_RATE.get w then s.modeSet g l
      else s
    if F.LG_TEST_INJ.get ones = 1 then s1.prbsInj g l else s1
  else s

/-- Levels that the GPIO balls change to (R543, R544). -/
def State.gpioDrive (s : State) (was : Nat) : State :=
  if s.bankHeld 64 then s
  else
    let oe := s.fld R.DEV_GPIO_CFG F.DEV_GPIO_CFG_OE
    let now_ := 256 * oe + s.fld R.DEV_GPIO_DATA F.DEV_GPIO_DATA_OUT
    (List.range 8).foldl (init := s) fun s g =>
      if bitAt oe g ∧ (bitAt was g ≠ bitAt now_ g ∨ !bitAt was (g + 8)) then s.emit (.pin "GPIO" g (bitAt now_ g)) else s

/-- Writes that follow in the management blocks; `env` is the verdict on the engine image of a warm reset. -/
def State.afterMgmt (s : State) (key : Nat) (old w ones : Word) (env : Option Bool) : State :=
  let b := regBase key
  if key = R.PWR_WAKE_CFG then s.clearOwned
  else if b = R.PWR_PAD_HOLD 0 then
    ((List.range 64).filter (bitAt ones.toNat)).foldl (fun s k => s.bankRelease (64 * ((key - b) / 8) + k)) s
  else if b = R.FCR_FORCE 0 then s.forceFaults ((key - b) / 8) ones.toNat
  else if key = R.SEC_LC_CMD then (if F.SEC_LC_CMD_GO.get ones = 1 then s.lcGo else s)
  else if key = R.SEC_FLASH_CMD then (if F.SEC_FLASH_CMD_GO.get ones = 1 then s.flashGo else s)
  else if key = R.AGE_CFG then (if F.AGE_CFG_GB_CLR.get ones = 1 then s.onAge fun a => { a with clr := true } else s)
  else if key = R.AGE_CAL_SEC then
    { s with aon := { s.aon with cal := F.AGE_CAL_SEC_SECONDS.get w, calAt := s.aon.ns, calValid := true } }
  else if key = R.AGE_LEDGER_SEL then (if F.AGE_LEDGER_SEL_GO.get ones = 1 then s.ledgerGo else s)
  else if b = R.AGE_RATE_PLAN 0 then
    if F.AGE_RATE_PLAN_VALID.get old = 0 then s.setRaw key (F.AGE_RATE_PLAN_VALID.set w 0)
    else if F.AGE_RATE_PLAN_VALID.get w = 0 then s.setRaw key (F.AGE_RATE_PLAN_PLAN.set w 0)
    else s
  else if b = R.PMC_SEL 0 then
    if F.PMC_SEL_CLR.get ones = 1 then { s with pmc := { s.pmc with cnt := tdel s.pmc.cnt ((key - b) / 8) } } else s
  else if key = R.PMC_SMP_CFG then
    if F.PMC_SMP_CFG_EN.get old = 0 ∧ F.PMC_SMP_CFG_EN.get w = 1 then { s with pmc := { s.pmc with smpDue := 0 } } else s
  else if key = R.PMC_DUMP_CFG then
    if F.PMC_DUMP_CFG_EN.get old = 0 ∧ F.PMC_DUMP_CFG_EN.get w = 1 then { s with pmc := { s.pmc with lastDump := s.now } } else s
  else if key = R.DEV_GPIO_CFG then s.gpioDrive (256 * F.DEV_GPIO_CFG_OE.get old + s.fld R.DEV_GPIO_DATA F.DEV_GPIO_DATA_OUT)
  else if key = R.DEV_GPIO_DATA then s.gpioDrive (256 * s.fld R.DEV_GPIO_CFG F.DEV_GPIO_CFG_OE + F.DEV_GPIO_DATA_OUT.get old)
  else if key = R.CLK_RESET then
    if F.CLK_RESET_WARM.get ones = 1 then
      match env with
      | some ok => s.warmReset ok
      | none => let (f, s1) := s.fresh; s1.warmReset (f.toNat % 2 == 1)
    else s
  else s

/-! ### One register -/

/-- A write of a slice's control or doorbell page takes effect through the slice (R307, R318). -/
def State.sliceWrite (s : State) (key : Nat) (v : Word) (m : Nat) : Option State :=
  let b := regBase key
  let i := (key - b) / 0x1000
  if b = R.DMV_DB_SQ_PI 0 then
    some (if m &&& F.DMV_DB_SQ_PI_INDEX.mask ≠ 0 then s.doSqDoorbell i (F.DMV_DB_SQ_PI_INDEX.get v) else s)
  else if b = R.DMV_DB_CQ_CI 0 then
    some (if m &&& F.DMV_DB_CQ_CI_INDEX.mask ≠ 0 then s.doCqDoorbell i (F.DMV_DB_CQ_CI_INDEX.get v) else s)
  else if b = R.DMV_SLICE_CTL 0 then
    if m &&& F.DMV_SLICE_CTL_EN.mask = 0 then some s
    else
      let was := s.flag key F.DMV_SLICE_CTL_EN
      let on := F.DMV_SLICE_CTL_EN.get v == 1
      let s1 := if on ∧ !was then s.doSliceEnable i else if was ∧ !on then s.doSliceDisable i else s
      some (if F.DMV_SLICE_CTL_ABORT.get v = 1 then s1.doSliceAbort i else s1)
  else none

/-- The value that a partial write of a register leaves in the part it does not cover (R16, R57): the calendar's is the one it
shows at the moment (R500). -/
def State.held (s : State) (key : Nat) : Word := if key = R.AGE_CAL_SEC then BitVec.ofNat 64 s.calendar else s.raw key

/-- A write with the right reaches a register: the bits of mask `m` are written with those of `v`. Answers whether it covers
an LK field that is read-only. -/
def State.regApply (s : State) (key : Nat) (v : Word) (m : Nat) (env : Option Bool) : Bool × State :=
  match (if s.absent key then none else regAt key) with
  | none => (false, s)
  | some d =>
    match s.sliceWrite key v m with
    | some s1 => (false, s1)
    | none =>
      let lkm := if s.lkHeld key then fieldsMask d (·.lk) else 0
      let ro := s.roBits key
      let hit := lkm &&& m ≠ 0
      let free := m &&& (2 ^ 64 - 1 - ((lkm ||| ro) &&& (2 ^ 64 - 1)))
      let of := fun p : FieldDef → Bool => fieldsMask d p &&& free
      let shm := of fun f => f.acc == .rw && f.cls == .sh
      let qm := of fun f => f.acc == .rw && f.cls == .quiesce
      let rwm := of fun f => f.acc == .rw && f.cls != .sh && f.cls != .quiesce
      let ones := v &&& BitVec.ofNat 64 (of fun f => f.acc == .w1s || (f.acc == .w1c && isReg key (R.PWR_PAD_HOLD 0)))
      let clr := v &&& BitVec.ofNat 64 (of fun f => f.acc == .w1c && !isReg key (R.PWR_PAD_HOLD 0))
      if (shm ||| qm ||| rwm) = 0 ∧ ones = 0 ∧ clr = 0 ∧ !(isReg key (R.LG_BITSLIP 0)) then (hit, s)
      else
        let old := s.held key
        let cand := mixBits (mixBits (mergeSh key old (s.shadowOf key)) v (shm ||| qm ||| rwm)) ones ones.toNat
        -- POS is looked at even where MANUAL = 0 has the write of it ignored (R286, R300)
        let cand := if isReg key (R.LG_BITSLIP 0) then mixBits cand v (m &&& F.LG_BITSLIP_POS.mask) else cand
        if s.regBad key cand then (hit, s.regErr stBadParam key)
        else
          let runs := qm ≠ 0 && s.quiesceRuns key
          let s0 := if runs then s.regErr stCfgBusy key else s
          let s1 := if isReg key (R.LG_BITSLIP 0) ∧ ro &&& m ≠ 0 then s0.regErr stBadParam key else s0
          let w := (mixBits old v (rwm ||| (if runs then 0 else qm))) &&& ~~~clr
          let w' := if w1sStays key then w ||| ones else w
          let s2 := if w' = old then s1 else s1.setRaw key w'
          let s3 : State := if shm = 0 then s2
            else { s2 with cfg := { s2.cfg with shadow := tput s2.cfg.shadow key (mixBits (s2.shadowOf key) v shm) } }
          (hit, ((s3.afterSwitch key old w').afterPort key old w' ones free env).afterMgmt key old w' ones env)

/-! ### Accesses by address (R15, R16, R475, R476, R536) -/

/-- Mask of the bytes `lo` to `lo + n - 1` of a register. -/
def byteMask (lo n : Nat) : Nat := (2 ^ (8 * n) - 1) <<< (8 * lo)

/-- Bytes written into a register space, register by register. -/
def State.putBytes (s : State) (env : Option Bool) : Nat → Nat → List Byte → Bool × State
  | 0, _, _ => (false, s)
  | _, _, [] => (false, s)
  | n + 1, a, bs =>
    let lo := a % 8
    let part := bs.take (8 - lo)
    let v := BitVec.ofNat 64 (ofLe part <<< (8 * lo))
    let (h, s1) := s.regApply (a / 8 * 8) v (byteMask lo part.length) env
    let (h', s2) := s1.putBytes env n (a + part.length) (bs.drop (8 - lo))
    (h || h', s2)

/-- A write to BAR0 by a master, checked by the MPU; true where it violates. -/
def State.mpuWrite (s : State) (m : Master) (addr : Nat) (bs : List Byte) (env : Option Bool) : Bool × State :=
  if !s.mpuRight m (addr / 0x40000) true then (true, s.violate m addr bs.length true false)
  else
    let (hit, s1) := s.putBytes env 9 addr bs
    if hit then (true, s1.violate m addr bs.length true true) else (false, s1)

/-- A write to BAR0 by a master. -/
def State.regWrite (s : State) (m : Master) (addr : Nat) (bs : List Byte) (env : Option Bool := none) : State := (s.mpuWrite m addr bs env).2

/-- A read clears the RC bits that it covers (R8, R16); one of TJ_PEAK starts the peak anew (R540). -/
def State.readClears (s : State) (key m : Nat) : State :=
  match regAt key with
  | none => s
  | some d =>
    let c := fieldsMask d (fun f => f.acc == .rc) &&& m
    if c = 0 then s
    else
      let s1 := s.setRaw key (s.raw key &&& ~~~BitVec.ofNat 64 c)
      if key = R.DEV_TEMP then { s1 with clk := { s1.clk with peak := none } }
      -- the count of fall-backs is AON's (R357)
      else if key = R.DCT_CNT 7 then { s1 with aon := { s1.aon with fallbacks := (s1.raw key).toNat } }
      else s1

/-- Bytes read from a register space. -/
def State.getBytes (s : State) : Nat → Nat → Nat → List Byte × State
  | 0, _, _ => ([], s)
  | n + 1, a, len =>
    if len = 0 then ([], s)
    else
      let lo := a % 8
      let k := min len (8 - lo)
      let key := a / 8 * 8
      let (w, s1) := s.readReg key
      let s2 := s1.readClears key (byteMask lo k)
      let (t, s3) := s2.getBytes n (a + k) (len - k)
      (leBytes k (w.toNat >>> (8 * lo)) ++ t, s3)

/-- A read of BAR0 by a master: a violating read returns zeros. -/
def State.regRead (s : State) (m : Master) (addr len : Nat) : List Byte × State :=
  if !s.mpuRight m (addr / 0x40000) false then (List.replicate len 0, s.violate m addr len false false)
  else s.getBytes 9 addr len

/-- A write of a whole register, of its own width. -/
def State.regSet (s : State) (m : Master) (key : Nat) (v : Word) (env : Option Bool := none) : State :=
  let n := match regAt key with | some d => d.width / 8 | none => 8
  s.regWrite m key (leBytes n v.toNat) env

/-- Whether an access is one that its master class issues: 4 or 8 bytes naturally aligned, and for the cores and engines up
to 64 bytes aligned to their size; MEM_ACCESS moves words of 4 bytes (R15, R475). -/
def accessOk (m : Master) (addr len : Nat) : Bool :=
  let sizes := match m with | .manager => [4, 8] | .debug => [4] | _ => [4, 8, 16, 32, 64]
  sizes.contains len && addr % len == 0 && decide (addr + len ≤ 0x4000000)

/-! ### MEM_ACCESS (R479, R480) -/

/-- The words of a burst, until one violates: words completed, words read, and whether all completed. -/
def State.burst (s : State) (write : Bool) (ws : List Nat) : Nat → Nat → List Nat → List Nat × Bool × State
  | 0, _, acc => (acc, true, s)
  | n + 1, a, acc =>
    if write then
      let (bad, s1) := s.mpuWrite .debug a (leBytes 4 (ws.getD acc.length 0)) none
      if bad then (acc, false, s1) else s1.burst write ws n (a + 4) (acc ++ [0])
    else if s.mpuRight .debug (a / 0x40000) false then
      let (b, s1) := s.regRead .debug a 4
      s1.burst write ws n (a + 4) (acc ++ [ofLe b])
    else (acc, false, (s.regRead .debug a 4).2)

/-- MEM_ACCESS: a burst from a BAR0 offset on, with the words to be written; each word read is shifted out. -/
def State.doMemAccess (s : State) (write : Bool) (offset len : Nat) (ws : List Nat) : State :=
  let s1 := s.jtagIr 0x10
  if s1.sec.ir ≠ 0x10 then s1.onSec fun x => { x with mem := (2, 0) }
  else
    let (acc, ok, s2) := s1.burst write ws (min 128 len) (offset / 4 * 4) []
    let s3 := if write then s2 else acc.foldl (fun s w => s.emit (.jtag w 32)) s2
    s3.onSec fun x => { x with mem := (if ok then 0 else 1, acc.length) }

end Sys2Proof.Machine
end

