-- ==== Sys2Proof/Machine/Settle.lean ====
section
/-! DEFINITION. What surrounds every command: the time that passes before it, and the work it sets off, done before it
ends. Here too are the two ends of that work that need all blocks: accesses of hosts to the registers of the management
and data-mover functions (R15, R302, R303, R516), and configuration requests (R221 to R224, R234 to R240). -/

namespace Sys2Proof.Machine

/-! ### The register BARs (R15, R302, R303, R516) -/

/-- Whether a request on a register BAR has a form that the registers take: 4 or 8 bytes, naturally aligned, every byte
enabled. -/
def Hdr.regForm (h : Hdr) : Bool :=
  (h.kind == .mrd || h.kind == .mwr)
    && ((h.len == 1 && h.fbe == 15 && h.lbe == 0) || (h.len == 2 && h.fbe == 15 && h.lbe == 15 && h.addr % 8 == 0))

/-- Whether a page of BAR 0 answers in the data-mover function of a virtual switch (R303); none does while PD61 is off
(R367). -/
def State.ownsSlice (s : State) (v o : Nat) : Bool :=
  let i := o % 0x1000000 / 0x1000
  bitAt (s.raw R.PWR_ON).toNat 61 && s.sliceOn i && s.sliceVs i == v

/-- A read of BAR 0 of the data-mover function of a virtual switch. -/
def State.dmvRead0 (s : State) (v o n : Nat) : List Byte × State :=
  if !s.ownsSlice v o then (List.replicate n 0, s)
  else if o < 0x1000000 ∧ o % 0x1000 ≥ 0x800 then
    let (x, s1) := s.uwinRead (o / 0x1000) ((o % 0x1000 - 0x800) / 8)
    (leBytes n (x >>> (8 * (o % 8))), s1)
  else s.getBytes 2 (0x8000000 + o) n

/-- A write there: the counter window takes none. -/
def State.dmvWrite0 (s : State) (v o : Nat) (bs : List Byte) : State :=
  if !s.ownsSlice v o ∨ (o < 0x1000000 ∧ o % 0x1000 ≥ 0x800) then s else (s.putBytes none 2 (0x8000000 + o) bs).2

/-- Bytes of an MSI-X table from an offset on with its mask bits turned over: every vector is masked at reset. -/
def msixFlip : Nat → List Byte → List Byte
  | _, [] => []
  | o, b :: bs => (if o % 16 = 12 then b ^^^ 1 else b) :: msixFlip (o + 1) bs

/-- The pending vectors of a data-mover function are signalled again: what is masked stays pending. -/
def State.unmask (s : State) (v : Nat) : State :=
  let mine := s.dmv.pba.filter fun k => k / 2048 == v
  mine.foldl (fun s k => s.addJob (.msix (.dmv v) (k % 2048))) { s with dmv := { s.dmv with pba := s.dmv.pba.filter fun k => k / 2048 != v } }

/-- A read of BAR 4: function registers, the pending-bit array, the MSI-X table. -/
def State.dmvRead4 (s : State) (v o n : Nat) : List Byte × State :=
  if o < 0x1000 then s.getBytes 2 (0x10000000 + 0x10000 * v + o) n
  else if o < 0x8000 then
    ((List.range n).map fun j => BitVec.ofNat 8 ((List.range 8).foldl (fun m b =>
      if s.dmv.pba.contains (2048 * v + 8 * (o - 0x1000 + j) + b) ∧ o - 0x1000 + j < 256 then m + 2 ^ b else m) 0), s)
  else (msixFlip o (Mem.rdN 0 s.dmv.msix (65536 * (Fn.dmv v).num + o) n), s)

/-- A write there. -/
def State.dmvWrite4 (s : State) (v o : Nat) (bs : List Byte) : State :=
  if o < 0x1000 then (s.putBytes none 2 (0x10000000 + 0x10000 * v + o) bs).2
  else if o < 0x8000 then s
  else ({ s with dmv := { s.dmv with msix := Mem.wrN 0 s.dmv.msix (65536 * (Fn.dmv v).num + o) (msixFlip o bs) } } : State).unmask v

/-- A read of a register BAR by a host. -/
def State.barRead (s : State) (f : Fn) (bar o n : Nat) : List Byte × State :=
  match f with
  | .mgmt => s.regRead .manager o n
  | .dmv v => if bar = 0 then s.dmvRead0 v o n else s.dmvRead4 v o n
  | _ => (List.replicate n 0, s)

/-- A write. -/
def State.barWrite (s : State) (f : Fn) (bar o : Nat) (bs : List Byte) : State :=
  match f with
  | .mgmt => s.regWrite .manager o bs
  | .dmv v => if bar = 0 then s.dmvWrite0 v o bs else s.dmvWrite4 v o bs
  | _ => s

/-- Completer ID of a function on the register BARs. -/
def State.barId (s : State) (f : Fn) : Nat := match f with | .dmv v => s.dmvId v | _ => s.mgmtId

/-- A request that has reached a register BAR. A poisoned write is discarded (log entry 16). -/
def State.barAccess (s : State) (i q : Nat) (f : Fn) (bar : Nat) : State :=
  let s := s.readOut i
  let p := s.pkt i
  let h := p.orig
  let o := h.addr - s.barBase f (if bar = 4 then 8 else 4)
  if !h.regForm then
    if h.kind.isNp then s.answer i 1 else (s.logAer f .unsupported (some h)).freePkt i
  else if h.kind = .mwr then
    let bs := (s.payload p).take (4 * h.len)
    let s1 := s.freePkt i
    if h.poison ∨ p.poisoned then s1 else s1.barWrite f bar o bs
  else
    let (bs, s1) := s.barRead f bar o (4 * h.len)
    (s1.dataCpls q h (s.barId f) 0 2 0 (4 * h.len) bs).freePkt i

/-! ### Configuration requests (R221, R222, R224, R234 to R240; Base Specification, log entry 16)

The header's `addr` is the ID that the request names, `offset` its doubleword, `fbe` its byte enables, `subcode` its type. -/

/-- What a host's write of a switch function's configuration space brings about. -/
def State.cfgPort (s : State) (p dw old new : Nat) : State :=
  let rose := fun b : Nat => !bitAt old b && bitAt new b
  let fell := fun b : Nat => bitAt old b && !bitAt new b
  if dw = 15 then
    let downs := if s.role p = 0 then s.downPorts (s.vsOf p) else if s.isDown (.port p) then [p] else []
    if rose 22 then downs.foldl State.resetDown s else if fell 22 then downs.foldl State.trainAgain s else s
  else if dw = 0x1C ∧ s.isDown (.port p) then (if rose 4 then s.linkDown p else if fell 4 then s.trainAgain p else s)
  else if dw = 0x96 ∧ s.isDown (.port p) then (if fell 0 then s.doDpcRelease p else s)
  else if 0xDA ≤ dw ∧ dw < 0xDA + s.width p then s.marginStart p (dw - 0xDA)
  else s

/-- A host's write of a doubleword of a function's configuration space. -/
def State.cfgHost (s : State) (f : Fn) (dw be v : Nat) : State :=
  let old := s.cfgDw f dw
  let flr := dw = 0x1A ∧ bitAt be 1 ∧ bitAt v 15
  -- the port itself ends DPC when the trigger status is cleared
  let s1 := s.cfgWrite f dw be (if dw = 0x96 then v / 2 * 2 else v)
  let new := if dw = 0x96 then (if bitAt be 0 ∧ bitAt v 0 then old / 2 * 2 else old) else s1.cfgDw f dw
  match f with
  | .mgmt => if flr then s1.doMgmtFlr else s1
  | .dmv u =>
    if flr then s1.doDmvFlr u
    else if dw = 1 ∧ bitAt old 2 ∧ !bitAt new 2 then s1.doDmvBmeClear u
    else if dw = 1 ∧ !bitAt old 2 ∧ bitAt new 2 then s1.doDmvBmeSet u
    else if dw = 0x2C then s1.unmask u
    else s1
  | .port p => s1.cfgPort p dw old new
  | .internal u =>
    if dw = 15 ∧ !bitAt old 22 ∧ bitAt new 22 then (s1.dmvReset u).cfgResetFn (.dmv u) else s1

/-- Which function answers a configuration request at the upstream port of a virtual switch, or to which downstream port it
goes on, and the type it goes on with. -/
inductive CfgTo where
  | fn (f : Fn)
  | on (p ty : Nat)
  | none
  deriving DecidableEq, Repr

/-- The secondary bus of a switch function. -/
def State.secondary (s : State) (f : Fn) : Nat := s.cfgBits f 6 8 8

/-- Routing of a configuration request (R221). -/
def State.cfgRoute (s : State) (q id ty : Nat) : CfgTo :=
  let v := s.vsOf q
  let bus := id / 256
  let dev := id / 8 % 32
  let fn := id % 8
  let downs := s.downPorts v
  if ty = 0 then (if dev = 0 ∧ fn = 0 then .fn (.port q) else .none)
  else if !s.ownsBus (.port q) bus then .none
  else if bus = s.secondary (.port q) then
    if fn ≠ 0 then .none
    else if dev = 0 then .fn (.internal v)
    else match downs[dev - 1]? with | some p => .fn (.port p) | none => .none
  else if s.ownsBus (.internal v) bus then
    let recovery := s.flag R.SEC_BOOT F.SEC_BOOT_RECOVERY
    if bus ≠ s.secondary (.internal v) ∨ dev ≠ 0 then .none
    else if v = s.mgrVs then (if fn = 0 then .fn .mgmt else if fn = 1 ∧ !recovery then .fn (.dmv v) else .none)
    else if fn = 0 ∧ !recovery then .fn (.dmv v) else .none
  else match downs.find? fun p => s.ownsBus (.port p) bus with
    | some p => if bus ≠ s.secondary (.port p) then .on p 1 else if dev = 0 then .on p 0 else .none
    | none => .none

/-- A configuration request at the upstream port `q` of a virtual switch. -/
def State.cfgRequest (s : State) (i q : Nat) : State :=
  let h := (s.pkt i).orig
  let v := s.vsOf q
  let cpl := fun st id : Nat => ({ tlpCpl h st id with offset := 0 } : Hdr)
  if !(s.pcpOf q).ready then (s.makeJob (cpl 2 (s.fnId v (.port q))) (some q) []).freePkt i
  else match s.cfgRoute q h.addr h.subcode with
  | .none => s.unresolved i
  | .on p ty =>
    let h' := { (s.pkt i).hdr with subcode := ty }
    (s.setPkt { s.pkt i with hdr := h' }).toPort i p h'
  | .fn f =>
    if h.write then
      let x := ofLe ((s.payload (s.pkt i)).take 4)
      let bus := h.addr / 256
      let s1 := (s.setCfgDw f 1000 bus).freePkt i
      let s2 := s1.makeJob (cpl 0 (s1.fnId v f)) (some q) []
      if h.offset < 1000 then s2.cfgHost f h.offset h.fbe x else s2
    else
      let x := if h.offset < 1000 then s.cfgDw f h.offset else 0
      (s.makeJob { cpl 0 (s.fnId v f) with kind := .cpld, len := 1, byteCnt := 4 } (some q) (leBytes 4 x)).freePkt i

/-! ### The work that a command sets off -/

/-- A packet that the part has made goes on its way: to its port, or into the fabric. A decant's flush passes its port's
queues (R347). -/
def State.placeMade (s : State) (i : Nat) : State :=
  let p := s.pkt i
  let s0 := s.setPkt { p with dests := [] }
  match p.origin, p.dests with
  | .decant q, _ =>
    let d : Dest := { port := q, hdr := p.hdr, st := .npHold, enq := s.now }
    let c := s.pcpOf q
    (s.setPkt { p with dests := [d], readers := 1 }).setPcp q { c with hold := (i, 0) :: c.hold }
  | _, x :: _ => s0.toPort i x.port p.hdr
  | _, [] =>
    match p.ingress, p.hdr.fab with
    | .dmv _, _ => s.enter i
    | _, false => s.enter i
    | _, _ =>
      match s.stampHdr p.epoch p.hdr with
      | some (h, s1) => s1.fabSend i h
      | none => s.stampWait i p.hdr

/-- Reads of the part itself whose completion timeout has passed are no longer open. -/
def State.dropLate (s : State) : State :=
  { s with brg := { s.brg with loc := s.brg.loc.filter fun e => match e.2.origin with
    | .own (.dmv v) => (s.cplTmo v).all fun t => decide (s.now - e.2.since < t)
    | .own _ => decide (s.now - e.2.since < 50000)
    | _ => true } }

/-- A request of the part itself to host memory becomes packets, split at the sizes that its function is given (R312; Base
Specification); the rest of it follows the first of them. Where the account admits no packet, or no tag is free, it waits,
behind what waits already (R80). -/
def State.runOwn (s : State) (f : Fn) (a : Nat) (bs : List Byte) (rd tc : Nat) (pasid : Option Nat) (acct : Nat) : State :=
  let v := match f with | .dmv v => v | _ => s.mgrVs
  let unit := match f with | .dmv v => v | _ => 160
  let id := match f with | .dmv v => s.dmvId v | _ => s.mgmtId
  let k := if rd = 0 then PktKind.mwr else .mrd
  let limit := if rd = 0 then min 512 (128 * 2 ^ s.cfgBits f 0x1A 5 3) else min 4096 (128 * 2 ^ s.cfgBits f 0x1A 12 3)
  let n := pieceLen a (if rd = 0 then bs.length else rd) limit
  let rest : List Job := if rd = 0 then (if n < bs.length then [.own f (a + n) (bs.drop n) 0 tc pasid acct] else [])
    else if n < rd then [.own f (a + n) [] (rd - n) tc pasid acct] else []
  let s := s.dropLate
  let tag := s.freeTag true unit (if unit < 32 then s.tagSpace unit else 1024)
  let local_ : Bool := match s.routeAddr v none a with | .port _ => true | _ => false
  let wait : State := { s with xbc := { s.xbc with refused := s.xbc.refused ++ [.own f a bs rd tc pasid acct] } }
  if n = 0 then s
  else if s.xbc.refused.any fun j => match j with | .own g _ _ _ _ _ b => b == acct && (match g with | .dmv w => w | _ => s.mgrVs) == v | _ => false then wait
  else
    let h0 := spanHdr k a n tc id pasid
    let h := if rd ≠ 0 ∧ local_ then { h0 with tag := tag.getD 0 } else h0
    let p : Pkt := {
      ingress := .internal, origin := .own f, acct := acct, tc := tc, hdr := h, orig := h, hoff := s.sliceHoff v a, vs := v, vh := v
      hostAddr := if rd = 0 then some a else none }
    if rd ≠ 0 ∧ local_ ∧ tag.isNone then wait
    else match s.tryMake p (if rd = 0 then spanPayload a (bs.take n) else []) with
    | none => wait
    | some (i, s1) =>
      let s2 : State := if rd ≠ 0 ∧ local_ then
          { s1 with brg := { s1.brg with loc := tput s1.brg.loc (unit * 16384 + h.tag) { origin := .own f, since := s1.now } } } else s1
      { s2 with xbc := { s2.xbc with jobs := [.enter i] ++ rest ++ s2.xbc.jobs } }

/-- Offset of a vector's entry in the MSI-X table of a data-mover function, as `DmvSt.msix` keeps it. -/
def msixAt (v k : Nat) : Nat := 65536 * (Fn.dmv v).num + 0x8000 + 16 * k

/-- A vector of a data-mover function is signalled: its message is sent, or, masked, stands in the pending-bit array (Base
Specification, log entry 16). The manual does not place the MSI-X table of the management function. -/
def State.runMsix (s : State) (f : Fn) (k : Nat) : State :=
  match f with
  | .dmv v =>
    let w := s.cfgDw f 0x2C
    let e := fun o n => ofLe (Mem.rdN 0 s.dmv.msix (msixAt v k + o) n)
    if !bitAt w 31 then s
    else if bitAt w 30 ∨ !bitAt (e 12 1) 0 then
      (if s.dmv.pba.contains (2048 * v + k) then s else { s with dmv := { s.dmv with pba := s.dmv.pba ++ [2048 * v + k] } })
    else s.addJob (.own f (e 0 8 / 4 * 4) (leBytes 4 (e 8 4)) 0 0 none 129)
  | _ => s

/-- An ERR_* message of a function goes up to its host, where its Device Control or, for an uncorrectable error, SERR# Enable
lets it (Base Specification, log entry 16); it is no part of the management path (R415). -/
def State.runErr (s : State) (f : Fn) (code : Nat) : State :=
  let v := match f with | .port p => s.vsOf p | .dmv v => v | .internal v => v | .mgmt => s.mgrVs
  let hidden : Bool := match f with | .port p => decide (s.role p ≥ 2) | _ => false
  let dc := s.cfgDw f 0x1A
  let on := bitAt dc (if code = 0x30 then 0 else if code = 0x31 then 1 else 2) || (code != 0x30 && bitAt (s.cfgDw f 1) 8)
  match s.upPort v with
  | some u => if s.safe ∨ hidden ∨ !on then s
    else s.makeJob { kind := .msg, hlen := 16, subcode := code, reqId := s.fnId v f, route := .toRoot } (some u) []
  | none => s

/-- One piece of work. -/
def State.runJob (s : State) : Job → State
  | .enter i => s.enter i
  | .release n => s.deliver n
  | .make p payload =>
    let full := s.mgmtFull && p.dests != []
    match if full then none else s.tryMake p payload with
    | some (i, s1) => s1.placeMade i
    | none => { s with xbc := { s.xbc with refused := s.xbc.refused ++ [.make p payload] } }
  | .bar i f bar =>
    if !s.hasPkt i then s
    else match (s.pkt i).ingress with
    | .port q => if bar = 6 then s.cfgRequest i q else s.barAccess i q f bar
    | _ => s.freePkt i
  | .sample i arr x => s.takeSample i arr x
  | .linkLost p => s.sglDown p
  | .own f a bs rd tc pasid acct => s.runOwn f a bs rd tc pasid acct
  | .msix f k => s.runMsix f k
  | .errMsg f code => s.runErr f code
  | .dpc p reason src =>
    let s1 := s.dpcTrigger p reason
    s1.setCfgDw (.port p) 0x96 (s1.cfgBits (.port p) 0x96 0 16 ||| atBits src 16 16)

/-- All work in hand, oldest first. What a bound of steps would leave waits with the work refused admission. -/
def State.runJobs (s : State) : Nat → State
  | 0 => { s with xbc := { s.xbc with jobs := [], refused := s.xbc.refused ++ s.xbc.jobs } }
  | n + 1 =>
    match s.xbc.jobs with
    | [] => s
    | j :: rest => (({ s with xbc := { s.xbc with jobs := rest } } : State).runJob j).runJobs n

/-- Whether a command has left no work behind. -/
def State.calm (s : State) : Bool :=
  s.xbc.jobs.isEmpty && s.xbc.smpWait.isEmpty && s.pwr.cmd.isNone && !(s.pcp.any fun e => e.2.narrow) && (s.dmv.slices.all fun e => e.2.descs.isEmpty)
    && s.answers.isEmpty && s.lg.events.isEmpty && s.age.rowDue.isEmpty && s.age.waiting.isEmpty && s.pmc.samples.isEmpty
    && s.pmc.held.isEmpty && (s.pmcSels.all fun k => !selMode k.2 2)

/-- What a command sets off, until nothing is left that the state itself brings about. A core that is off sets off nothing. -/
def State.settle (s : State) : State :=
  if s.aon.mode ≠ 0 ∨ s.calm then s
  else (((((((s.runJobs 4096).wakeSamples).pwrSafe).widenAll.finishWrites).fenceAnswers).ageSettle).pmcSettle).runJobs 4096

/-! ### Time (R7, R526, R529) -/

/-- `dt` steps of 5 ns pass: the timestamp while the device runs, the AON time while the crystal runs, and what PMC counts
(log entry 4). -/
def State.elapse (s : State) (dt : Nat) : State :=
  let run := s.aon.mode = 0
  let s1 := if run then (s.pmcTick dt).noteCredit ((s.now + 5 * dt) % 2 ^ 64) else s
  { s1 with
    now := if run then (s1.now + 5 * dt) % 2 ^ 64 else s1.now
    -- timers that stop (R152, R214)
    brg := if run ∧ s1.decanting then { s1.brg with stood := s1.brg.stood + 5 * dt } else s1.brg
    rte := if run ∧ (s1.decanting ∨ s1.safe) then { s1.rte with stood := s1.rte.stood + 5 * dt } else s1.rte
    aon := if s1.aon.xtal then { s1.aon with ns := s1.aon.ns + 5 * dt } else s1.aon
    age := if run ∧ s1.aon.xtal then { s1.age with onNs := s1.age.onNs + 5 * dt } else s1.age }

/-- A command that needs the device to run: after the time that passes before it, its effect `f` and what that sets off.
While the core is off or held in reset only time passes. -/
def State.running (s : State) (dt : Nat) (f : State → State) : Host.Outcome State Fault Refusal :=
  .next (if s.aon.mode = 0 then (f (s.elapse dt)).settle else s.elapse dt)

/-- A running-device command whose effect sets nothing off. -/
def State.alone (s : State) (dt : Nat) (f : State → State) : Host.Outcome State Fault Refusal :=
  .next (if s.aon.mode = 0 then f (s.elapse dt) else s.elapse dt)

/-- A command of the test access port, which answers in reset too, a scrapped part's included (R471, R479). -/
def State.tap (s : State) (dt : Nat) (f : State → State) : Host.Outcome State Fault Refusal :=
  .next (if s.aon.mode = 0 ∨ (s.aon.mode = 3 ∧ s.aon.main) then f (s.elapse dt) else s.elapse dt)

/-- A command that the AON island takes at any time. -/
def State.always (s : State) (dt : Nat) (f : State → State) : Host.Outcome State Fault Refusal :=
  .next (f (s.elapse dt)).settle

end Sys2Proof.Machine
end

