-- ==== Sys2Proof/Machine/Actions.lean ====
section
/-! DEFINITION. The effects of the commands that are register accesses with a row of their own, crema messages that arrive
one by one, and MCR commands whose blocks keep their work elsewhere. Each register access carries the class of the master
that makes it; the value is what the master writes, with the bit that names the row set in it. -/

namespace Sys2Proof.Machine

/-! ### Register accesses -/

/-- A write of a whole register outside BAR0: one of a data-mover function, by its host. -/
def State.fnSet (s : State) (key : Nat) (v : Word) : State :=
  let n := match regAt key with | some d => d.width / 8 | none => 8
  (s.putBytes none 2 key (leBytes n v.toNat)).2

/-- A write of a register of a ring: the failure rings lie in the data-mover functions (R45, R333). -/
def State.ringSet (s : State) (m : Master) (r : RingId) (key : Nat) (v : Word) : State :=
  match r with
  | .fail _ => s.fnSet key v
  | _ => s.regSet m key v

/-- MCR_DOORBELL (R40). -/
def State.mcrDoorbell (s : State) (m : Master) (index : Nat) : State := s.regSet m (R.CTL_PI 0) (BitVec.ofNat 64 index)

/-- RING_CI_WRITE (R40). -/
def State.ringCiWrite (s : State) (m : Master) (r : RingId) (index : Nat) : State := s.ringSet m r r.ci (BitVec.ofNat 64 index)

/-- RING_ENABLE: CFG is written with EN = 1 (R38, R43). -/
def State.ringEnable (s : State) (m : Master) (r : RingId) (v : Word) : State := s.ringSet m r r.cfg (F.CTL_CFG_EN.set v 1)

/-- RING_DISABLE: CFG is written with EN = 0 (R43). -/
def State.ringDisable (s : State) (m : Master) (r : RingId) (v : Word) : State := s.ringSet m r r.cfg (F.CTL_CFG_EN.set v 0)

/-- RING_OVF_CLEAR (R568). -/
def State.ringOvfClear (s : State) (m : Master) (r : RingId) : State := s.ringSet m r r.stat (F.CTL_STAT_OVF.set 0 1)

/-- REGISTER_WRITE: an access that its master class cannot make changes nothing (R15, R475). -/
def State.registerWrite (s : State) (m : Master) (sp : RegSpace) (addr : Nat) (bs : List Byte) : State :=
  if !accessOk m addr bs.length then s
  else match sp with
  | .mgmt => s.regWrite m addr bs
  | .dmv0 v => s.dmvWrite0 v addr bs
  | .dmv4 v => s.dmvWrite4 v addr bs

/-- READ_CLEAR: the read returns its bytes. -/
def State.registerRead (s : State) (m : Master) (sp : RegSpace) (addr len : Nat) : State :=
  if !accessOk m addr len then s
  else
    let (bs, s1) := match sp with
      | .mgmt => s.regRead m addr len
      | .dmv0 v => s.dmvRead0 v addr len
      | .dmv4 v => s.dmvRead4 v addr len
    s1.emit (.regData addr bs)

/-- SAMPLING_ENABLE: XBC_SMP_CFG_p is written with EN = 1 (R91). -/
def State.samplingEnable (s : State) (m : Master) (p : Nat) (v : Word) : State :=
  s.regSet m (R.XBC_SMP_CFG p) (F.XBC_SMP_CFG_EN.set v 1)

/-- SNAPSHOT: TMG_SNAP_SEL is written (R172). -/
def State.snapshotWrite (s : State) (m : Master) (clr : Bool) (q : Nat) : State :=
  s.regSet m R.TMG_SNAP_SEL (putFields 0 [(F.TMG_SNAP_SEL_CLR, b2n clr), (F.TMG_SNAP_SEL_QUEUE, q)])

/-- CFGRQ_GO (R225). -/
def State.cfgrqWrite (s : State) (m : Master) (p : Nat) (o : CfgrqOp) : State :=
  if s.role p ≠ 2 then s
  else s.regSet m (s.pk p R.PCP_CFGRQ) (putFields 0 [(F.PCP_CFGRQ_GO, 1), (F.PCP_CFGRQ_WRITE, b2n o.write), (F.PCP_CFGRQ_BE, o.be),
    (F.PCP_CFGRQ_BDF, o.bdf), (F.PCP_CFGRQ_DW, o.dw)])

/-- SWAP_CMD (R267). -/
def State.swapWrite (s : State) (m : Master) (p lane : Nat) : State :=
  if !s.isScango p then s
  else s.regSet m (s.sk p R.SGL_SWAP_CMD) (putFields 0 [(F.SGL_SWAP_CMD_GO, 1), (F.SGL_SWAP_CMD_LANE, lane)])

/-- ADMIN_DOWN and ADMIN_UP: SGLgg_CFG_s is written with ADMIN_UP 0 or 1, its other fields as they stand (R272, R273). -/
def State.adminWrite (s : State) (m : Master) (p : Nat) (up : Bool) : State :=
  if !s.isScango p then s
  else
    let k := s.sk p R.SGL_CFG
    s.regSet m k (F.SGL_CFG_ADMIN_UP.set (s.raw k) (b2n up))

/-- BITSLIP_DONE: LGgg_BITSLIP is written with DONE = 1, its other fields as they stand (R286). -/
def State.bitslipWrite (s : State) (m : Master) (g : Nat) : State :=
  s.regSet m (R.LG_BITSLIP g) (F.LG_BITSLIP_DONE.set (s.view (R.LG_BITSLIP g)) 1)

/-- EYE_SCAN_GO: LGgg_EYE_CFG is written with GO = 1 and a point; `margined` says that the lane is being margined (R294). -/
def State.eyeWrite (s : State) (m : Master) (g : Nat) (o : EyeOp) (margined : Bool) : State :=
  s.regSet m (R.LG_EYE_CFG g) (putFields 0 [(F.LG_EYE_CFG_GO, 1), (F.LG_EYE_CFG_LANE, o.lane), (F.LG_EYE_CFG_EYE, o.eye), (F.LG_EYE_CFG_H, o.h),
    (F.LG_EYE_CFG_V, o.v), (F.LG_EYE_CFG_DWELL, o.dwell)]) (some margined)

/-- PRBS_INJECT: LGgg_TEST_l is written with INJ = 1, its other fields as they stand (R296). -/
def State.prbsWrite (s : State) (m : Master) (g l : Nat) : State :=
  s.regSet m (R.LG_TEST g l) (F.LG_TEST_INJ.set (F.LG_TEST_PREEMPTED.set (s.raw (R.LG_TEST g l)) 0) 1)

/-- CONTEXT_ENABLE: WLG_CTX_CFG_c is written with EN = 1 (R325). -/
def State.contextEnable (s : State) (m : Master) (c : Nat) (v : Word) : State :=
  s.regSet m (R.WLG_CTX_CFG c) (F.WLG_CTX_CFG_EN.set v 1)

/-- CONTEXT_DISABLE: with EN = 0 (R325). -/
def State.contextDisable (s : State) (m : Master) (c : Nat) (v : Word) : State :=
  s.regSet m (R.WLG_CTX_CFG c) (F.WLG_CTX_CFG_EN.set v 0)

/-- PAD_RELEASE: ones written to HELD (R374). -/
def State.padRelease (s : State) (m : Master) (k bits : Nat) : State := s.regSet m (R.PWR_PAD_HOLD k) (BitVec.ofNat 64 bits)

/-- FAULT_FORCE (R421). -/
def State.faultForce (s : State) (m : Master) (j bits : Nat) : State := s.regSet m (R.FCR_FORCE j) (BitVec.ofNat 64 bits)

/-- LATCH_REARM: a 1 to FIRST_VALID of FCR_CFG, MODE as it stands (R405). -/
def State.latchRearm (s : State) (m : Master) : State :=
  s.regSet m R.FCR_CFG (putFields 0 [(F.FCR_CFG_MODE, s.fld R.FCR_CFG F.FCR_CFG_MODE), (F.FCR_CFG_FIRST_VALID, 1)])

/-- NONCE_READ (R470). -/
def State.nonceRead (s : State) (m : Master) : State :=
  let (bs, s1) := s.regRead m R.SEC_LC_NONCE 8
  s1.emit (.regData R.SEC_LC_NONCE bs)

/-- LIFECYCLE_GO (R473). -/
def State.lcWrite (s : State) (m : Master) (target : Nat) : State :=
  s.regSet m R.SEC_LC_CMD (putFields 0 [(F.SEC_LC_CMD_GO, 1), (F.SEC_LC_CMD_TARGET, target)])

/-- FLASH_ERASE (0), FLASH_PROGRAM (1) and FLASH_READ (2) (R459). -/
def State.flashWrite (s : State) (m : Master) (op sector : Nat) : State :=
  s.regSet m R.SEC_FLASH_CMD (putFields 0 [(F.SEC_FLASH_CMD_GO, 1), (F.SEC_FLASH_CMD_OP, op), (F.SEC_FLASH_CMD_SECTOR, sector)])

/-- LIFECYCLE_CHECK_DONE: a life-cycle change goes on with a cold reset, and the next start reports LIFECYCLE (R355, R473). -/
def State.lcDone (s : State) (obj : Option (List Byte)) (sigOk : Bool) : State :=
  match s.lcCheck obj sigOk with
  | (some _, s1) => s1.holdReset 3 0xA
  | (none, s1) => s1

/-- MPU_LOCK: a 1 to LOCK of MPU_SLOT_n, RIGHTS as it stands (R478). -/
def State.mpuLock (s : State) (m : Master) (n : Nat) : State :=
  s.regSet m (R.MPU_SLOT n) (F.MPU_SLOT_LOCK.set (s.raw (R.MPU_SLOT n)) 1)

/-- VIOLATION_REARM: a 1 to VALID of MPU_VIOL (R477). -/
def State.violRearm (s : State) (m : Master) : State := s.regSet m R.MPU_VIOL (F.MPU_VIOL_VALID.set 0 1)

/-- GB_CLR: AGE_CFG is written with GB_CLR = 1, its other fields as they stand (R490). -/
def State.gbClrWrite (s : State) (m : Master) : State := s.regSet m R.AGE_CFG (F.AGE_CFG_GB_CLR.set (s.raw R.AGE_CFG) 1)

/-- LEDGER_READ (R497). -/
def State.ledgerRead (s : State) (m : Master) (index : Nat) : State :=
  s.regSet m R.AGE_LEDGER_SEL (putFields 0 [(F.AGE_LEDGER_SEL_GO, 1), (F.AGE_LEDGER_SEL_INDEX, index)])

/-- CALENDAR_SET (R500). -/
def State.calendarSet (s : State) (m : Master) (seconds : Nat) : State := s.regSet m R.AGE_CAL_SEC (F.AGE_CAL_SEC_SECONDS.set 0 seconds)

/-- COUNTER_CLEAR: PMC_SEL_k is written with CLR = 1, its other fields as they stand (R507). -/
def State.counterClear (s : State) (m : Master) (k : Nat) : State :=
  s.regSet m (R.PMC_SEL k) (F.PMC_SEL_CLR.set (s.raw (R.PMC_SEL k)) 1)

/-- WARM_RESET: CLK_RESET is written with WARM = 1; `engOk` is the verdict on the engine image (R528). -/
def State.warmWrite (s : State) (m : Master) (engOk : Bool) : State := s.regSet m R.CLK_RESET (F.CLK_RESET_WARM.set 0 1) (some engOk)

/-! ### Crema messages (R264, R145, R197, R203) -/

/-- A link message of an accepted flit. -/
def State.linkMsg (s : State) (p : Nat) (f : State → State) : State :=
  if s.isScango p ∧ ((s.sglOf p).st = 2 ∨ (s.sglOf p).st = 3) then f s else s

/-- A routed message of an accepted flit. -/
def State.routedMsg (s : State) (p : Nat) (m : List Byte) : State := if s.isScango p then s.routedIn p m else s

/-- The bytes of a PWF_NOTE. -/
def NoteOp.bytes (o : NoteOp) : List Byte :=
  Pwf.note { cause := o.cause, tc := o.tc, reqId := o.reqId, dst := o.dst, src := o.src, reporter := o.reporter, length := o.length,
             seq := o.seq, offset := o.offset, pasid := o.pasid }

/-! ### MCR commands -/

/-- HARVEST (R327). -/
def State.doHarvest (s : State) (d : Desc) (op : HarvestOp) : State :=
  match s.mcrTake with
  | some (k, s1) => s1.harvestStart k d op
  | none => s

/-- FAULT_ACK (R419). -/
def State.doFaultAck (s : State) (d : Desc) (first n flags : Nat) : State :=
  match s.mcrTake with
  | some (k, s1) =>
    -- messages detected before are taken first (R420)
    let s1 := s1.fcr.inbox.foldl (fun s _ => s.faultNext) s1
    let (st, res, s2) := s1.faultAck first n flags
    s2.cmdDone k d st res
  | none => s

/-! ### Ports -/

/-- EGRESS_SELECT: the port starts one packet; as many aged or discarded heads as stand there go first (R83, R162). -/
def State.doEgress (s : State) (p : Nat) (ups : List Upset) : State := s.egressSelect p ups (s.xbc.pkts.length + 8)

end Sys2Proof.Machine
end

