-- ==== Sys2Proof/Machine/ExecAccesses.lean ====
section
/-! DEFINITION. Meanings: register accesses without a row of their own (R8 to R16, R57, R58). -/

namespace Sys2Proof.Machine

/-- REGISTER_WRITE: a register write (R8 to R14, R46, R58). -/
def execRegisterWrite (dt : Nat) (m : Master) (sp : RegSpace) (addr : Nat) (bytes : List Byte) (s : State) : Host.Outcome State Fault Refusal :=
  s.running dt fun s => s.registerWrite m sp addr bytes

/-- READ_CLEAR: a register read; RC fields are cleared (R8, R11). -/
def execReadClear (dt : Nat) (m : Master) (sp : RegSpace) (addr : Nat) (len : Nat) (s : State) : Host.Outcome State Fault Refusal :=
  s.running dt fun s => s.registerRead m sp addr len

end Sys2Proof.Machine
end

