-- ==== Sys2Proof/Machine/ExecAgeing.lean ====
section
/-! DEFINITION. Meanings: wear and ageing (18_wear.md). -/

namespace Sys2Proof.Machine

/-- CUPPING_ROUND: a cupping round; `ok`: the regulator accepts a frame (R488). -/
def execCuppingRound (dt : Nat) (x : Cup) (ok : Bool) (s : State) : Host.Outcome State Fault Refusal :=
  s.running dt fun s => s.doCupping x ok

/-- SLACK_SAMPLE: the 1 ms slack sample (R489). -/
def execSlackSample (dt : Nat) (worst : Int) (ok : Bool) (s : State) : Host.Outcome State Fault Refusal :=
  s.running dt fun s => s.doSlackSample worst ok

/-- GB_CLR: AGE_CFG is written with GB_CLR = 1 (R490). -/
def execGbClr (dt : Nat) (m : Master) (s : State) : Host.Outcome State Fault Refusal :=
  s.running dt fun s => s.gbClrWrite m

/-- ENGINE_WATCHDOG: an engine misses its watchdog (R402). -/
def execEngineWatchdog (dt : Nat) (e : Nat) (s : State) : Host.Outcome State Fault Refusal :=
  s.running dt fun s => s.doEngineWatchdog e

/-- ENGINE_STOP: a stopped engine's role passes on; `loaded`: the firmware held for spares passes its code (R492). -/
def execEngineStop (dt : Nat) (loaded : Bool) (s : State) : Host.Outcome State Fault Refusal :=
  s.running dt fun s => s.doEngineStop loaded

/-- ROW_REPAIR_DONE: a row has been copied to a spare (R495). -/
def execRowRepairDone (dt : Nat) (s : State) : Host.Outcome State Fault Refusal :=
  s.running dt fun s => s.doRowRepair

/-- LEDGER_SUMMARY: 24 h of power-on time have passed (R498). -/
def execLedgerSummary (dt : Nat) (s : State) : Host.Outcome State Fault Refusal :=
  s.running dt fun s => s.doLedgerSummary

/-- LEDGER_READ: AGE_LEDGER_SEL is written with GO = 1 (R497). -/
def execLedgerRead (dt : Nat) (m : Master) (index : Nat) (s : State) : Host.Outcome State Fault Refusal :=
  s.running dt fun s => s.ledgerRead m index

/-- CALENDAR_SET: AGE_CAL_SEC is written (R500). -/
def execCalendarSet (dt : Nat) (m : Master) (seconds : Nat) (s : State) : Host.Outcome State Fault Refusal :=
  s.running dt fun s => s.calendarSet m seconds

end Sys2Proof.Machine
end

