-- ==== Sys2Proof/Machine/ExecBridge.lean ====
section
/-! DEFINITION. Meanings: the fabric bridge (07_bridge.md). -/

namespace Sys2Proof.Machine

/-- XLT_MISS: the table read of a translation miss is complete (R184). -/
def execXltMiss (dt : Nat) (n : Nat) (s : State) : Host.Outcome State Fault Refusal :=
  s.running dt fun s => s.doXltMiss n

/-- BUSY_RETRY: the back-off of a tracker entry ends (R190). -/
def execBusyRetry (dt : Nat) (k : Nat) (s : State) : Host.Outcome State Fault Refusal :=
  s.running dt fun s => s.doBusyRetry k

/-- CPL_TIMEOUT: the completion timeout of a tracker entry (R192). -/
def execCplTimeout (dt : Nat) (k : Nat) (s : State) : Host.Outcome State Fault Refusal :=
  s.running dt fun s => s.doCplTimeout k

/-- QUARANTINE_END: the time of a quarantined tag ends (R194). -/
def execQuarantineEnd (dt : Nat) (inb : Bool) (unit : Nat) (tag : Nat) (s : State) : Host.Outcome State Fault Refusal :=
  s.running dt fun s => s.doQuarantineEnd inb unit tag

/-- PWF_NOTE: PWF_NOTE arrives on a link (R197, R198). -/
def execPwfNote (dt : Nat) (p : Nat) (op : NoteOp) (s : State) : Host.Outcome State Fault Refusal :=
  s.running dt fun s => s.routedMsg p op.bytes

/-- FAIL_RING_WRITE: a queued failure record is written (R321). -/
def execFailRingWrite (dt : Nat) (v : Fin 32) (s : State) : Host.Outcome State Fault Refusal :=
  s.running dt fun s => s.doFailRing v

/-- LOCK_REQ: LOCK_REQ arrives on a link (R200). -/
def execLockReq (dt : Nat) (p : Nat) (owner : Nat) (target : Nat) (s : State) : Host.Outcome State Fault Refusal :=
  s.running dt fun s => s.routedMsg p (lockMsg 0x0A 0 owner target 0)

/-- LOCK_GRANT: LOCK_GRANT arrives on a link (R200). -/
def execLockGrant (dt : Nat) (p : Nat) (owner : Nat) (target : Nat) (id : Nat) (s : State) : Host.Outcome State Fault Refusal :=
  s.running dt fun s => s.routedMsg p (lockMsg 0x0B 0 owner target id)

/-- LOCK_RELEASE: LOCK_RELEASE arrives on a link (R200). -/
def execLockRelease (dt : Nat) (p : Nat) (owner : Nat) (target : Nat) (id : Nat) (s : State) : Host.Outcome State Fault Refusal :=
  s.running dt fun s => s.routedMsg p (lockMsg 0x0C 0 owner target id)

/-- LOCK_BREAK: LOCK_BREAK arrives on a link (R202). -/
def execLockBreak (dt : Nat) (p : Nat) (reason : Nat) (owner : Nat) (target : Nat) (id : Nat) (s : State) : Host.Outcome State Fault Refusal :=
  s.running dt fun s => s.routedMsg p (lockMsg 0x0D reason owner target id)

/-- LOCK_TIMER: the arbiter's lock timer (R202). -/
def execLockTimer (dt : Nat) (s : State) : Host.Outcome State Fault Refusal :=
  s.running dt fun s => s.doLockTimer

/-- LOCK_GRANT_TIMEOUT: a virtual switch has waited 10 ms for LOCK_GRANT (R202). -/
def execLockGrantTimeout (dt : Nat) (v : Nat) (s : State) : Host.Outcome State Fault Refusal :=
  s.running dt fun s => s.doGrantTimeout v

/-- PREFETCH_FILL: the oldest answer to a prefetch fills its entry (R205). -/
def execPrefetchFill (dt : Nat) (s : State) : Host.Outcome State Fault Refusal :=
  s.running dt fun s => s.doPrefetchFill

/-- PREFETCH_EXPIRY: a prefetch entry has gone unused for 50 µs (R206). -/
def execPrefetchExpiry (dt : Nat) (j : Nat) (s : State) : Host.Outcome State Fault Refusal :=
  s.running dt fun s => s.doPrefetchExpiry j

/-- SIDEBAND_RATE_SEND: RATE has passed for a status value of the sideband bridge (R211). -/
def execSidebandRateSend (dt : Nat) (id : Nat) (s : State) : Host.Outcome State Fault Refusal :=
  s.running dt fun s => s.doRateSend id

end Sys2Proof.Machine
end

