-- ==== Sys2Proof/Machine/ExecClocks.lean ====
section
/-! DEFINITION. Meanings: resets, clocks and the DEV block (20, 21). -/

namespace Sys2Proof.Machine

/-- COLD_BOOT: a cold boot; `first`: AON was unpowered before (R529). -/
def execColdBoot (dt : Nat) (first : Bool) (x : BootIn) (s : State) : Host.Outcome State Fault Refusal :=
  s.always dt fun s => s.doColdBoot first x

/-- RESET_N: RESET_N has been low for `low` steps of 5 ns (R527). -/
def execResetN (dt : Nat) (low : Nat) (s : State) : Host.Outcome State Fault Refusal :=
  s.always dt fun s => s.doResetN low

/-- WARM_RESET: CLK_RESET is written with WARM = 1 (R528). -/
def execWarmReset (dt : Nat) (m : Master) (engOk : Bool) (s : State) : Host.Outcome State Fault Refusal :=
  s.running dt fun s => s.warmWrite m engOk

/-- REF_LOST: REF or the lock of the PLL is lost (R524). -/
def execRefLost (dt : Nat) (pll : Bool) (s : State) : Host.Outcome State Fault Refusal :=
  s.running dt fun s => s.doRefLost pll

/-- HOLDOVER_END: lock has not returned within 1 ms (R524). -/
def execHoldoverEnd (dt : Nat) (s : State) : Host.Outcome State Fault Refusal :=
  s.running dt fun s => s.doHoldoverEnd

/-- XTAL_FAIL: the crystal has stopped for 1 s (R522). -/
def execXtalFail (dt : Nat) (s : State) : Host.Outcome State Fault Refusal :=
  s.always dt fun s => s.doXtalFail

/-- PTM_CAPTURE: a PTM dialogue completes (R525). -/
def execPtmCapture (dt : Nat) (p : Nat) (master : Nat) (s : State) : Host.Outcome State Fault Refusal :=
  s.running dt fun s => s.doPtm p master

/-- THERMAL_SAMPLE: the sensors are read, in 1/16 °C (R540). -/
def execThermalSample (dt : Nat) (temps : List Int) (s : State) : Host.Outcome State Fault Refusal :=
  s.running dt fun s => s.doThermal temps

/-- MAIN_SUPPLY_LOSS: the main supplies fall or leave range (R362). -/
def execMainSupplyLoss (dt : Nat) (s : State) : Host.Outcome State Fault Refusal :=
  s.always dt fun s => s.doMainLoss

/-- VAUX_DROP: VAUX drops (R355). -/
def execVauxDrop (dt : Nat) (s : State) : Host.Outcome State Fault Refusal :=
  s.always dt fun s => s.doVauxDrop

/-- REF_RETURN: REF returns (R524). -/
def execRefReturn (dt : Nat) (x : BootIn) (s : State) : Host.Outcome State Fault Refusal :=
  s.always dt fun s => s.doRefReturn x

/-- XTAL_RESTART: the crystal runs again (R522). -/
def execXtalRestart (dt : Nat) (s : State) : Host.Outcome State Fault Refusal :=
  s.always dt fun s => s.doXtalRestart

end Sys2Proof.Machine
end

