-- ==== Sys2Proof/Machine/ExecCommands.lean ====
section
/-! DEFINITION. Meanings: the commands of the MCR (R47 to R66, and the chapters that own them). `d` is the FLAGS and TAG of the fetched descriptor. -/

namespace Sys2Proof.Machine

/-- NOP: NOP (R49). -/
def execNop (dt : Nat) (d : Desc) (s : State) : Host.Outcome State Fault Refusal :=
  s.running dt fun s => s.doNop d

/-- TABLE_WRITE: TABLE_WRITE; `data` is what the read of ADDR returns, none for an error or poisoned data (R50 to R52). -/
def execTableWrite (dt : Nat) (d : Desc) (op : TableOp) (data : Option (List Byte)) (s : State) : Host.Outcome State Fault Refusal :=
  s.running dt fun s => s.doTableWrite d op data

/-- TABLE_READ: TABLE_READ (R50). -/
def execTableRead (dt : Nat) (d : Desc) (op : TableOp) (s : State) : Host.Outcome State Fault Refusal :=
  s.running dt fun s => s.doTableRead d op

/-- COMMIT: COMMIT is fetched (R60). -/
def execCommit (dt : Nat) (d : Desc) (s : State) : Host.Outcome State Fault Refusal :=
  s.running dt fun s => s.doCommit d

/-- EPOCH_STUCK: WAIT_MAX has passed with DRAINING still 1 (R60). -/
def execEpochStuck (dt : Nat) (s : State) : Host.Outcome State Fault Refusal :=
  s.running dt fun s => s.doEpochStuck

/-- COMMIT_CHECKS: the shadow set is checked and installed (R60, R61). -/
def execCommitChecks (dt : Nat) (s : State) : Host.Outcome State Fault Refusal :=
  s.running dt fun s => s.doCommitChecks

/-- PORT_ADOPT_EPOCH: a port adopts the new epoch (R60). -/
def execPortAdoptEpoch (dt : Nat) (p : Nat) (s : State) : Host.Outcome State Fault Refusal :=
  s.running dt fun s => s.doPortAdopt p

/-- EPOCH_DRAINED: the previous epoch has drained (R60). -/
def execEpochDrained (dt : Nat) (s : State) : Host.Outcome State Fault Refusal :=
  s.running dt fun s => s.doEpochDrained

/-- SHADOW_DISCARD: SHADOW_DISCARD (R49). -/
def execShadowDiscard (dt : Nat) (d : Desc) (s : State) : Host.Outcome State Fault Refusal :=
  s.running dt fun s => s.doShadowDiscard d

/-- HARVEST: HARVEST (R327). -/
def execHarvest (dt : Nat) (d : Desc) (op : HarvestOp) (s : State) : Host.Outcome State Fault Refusal :=
  s.running dt fun s => s.doHarvest d op

/-- POWER_STATE_TRIM: POWER_STATE with TARGET RUN or TRIM (R365, R368). -/
def execPowerStateTrim (dt : Nat) (d : Desc) (target : Nat) (onMask : Nat) (s : State) : Host.Outcome State Fault Refusal :=
  s.running dt fun s => s.doTrim d target onMask

/-- POWER_STATE_KEEP_WARM: POWER_STATE with TARGET KEEP_WARM (R375). -/
def execPowerStateKeepWarm (dt : Nat) (d : Desc) (op : PowerOp) (s : State) : Host.Outcome State Fault Refusal :=
  s.running dt fun s => s.doKeepWarm d op.flags op.drainMs op.wakeAfter

/-- POWER_STATE_OFF: POWER_STATE with TARGET OFF (R377). -/
def execPowerStateOff (dt : Nat) (d : Desc) (op : PowerOp) (s : State) : Host.Outcome State Fault Refusal :=
  s.running dt fun s => s.doOff d op.flags op.drainMs

/-- DECANT_ARM: DECANT_ARM (R338). -/
def execDecantArm (dt : Nat) (d : Desc) (mode : Nat) (s : State) : Host.Outcome State Fault Refusal :=
  s.running dt fun s => s.doDecantArm d mode

/-- COUNTER_DUMP: COUNTER_DUMP (R511). -/
def execCounterDump (dt : Nat) (d : Desc) (set : Nat) (clear : Bool) (s : State) : Host.Outcome State Fault Refusal :=
  s.running dt fun s => s.doCounterDump d set clear

/-- FAULT_ACK: FAULT_ACK (R419). -/
def execFaultAck (dt : Nat) (d : Desc) (first : Nat) (n : Nat) (flags : Nat) (s : State) : Host.Outcome State Fault Refusal :=
  s.running dt fun s => s.doFaultAck d first n flags

/-- UNLISTED_OPCODE: an MCR descriptor with an unlisted opcode (R49). -/
def execUnlistedOpcode (dt : Nat) (d : Desc) (op : Nat) (s : State) : Host.Outcome State Fault Refusal :=
  s.running dt fun s => s.doUnlisted d op

/-- DESCRIPTOR_READ_ERROR: the read of an MCR descriptor fails (R48). -/
def execDescriptorReadError (dt : Nat) (s : State) : Host.Outcome State Fault Refusal :=
  s.running dt fun s => s.doDescError

end Sys2Proof.Machine
end

