-- ==== Sys2Proof/Machine/ExecCounters.lean ====
section
/-! DEFINITION. Meanings: performance counters (19_performance.md). -/

namespace Sys2Proof.Machine

/-- COUNTER_CLEAR: PMC_SEL_k is written with CLR = 1 (R507). -/
def execCounterClear (dt : Nat) (m : Master) (k : Nat) (s : State) : Host.Outcome State Fault Refusal :=
  s.running dt fun s => s.counterClear m k

/-- PERIODIC_DUMP: PERIOD_US has passed (R511). -/
def execPeriodicDump (dt : Nat) (s : State) : Host.Outcome State Fault Refusal :=
  s.running dt fun s => s.doPeriodicDump

/-- ENGINE_SAMPLE: PERIOD increments have been counted (R514). -/
def execEngineSample (dt : Nat) (skid : Nat) (work : Nat) (addr : Nat) (s : State) : Host.Outcome State Fault Refusal :=
  s.running dt fun s => s.doEngineSample skid work addr

end Sys2Proof.Machine
end

