-- ==== Sys2Proof/Machine/ExecDataMover.lean ====
section
/-! DEFINITION. Meanings: data-mover slices (11 R302 to R321). -/

namespace Sys2Proof.Machine

/-- SQ_DOORBELL: the host writes a submission producer index (R307). -/
def execSqDoorbell (dt : Nat) (n : Nat) (index : Nat) (s : State) : Host.Outcome State Fault Refusal :=
  s.running dt fun s => s.doSqDoorbell n index

/-- CQ_DOORBELL: the host writes a completion consumer index (R307). -/
def execCqDoorbell (dt : Nat) (n : Nat) (index : Nat) (s : State) : Host.Outcome State Fault Refusal :=
  s.running dt fun s => s.doCqDoorbell n index

/-- SLICE_ENABLE: EN of a slice is set (R307). -/
def execSliceEnable (dt : Nat) (n : Nat) (s : State) : Host.Outcome State Fault Refusal :=
  s.running dt fun s => s.doSliceEnable n

/-- SLICE_DISABLE: EN of a slice is cleared (R318). -/
def execSliceDisable (dt : Nat) (n : Nat) (s : State) : Host.Outcome State Fault Refusal :=
  s.running dt fun s => s.doSliceDisable n

/-- SLICE_ABORT: ABORT of a slice is written (R318). -/
def execSliceAbort (dt : Nat) (n : Nat) (s : State) : Host.Outcome State Fault Refusal :=
  s.running dt fun s => s.doSliceAbort n

/-- DESCRIPTOR_FETCH: a descriptor fetch completes with 64 bytes, or fails (R317). -/
def execDescriptorFetch (dt : Nat) (n : Nat) (bytes : List Byte) (err : Bool) (s : State) : Host.Outcome State Fault Refusal :=
  s.running dt fun s => s.doDescFetch n bytes err

/-- DESC_NOP: a NOP descriptor runs (R310). -/
def execDescNop (dt : Nat) (n : Nat) (s : State) : Host.Outcome State Fault Refusal :=
  s.running dt fun s => s.doDescNop n

/-- DESC_COPY: a COPY descriptor starts (R311). -/
def execDescCopy (dt : Nat) (n : Nat) (s : State) : Host.Outcome State Fault Refusal :=
  s.running dt fun s => s.doDescCopy n

/-- DESC_FILL: a FILL descriptor starts (R311). -/
def execDescFill (dt : Nat) (n : Nat) (s : State) : Host.Outcome State Fault Refusal :=
  s.running dt fun s => s.doDescFill n

/-- DESC_COMPARE: a COMPARE descriptor starts (R311). -/
def execDescCompare (dt : Nat) (n : Nat) (s : State) : Host.Outcome State Fault Refusal :=
  s.running dt fun s => s.doDescCompare n

/-- DESC_FENCE: a FENCE descriptor hands its fence over (R109). -/
def execDescFence (dt : Nat) (n : Nat) (s : State) : Host.Outcome State Fault Refusal :=
  s.running dt fun s => s.doDescFence n

/-- DESC_CHECKSUM: a CHECKSUM descriptor starts (R311). -/
def execDescChecksum (dt : Nat) (n : Nat) (s : State) : Host.Outcome State Fault Refusal :=
  s.running dt fun s => s.doDescChecksum n

/-- SLICE_ISSUE: the slice that wins the round robin issues a request (R306). -/
def execSliceIssue (dt : Nat) (s : State) : Host.Outcome State Fault Refusal :=
  s.running dt fun s => s.doSliceIssue

/-- DMV_READ_COMPLETION: the oldest answer to a read of a slice is used (R314). -/
def execDmvReadCompletion (dt : Nat) (s : State) : Host.Outcome State Fault Refusal :=
  s.running dt fun s => s.doReadCompletion

/-- DMV_READ_TIMEOUT: a read of a slice has reached its timeout (R312). -/
def execDmvReadTimeout (dt : Nat) (n : Nat) (d : Nat) (part : Nat) (s : State) : Host.Outcome State Fault Refusal :=
  s.running dt fun s => s.doReadTimeout n d part

/-- CQ_ENTRY_WRITE: the entry of a finished descriptor is written (R313). -/
def execCqEntryWrite (dt : Nat) (n : Nat) (s : State) : Host.Outcome State Fault Refusal :=
  s.running dt fun s => s.doCqEntry n

/-- DMV_FLR: Function Level Reset of a data-mover function (R320). -/
def execDmvFlr (dt : Nat) (v : Nat) (s : State) : Host.Outcome State Fault Refusal :=
  s.running dt fun s => s.doDmvFlr v

/-- DMV_BUS_MASTER_CLEAR: its Bus Master Enable is cleared (R319). -/
def execDmvBusMasterClear (dt : Nat) (v : Nat) (s : State) : Host.Outcome State Fault Refusal :=
  s.running dt fun s => s.doDmvBmeClear v

/-- DMV_BUS_MASTER_SET: its Bus Master Enable is set again (R319). -/
def execDmvBusMasterSet (dt : Nat) (v : Nat) (s : State) : Host.Outcome State Fault Refusal :=
  s.running dt fun s => s.doDmvBmeSet v

end Sys2Proof.Machine
end

