-- ==== Sys2Proof/Machine/ExecDecanting.lean ====
section
/-! DEFINITION. Meanings: decanting and keep-warm (12_decanting_and_keep_warm.md). -/

namespace Sys2Proof.Machine

/-- PWRFAIL_FALL: PWRFAIL_N falls (R339). -/
def execPwrfailFall (dt : Nat) (s : State) : Host.Outcome State Fault Refusal :=
  s.always dt fun s => s.doPwrfailFall

/-- PWRFAIL_CONFIRM: PWRFAIL_N has stayed low for DEGLITCH; `vaux`: VAUX is within range (R339, R342). -/
def execPwrfailConfirm (dt : Nat) (vaux : Bool) (s : State) : Host.Outcome State Fault Refusal :=
  s.running dt fun s => s.doPwrfailConfirm vaux

/-- DRAIN_END: no drainable write is left (R344). -/
def execDrainEnd (dt : Nat) (s : State) : Host.Outcome State Fault Refusal :=
  s.running dt fun s => s.doDrainEnd

/-- DRAIN_DEADLINE: the drain deadline passes (R342). -/
def execDrainDeadline (dt : Nat) (s : State) : Host.Outcome State Fault Refusal :=
  s.running dt fun s => s.doDrainDeadline

/-- PORT_FLUSH: the decant flush of a persistent port is sent (R346). -/
def execPortFlush (dt : Nat) (p : Nat) (s : State) : Host.Outcome State Fault Refusal :=
  s.running dt fun s => s.doPortFlush p

/-- DECANT_FLUSH_ANSWER: the oldest answer to a decant flush (R347). -/
def execDecantFlushAnswer (dt : Nat) (s : State) : Host.Outcome State Fault Refusal :=
  s.running dt fun s => s.doDecantAnswer

/-- BUDGET_END: the flushes are answered, or BUDGET_US has passed (R342). -/
def execBudgetEnd (dt : Nat) (s : State) : Host.Outcome State Fault Refusal :=
  s.running dt fun s => s.doBudgetEnd

/-- SEAL: the carafe is saved and sealed (R351). -/
def execSeal (dt : Nat) (s : State) : Host.Outcome State Fault Refusal :=
  s.running dt fun s => s.doSeal

/-- KEEP_WARM_ENTRY: pads are latched and the core goes off (R342). -/
def execKeepWarmEntry (dt : Nat) (s : State) : Host.Outcome State Fault Refusal :=
  s.running dt fun s => s.doKeepWarmEntry

/-- KEEP_EXPIRED: KEEP_MAX_H hours have passed (R353). -/
def execKeepExpired (dt : Nat) (s : State) : Host.Outcome State Fault Refusal :=
  s.always dt fun s => s.doKeepExpired

/-- KEEP_WARM_EXIT: the exit from keep-warm; `macOk`: the seal holds, `falls`: PWRFAIL_N falls again (R354, R355). -/
def execKeepWarmExit (dt : Nat) (x : BootIn) (macOk : Bool) (falls : Bool) (s : State) : Host.Outcome State Fault Refusal :=
  s.always dt fun s => s.doKeepWarmExit x macOk falls

/-- DECANT_ABANDONED: an entry of the abandoned-work list is delivered (R349). -/
def execDecantAbandoned (dt : Nat) (s : State) : Host.Outcome State Fault Refusal :=
  s.running dt fun s => s.doDecantAbandoned

end Sys2Proof.Machine
end

