-- ==== Sys2Proof/Machine/ExecFaultRows.lean ====
section
/-! DEFINITION. Meanings: fault collection (15_faults.md). -/

namespace Sys2Proof.Machine

/-- FAULT_MESSAGE: FCR takes a fault message (R407). -/
def execFaultMessage (dt : Nat) (x : FaultEvent) (s : State) : Host.Outcome State Fault Refusal :=
  s.running dt fun s => s.doFaultMessage x

/-- COUNT_WINDOW_CLOSE: the windows of counting entries that are over close (R408). -/
def execCountWindowClose (dt : Nat) (s : State) : Host.Outcome State Fault Refusal :=
  s.running dt fun s => s.doWindowClose

/-- FAULT_FORCE: ones are written to FCR_FORCE_j (R421). -/
def execFaultForce (dt : Nat) (m : Master) (j : Nat) (bits : Nat) (s : State) : Host.Outcome State Fault Refusal :=
  s.running dt fun s => s.faultForce m j bits

/-- LATCH_REARM: a 1 is written to FIRST_VALID (R405). -/
def execLatchRearm (dt : Nat) (m : Master) (s : State) : Host.Outcome State Fault Refusal :=
  s.running dt fun s => s.latchRearm m

end Sys2Proof.Machine
end

