-- ==== Sys2Proof/Machine/ExecFence.lean ====
section
/-! DEFINITION. Meanings: commit fences (04_mirroring_and_fences.md). -/

namespace Sys2Proof.Machine

/-- FENCE_MESSAGE: a commit-fence message at the data-mover function of a virtual switch (R108). -/
def execFenceMessage (dt : Nat) (v : Nat) (tc : Nat) (lenDw : Nat) (op : FenceOp) (s : State) : Host.Outcome State Fault Refusal :=
  s.running dt fun s => s.fenceMessage v tc lenDw op

/-- FENCE_TAKE: fence `n`, by arrival, is taken (R112). -/
def execFenceTake (dt : Nat) (n : Nat) (s : State) : Host.Outcome State Fault Refusal :=
  s.running dt fun s => s.doFenceTake n

/-- FLUSH_SEND: the flush of a replica of a fence is sent, or the replica fails (R113). -/
def execFlushSend (dt : Nat) (n : Nat) (r : Nat) (s : State) : Host.Outcome State Fault Refusal :=
  s.running dt fun s => s.doFlushSend n r

/-- FLUSH_COMPLETION: the oldest answer to a flush sets its replica's cause (R116). -/
def execFlushCompletion (dt : Nat) (s : State) : Host.Outcome State Fault Refusal :=
  s.running dt fun s => s.doFlushCompletion

/-- FENCE_RECORD_WRITE: the record of a finished fence is written (R119). -/
def execFenceRecordWrite (dt : Nat) (n : Nat) (s : State) : Host.Outcome State Fault Refusal :=
  s.running dt fun s => s.doFenceRecord n

end Sys2Proof.Machine
end

