-- ==== Sys2Proof/Machine/ExecLanes.lean ====
section
/-! DEFINITION. Meanings: lanes (10_lane_groups.md). -/

namespace Sys2Proof.Machine

/-- CDR_LOCK: CDR locks on a lane (R284). -/
def execCdrLock (dt : Nat) (g : Nat) (l : Nat) (s : State) : Host.Outcome State Fault Refusal :=
  s.running dt fun s => s.doCdrLock g l

/-- ADAPTED: receiver adaptation converges to coefficients (R284). -/
def execAdapted (dt : Nat) (g : Nat) (l : Nat) (coef : List Int) (s : State) : Host.Outcome State Fault Refusal :=
  s.running dt fun s => s.doAdapted g l coef

/-- BITSLIP_TRY: a position of the bit-slip search has been tried (R285). -/
def execBitslipTry (dt : Nat) (g : Nat) (l : Nat) (seen : SlipSeen) (s : State) : Host.Outcome State Fault Refusal :=
  s.running dt fun s => s.doBitslipTry g l seen

/-- BITSLIP_DONE: LGgg_BITSLIP is written with DONE = 1 (R286). -/
def execBitslipDone (dt : Nat) (m : Master) (g : Nat) (s : State) : Host.Outcome State Fault Refusal :=
  s.running dt fun s => s.bitslipWrite m g

/-- TXEQ_ROUND: a round of transmit equalisation ends (R289, R290). -/
def execTxeqRound (dt : Nat) (g : Nat) (l : Nat) (req : TxEqReq) (best : Bool) (s : State) : Host.Outcome State Fault Refusal :=
  s.running dt fun s => s.doTxeqRound g l req best

/-- ALIGN_DONE: alignment is done; `tx` is the partner's SPARE_FOR (R284). -/
def execAlignDone (dt : Nat) (p : Nat) (tx : Option Nat) (s : State) : Host.Outcome State Fault Refusal :=
  s.running dt fun s => s.doAlignDone p tx

/-- BRINGUP_TIMEOUT: a step of bring-up overruns (R284). -/
def execBringupTimeout (dt : Nat) (p : Nat) (s : State) : Host.Outcome State Fault Refusal :=
  s.running dt fun s => s.doBringupTmo p

/-- DRIFT_CHECK: a lane's adaptation is compared with its snapshot (R293). -/
def execDriftCheck (dt : Nat) (g : Nat) (l : Nat) (coef : List Int) (e : Nat) (s : State) : Host.Outcome State Fault Refusal :=
  s.running dt fun s => s.doDriftCheck g l coef e

/-- FREEZE_END: the freeze after a revert ends (R293). -/
def execFreezeEnd (dt : Nat) (g : Nat) (l : Nat) (s : State) : Host.Outcome State Fault Refusal :=
  s.running dt fun s => s.doFreezeEnd g l

/-- EYE_SCAN_GO: LGgg_EYE_CFG is written with GO = 1 (R294). -/
def execEyeScanGo (dt : Nat) (m : Master) (g : Nat) (op : EyeOp) (margined : Bool) (s : State) : Host.Outcome State Fault Refusal :=
  s.running dt fun s => s.eyeWrite m g op margined

/-- EYE_POINT_DONE: an eye-scan point ends (R294). -/
def execEyePointDone (dt : Nat) (g : Nat) (errors : Nat) (aborted : Bool) (s : State) : Host.Outcome State Fault Refusal :=
  s.running dt fun s => s.doEyeDone g errors aborted

/-- PRBS_INJECT: LGgg_TEST_l is written with INJ = 1 (R296). -/
def execPrbsInject (dt : Nat) (m : Master) (g : Nat) (l : Nat) (s : State) : Host.Outcome State Fault Refusal :=
  s.running dt fun s => s.prbsWrite m g l

/-- CDR_LOST: a lane loses CDR lock (R301). -/
def execCdrLost (dt : Nat) (g : Nat) (l : Nat) (s : State) : Host.Outcome State Fault Refusal :=
  s.running dt fun s => s.doCdrLost g l

/-- PRBS_CHECKER_LOCK: a PRBS checker locks (R296). -/
def execPrbsCheckerLock (dt : Nat) (g : Nat) (l : Nat) (s : State) : Host.Outcome State Fault Refusal :=
  s.running dt fun s => s.doPrbsLock g l

/-- PRBS_CHECKER_UNLOCK: a PRBS checker unlocks, having counted errors (R296). -/
def execPrbsCheckerUnlock (dt : Nat) (g : Nat) (l : Nat) (errors : Nat) (s : State) : Host.Outcome State Fault Refusal :=
  s.running dt fun s => s.doPrbsUnlock g l errors

end Sys2Proof.Machine
end

