-- ==== Sys2Proof/Machine/ExecPcie.lean ====
section
/-! DEFINITION. Meanings: PCI Express ports (08_pcie_ports.md). -/

namespace Sys2Proof.Machine

/-- CFGRQ_GO: PCPgg_CFGRQ_s is written with GO = 1 (R225). -/
def execCfgrqGo (dt : Nat) (m : Master) (p : Nat) (op : CfgrqOp) (s : State) : Host.Outcome State Fault Refusal :=
  s.running dt fun s => s.cfgrqWrite m p op

/-- CFGRQ_DONE: the completion of a configuration request (R225). -/
def execCfgrqDone (dt : Nat) (p : Nat) (st : Nat) (data : Nat) (s : State) : Host.Outcome State Fault Refusal :=
  s.running dt fun s => s.doCfgrqDone p st data

/-- CFGRQ_TIMEOUT: 50 ms have passed without it (R225). -/
def execCfgrqTimeout (dt : Nat) (p : Nat) (s : State) : Host.Outcome State Fault Refusal :=
  s.running dt fun s => s.doCfgrqTmo p

/-- PCIE_LINK_UP: a link comes up (R229). -/
def execPcieLinkUp (dt : Nat) (p : Nat) (x : LinkUpOp) (s : State) : Host.Outcome State Fault Refusal :=
  s.running dt fun s => s.doLinkUp p x.rate x.lanes x.flit x.ph x.pd x.nph x.npd x.ch x.cd

/-- PCIE_LINK_DOWN: a link goes down (R230). -/
def execPcieLinkDown (dt : Nat) (p : Nat) (s : State) : Host.Outcome State Fault Refusal :=
  s.running dt fun s => s.doLinkDown p

/-- ASPM_L1_ENTRY: a port enters L1 (R231). -/
def execAspmL1Entry (dt : Nat) (p : Nat) (s : State) : Host.Outcome State Fault Refusal :=
  s.running dt fun s => s.doL1Entry p

/-- L0P_NARROW: a port narrows under L0p (R233). -/
def execL0pNarrow (dt : Nat) (p : Nat) (lanes : Nat) (s : State) : Host.Outcome State Fault Refusal :=
  s.running dt fun s => s.doL0pNarrow p lanes

/-- PERST_N: PERST_N of an upstream port falls or rises (R224, R234). -/
def execPerstN (dt : Nat) (p : Nat) (low : Bool) (s : State) : Host.Outcome State Fault Refusal :=
  s.running dt fun s => s.doPerstN p low

/-- HOT_RESET: hot reset on an upstream port (R234). -/
def execHotReset (dt : Nat) (p : Nat) (s : State) : Host.Outcome State Fault Refusal :=
  s.running dt fun s => s.doHotReset p

/-- SECONDARY_BUS_RESET: Secondary Bus Reset of a downstream port is set (R234). -/
def execSecondaryBusReset (dt : Nat) (p : Nat) (s : State) : Host.Outcome State Fault Refusal :=
  s.running dt fun s => s.secondaryReset p

/-- VS_READY: a virtual switch is ready (R224). -/
def execVsReady (dt : Nat) (v : Nat) (s : State) : Host.Outcome State Fault Refusal :=
  s.running dt fun s => s.doVsReady v

/-- MGMT_FLR: Function Level Reset of the management function (R65, R235). -/
def execMgmtFlr (dt : Nat) (s : State) : Host.Outcome State Fault Refusal :=
  s.running dt fun s => s.doMgmtFlr

/-- BUS_MASTER_CLEAR: Bus Master Enable of a switch function is cleared (R236). -/
def execBusMasterClear (dt : Nat) (p : Nat) (s : State) : Host.Outcome State Fault Refusal :=
  s.running dt fun s => s.doBmeClear p

/-- DPC_RELEASE: DPC Trigger Status is cleared (R240). -/
def execDpcRelease (dt : Nat) (p : Nat) (s : State) : Host.Outcome State Fault Refusal :=
  s.running dt fun s => s.doDpcRelease p

/-- SLOT_PERST_DEASSERT: PERST_DLY has passed since power-good (R238). -/
def execSlotPerstDeassert (dt : Nat) (p : Nat) (s : State) : Host.Outcome State Fault Refusal :=
  s.running dt fun s => s.doPerstDeassert p

/-- PCIE_REPLAY_TIMEOUT: a replay timer expires, or the replay number rolls over (R241). -/
def execPcieReplayTimeout (dt : Nat) (p : Nat) (rollover : Bool) (s : State) : Host.Outcome State Fault Refusal :=
  s.running dt fun s => s.doReplayTmo p rollover

end Sys2Proof.Machine
end

