-- ==== Sys2Proof/Machine/ExecPowerDomains.lean ====
section
/-! DEFINITION. Meanings: power domains (13_power_states_and_domains.md). -/

namespace Sys2Proof.Machine

/-- STOP_ANSWER: a block answers STOP (R368). -/
def execStopAnswer (dt : Nat) (s : State) : Host.Outcome State Fault Refusal :=
  s.running dt fun s => s.doStopAnswer

/-- STOP_TIMEOUT: a block does not answer STOP (R368). -/
def execStopTimeout (dt : Nat) (s : State) : Host.Outcome State Fault Refusal :=
  s.running dt fun s => s.doStopTimeout

/-- DOMAIN_WAKE_READY: a ready signal arrives; `test` is the outcome of the memory test (R371). -/
def execDomainWakeReady (dt : Nat) (test : Bool) (s : State) : Host.Outcome State Fault Refusal :=
  s.running dt fun s => s.doWakeReady test

/-- WAKE_TIMEOUT: a ready signal is late (R372). -/
def execWakeTimeout (dt : Nat) (s : State) : Host.Outcome State Fault Refusal :=
  s.running dt fun s => s.doWakeTimeout

/-- PAD_RELEASE: ones are written to HELD (R374). -/
def execPadRelease (dt : Nat) (m : Master) (k : Nat) (bits : Nat) (s : State) : Host.Outcome State Fault Refusal :=
  s.running dt fun s => s.padRelease m k bits

/-- WAKE_GPIO: the WAKE ball reaches its active level (R376). -/
def execWakeGpio (dt : Nat) (s : State) : Host.Outcome State Fault Refusal :=
  s.always dt fun s => s.doWakeGpio

/-- CALENDAR_WAKE: WAKE_AFTER_S has passed (R376). -/
def execCalendarWake (dt : Nat) (s : State) : Host.Outcome State Fault Refusal :=
  s.always dt fun s => s.doCalendarWake

/-- PWRFAIL_RISE: PWRFAIL_N rises (R376). -/
def execPwrfailRise (dt : Nat) (s : State) : Host.Outcome State Fault Refusal :=
  s.always dt fun s => s.doPwrfailRise

end Sys2Proof.Machine
end

