-- ==== Sys2Proof/Machine/ExecPowerManagement.lean ====
section
/-! DEFINITION. Meanings: what wakes a PCI Express port (R231). -/

namespace Sys2Proof.Machine

/-- ASPM_L1_EXIT: a port leaves L1 (R231). -/
def execAspmL1Exit (dt : Nat) (p : Nat) (s : State) : Host.Outcome State Fault Refusal :=
  s.running dt fun s => s.doL1Exit p

end Sys2Proof.Machine
end

