-- ==== Sys2Proof/Machine/ExecRings.lean ====
section
/-! DEFINITION. Meanings: the rings of the control model (02_control_model.md R37 to R44, R568). -/

namespace Sys2Proof.Machine

/-- MCR_DOORBELL: a master writes CTL_MCR_PI (R40). -/
def execMcrDoorbell (dt : Nat) (m : Master) (index : Nat) (s : State) : Host.Outcome State Fault Refusal :=
  s.running dt fun s => s.mcrDoorbell m index

/-- RING_CI_WRITE: the consumer index of a device-written ring is written (R40). -/
def execRingCiWrite (dt : Nat) (m : Master) (r : RingId) (index : Nat) (s : State) : Host.Outcome State Fault Refusal :=
  s.running dt fun s => s.ringCiWrite m r index

/-- RING_ENABLE: CFG of a ring is written with EN = 1 (R38, R43). -/
def execRingEnable (dt : Nat) (m : Master) (r : RingId) (v : Word) (s : State) : Host.Outcome State Fault Refusal :=
  s.running dt fun s => s.ringEnable m r v

/-- RING_DISABLE: CFG of a ring is written with EN = 0 (R43). -/
def execRingDisable (dt : Nat) (m : Master) (r : RingId) (v : Word) (s : State) : Host.Outcome State Fault Refusal :=
  s.running dt fun s => s.ringDisable m r v

/-- RING_STOPPED: work begun on a disabled ring has finished (R43). -/
def execRingStopped (dt : Nat) (r : RingId) (s : State) : Host.Outcome State Fault Refusal :=
  s.running dt fun s => s.doRingStopped r

/-- IRQ_TIME_EXPIRY: IRQ_TIME has passed since the first unsignalled record or entry (R44, R309). -/
def execIrqTimeExpiry (dt : Nat) (src : IrqSrc) (s : State) : Host.Outcome State Fault Refusal :=
  s.running dt fun s => s.doIrqTime src

/-- RING_OVF_CLEAR: OVF of a ring is cleared (R568). -/
def execRingOvfClear (dt : Nat) (m : Master) (r : RingId) (s : State) : Host.Outcome State Fault Refusal :=
  s.running dt fun s => s.ringOvfClear m r

/-- HELD_RECORD_WRITE: a record held for a full ring is written once a slot is free (R42). -/
def execHeldRecordWrite (dt : Nat) (r : RingId) (s : State) : Host.Outcome State Fault Refusal :=
  s.running dt fun s => s.doHeldRecord r

end Sys2Proof.Machine
end

