-- ==== Sys2Proof/Machine/ExecRouting.lean ====
section
/-! DEFINITION. Meanings: routing, ordering and traffic management (05, 06). -/

namespace Sys2Proof.Machine

/-- GAP_TIMEOUT: the gap timer of a resequencer entry (R142). -/
def execGapTimeout (dt : Nat) (w : Nat) (s : State) : Host.Outcome State Fault Refusal :=
  s.running dt fun s => s.gapTimeout w

/-- SEQ_SKIP: SEQ_SKIP arrives on a link (R146). -/
def execSeqSkip (dt : Nat) (p : Nat) (src : Nat) (dst : Nat) (tc : Nat) (seq : Nat) (s : State) : Host.Outcome State Fault Refusal :=
  s.running dt fun s => s.routedMsg p (skipMsg dst src tc seq)

/-- ESCAPE: THR_NS has passed at the head of a Scango queue (R148). -/
def execEscape (dt : Nat) (q : Nat) (s : State) : Host.Outcome State Fault Refusal :=
  s.running dt fun s => s.escape q

/-- WHEEL_SLOT: a timing wheel reaches a slot (R165). -/
def execWheelSlot (dt : Nat) (q : Nat) (slot : Nat) (s : State) : Host.Outcome State Fault Refusal :=
  s.running dt fun s => s.wheelSlot q slot

/-- POSTED_DELAY: a red write held at its lookup is metered again (R170). -/
def execPostedDelay (dt : Nat) (n : Nat) (s : State) : Host.Outcome State Fault Refusal :=
  s.running dt fun s => s.postedResume n

/-- HISTOGRAM_SAMPLE: the queues of a quadrant are sampled (R171). -/
def execHistogramSample (dt : Nat) (q : Nat) (s : State) : Host.Outcome State Fault Refusal :=
  s.running dt fun s => s.doHistogram q

/-- SNAPSHOT: TMG_SNAP_SEL is written (R172). -/
def execSnapshot (dt : Nat) (m : Master) (clr : Bool) (q : Nat) (s : State) : Host.Outcome State Fault Refusal :=
  s.running dt fun s => s.snapshotWrite m clr q

end Sys2Proof.Machine
end

