-- ==== Sys2Proof/Machine/ExecScangoLink.lean ====
section
/-! DEFINITION. Meanings: Scango links (09_scango_link.md). -/

namespace Sys2Proof.Machine

/-- FLIT_SEND: a transmitter starts a flit; `bad` is an error of the data read for it (R256, R262). -/
def execFlitSend (dt : Nat) (p : Nat) (bad : Bool) (s : State) : Host.Outcome State Fault Refusal :=
  s.running dt fun s => s.doFlitSend p bad

/-- FLIT_RECEIVE: the 256 bytes of a flit arrive (R252). -/
def execFlitReceive (dt : Nat) (p : Nat) (raw : List Byte) (s : State) : Host.Outcome State Fault Refusal :=
  s.running dt fun s => s.doFlitReceive p raw

/-- ACK: a standalone ACK or NAK (R254). -/
def execAck (dt : Nat) (p : Nat) (nak : Bool) (a : Nat) (s : State) : Host.Outcome State Fault Refusal :=
  s.running dt fun s => s.linkMsg p fun s => s.ackMsgIn p a nak

/-- REPLAY_TIMER: the replay timer (R255). -/
def execReplayTimer (dt : Nat) (p : Nat) (s : State) : Host.Outcome State Fault Refusal :=
  s.running dt fun s => s.doReplayTimer p

/-- CREDIT: a CREDIT message (R260). -/
def execCredit (dt : Nat) (p : Nat) (first : Nat) (cc : Nat) (vals : List (Nat × Nat)) (s : State) : Host.Outcome State Fault Refusal :=
  s.running dt fun s => s.linkMsg p fun s => s.creditIn p first cc vals

/-- CREDIT_INIT: a CREDIT_INIT message (R265). -/
def execCreditInit (dt : Nat) (p : Nat) (first : Nat) (cc : Nat) (vals : List (Nat × Nat)) (s : State) : Host.Outcome State Fault Refusal :=
  s.running dt fun s => s.linkMsg p fun s => s.creditInitIn p first cc vals

/-- LINK_PARAM: a LINK_PARAM message (R265). -/
def execLinkParam (dt : Nat) (p : Nat) (fid : Nat) (partner : Nat) (s : State) : Host.Outcome State Fault Refusal :=
  s.running dt fun s => s.linkMsg p fun s => s.linkParamIn p fid partner

/-- LINK_INIT_TIMEOUT: 10 µs have passed in INIT (R265). -/
def execLinkInitTimeout (dt : Nat) (p : Nat) (s : State) : Host.Outcome State Fault Refusal :=
  s.running dt fun s => s.doInitTmo p

/-- SWAP_CMD: SGLgg_SWAP_CMD_s is written with GO = 1 (R267). -/
def execSwapCmd (dt : Nat) (m : Master) (p : Nat) (lane : Nat) (s : State) : Host.Outcome State Fault Refusal :=
  s.running dt fun s => s.swapWrite m p lane

/-- LANE_SWAP: LANE_SWAP arrives (R268). -/
def execLaneSwap (dt : Nat) (p : Nat) (lane : Nat) (s : State) : Host.Outcome State Fault Refusal :=
  s.running dt fun s => s.linkMsg p fun s => s.laneSwapIn p lane

/-- LANE_SWAP_ACK: LANE_SWAP_ACK arrives (R268). -/
def execLaneSwapAck (dt : Nat) (p : Nat) (lane : Nat) (result : Nat) (fsn : Nat) (s : State) : Host.Outcome State Fault Refusal :=
  s.running dt fun s => s.linkMsg p fun s => s.laneSwapAckIn p lane result fsn

/-- LANE_SWAP_DONE: LANE_SWAP_DONE arrives (R268). -/
def execLaneSwapDone (dt : Nat) (p : Nat) (lane : Nat) (s : State) : Host.Outcome State Fault Refusal :=
  s.running dt fun s => s.linkMsg p fun s => s.laneSwapDoneIn p lane

/-- LANE_SWAP_TIMEOUT: 50 µs have passed without an acknowledgement (R269). -/
def execLaneSwapTimeout (dt : Nat) (p : Nat) (s : State) : Host.Outcome State Fault Refusal :=
  s.running dt fun s => s.doSwapTmo p

/-- RETRAIN_PATTERN: a receiver recognises the retrain pattern (R283). -/
def execRetrainPattern (dt : Nat) (op : PatternSeen) (s : State) : Host.Outcome State Fault Refusal :=
  s.running dt fun s => s.doRetrainPattern op.port op.lanes

/-- RETRAIN_DONE: a retrain completes (R288). -/
def execRetrainDone (dt : Nat) (p : Nat) (s : State) : Host.Outcome State Fault Refusal :=
  s.running dt fun s => s.doRetrainDone p

/-- RETRAIN_TIMEOUT: a retrain overruns, or too many follow each other (R270). -/
def execRetrainTimeout (dt : Nat) (p : Nat) (s : State) : Host.Outcome State Fault Refusal :=
  s.running dt fun s => s.doRetrainTmo p

/-- ALIGNMENT_LOSS: a receiver loses alignment, on one lane or on more (R271). -/
def execAlignmentLoss (dt : Nat) (p : Nat) (lane : Nat) (more : Bool) (s : State) : Host.Outcome State Fault Refusal :=
  s.running dt fun s => s.doAlignLoss p lane more

/-- BRINGUP_RETRY: a down link tries bring-up again (R273). -/
def execBringupRetry (dt : Nat) (p : Nat) (s : State) : Host.Outcome State Fault Refusal :=
  s.running dt fun s => s.doBringupRetry p

/-- ADMIN_DOWN: ADMIN_UP is written 0 (R272). -/
def execAdminDown (dt : Nat) (m : Master) (p : Nat) (s : State) : Host.Outcome State Fault Refusal :=
  s.running dt fun s => s.adminWrite m p false

/-- ADMIN_UP: ADMIN_UP is written 1 (R273). -/
def execAdminUp (dt : Nat) (m : Master) (p : Nat) (s : State) : Host.Outcome State Fault Refusal :=
  s.running dt fun s => s.adminWrite m p true

end Sys2Proof.Machine
end

