-- ==== Sys2Proof/Machine/ExecSecurityRows.lean ====
section
/-! DEFINITION. Meanings: security (17_security.md). -/

namespace Sys2Proof.Machine

/-- NONCE_READ: SEC_LC_NONCE is read (R470). -/
def execNonceRead (dt : Nat) (m : Master) (s : State) : Host.Outcome State Fault Refusal :=
  s.running dt fun s => s.nonceRead m

/-- LIFECYCLE_GO: SEC_LC_CMD is written with GO = 1 (R473). -/
def execLifecycleGo (dt : Nat) (m : Master) (target : Nat) (s : State) : Host.Outcome State Fault Refusal :=
  s.running dt fun s => s.lcWrite m target

/-- LIFECYCLE_CHECK_DONE: the check of an object ends; none: its read failed (R473). -/
def execLifecycleCheckDone (dt : Nat) (obj : Option (List Byte)) (sigOk : Bool) (s : State) : Host.Outcome State Fault Refusal :=
  s.running dt fun s => s.lcDone obj sigOk

/-- FLASH_ERASE: SEC_FLASH_CMD is written with GO = 1 and OP erase (R459). -/
def execFlashErase (dt : Nat) (m : Master) (sector : Nat) (s : State) : Host.Outcome State Fault Refusal :=
  s.running dt fun s => s.flashWrite m 0 sector

/-- FLASH_PROGRAM: with OP program (R459). -/
def execFlashProgram (dt : Nat) (m : Master) (sector : Nat) (s : State) : Host.Outcome State Fault Refusal :=
  s.running dt fun s => s.flashWrite m 1 sector

/-- FLASH_READ: with OP read (R459). -/
def execFlashRead (dt : Nat) (m : Master) (sector : Nat) (s : State) : Host.Outcome State Fault Refusal :=
  s.running dt fun s => s.flashWrite m 2 sector

/-- FLASH_DONE: a flash operation finishes; `data` is what the host buffer gave (R459). -/
def execFlashDone (dt : Nat) (data : Option (List Byte)) (err : Bool) (s : State) : Host.Outcome State Fault Refusal :=
  s.running dt fun s => s.doFlashDone data err

/-- GET_VERSION: GET_VERSION (R462). -/
def execGetVersion (dt : Nat) (via : Nat) (s : State) : Host.Outcome State Fault Refusal :=
  s.alone dt fun s => s.doGetVersion via

/-- GET_CAPABILITIES: GET_CAPABILITIES (R462). -/
def execGetCapabilities (dt : Nat) (via : Nat) (s : State) : Host.Outcome State Fault Refusal :=
  s.alone dt fun s => s.doGetCapabilities via

/-- NEGOTIATE_ALGORITHMS: NEGOTIATE_ALGORITHMS (R462). -/
def execNegotiateAlgorithms (dt : Nat) (via : Nat) (s : State) : Host.Outcome State Fault Refusal :=
  s.alone dt fun s => s.doNegotiate via

/-- GET_DIGESTS: GET_DIGESTS (R465). -/
def execGetDigests (dt : Nat) (via : Nat) (s : State) : Host.Outcome State Fault Refusal :=
  s.alone dt fun s => s.doGetDigests via

/-- GET_CERTIFICATE: GET_CERTIFICATE (R461). -/
def execGetCertificate (dt : Nat) (via : Nat) (slot : Nat) (off : Nat) (len : Nat) (s : State) : Host.Outcome State Fault Refusal :=
  s.alone dt fun s => s.doGetCertificate via slot off len

/-- GET_MEASUREMENTS: GET_MEASUREMENTS (R464). -/
def execGetMeasurements (dt : Nat) (via : Nat) (index : Nat) (sign : Bool) (nonce : List Byte) (s : State) : Host.Outcome State Fault Refusal :=
  s.alone dt fun s => s.doGetMeasurements via index sign nonce

/-- KEY_EXCHANGE: KEY_EXCHANGE (R462). -/
def execKeyExchange (dt : Nat) (via : Nat) (share : List Byte) (s : State) : Host.Outcome State Fault Refusal :=
  s.alone dt fun s => s.doKeyExchange via share

/-- QUERY: QUERY of IDE_KM (R466). -/
def execQuery (dt : Nat) (session : Nat) (index : Nat) (s : State) : Host.Outcome State Fault Refusal :=
  s.alone dt fun s => s.doIdeQuery session index

/-- KEY_PROG: KEY_PROG (R466). -/
def execKeyProg (dt : Nat) (op : IdeOp) (key : List Byte) (s : State) : Host.Outcome State Fault Refusal :=
  s.alone dt fun s => s.doKeyProg op.session op.index op.set op.sub op.dir key

/-- K_SET_GO: K_SET_GO (R466). -/
def execKSetGo (dt : Nat) (op : IdeOp) (s : State) : Host.Outcome State Fault Refusal :=
  s.alone dt fun s => s.doKeyGo op.session op.index op.set op.sub op.dir

/-- K_SET_STOP: K_SET_STOP (R466). -/
def execKSetStop (dt : Nat) (op : IdeOp) (s : State) : Host.Outcome State Fault Refusal :=
  s.alone dt fun s => s.doKeyStop op.session op.index op.set op.sub op.dir

/-- EXTEST: EXTEST (R479). -/
def execExtest (dt : Nat) (s : State) : Host.Outcome State Fault Refusal :=
  s.running dt fun s => s.doExtest

/-- SAMPLE_PRELOAD: SAMPLE/PRELOAD (R479). -/
def execSamplePreload (dt : Nat) (s : State) : Host.Outcome State Fault Refusal :=
  s.tap dt fun s => s.doSample

/-- IDCODE: IDCODE (R479). -/
def execIdcode (dt : Nat) (s : State) : Host.Outcome State Fault Refusal :=
  s.tap dt fun s => s.doIdcode

/-- MEM_ACCESS: a MEM_ACCESS burst (R480). -/
def execMemAccess (dt : Nat) (write : Bool) (offset : Nat) (len : Nat) (words : List Nat) (s : State) : Host.Outcome State Fault Refusal :=
  s.running dt fun s => s.doMemAccess write offset len words

/-- UNLOCK_CHALLENGE: UNLOCK_CHALLENGE (R470). -/
def execUnlockChallenge (dt : Nat) (s : State) : Host.Outcome State Fault Refusal :=
  s.tap dt fun s => s.doUnlockChallenge

/-- UNLOCK: UNLOCK, with the verdict on the signature (R479). -/
def execUnlock (dt : Nat) (obj : List Byte) (sigOk : Bool) (s : State) : Host.Outcome State Fault Refusal :=
  s.tap dt fun s => s.doUnlock obj sigOk

/-- CORE_DEBUG: CORE_DEBUG (R481). -/
def execCoreDebug (dt : Nat) (s : State) : Host.Outcome State Fault Refusal :=
  s.tap dt fun s => s.doCoreDebug

/-- BYPASS: BYPASS, or an instruction that is not available (R479). -/
def execBypass (dt : Nat) (s : State) : Host.Outcome State Fault Refusal :=
  s.tap dt fun s => s.doBypass

/-- MPU_LOCK: a 1 is written to LOCK of MPU_SLOT_n (R478). -/
def execMpuLock (dt : Nat) (m : Master) (n : Nat) (s : State) : Host.Outcome State Fault Refusal :=
  s.running dt fun s => s.mpuLock m n

/-- VIOLATION_REARM: a 1 is written to VALID of MPU_VIOL (R477). -/
def execViolationRearm (dt : Nat) (m : Master) (s : State) : Host.Outcome State Fault Refusal :=
  s.running dt fun s => s.violRearm m

/-- CHALLENGE: CHALLENGE (R462). -/
def execChallenge (dt : Nat) (via : Nat) (slot : Nat) (nonce : List Byte) (s : State) : Host.Outcome State Fault Refusal :=
  s.alone dt fun s => s.doChallenge via slot nonce

/-- SPDM_SESSION_END: a session ends or is lost (R467). -/
def execSpdmSessionEnd (dt : Nat) (session : Nat) (lost : Bool) (s : State) : Host.Outcome State Fault Refusal :=
  s.alone dt fun s => s.doSessionEnd session lost

end Sys2Proof.Machine
end

