-- ==== Sys2Proof/Machine/ExecSlots.lean ====
section
/-! DEFINITION. Meanings: slot power controllers (14_slot_power.md). -/

namespace Sys2Proof.Machine

/-- SPC_SAMPLE: a 1 µs sample (R391). -/
def execSpcSample (dt : Nat) (n : Nat) (x : SpcIn) (s : State) : Host.Outcome State Fault Refusal :=
  s.running dt fun s => s.doSpcSample n x

/-- FAST_TRIP: a rail reaches FAST (R392). -/
def execFastTrip (dt : Nat) (seen : FastSeen) (s : State) : Host.Outcome State Fault Refusal :=
  s.running dt fun s => s.doFastTrip seen

/-- TIMER_TRIP: a sample in which the current-limit count reaches its bound (R391). -/
def execTimerTrip (dt : Nat) (n : Nat) (x : SpcIn) (s : State) : Host.Outcome State Fault Refusal :=
  s.running dt fun s => s.doTimerTrip n x

/-- RAMP_TMO: a sample at which the ramp has overrun PG_TMO_MS (R391). -/
def execRampTmo (dt : Nat) (n : Nat) (x : SpcIn) (s : State) : Host.Outcome State Fault Refusal :=
  s.running dt fun s => s.doRampTmo n x

/-- INPUT_TURN_OFF: the fourth sample with an input outside its window (R393). -/
def execInputTurnOff (dt : Nat) (n : Nat) (x : SpcIn) (s : State) : Host.Outcome State Fault Refusal :=
  s.running dt fun s => s.doInputOff n x

/-- PRESENCE_LOST: the eighth sample with PRSNT_N high (R386). -/
def execPresenceLost (dt : Nat) (n : Nat) (x : SpcIn) (s : State) : Host.Outcome State Fault Refusal :=
  s.running dt fun s => s.doPresenceLost n x

/-- INSERTION_DELAY_END: a sample at which the insertion delay has passed (R388). -/
def execInsertionDelayEnd (dt : Nat) (n : Nat) (x : SpcIn) (s : State) : Host.Outcome State Fault Refusal :=
  s.running dt fun s => s.doInsertionEnd n x

/-- REARM_HOLD_END: a sample at which REARM_MS has passed (R387). -/
def execRearmHoldEnd (dt : Nat) (n : Nat) (x : SpcIn) (s : State) : Host.Outcome State Fault Refusal :=
  s.running dt fun s => s.doRearmEnd n x

/-- SLOT_ENABLE: the enable becomes 1 (R387). -/
def execSlotEnable (dt : Nat) (n : Nat) (s : State) : Host.Outcome State Fault Refusal :=
  s.running dt fun s => s.doSlotEnable n

/-- SLOT_DISABLE: the enable becomes 0 (R387). -/
def execSlotDisable (dt : Nat) (n : Nat) (s : State) : Host.Outcome State Fault Refusal :=
  s.running dt fun s => s.doSlotDisable n

/-- ANALOG_LOSS: the link to the analog die is lost (R393). -/
def execAnalogLoss (lost : AnalogLost) (s : State) : Host.Outcome State Fault Refusal :=
  s.running lost.dt fun s => s.doAnalogLoss lost.ctls

/-- ATTENTION_BUTTON_PRESSED: a slot's attention button is pressed (R237). -/
def execAttentionButtonPressed (dt : Nat) (n : Nat) (s : State) : Host.Outcome State Fault Refusal :=
  s.running dt fun s => s.doAttention n

end Sys2Proof.Machine
end

