-- ==== Sys2Proof/Machine/ExecSwitch.lean ====
section
/-! DEFINITION. Meanings: the switch core (03_switch_core.md). -/

namespace Sys2Proof.Machine

/-- TLP_RECEIVE: something arrives on a PCI Express port (R241). -/
def execTlpReceive (dt : Nat) (p : Nat) (x : PcieRx) (s : State) : Host.Outcome State Fault Refusal :=
  s.running dt fun s => s.doTlpReceive p x

/-- LOOKUP_RESUME: the waiting lookups of an ingress and class are taken up (R103). -/
def execLookupResume (dt : Nat) (ing : Ingress) (tc : Nat) (s : State) : Host.Outcome State Fault Refusal :=
  s.running dt fun s => s.lookupResume ing tc

/-- EGRESS_SELECT: a port selects a queue and starts a packet; `ups` are upsets of its stored cells (R83, R87 to R90, R162). -/
def execEgressSelect (dt : Nat) (p : Nat) (ups : List Upset) (s : State) : Host.Outcome State Fault Refusal :=
  s.running dt fun s => s.doEgress p ups

/-- EGRESS_SEND_DONE: the packet that a port or link is sending has been read to its end (R71). -/
def execEgressSendDone (dt : Nat) (p : Nat) (s : State) : Host.Outcome State Fault Refusal :=
  s.running dt fun s => s.sendDone p

/-- CT_STALL_TIMEOUT: CT_STALL_MAX has passed without the next cell (R75). -/
def execCtStallTimeout (dt : Nat) (p : Nat) (s : State) : Host.Outcome State Fault Refusal :=
  s.running dt fun s => s.ctStall p

/-- AGE_SWEEP: the age test of a quadrant (R83). -/
def execAgeSweep (dt : Nat) (q : Nat) (s : State) : Host.Outcome State Fault Refusal :=
  s.running dt fun s => s.ageSweep q

/-- SB_RECLAIM: the scan of R90 is complete. -/
def execSbReclaim (dt : Nat) (s : State) : Host.Outcome State Fault Refusal :=
  s.running dt fun s => s.sbReclaim

/-- SAMPLE_WRITE: the oldest sample goes to the SMR (R93). -/
def execSampleWrite (dt : Nat) (s : State) : Host.Outcome State Fault Refusal :=
  s.running dt fun s => s.sampleWrite

/-- SAMPLING_ENABLE: XBC_SMP_CFG_p is written with EN = 1 (R91). -/
def execSamplingEnable (dt : Nat) (m : Master) (p : Nat) (v : Word) (s : State) : Host.Outcome State Fault Refusal :=
  s.running dt fun s => s.samplingEnable m p v

end Sys2Proof.Machine
end

