-- ==== Sys2Proof/Machine/ExecTables.lean ====
section
/-! DEFINITION. Meanings: the table memory (16_table_memory.md). -/

namespace Sys2Proof.Machine

/-- ARBITRATION_PHASE: an arbitration phase of a die after some TBL cycles, with new requests (R441). -/
def execArbitrationPhase (dt : Nat) (d : Nat) (cycles : Nat) (asks : List TmAsk) (s : State) : Host.Outcome State Fault Refusal :=
  s.running dt fun s => s.doArbPhase d cycles asks

/-- URGENT: a requester has waited STARVE cycles (R442). -/
def execUrgent (dt : Nat) (d : Nat) (r : Nat) (cycles : Nat) (s : State) : Host.Outcome State Fault Refusal :=
  s.running dt fun s => s.doUrgent d r cycles

/-- TABLE_WORD_READ: a table word is read, after upsets of stored bits (R431). -/
def execTableWordRead (dt : Nat) (r : Nat) (a : Nat) (strikes : List (Nat × Nat)) (s : State) : Host.Outcome State Fault Refusal :=
  s.running dt fun s => s.doWordRead r a strikes

/-- PATROL_SCRUB: the scrubber reads a block or a revisit address (R434). -/
def execPatrolScrub (dt : Nat) (d : Nat) (strikes : List (Nat × Nat)) (s : State) : Host.Outcome State Fault Refusal :=
  s.running dt fun s => s.doPatrol d strikes

/-- ONDIE_SCRUB: the on-die tables are checked (R436). -/
def execOndieScrub (dt : Nat) (s : State) : Host.Outcome State Fault Refusal :=
  s.running dt fun s => s.doOndieScrub

/-- FILL_DONE: the fill of a die is done (R437). -/
def execFillDone (dt : Nat) (d : Nat) (s : State) : Host.Outcome State Fault Refusal :=
  s.running dt fun s => s.doFillDone d

/-- DIE_FAIL: the interface of a die has failed (R445). -/
def execDieFail (dt : Nat) (d : Nat) (s : State) : Host.Outcome State Fault Refusal :=
  s.running dt fun s => s.doDieRetire d

/-- RELOC_BLOCK: the copier finishes a block (R446). -/
def execRelocBlock (dt : Nat) (s : State) : Host.Outcome State Fault Refusal :=
  s.running dt fun s => s.doRelocBlock

end Sys2Proof.Machine
end

