-- ==== Sys2Proof/Machine/ExecWriteLogging.lean ====
section
/-! DEFINITION. Meanings: write logging (11 R322 to R332). -/

namespace Sys2Proof.Machine

/-- CACHE_MERGE: an idle entry of the coalescing cache is merged (R326). -/
def execCacheMerge (dt : Nat) (s : State) : Host.Outcome State Fault Refusal :=
  s.running dt fun s => s.doCacheMerge

/-- CONTEXT_ENABLE: WLG_CTX_CFG_c is written with EN = 1 (R325). -/
def execContextEnable (dt : Nat) (m : Master) (c : Nat) (v : Word) (s : State) : Host.Outcome State Fault Refusal :=
  s.running dt fun s => s.contextEnable m c v

/-- CONTEXT_READY: the bitmaps of a context are clear (R325). -/
def execContextReady (dt : Nat) (c : Nat) (s : State) : Host.Outcome State Fault Refusal :=
  s.running dt fun s => s.doCtxReady c

/-- CONTEXT_DISABLE: WLG_CTX_CFG_c is written with EN = 0 (R325). -/
def execContextDisable (dt : Nat) (m : Master) (c : Nat) (v : Word) (s : State) : Host.Outcome State Fault Refusal :=
  s.running dt fun s => s.contextDisable m c v

/-- HARVEST_DRAINED: the writes of the old generation have left (R327). -/
def execHarvestDrained (dt : Nat) (s : State) : Host.Outcome State Fault Refusal :=
  s.running dt fun s => s.doHarvestDrained

/-- HARVEST_FLUSH_DONE: the flush read of a harvest is answered (R327). -/
def execHarvestFlushDone (dt : Nat) (s : State) : Host.Outcome State Fault Refusal :=
  s.running dt fun s => s.doHarvestFlushDone

/-- HARVEST_FLUSH_TIMEOUT: FLUSH_TMO has passed (R327). -/
def execHarvestFlushTimeout (dt : Nat) (s : State) : Host.Outcome State Fault Refusal :=
  s.running dt fun s => s.doHarvestFlushTmo

end Sys2Proof.Machine
end

