-- ==== Sys2Proof/Machine/Dispatch.lean ====
section
/-! DEFINITION. What each command does: one arm for each constructor, one direct call of its meaning. -/

namespace Sys2Proof.Machine

/-- The command's effect on everything but the queue. -/
def exec (i : Instr) (s : State) : Host.Outcome State Fault Refusal :=
  match i with
  | .mcrDoorbell dt m index => Sys2Proof.Machine.execMcrDoorbell dt m index s
  | .ringCiWrite dt m r index => Sys2Proof.Machine.execRingCiWrite dt m r index s
  | .ringEnable dt m r v => Sys2Proof.Machine.execRingEnable dt m r v s
  | .ringDisable dt m r v => Sys2Proof.Machine.execRingDisable dt m r v s
  | .ringStopped dt r => Sys2Proof.Machine.execRingStopped dt r s
  | .irqTimeExpiry dt src => Sys2Proof.Machine.execIrqTimeExpiry dt src s
  | .ringOvfClear dt m r => Sys2Proof.Machine.execRingOvfClear dt m r s
  | .heldRecordWrite dt r => Sys2Proof.Machine.execHeldRecordWrite dt r s
  | .nop dt d => Sys2Proof.Machine.execNop dt d s
  | .tableWrite dt d op data => Sys2Proof.Machine.execTableWrite dt d op data s
  | .tableRead dt d op => Sys2Proof.Machine.execTableRead dt d op s
  | .commit dt d => Sys2Proof.Machine.execCommit dt d s
  | .epochStuck dt => Sys2Proof.Machine.execEpochStuck dt s
  | .commitChecks dt => Sys2Proof.Machine.execCommitChecks dt s
  | .portAdoptEpoch dt p => Sys2Proof.Machine.execPortAdoptEpoch dt p s
  | .epochDrained dt => Sys2Proof.Machine.execEpochDrained dt s
  | .shadowDiscard dt d => Sys2Proof.Machine.execShadowDiscard dt d s
  | .harvest dt d op => Sys2Proof.Machine.execHarvest dt d op s
  | .powerStateTrim dt d target onMask => Sys2Proof.Machine.execPowerStateTrim dt d target onMask s
  | .powerStateKeepWarm dt d op => Sys2Proof.Machine.execPowerStateKeepWarm dt d op s
  | .powerStateOff dt d op => Sys2Proof.Machine.execPowerStateOff dt d op s
  | .decantArm dt d mode => Sys2Proof.Machine.execDecantArm dt d mode s
  | .counterDump dt d set clear => Sys2Proof.Machine.execCounterDump dt d set clear s
  | .faultAck dt d first n flags => Sys2Proof.Machine.execFaultAck dt d first n flags s
  | .unlistedOpcode dt d op => Sys2Proof.Machine.execUnlistedOpcode dt d op s
  | .descriptorReadError dt => Sys2Proof.Machine.execDescriptorReadError dt s
  | .registerWrite dt m sp addr bytes => Sys2Proof.Machine.execRegisterWrite dt m sp addr bytes s
  | .readClear dt m sp addr len => Sys2Proof.Machine.execReadClear dt m sp addr len s
  | .tlpReceive dt p x => Sys2Proof.Machine.execTlpReceive dt p x s
  | .lookupResume dt ing tc => Sys2Proof.Machine.execLookupResume dt ing tc s
  | .egressSelect dt p ups => Sys2Proof.Machine.execEgressSelect dt p ups s
  | .egressSendDone dt p => Sys2Proof.Machine.execEgressSendDone dt p s
  | .ctStallTimeout dt p => Sys2Proof.Machine.execCtStallTimeout dt p s
  | .ageSweep dt q => Sys2Proof.Machine.execAgeSweep dt q s
  | .sbReclaim dt => Sys2Proof.Machine.execSbReclaim dt s
  | .sampleWrite dt => Sys2Proof.Machine.execSampleWrite dt s
  | .samplingEnable dt m p v => Sys2Proof.Machine.execSamplingEnable dt m p v s
  | .fenceMessage dt v tc lenDw op => Sys2Proof.Machine.execFenceMessage dt v tc lenDw op s
  | .fenceTake dt n => Sys2Proof.Machine.execFenceTake dt n s
  | .flushSend dt n r => Sys2Proof.Machine.execFlushSend dt n r s
  | .flushCompletion dt => Sys2Proof.Machine.execFlushCompletion dt s
  | .fenceRecordWrite dt n => Sys2Proof.Machine.execFenceRecordWrite dt n s
  | .gapTimeout dt w => Sys2Proof.Machine.execGapTimeout dt w s
  | .seqSkip dt p src dst tc seq => Sys2Proof.Machine.execSeqSkip dt p src dst tc seq s
  | .escape dt q => Sys2Proof.Machine.execEscape dt q s
  | .wheelSlot dt q slot => Sys2Proof.Machine.execWheelSlot dt q slot s
  | .postedDelay dt n => Sys2Proof.Machine.execPostedDelay dt n s
  | .histogramSample dt q => Sys2Proof.Machine.execHistogramSample dt q s
  | .snapshot dt m clr q => Sys2Proof.Machine.execSnapshot dt m clr q s
  | .xltMiss dt n => Sys2Proof.Machine.execXltMiss dt n s
  | .busyRetry dt k => Sys2Proof.Machine.execBusyRetry dt k s
  | .cplTimeout dt k => Sys2Proof.Machine.execCplTimeout dt k s
  | .quarantineEnd dt inb unit tag => Sys2Proof.Machine.execQuarantineEnd dt inb unit tag s
  | .pwfNote dt p op => Sys2Proof.Machine.execPwfNote dt p op s
  | .failRingWrite dt v => Sys2Proof.Machine.execFailRingWrite dt v s
  | .lockReq dt p owner target => Sys2Proof.Machine.execLockReq dt p owner target s
  | .lockGrant dt p owner target id => Sys2Proof.Machine.execLockGrant dt p owner target id s
  | .lockRelease dt p owner target id => Sys2Proof.Machine.execLockRelease dt p owner target id s
  | .lockBreak dt p reason owner target id => Sys2Proof.Machine.execLockBreak dt p reason owner target id s
  | .lockTimer dt => Sys2Proof.Machine.execLockTimer dt s
  | .lockGrantTimeout dt v => Sys2Proof.Machine.execLockGrantTimeout dt v s
  | .prefetchFill dt => Sys2Proof.Machine.execPrefetchFill dt s
  | .prefetchExpiry dt j => Sys2Proof.Machine.execPrefetchExpiry dt j s
  | .sidebandRateSend dt id => Sys2Proof.Machine.execSidebandRateSend dt id s
  | .cfgrqGo dt m p op => Sys2Proof.Machine.execCfgrqGo dt m p op s
  | .cfgrqDone dt p st data => Sys2Proof.Machine.execCfgrqDone dt p st data s
  | .cfgrqTimeout dt p => Sys2Proof.Machine.execCfgrqTimeout dt p s
  | .pcieLinkUp dt p x => Sys2Proof.Machine.execPcieLinkUp dt p x s
  | .pcieLinkDown dt p => Sys2Proof.Machine.execPcieLinkDown dt p s
  | .aspmL1Entry dt p => Sys2Proof.Machine.execAspmL1Entry dt p s
  | .l0pNarrow dt p lanes => Sys2Proof.Machine.execL0pNarrow dt p lanes s
  | .perstN dt p low => Sys2Proof.Machine.execPerstN dt p low s
  | .hotReset dt p => Sys2Proof.Machine.execHotReset dt p s
  | .secondaryBusReset dt p => Sys2Proof.Machine.execSecondaryBusReset dt p s
  | .vsReady dt v => Sys2Proof.Machine.execVsReady dt v s
  | .mgmtFlr dt => Sys2Proof.Machine.execMgmtFlr dt s
  | .busMasterClear dt p => Sys2Proof.Machine.execBusMasterClear dt p s
  | .dpcRelease dt p => Sys2Proof.Machine.execDpcRelease dt p s
  | .slotPerstDeassert dt p => Sys2Proof.Machine.execSlotPerstDeassert dt p s
  | .pcieReplayTimeout dt p rollover => Sys2Proof.Machine.execPcieReplayTimeout dt p rollover s
  | .flitSend dt p bad => Sys2Proof.Machine.execFlitSend dt p bad s
  | .flitReceive dt p raw => Sys2Proof.Machine.execFlitReceive dt p raw s
  | .ack dt p nak a => Sys2Proof.Machine.execAck dt p nak a s
  | .replayTimer dt p => Sys2Proof.Machine.execReplayTimer dt p s
  | .credit dt p first cc vals => Sys2Proof.Machine.execCredit dt p first cc vals s
  | .creditInit dt p first cc vals => Sys2Proof.Machine.execCreditInit dt p first cc vals s
  | .linkParam dt p fid partner => Sys2Proof.Machine.execLinkParam dt p fid partner s
  | .linkInitTimeout dt p => Sys2Proof.Machine.execLinkInitTimeout dt p s
  | .swapCmd dt m p lane => Sys2Proof.Machine.execSwapCmd dt m p lane s
  | .laneSwap dt p lane => Sys2Proof.Machine.execLaneSwap dt p lane s
  | .laneSwapAck dt p lane result fsn => Sys2Proof.Machine.execLaneSwapAck dt p lane result fsn s
  | .laneSwapDone dt p lane => Sys2Proof.Machine.execLaneSwapDone dt p lane s
  | .laneSwapTimeout dt p => Sys2Proof.Machine.execLaneSwapTimeout dt p s
  | .retrainPattern dt op => Sys2Proof.Machine.execRetrainPattern dt op s
  | .retrainDone dt p => Sys2Proof.Machine.execRetrainDone dt p s
  | .retrainTimeout dt p => Sys2Proof.Machine.execRetrainTimeout dt p s
  | .alignmentLoss dt p lane more => Sys2Proof.Machine.execAlignmentLoss dt p lane more s
  | .bringupRetry dt p => Sys2Proof.Machine.execBringupRetry dt p s
  | .adminDown dt m p => Sys2Proof.Machine.execAdminDown dt m p s
  | .adminUp dt m p => Sys2Proof.Machine.execAdminUp dt m p s
  | .cdrLock dt g l => Sys2Proof.Machine.execCdrLock dt g l s
  | .adapted dt g l coef => Sys2Proof.Machine.execAdapted dt g l coef s
  | .bitslipTry dt g l seen => Sys2Proof.Machine.execBitslipTry dt g l seen s
  | .bitslipDone dt m g => Sys2Proof.Machine.execBitslipDone dt m g s
  | .txeqRound dt g l req best => Sys2Proof.Machine.execTxeqRound dt g l req best s
  | .alignDone dt p tx => Sys2Proof.Machine.execAlignDone dt p tx s
  | .bringupTimeout dt p => Sys2Proof.Machine.execBringupTimeout dt p s
  | .driftCheck dt g l coef e => Sys2Proof.Machine.execDriftCheck dt g l coef e s
  | .freezeEnd dt g l => Sys2Proof.Machine.execFreezeEnd dt g l s
  | .eyeScanGo dt m g op margined => Sys2Proof.Machine.execEyeScanGo dt m g op margined s
  | .eyePointDone dt g errors aborted => Sys2Proof.Machine.execEyePointDone dt g errors aborted s
  | .prbsInject dt m g l => Sys2Proof.Machine.execPrbsInject dt m g l s
  | .cdrLost dt g l => Sys2Proof.Machine.execCdrLost dt g l s
  | .prbsCheckerLock dt g l => Sys2Proof.Machine.execPrbsCheckerLock dt g l s
  | .prbsCheckerUnlock dt g l errors => Sys2Proof.Machine.execPrbsCheckerUnlock dt g l errors s
  | .sqDoorbell dt n index => Sys2Proof.Machine.execSqDoorbell dt n index s
  | .cqDoorbell dt n index => Sys2Proof.Machine.execCqDoorbell dt n index s
  | .sliceEnable dt n => Sys2Proof.Machine.execSliceEnable dt n s
  | .sliceDisable dt n => Sys2Proof.Machine.execSliceDisable dt n s
  | .sliceAbort dt n => Sys2Proof.Machine.execSliceAbort dt n s
  | .descriptorFetch dt n bytes err => Sys2Proof.Machine.execDescriptorFetch dt n bytes err s
  | .descNop dt n => Sys2Proof.Machine.execDescNop dt n s
  | .descCopy dt n => Sys2Proof.Machine.execDescCopy dt n s
  | .descFill dt n => Sys2Proof.Machine.execDescFill dt n s
  | .descCompare dt n => Sys2Proof.Machine.execDescCompare dt n s
  | .descFence dt n => Sys2Proof.Machine.execDescFence dt n s
  | .descChecksum dt n => Sys2Proof.Machine.execDescChecksum dt n s
  | .sliceIssue dt => Sys2Proof.Machine.execSliceIssue dt s
  | .dmvReadCompletion dt => Sys2Proof.Machine.execDmvReadCompletion dt s
  | .dmvReadTimeout dt n d part => Sys2Proof.Machine.execDmvReadTimeout dt n d part s
  | .cqEntryWrite dt n => Sys2Proof.Machine.execCqEntryWrite dt n s
  | .dmvFlr dt v => Sys2Proof.Machine.execDmvFlr dt v s
  | .dmvBusMasterClear dt v => Sys2Proof.Machine.execDmvBusMasterClear dt v s
  | .dmvBusMasterSet dt v => Sys2Proof.Machine.execDmvBusMasterSet dt v s
  | .cacheMerge dt => Sys2Proof.Machine.execCacheMerge dt s
  | .contextEnable dt m c v => Sys2Proof.Machine.execContextEnable dt m c v s
  | .contextReady dt c => Sys2Proof.Machine.execContextReady dt c s
  | .contextDisable dt m c v => Sys2Proof.Machine.execContextDisable dt m c v s
  | .harvestDrained dt => Sys2Proof.Machine.execHarvestDrained dt s
  | .harvestFlushDone dt => Sys2Proof.Machine.execHarvestFlushDone dt s
  | .harvestFlushTimeout dt => Sys2Proof.Machine.execHarvestFlushTimeout dt s
  | .pwrfailFall dt => Sys2Proof.Machine.execPwrfailFall dt s
  | .pwrfailConfirm dt vaux => Sys2Proof.Machine.execPwrfailConfirm dt vaux s
  | .drainEnd dt => Sys2Proof.Machine.execDrainEnd dt s
  | .drainDeadline dt => Sys2Proof.Machine.execDrainDeadline dt s
  | .portFlush dt p => Sys2Proof.Machine.execPortFlush dt p s
  | .decantFlushAnswer dt => Sys2Proof.Machine.execDecantFlushAnswer dt s
  | .budgetEnd dt => Sys2Proof.Machine.execBudgetEnd dt s
  | .seal dt => Sys2Proof.Machine.execSeal dt s
  | .keepWarmEntry dt => Sys2Proof.Machine.execKeepWarmEntry dt s
  | .keepExpired dt => Sys2Proof.Machine.execKeepExpired dt s
  | .keepWarmExit dt x macOk falls => Sys2Proof.Machine.execKeepWarmExit dt x macOk falls s
  | .decantAbandoned dt => Sys2Proof.Machine.execDecantAbandoned dt s
  | .stopAnswer dt => Sys2Proof.Machine.execStopAnswer dt s
  | .stopTimeout dt => Sys2Proof.Machine.execStopTimeout dt s
  | .domainWakeReady dt test => Sys2Proof.Machine.execDomainWakeReady dt test s
  | .wakeTimeout dt => Sys2Proof.Machine.execWakeTimeout dt s
  | .padRelease dt m k bits => Sys2Proof.Machine.execPadRelease dt m k bits s
  | .wakeGpio dt => Sys2Proof.Machine.execWakeGpio dt s
  | .calendarWake dt => Sys2Proof.Machine.execCalendarWake dt s
  | .pwrfailRise dt => Sys2Proof.Machine.execPwrfailRise dt s
  | .spcSample dt n x => Sys2Proof.Machine.execSpcSample dt n x s
  | .fastTrip dt seen => Sys2Proof.Machine.execFastTrip dt seen s
  | .timerTrip dt n x => Sys2Proof.Machine.execTimerTrip dt n x s
  | .rampTmo dt n x => Sys2Proof.Machine.execRampTmo dt n x s
  | .inputTurnOff dt n x => Sys2Proof.Machine.execInputTurnOff dt n x s
  | .presenceLost dt n x => Sys2Proof.Machine.execPresenceLost dt n x s
  | .insertionDelayEnd dt n x => Sys2Proof.Machine.execInsertionDelayEnd dt n x s
  | .rearmHoldEnd dt n x => Sys2Proof.Machine.execRearmHoldEnd dt n x s
  | .slotEnable dt n => Sys2Proof.Machine.execSlotEnable dt n s
  | .slotDisable dt n => Sys2Proof.Machine.execSlotDisable dt n s
  | .analogLoss lost => Sys2Proof.Machine.execAnalogLoss lost s
  | .attentionButtonPressed dt n => Sys2Proof.Machine.execAttentionButtonPressed dt n s
  | .faultMessage dt x => Sys2Proof.Machine.execFaultMessage dt x s
  | .countWindowClose dt => Sys2Proof.Machine.execCountWindowClose dt s
  | .faultForce dt m j bits => Sys2Proof.Machine.execFaultForce dt m j bits s
  | .latchRearm dt m => Sys2Proof.Machine.execLatchRearm dt m s
  | .arbitrationPhase dt d cycles asks => Sys2Proof.Machine.execArbitrationPhase dt d cycles asks s
  | .urgent dt d r cycles => Sys2Proof.Machine.execUrgent dt d r cycles s
  | .tableWordRead dt r a strikes => Sys2Proof.Machine.execTableWordRead dt r a strikes s
  | .patrolScrub dt d strikes => Sys2Proof.Machine.execPatrolScrub dt d strikes s
  | .ondieScrub dt => Sys2Proof.Machine.execOndieScrub dt s
  | .fillDone dt d => Sys2Proof.Machine.execFillDone dt d s
  | .dieFail dt d => Sys2Proof.Machine.execDieFail dt d s
  | .relocBlock dt => Sys2Proof.Machine.execRelocBlock dt s
  | .nonceRead dt m => Sys2Proof.Machine.execNonceRead dt m s
  | .lifecycleGo dt m target => Sys2Proof.Machine.execLifecycleGo dt m target s
  | .lifecycleCheckDone dt obj sigOk => Sys2Proof.Machine.execLifecycleCheckDone dt obj sigOk s
  | .flashErase dt m sector => Sys2Proof.Machine.execFlashErase dt m sector s
  | .flashProgram dt m sector => Sys2Proof.Machine.execFlashProgram dt m sector s
  | .flashRead dt m sector => Sys2Proof.Machine.execFlashRead dt m sector s
  | .flashDone dt data err => Sys2Proof.Machine.execFlashDone dt data err s
  | .getVersion dt via => Sys2Proof.Machine.execGetVersion dt via s
  | .getCapabilities dt via => Sys2Proof.Machine.execGetCapabilities dt via s
  | .negotiateAlgorithms dt via => Sys2Proof.Machine.execNegotiateAlgorithms dt via s
  | .getDigests dt via => Sys2Proof.Machine.execGetDigests dt via s
  | .getCertificate dt via slot off len => Sys2Proof.Machine.execGetCertificate dt via slot off len s
  | .getMeasurements dt via index sign nonce => Sys2Proof.Machine.execGetMeasurements dt via index sign nonce s
  | .keyExchange dt via share => Sys2Proof.Machine.execKeyExchange dt via share s
  | .query dt session index => Sys2Proof.Machine.execQuery dt session index s
  | .keyProg dt op key => Sys2Proof.Machine.execKeyProg dt op key s
  | .kSetGo dt op => Sys2Proof.Machine.execKSetGo dt op s
  | .kSetStop dt op => Sys2Proof.Machine.execKSetStop dt op s
  | .extest dt => Sys2Proof.Machine.execExtest dt s
  | .samplePreload dt => Sys2Proof.Machine.execSamplePreload dt s
  | .idcode dt => Sys2Proof.Machine.execIdcode dt s
  | .memAccess dt write offset len words => Sys2Proof.Machine.execMemAccess dt write offset len words s
  | .unlockChallenge dt => Sys2Proof.Machine.execUnlockChallenge dt s
  | .unlock dt obj sigOk => Sys2Proof.Machine.execUnlock dt obj sigOk s
  | .coreDebug dt => Sys2Proof.Machine.execCoreDebug dt s
  | .bypass dt => Sys2Proof.Machine.execBypass dt s
  | .mpuLock dt m n => Sys2Proof.Machine.execMpuLock dt m n s
  | .violationRearm dt m => Sys2Proof.Machine.execViolationRearm dt m s
  | .challenge dt via slot nonce => Sys2Proof.Machine.execChallenge dt via slot nonce s
  | .spdmSessionEnd dt session lost => Sys2Proof.Machine.execSpdmSessionEnd dt session lost s
  | .cuppingRound dt x ok => Sys2Proof.Machine.execCuppingRound dt x ok s
  | .slackSample dt worst ok => Sys2Proof.Machine.execSlackSample dt worst ok s
  | .gbClr dt m => Sys2Proof.Machine.execGbClr dt m s
  | .engineWatchdog dt e => Sys2Proof.Machine.execEngineWatchdog dt e s
  | .engineStop dt loaded => Sys2Proof.Machine.execEngineStop dt loaded s
  | .rowRepairDone dt => Sys2Proof.Machine.execRowRepairDone dt s
  | .ledgerSummary dt => Sys2Proof.Machine.execLedgerSummary dt s
  | .ledgerRead dt m index => Sys2Proof.Machine.execLedgerRead dt m index s
  | .calendarSet dt m seconds => Sys2Proof.Machine.execCalendarSet dt m seconds s
  | .counterClear dt m k => Sys2Proof.Machine.execCounterClear dt m k s
  | .periodicDump dt => Sys2Proof.Machine.execPeriodicDump dt s
  | .engineSample dt skid work addr => Sys2Proof.Machine.execEngineSample dt skid work addr s
  | .coldBoot dt first x => Sys2Proof.Machine.execColdBoot dt first x s
  | .resetN dt low => Sys2Proof.Machine.execResetN dt low s
  | .warmReset dt m engOk => Sys2Proof.Machine.execWarmReset dt m engOk s
  | .refLost dt pll => Sys2Proof.Machine.execRefLost dt pll s
  | .holdoverEnd dt => Sys2Proof.Machine.execHoldoverEnd dt s
  | .xtalFail dt => Sys2Proof.Machine.execXtalFail dt s
  | .ptmCapture dt p master => Sys2Proof.Machine.execPtmCapture dt p master s
  | .thermalSample dt temps => Sys2Proof.Machine.execThermalSample dt temps s
  | .mainSupplyLoss dt => Sys2Proof.Machine.execMainSupplyLoss dt s
  | .vauxDrop dt => Sys2Proof.Machine.execVauxDrop dt s
  | .refReturn dt x => Sys2Proof.Machine.execRefReturn dt x s
  | .xtalRestart dt => Sys2Proof.Machine.execXtalRestart dt s
  | .aspmL1Exit dt p => Sys2Proof.Machine.execAspmL1Exit dt p s

end Sys2Proof.Machine
end

