-- ==== Sys2Proof/Machine/Package.lean ====
section
/-! DEFINITION. The ball map of the package (22_package_and_electrical.md R546 to R553): what each of the 5,476 balls carries. -/

namespace Sys2Proof.Machine

/-- The supplies (R554). -/
inductive Supply where
  | vcore | vsram | vsd | vsdh | vqdr | vio | vaux
  deriving DecidableEq, Repr

/-- What a ball carries: a SerDes signal of a lane (R548), pin `pin` of a slot power controller in the order of R549, a
sideband signal of a lane group or slot, a system signal (R550), a supply, or nothing (RSVD). -/
inductive Ball where
  | serdes (group lane : Nat) (rx neg : Bool)
  | slot (n pin : Nat)
  | clkreq (group : Nat)
  | perstIn (group : Nat)
  | prsnt (n : Nat)
  | perstOut (n : Nat)
  | system (name : String)
  | rsvd
  | supply (x : Supply)
  | vss
  deriving DecidableEq, Repr

/-! ### SerDes blocks (R547, R548) -/

/-- Row and column of a place in the block of a lane group: `w` across the edge, `k` from the package edge. -/
def blockBall (g w k : Nat) : Nat × Nat :=
  let i := 13 + 6 * (g % 8) + w
  match g / 8 with
  | 0 => (k, i)
  | 1 => (i, 73 - k)
  | 2 => (73 - k, i)
  | _ => (i, k)

/-- The ball of a lane's signal. -/
def laneBall (g l : Nat) (rx neg : Bool) : Nat × Nat :=
  blockBall g (3 * (l % 2) + (if neg then 1 else 0)) (6 * (if rx then 1 else 0) + l / 2)

/-- What place (w, k) of a block carries: every ball that no lane takes is VSS. -/
def blockAt (g w k : Nat) : Ball :=
  let l := 2 * (k % 6) + w / 3
  if w % 3 ≤ 1 ∧ l ≤ 8 then .serdes g l (k / 6 == 1) (w % 3 == 1) else .vss

/-! ### Corners (R549, R550) -/

/-- The system signals of each corner, by index; an index beyond them is RSVD. -/
def systemNames : List (List String) := [
  ["REF_P", "REF_N", "RESET_N", "PWRFAIL_N", "XTAL_IN", "XTAL_OUT", "DIODE_P", "DIODE_N", "VCORE_SENSE_P", "VCORE_SENSE_N",
    "VID_CLK", "VID_DATA"],
  ["SPI_CLK", "SPI_CS_N", "SPI_IO0", "SPI_IO1", "SPI_IO2", "SPI_IO3", "SMB_SCL", "SMB_SDA", "SMB_ALERT_N"],
  ["TCK", "TMS", "TDI", "TDO", "TRST_N"],
  ["GPIO0", "GPIO1", "GPIO2", "GPIO3", "GPIO4", "GPIO5", "GPIO6", "GPIO7"]]

/-- A system signal of a corner. -/
def systemAt (c i : Nat) : Ball :=
  match (systemNames.getD c [])[i]? with
  | some n => .system n
  | none => .rsvd

/-- What a place of a corner carries: `a` from the north or south edge, `b` from the west or east edge. -/
def cornerAt (c a b : Nat) : Ball :=
  if a ≤ 7 then (if b ≤ 9 then .slot (8 * c + a) b else .vss)
  else if a ≤ 11 then
    if b ≤ 7 then
      match a with
      | 8 => .clkreq (8 * c + b)
      | 9 => .perstIn (8 * c + b)
      | 10 => .prsnt (8 * c + b)
      | _ => .perstOut (8 * c + b)
    else if b ≤ 9 then .vss
    else systemAt c (3 * (a - 8) + (b - 10))
  else if b ≤ 3 then .supply .vaux
  else if b ≤ 9 then .supply .vio
  else systemAt c (12 + (b - 10))

/-- Row and column of a place of a corner. -/
def cornerBall (c a b : Nat) : Nat × Nat :=
  (if c = 0 ∨ c = 1 then a else 73 - a, if c = 0 ∨ c = 3 then b else 73 - b)

/-! ### The core field (R551) -/

/-- What a ball of the core field carries. -/
def coreAt (r c : Nat) : Ball :=
  if (r + c) % 2 = 1 then .vss
  else
    let d := min (min (r - 12) (61 - r)) (min (c - 12) (61 - c))
    .supply (if d ≤ 1 then .vsd else if d = 2 then .vsdh else if d = 3 then .vqdr else if d ≤ 6 then .vsram else .vcore)

/-! ### The array -/

/-- What the ball at a row and a column carries; none outside the 74 rows and columns (R546). -/
def ballAt (r c : Nat) : Option Ball :=
  let mid := fun n : Nat => 13 ≤ n ∧ n ≤ 60
  if r > 73 ∨ c > 73 then none
  else if 12 ≤ r ∧ r ≤ 61 ∧ 12 ≤ c ∧ c ≤ 61 then some (coreAt r c)
  else if r ≤ 11 ∧ mid c then some (blockAt ((c - 13) / 6) ((c - 13) % 6) r)
  else if 62 ≤ c ∧ mid r then some (blockAt (8 + (r - 13) / 6) ((r - 13) % 6) (73 - c))
  else if 62 ≤ r ∧ mid c then some (blockAt (16 + (c - 13) / 6) ((c - 13) % 6) (73 - r))
  else if c ≤ 11 ∧ mid r then some (blockAt (24 + (r - 13) / 6) ((r - 13) % 6) c)
  else
    let north := decide (r ≤ 12)
    let west := decide (c ≤ 12)
    let k := match north, west with | true, true => 0 | true, false => 1 | false, false => 2 | false, true => 3
    some (cornerAt k (if north then r else 73 - r) (if west then c else 73 - c))

/-- The ball that gives an upstream port its PERST_N: that of the group of its lane 0 (R553). -/
def State.perstBall (s : State) (p : Nat) : Option (Nat × Nat) :=
  let g := s.laneOf p 0 / 9
  if s.role p = 0 then some (cornerBall (g / 8) 9 (g % 8)) else none

end Sys2Proof.Machine
end

