-- ==== Sys2Proof/Safety.lean ====
section
/-! DEFINITION. What counts as a safe step and a safe state, in the terms that claims use. -/

namespace Sys2Proof

/-- A command completes: it answers a next state, no fault and no refusal. -/
def Completes (c : Instr) (s : Machine.State) : Prop := ∃ t, Machine.exec c s = .next t

/-- What a command finds: the part runs at `s`, and `t` is `s` when `dt` steps of 5 ns have passed. -/
def Finds (s : Machine.State) (dt : Nat) (t : Machine.State) : Prop := s.aon.mode = 0 ∧ t = s.elapse dt

/-- A register in force holds `w` after a write: a write of the value that it holds changes nothing. -/
def Machine.State.put (s : Machine.State) (key : Nat) (w : Word) : Machine.State := if w = s.raw key then s else s.setRaw key w

/-- The rows that are taken while the core is off, in keep-warm or held in reset: those of the AON island (R355, R362, R376) and those
of the test access port (R471, R479). -/
def onAon : Instr → Bool
  | .coldBoot .. | .resetN .. | .mainSupplyLoss .. | .vauxDrop .. | .refReturn .. | .xtalFail .. | .xtalRestart .. | .keepExpired ..
  | .keepWarmExit .. | .pwrfailFall .. | .pwrfailRise .. | .wakeGpio .. | .calendarWake .. | .samplePreload .. | .idcode ..
  | .unlockChallenge .. | .unlock .. | .coreDebug .. | .bypass .. => true
  | _ => false

/-- Where the part runs, no packet is on its way between its blocks. -/
def NoWorkLeft (s : Machine.State) : Prop := s.aon.mode = 0 → s.xbc.jobs = []

end Sys2Proof
end

