-- ==== Sys2Proof/Certificates/Slice0/Obligations.lean ====
section
/-! DEFINITION. The statements about the model, family by family. -/

open Sys2Proof Sys2Proof.Machine

/-- R42, R43, R44: a stopped ring shows STOPPED; a vector fires IRQ_TIME after the first unsignalled record, of a ring and of
a slice's completion queue; the next record held for the EVR, or for the FTR, is written once a slot is free.
The model's own choices in it: log entries 6 and 79. -/
def Obligations.RingTimersAndHeldRecords : Prop :=
  (∀ (s t : State) (dt : Nat) (r : RingId), Finds s dt t → t.ringOn r = false → t.ringBusy r = false →
    exec (.ringStopped dt r) s = .next (t.setFld r.stat F.CTL_STAT_STOPPED 1).settle) ∧
  (∀ (s t : State) (dt : Nat) (r : RingId), Finds s dt t → (t.ring r).timing = true → (t.ring r).count > 0 →
    t.fld r.cfg F.CTL_CFG_IRQ_TIME ≠ 0 → t.now - (t.ring r).first ≥ 1000 * t.fld r.cfg F.CTL_CFG_IRQ_TIME →
    t.fld r.cfg F.CTL_CFG_IRQ_COUNT ≠ 0 →
    exec (.irqTimeExpiry dt (.ring r)) s =
      .next ((t.setRing r { t.ring r with count := 0, timing := false }).signal r.vector.1 r.vector.2).settle) ∧
  (∀ (s t : State) (dt : Nat) (i : Fin 4096), Finds s dt t → (t.slice i).irq.timing = true → (t.slice i).irq.count > 0 →
    t.fld (R.DMV_CQ_CFG i) F.DMV_CQ_CFG_IRQ_TIME ≠ 0 → t.sliceRuns i = true →
    t.now - (t.slice i).irq.first ≥ 1000 * t.fld (R.DMV_CQ_CFG i) F.DMV_CQ_CFG_IRQ_TIME →
    t.fld (R.DMV_CQ_CFG i) F.DMV_CQ_CFG_IRQ_COUNT ≠ 0 →
    exec (.irqTimeExpiry dt (.cq i)) s =
      .next ((t.setSlice i { t.slice i with irq := { (t.slice i).irq with count := 0, timing := false } }).signal
        (.dmv (t.sliceVs i)) (t.fld (R.DMV_CQ_CFG i) F.DMV_CQ_CFG_VECTOR)).settle) ∧
  (∀ (s t : State) (dt : Nat) (e : Rec) (l : List Rec), Finds s dt t → t.ringRoom .evr ≠ 0 → t.ctl.evrOvfFlag = false →
    t.ctl.held = e :: l →
    exec (.heldRecordWrite dt .evr) s = .next (({ t with ctl := { t.ctl with held := l } } : State).putEvr e).mcrFetch.settle) ∧
  (∀ (s t : State) (dt : Nat) (e : Rec) (l : List Rec), Finds s dt t → t.ringRoom .evr ≠ 0 → t.ctl.evrOvfFlag = false →
    t.ctl.held = [] → t.ctl.evq = e :: l →
    exec (.heldRecordWrite dt .evr) s = .next (({ t with ctl := { t.ctl with evq := l } } : State).putEvr e).settle) ∧
  (∀ (s t : State) (dt : Nat), Finds s dt t → t.ringRoom .evr ≠ 0 → t.ctl.evrOvfFlag = true →
    exec (.heldRecordWrite dt .evr) s =
      .next (({ t with ctl := { t.ctl with evrOvfFlag := false } } : State).putEvr { code := 0x0005, data := leBytes 1 1 }).settle) ∧
  (∀ (s t : State) (dt : Nat) (b : List Byte) (l : List (List Byte)), Finds s dt t → t.ringRoom .ftr > 0 → t.fcr.queue = b :: l →
    exec (.heldRecordWrite dt .ftr) s = .next (({ t with fcr := { t.fcr with queue := l } } : State).ftrWrite b).settle)

/-- R48, R49, R338: commands that the descriptor alone decides. Each takes the next descriptor of the MCR and writes one
CMD_DONE: NOP, an opcode that the table does not list (BAD_OPCODE), a descriptor whose read failed (DMA_ERROR), DECANT_ARM
(RESULT the earlier mode; BAD_PARAM for a mode above 2; DENIED for a mode other than 0 outside the life cycles that hold data),
SHADOW_DISCARD (the shadow set is what is in force).
The model's own choices in it: log entry 80. -/
def Obligations.SimpleManagementCommands : Prop :=
  (∀ (s t u : State) (dt k : Nat) (d : Desc), Finds s dt t → t.mcrTake = some (k, u) →
    exec (.nop dt d) s = .next (u.cmdDone k d stSuccess).settle) ∧
  (∀ (s t u : State) (dt k op : Nat) (d : Desc), Finds s dt t → t.mcrTake = some (k, u) →
    op % 256 ∉ [0x00, 0x01, 0x02, 0x03, 0x04, 0x10, 0x20, 0x21, 0x30, 0x31] →
    exec (.unlistedOpcode dt d op) s = .next (u.cmdDone k d stBadOpcode).settle) ∧
  (∀ (s t u : State) (dt k : Nat), Finds s dt t → t.mcrTake = some (k, u) →
    exec (.descriptorReadError dt) s = .next (u.cmdDone k {} stDmaError).settle) ∧
  (∀ (s t u : State) (dt k mode : Nat) (d : Desc), Finds s dt t → t.mcrTake = some (k, u) →
    exec (.decantArm dt d mode) s = .next (
      (if mode % 256 > 2 then u.cmdDone k d stBadParam
       else if mode % 256 ≠ 0 ∧ u.lcLive = false then u.cmdDone k d stDenied
       else ((u.setFld R.DCT_ARM F.DCT_ARM_MODE (mode % 256)).setFld R.DCT_ARM F.DCT_ARM_ARMED (b2n (mode % 256 ≠ 0))).cmdDone k d
         stSuccess (u.fld R.DCT_ARM F.DCT_ARM_MODE))).settle) ∧
  (∀ (s t u : State) (dt k : Nat) (d : Desc), Finds s dt t → t.mcrTake = some (k, u) →
    u.cfg.faultySh = [] → u.cfg.faulty = [] →
    exec (.shadowDiscard dt d) s = .next (({ u with
      cfg := { u.cfg with shadow := [], onDieSh := u.cfg.onDie, tmSh := [], shBlocks := [], shPlace := [], dirty := [] }
      tbm := { u.tbm with
        flips := u.tbm.flips.filter fun e => e.1 < 2 ^ 30
        poison := u.tbm.poison.filter fun w => w < 2 ^ 25 } } : State).cmdDone k d stSuccess).settle)

/-- R50 to R52, R55, R67: TABLE_WRITE and TABLE_READ. In the L3 safe state a write is refused with SAFE_STATE; operands that
R50 and R51 do not allow give BAD_PARAM; a failed host read DMA_ERROR; shadow blocks that are short NO_SPACE; a write of an
on-die table lands in the shadow copy; a read writes the whole entries before the first damaged one to the host.
The model's own choices in it: log entry 76. -/
def Obligations.TableCommands : Prop :=
  (∀ (s t u : State) (dt k : Nat) (d : Desc) (op : TableOp) (data : Option (List Byte)), Finds s dt t →
    t.mcrTake = some (k, u) →
    (u.safe = true → exec (.tableWrite dt d op data) s = .next (u.cmdDone k d stSafeState).settle) ∧
    (u.safe = false → u.tableOk op = false ∨ op.copy ≠ 0 →
      exec (.tableWrite dt d op data) s = .next (u.cmdDone k d stBadParam).settle)) ∧
  (∀ (s t u : State) (dt k : Nat) (d : Desc) (op : TableOp) (bs : List Byte), Finds s dt t → t.mcrTake = some (k, u) →
    u.safe = false → u.tableOk op = true → op.copy = 0 → onDieTable op.tableId = true →
    exec (.tableWrite dt d op (some bs)) s =
      .next (((u.hostRead .mgmt op.addr (entrySize op.tableId * op.count)).onDieWrite op
        (padTo (entrySize op.tableId * op.count) bs)).cmdDone k d stSuccess).settle) ∧
  (∀ (s t u : State) (dt k : Nat) (d : Desc) (op : TableOp), Finds s dt t → t.mcrTake = some (k, u) →
    u.safe = false → u.tableOk op = true → op.copy = 0 → onDieTable op.tableId = true →
    exec (.tableWrite dt d op none) s =
      .next ((u.hostRead .mgmt op.addr (entrySize op.tableId * op.count)).cmdDone k d stDmaError).settle) ∧
  (∀ (s t u : State) (dt k : Nat) (d : Desc) (op : TableOp) (data : Option (List Byte)), Finds s dt t →
    t.mcrTake = some (k, u) → u.safe = false → u.tableOk op = true → op.copy = 0 → onDieTable op.tableId = false →
    (u.blocksNeeded op.tableId (entrySize op.tableId * op.first) (entrySize op.tableId * op.count)).length > u.shadowFree →
    exec (.tableWrite dt d op data) s =
      .next ((u.hostRead .mgmt op.addr (entrySize op.tableId * op.count)).cmdDone k d stNoSpace).settle) ∧
  (∀ (s t u : State) (dt k : Nat) (d : Desc) (op : TableOp) (bs : List Byte), Finds s dt t → t.mcrTake = some (k, u) →
    u.safe = false → u.tableOk op = true → op.copy = 0 → onDieTable op.tableId = false →
    u.blocksNeeded op.tableId (entrySize op.tableId * op.first) (entrySize op.tableId * op.count) = [] →
    exec (.tableWrite dt d op (some bs)) s =
      .next (((u.hostRead .mgmt op.addr (entrySize op.tableId * op.count)).shadowBytes op.tableId
        (entrySize op.tableId * op.first) (entrySize op.tableId * op.first + entrySize op.tableId * op.count)
        (entrySize op.tableId * op.first) (padTo (entrySize op.tableId * op.count) bs)).cmdDone k d stSuccess).settle) ∧
  (∀ (s t u : State) (dt k : Nat) (d : Desc) (op : TableOp), Finds s dt t → t.mcrTake = some (k, u) →
    u.tableOk op = false ∨ op.copy > 1 →
    exec (.tableRead dt d op) s = .next (u.cmdDone k d stBadParam).settle) ∧
  (∀ (s t u : State) (dt k : Nat) (d : Desc) (op : TableOp) (bs : List Byte) (bad : Bool), Finds s dt t →
    t.mcrTake = some (k, u) → u.tableOk op = true → op.copy ≤ 1 → onDieTable op.tableId = true →
    u.tableBytes op.tableId op.copy (entrySize op.tableId * op.first) (entrySize op.tableId * op.count) = (bs, bad) →
    bs.take (bs.length / entrySize op.tableId * entrySize op.tableId) ≠ [] →
    exec (.tableRead dt d op) s =
      .next ((u.hostWrite .mgmt op.addr (bs.take (bs.length / entrySize op.tableId * entrySize op.tableId))).cmdDone k d
        (if bad then stTableEcc else stSuccess)).settle)

/-- R60, R61, R67: the commands of a COMMIT and its six steps. COMMIT is taken with the shadow set as it stands, and refused
with SAFE_STATE in the safe state; after WAIT_MAX with the previous epoch still draining it ends with EPOCH_STUCK; a check
that fails ends it with CFG_MISMATCH and the check's number and index in DETAIL.
The model's own choices in it: log entry 77. -/
def Obligations.CommitEnds : Prop :=
  (∀ (s t u : State) (dt k : Nat) (d : Desc), Finds s dt t → t.mcrTake = some (k, u) →
    exec (.commit dt d) s = .next ((if u.safe then u.cmdDone k d stSafeState
      else { u with ctl := { u.ctl with commit := some { desc := d, slot := k, since := u.now, step := 1, set := u.cfg.shadow } } }).settle)) ∧
  (∀ (s t : State) (dt : Nat) (c : CommitSt), Finds s dt t → t.ctl.commit = some c → c.step = 1 → t.cfg.prev ≠ none →
    t.now - c.since ≥ 1000000 * t.fld R.CTL_COMMIT_CFG F.CTL_COMMIT_CFG_WAIT_MAX →
    exec (.epochStuck dt) s =
      .next (({ t with ctl := { t.ctl with commit := none } } : State).cmdDone c.slot c.desc stEpochStuck).settle) ∧
  (∀ (s t : State) (dt n i : Nat) (c : CommitSt), Finds s dt t → t.ctl.commit = some c → c.step = 1 → t.cfg.prev = none →
    t.safe = false → (t.candidate c.set).commitChecks = some (n, i) →
    exec (.commitChecks dt) s = .next (({ t with ctl := { t.ctl with commit := none } } : State).cmdDone c.slot c.desc
      stCfgMismatch 0 (atBits n 56 8 ||| atBits i 0 32)).settle)

/-- R60 steps 3 to 6: the install flips the epoch, keeps the copy in force as the previous one, puts the shadow set and the
shadow tables in force, and starts the adoption by every port; each port adopts once; the last one's adoption writes the
completion with the new epoch, which a decant that leaves the event ring no room keeps for the exit; when nothing of the
previous epoch is left, its copy goes and EPOCH_DRAINED names it.
The model's own choices in it: log entries 6 and 85. -/
def Obligations.CommitInstalls : Prop :=
  (∀ (s t : State) (dt : Nat) (c : CommitSt), Finds s dt t → t.ctl.commit = some c → c.step = 1 → t.cfg.prev = none →
    t.safe = false → (t.candidate c.set).commitChecks = none →
    exec (.commitChecks dt) s = .next (t.install c).commitDone.settle ∧ ∀ u : State, u = t.install c →
      u.cfg.epoch = (t.cfg.epoch + 1) % 2 ^ 32 ∧ u.cfg.onDie = t.cfg.onDieSh ∧ u.cfg.faulty = t.cfg.faultySh ∧
      u.cfg.tm = ((t.installRegs c.set).installTm).cfg.tm ∧
      (∀ k : Nat, k ≠ R.XBC_SHARED → k ≠ R.BRG_CNT 12 → (∀ w : Nat, k ≠ R.BRG_WIN_PFDROP w) → u.raw k = (t.installRegs c.set).raw k) ∧
      u.cfg.prev = some { epoch := t.cfg.epoch, regs := t.cfg.regs, onDie := t.cfg.onDie, tm := t.cfg.tm, faulty := t.cfg.faulty } ∧
      u.cfg.dirty = [] ∧ u.cfg.shBlocks = [] ∧ u.cfg.tmSh = [] ∧ u.cfg.prevBlocks = t.cfg.shBlocks.length ∧
      u.ctl = { t.ctl with commit := some { c with step := 4 }, adopting := t.cfg.ports.map (·.1), epochDone := false } ∧
      u.now = t.now ∧ u.out = t.out) ∧
  (∀ (s t u : State) (dt p : Nat), Finds s dt t → p ∈ t.ctl.adopting →
    u = ({ t with ctl := { t.ctl with adopting := t.ctl.adopting.filter (· ≠ p) } } : State).keepQueues p →
    (t.ctl.adopting.filter (· ≠ p) ≠ [] → exec (.portAdoptEpoch dt p) s = .next u.settle) ∧
    (∀ c : CommitSt, t.ctl.adopting.filter (· ≠ p) = [] → t.ctl.commit = some c → c.step = 4 →
      (t.decanting = false ∨ (t.ringRoom .evr ≠ 0 ∧ t.ctl.held = []) → exec (.portAdoptEpoch dt p) s =
        .next (({ u with ctl := { u.ctl with commit := none, epochDone := true } } : State).cmdDone c.slot c.desc stSuccess
          t.cfg.epoch).settle) ∧
      (t.decanting = true → t.ringRoom .evr = 0 ∨ t.ctl.held ≠ [] → exec (.portAdoptEpoch dt p) s =
        .next (({ u with
          ctl := { u.ctl with commit := none, epochDone := true }
          dct := { u.dct with owed := { slot := c.slot, desc := c.desc, status := stSuccess, result := t.cfg.epoch } :: u.dct.owed } } :
            State)).settle))) ∧
  (∀ (s t : State) (dt : Nat) (q : PrevEpoch), Finds s dt t → t.cfg.prev = some q → t.ctl.adopting = [] →
    t.ctl.epochDone = true → (∀ e ∈ t.xbc.pkts, e.2.epoch ≠ q.epoch) →
    exec (.epochDrained dt) s = .next (({ t with
      cfg := { t.cfg with prev := none, prevBlocks := 0, prevPlace := [] }
      brg := { t.brg with cache := (t.brg.cache.filter fun x => x.epoch == t.cfg.epoch || x.both).map fun x =>
        { x with epoch := t.cfg.epoch, both := false } } } : State).event { code := 0x0002, data := leBytes 4 q.epoch }).settle)

/-- R327, R365 to R368, R375, R377, R419, R511: the commands with blocks of their own behind them. HARVEST with operands that
R327 does not allow, COUNTER_DUMP of no set, FAULT_ACK of more than 1,024 records: BAD_PARAM. A harvest that goes on after a
full buffer runs on the other generation. POWER_STATE: SAFE_STATE in the safe state, BAD_PARAM for a bad mask or a drain
time outside 1 to 1,000 ms, DENIED where the life cycle holds no data (each with the RESULT of R366 in PWR_LAST too); a TRIM first asks the domains it switches off to
stop; KEEP_WARM and OFF start a drain under the command's own times.
The model's own choices in it: log entries 23, 80 and 173. -/
def Obligations.BlockCommands : Prop :=
  (∀ (s t u : State) (dt k : Nat) (d : Desc) (op : HarvestOp), Finds s dt t → t.mcrTake = some (k, u) →
    op.ctx > 1023 ∨ u.flag (R.WLG_CTX_STAT op.ctx) F.WLG_CTX_STAT_READY = false ∨ op.maxEnt < 2 ∨
      bitAt op.flags 0 ≠ u.flag (R.WLG_CTX_STAT op.ctx) F.WLG_CTX_STAT_MORE ∨ op.addr % 64 ≠ 0 →
    exec (.harvest dt d op) s = .next (u.cmdDone k d stBadParam).settle) ∧
  (∀ (s t u : State) (dt k : Nat) (d : Desc) (op : HarvestOp), Finds s dt t → t.mcrTake = some (k, u) →
    op.ctx ≤ 1023 → u.flag (R.WLG_CTX_STAT op.ctx) F.WLG_CTX_STAT_READY = true → op.maxEnt ≥ 2 → op.addr % 64 = 0 →
    bitAt op.flags 0 = true → u.flag (R.WLG_CTX_STAT op.ctx) F.WLG_CTX_STAT_MORE = true →
    exec (.harvest dt d op) s = .next ((({ u with ctl := { u.ctl with busyCmd := some (0x10, k, d) } } : State).harvestRun
      { ctx := op.ctx, gen := 1 - u.fld (R.WLG_CTX_STAT op.ctx) F.WLG_CTX_STAT_GEN, cont := true, flush := false,
        target := bitAt op.flags 2, maxEnt := op.maxEnt, addr := op.addr, slot := k, desc := d }).settle)) ∧
  (∀ (s t u : State) (dt k target onMask : Nat) (d : Desc), Finds s dt t → t.mcrTake = some (k, u) →
    target % 256 = 1 → u.safe = false → trimOk (onMask % 2 ^ 64) (u.raw R.PWR_RUN_MASK).toNat = true →
    (stopOrder.filter fun x => u.pdOn x && !wantedMask (onMask % 2 ^ 64) x) ≠ [] →
    exec (.powerStateTrim dt d target onMask) s = .next ({ u with
      ctl := { u.ctl with busyCmd := some (0x20, k, d) }
      pwr := { u.pwr with cmd := some {
        slot := k, desc := d, target := 1 % 2 ^ 64,
        stops := stopOrder.filter fun x => u.pdOn x && !wantedMask (onMask % 2 ^ 64) x,
        wakes := stopOrder.reverse.filter fun x => !u.pdOn x && wantedMask (onMask % 2 ^ 64) x,
        since := u.now } } } : State).settle) ∧
  (∀ (s t u : State) (dt k target onMask : Nat) (d : Desc), Finds s dt t → t.mcrTake = some (k, u) →
    target % 256 ≠ 2 → target % 256 ≠ 3 →
    (u.safe = true → exec (.powerStateTrim dt d target onMask) s = .next (u.pwrTurned k d stSafeState (target % 256)).settle) ∧
    (u.safe = false → target % 256 > 3 ∨ (target % 256 = 1 ∧ trimOk (onMask % 2 ^ 64) (u.raw R.PWR_RUN_MASK).toNat = false) →
      exec (.powerStateTrim dt d target onMask) s = .next (u.pwrTurned k d stBadParam (target % 256)).settle)) ∧
  (∀ (s t u : State) (dt k : Nat) (d : Desc) (op : PowerOp), Finds s dt t → t.mcrTake = some (k, u) → u.safe = false →
    1 ≤ op.drainMs % 65536 → op.drainMs % 65536 ≤ 1000 → u.lcLive = true → u.ctl.busyCmd = none → u.ctl.commit = none →
    (op.wakeAfter % 2 ^ 32 ≠ 0 ∨ u.flag R.PWR_WAKE_CFG F.PWR_WAKE_CFG_WAKE_EN = true →
      ∃ w : State, exec (.powerStateKeepWarm dt d op) s = .next w.settle ∧ w.dct.active = true ∧ w.dct.quiet = true ∧
        w.dct.drain = true ∧ w.dct.phase = 2 ∧ w.dct.t0 = u.now ∧ w.dct.deadline = 1000000 * (op.drainMs % 65536) ∧
        w.dct.cmd = some (k, d) ∧ w.dct.off = false ∧ w.dct.abandonOk = bitAt op.flags 0 ∧
        w.dct.wakeAfter = op.wakeAfter % 2 ^ 32 ∧ w.ctl.busyCmd = some (0x20, k, d) ∧ w.now = u.now ∧ w.out = u.out) ∧
    (∃ w : State, exec (.powerStateOff dt d op) s = .next w.settle ∧ w.dct.active = true ∧ w.dct.quiet = true ∧
        w.dct.drain = true ∧ w.dct.phase = 2 ∧ w.dct.t0 = u.now ∧ w.dct.deadline = 1000000 * (op.drainMs % 65536) ∧
        w.dct.cmd = some (k, d) ∧ w.dct.off = true ∧ w.dct.abandonOk = bitAt op.flags 0 ∧ w.dct.wakeAfter = 0 ∧
        w.ctl.busyCmd = some (0x20, k, d) ∧ w.now = u.now ∧ w.out = u.out)) ∧
  (∀ (s t u : State) (dt k : Nat) (d : Desc) (op : PowerOp), Finds s dt t → t.mcrTake = some (k, u) →
    (u.safe = true → exec (.powerStateOff dt d op) s = .next (u.pwrTurned k d stSafeState 3).settle) ∧
    (u.safe = false → op.drainMs % 65536 = 0 ∨ op.drainMs % 65536 > 1000 →
      exec (.powerStateOff dt d op) s = .next (u.pwrTurned k d stBadParam 3).settle) ∧
    (u.safe = false → 1 ≤ op.drainMs % 65536 → op.drainMs % 65536 ≤ 1000 → u.lcLive = false →
      exec (.powerStateOff dt d op) s = .next (u.pwrTurned k d stDenied 3).settle)) ∧
  (∀ (s t u : State) (dt k sets : Nat) (clear : Bool) (d : Desc), Finds s dt t → t.mcrTake = some (k, u) →
    (sets % 8 = 0 → exec (.counterDump dt d sets clear) s = .next (u.cmdDone k d stBadParam).settle) ∧
    (∀ (n seq : Nat) (skip : Bool) (w : State), sets % 8 ≠ 0 → u.dump 1 (sets % 8) clear = (skip, n, seq, w) →
      exec (.counterDump dt d sets clear) s =
        .next (w.cmdDone k d stSuccess (atBits (b2n skip) 63 1 ||| atBits n 32 16 ||| seq)).settle)) ∧
  (∀ (s t u : State) (dt k first n flags : Nat) (d : Desc), Finds s dt t → t.mcrTake = some (k, u) → u.fcr.inbox = [] →
    (n > 1024 → exec (.faultAck dt d first n flags) s = .next (u.cmdDone k d stBadParam).settle) ∧
    (n ≤ 1024 → bitAt flags 0 = true → bitAt flags 1 = false → bitAt flags 2 = false → bitAt flags 3 = false →
      exec (.faultAck dt d first n flags) s = .next (({ u with fcr := { u.fcr with pending := [], full := false } } : State).cmdDone k d
        stSuccess (atBits (b2n u.safe) 63 1 ||| atBits u.fcr.pending.length 32 11)).settle))

/-- R15, R475 to R477: a register access of a form that its master class issues takes effect; a read answers its bytes and
clears what it covers; another access is none; without the right of R474 a write changes no register and a read answers
zeros, and the violation is counted and captured.
The model's own choices in it: log entry 38. -/
def Obligations.RegisterAccesses : Prop :=
  (∀ (s t : State) (dt addr : Nat) (m : Master) (bs : List Byte), Finds s dt t → accessOk m addr bs.length = true →
    exec (.registerWrite dt m .mgmt addr bs) s = .next (t.mpuWrite m addr bs none).2.settle) ∧
  (∀ (s t u : State) (dt addr len : Nat) (m : Master) (bs : List Byte), Finds s dt t → accessOk m addr len = true →
    t.mpuRight m (addr / 0x40000) false = true → t.getBytes 9 addr len = (bs, u) →
    exec (.readClear dt m .mgmt addr len) s = .next (u.emit (.regData addr bs)).settle) ∧
  (∀ (s t : State) (dt addr : Nat) (m : Master) (bs : List Byte), Finds s dt t → accessOk m addr bs.length = true →
    t.mpuRight m (addr / 0x40000) true = false →
    exec (.registerWrite dt m .mgmt addr bs) s = .next (t.violate m addr bs.length true false).settle) ∧
  (∀ (s t : State) (dt addr len : Nat) (m : Master), Finds s dt t → accessOk m addr len = true →
    t.mpuRight m (addr / 0x40000) false = false →
    exec (.readClear dt m .mgmt addr len) s =
      .next ((t.violate m addr len false false).emit (.regData addr (List.replicate len 0))).settle)

/-- R75, R241, R243: what arrives at a PCI Express port that is up. A TLP that passes the checks is accepted; a TLP's
remaining data joins it; a discarded TLP ends; a CRC error is logged, raised and answered with a NAK; credits that the
partner returns are added, and one beyond what was granted is a flow-control error that retrains the link, as an
acknowledgement of what was never sent is a data-link error; a NAK replays and counts in CNT_6; a partner below may enter
L2/L3 Ready. A port that is down takes nothing.
The model's own choices in it: log entry 16. -/
def Obligations.TlpReceiveCompletes : Prop :=
  (∀ (s t : State) (dt p : Nat) (h : Hdr) (payload raw : List Byte) (whole ide : Bool), Finds s dt t → t.isPcie p = true →
    (t.pcpOf p).up = true → ide = false ∨ h.sel = true ∨ ((t.pcpOf p).insecure = false ∧ t.ideSecure p = true) →
    t.role p ≠ 1 ∨ h.kind.isCpl = true ∨ t.acsOn (.port p) 0 = false ∨ t.ownsBus (.port p) (h.reqId / 256) = true →
    t.beyondCredits p h = false → t.badForm p h payload whole = false →
    exec (.tlpReceive dt p (.tlp h payload whole raw ide {})) s = .next (t.acceptTlp p h payload whole raw ide).settle) ∧
  (∀ (s t : State) (dt p i : Nat) (payload : List Byte) (last : Bool), Finds s dt t → t.isPcie p = true →
    (t.pcpOf p).up = true → tfind t.xbc.rxCur p = some i →
    exec (.tlpReceive dt p (.more payload last)) s = .next (t.moreData i payload last).settle ∧
    exec (.tlpReceive dt p .discard) s = .next ((t.cntPcp p 0).endPacket i).settle) ∧
  (∀ (s t : State) (dt p : Nat), Finds s dt t → t.isPcie p = true → (t.pcpOf p).up = true →
    (∀ dllp : Bool, exec (.tlpReceive dt p (.crcError dllp)) s =
      .next (((t.rxLog p (if dllp then .badDllp else .badTlp)).raise Flt.PCP_RX_COR p).emit (.link p "NAK")).settle)) ∧
  (∀ (s t : State) (dt p hdr data : Nat), Finds s dt t → t.isPcie p = true → (t.pcpOf p).up = true →
    exec (.tlpReceive dt p (.fcUpdate 0 hdr data false)) s =
      .next (t.setPcp p { t.pcpOf p with ph := (t.pcpOf p).ph + hdr, pd := (t.pcpOf p).pd + data }).settle ∧
    exec (.tlpReceive dt p (.fcUpdate 1 hdr data false)) s =
      .next (t.setPcp p { t.pcpOf p with nph := (t.pcpOf p).nph + hdr, npd := (t.pcpOf p).npd + data }).settle ∧
    exec (.tlpReceive dt p (.fcUpdate 2 hdr data false)) s =
      .next (t.setPcp p { t.pcpOf p with ch := (t.pcpOf p).ch + hdr, cd := (t.pcpOf p).cd + data }).settle ∧
    exec (.tlpReceive dt p (.fcUpdate 0 hdr data true)) s =
      .next ((t.portError p .flowControl none Flt.PCP_FC_PROTO).emit (.link p "retrain")).settle ∧
    exec (.tlpReceive dt p (.ack true)) s = .next ((t.portError p .dataLink none Flt.PCP_DLP).emit (.link p "retrain")).settle ∧
    exec (.tlpReceive dt p .nak) s = .next ((t.cntPcp p 6).emit (.link p "replay")).settle) ∧
  (∀ (s t : State) (dt p : Nat), Finds s dt t → t.isPcie p = true → (t.pcpOf p).up = true → t.role p ≠ 0 →
    exec (.tlpReceive dt p .enterL23) s = .next (t.setFld (t.pk p R.PCP_LINK_STAT) F.PCP_LINK_STAT_PM 5).settle) ∧
  (∀ (s t : State) (dt p : Nat) (x : PcieRx), Finds s dt t → (t.pcpOf p).up = false →
    exec (.tlpReceive dt p x) s = .next t.settle)

/-- R71, R75, R83, R90, R93: the switch core's own steps. The packets whose lookup waits on a TMG answer are looked up again; a
port discards the held requests that have aged, and then sends a held one or the head of the queue that it picks; the oldest
packet that a port is sending, once whole, is sent; a packet whose next cell does not come within CT_STALL_MAX ends; the end of
a scan with nothing discarded frees the cells whose own sideband fails; the oldest sample goes to the SMR as two records, or is
lost whole where it has not room for two.
The model's own choices in it: log entries 6 and 94. -/
def Obligations.SwitchStepsComplete : Prop :=
  (∀ (s t : State) (dt i tc : Nat) (ing : Ingress), Finds s dt t → t.xbc.stalled = [i] → (t.pkt i).ingress = ing →
    (t.pkt i).tc = tc → (t.pkt i).stall = some .stamp → (t.pkt i).relD = [] →
    exec (.lookupResume dt ing tc) s = .next ((t.unstall i).addJob (.enter i)).settle) ∧
  (∀ (s t : State) (dt p : Nat) (x : Sending), Finds s dt t → t.isScango p = false →
    t.xbc.sending.find? (fun y => y.link == p) = some x → (t.pkt x.pkt).whole = true → (∀ k : Nat, t.upsets.contains (0xE6, 64 * p + k) = false) →
    (t.pkt x.pkt).descPar = 0 → (∀ k : Nat, x.chk ≤ k → (t.cellOf (t.pkt x.pkt) k).sideBad = false ∧ (t.cellOf (t.pkt x.pkt) k).dataBad = false) →
    ∃ u : State, u = ({ t with xbc := { t.xbc with sending := t.xbc.sending.filter fun y => y ≠ x } } : State) ∧
      exec (.egressSendDone dt p) s = .next ((((((u.emit (.tlp p ((t.pkt x.pkt).dest x.dest).hdr (u.payload (t.pkt x.pkt)))).ev 6 2 p
        (t.pkt x.pkt).tc).ev 6 3 p (t.pkt x.pkt).tc (ceilDiv ((t.pkt x.pkt).dest x.dest).hdr.size 4)).noteSent p
          ((t.pkt x.pkt).dest x.dest).hdr.size).sentWhole x.pkt x.dest p).settle)) ∧
  (∀ (s t : State) (dt p : Nat) (x : Sending), Finds s dt t →
    t.xbc.sending.find? (fun y => y.link == p && !(t.pkt y.pkt).whole) = some x →
    t.now - (t.pkt x.pkt).lastWr ≥ 1000 * t.fld R.XBC_CFG F.XBC_CFG_CT_STALL_MAX →
    exec (.ctStallTimeout dt p) s = .next (t.endDests x.pkt [x.dest]).settle) ∧
  (∀ (s t : State) (dt q n i d : Nat) (x : Queue), Finds s dt t → t.safe = false → t.xbc.stalled = [] → t.tmg.queues = [(n, x)] →
    x.mem = [(i, d)] → n < 32768 → n / 256 ∈ t.cfg.ports.map (·.1) → t.quadrant (n / 256) = q → t.aged (t.pkt i) = true →
    t.sweepDue q = true → ∀ u : State, u = ((t.cfg.ports.map (·.1)).filter fun p => t.quadrant p == q).foldl State.sweepHold
      ((({ t with xbc := { t.xbc with swept := tput t.xbc.swept q t.now } } : State).unq i d).ageOut i d) →
      u.xbc.stalled = [] → exec (.ageSweep dt q) s = .next u.settle) ∧
  (∀ (s t v u : State) (dt p : Nat) (ups : List Upset), Finds s dt t → t.isScango p = true ∨ t.busyPort p = false →
    v = (t.dropHeld p (t.pcpOf p).hold.length).offWheel p →
    (∀ (n i d : Nat) (l : List (Nat × Nat)), v.isScango p = true ∨ v.sendHeld p = none →
      v.pickQueue p = some (n, u) → (v.queue n).mem = (i, d) :: l → v.aged (v.pkt i) = false → v.dctDrops (v.pkt i) = false →
      exec (.egressSelect dt p ups) s = .next ((((u.ev 2 1 p (v.pkt i).tc).ev 2 2 p (v.pkt i).tc
        (ceilDiv ((v.pkt i).dest d).hdr.size 4)).startSend i d p ups)).settle) ∧
    (v.isScango p = false → v.sendHeld p = some u → exec (.egressSelect dt p ups) s = .next u.settle)) ∧
  (∀ (s t : State) (dt : Nat), Finds s dt t → t.xbc.reclaim = [] →
    ∃ u : State, u = ({ t.count (R.XBC_CNT 8) (t.xbc.cells.filter fun e => e.2.sideBad).length with
      xbc := { t.xbc with cells := t.xbc.cells.filter fun e => !(t.xbc.cells.filter fun e => e.2.sideBad).any fun g => g.1 == e.1 } } : State) ∧
      exec (.sbReclaim dt) s = .next (({ u with xbc := { u.xbc with
          sharedUsed := u.xbc.cells.length - (u.xbc.occ.filter fun e => !(e.1 / 8 == 130)).foldl (fun n e => n + e.2.min + e.2.hdrm) 0
            + (u.xbc.occ.filter fun e => e.1 / 8 == 130).foldl (fun n e => n + e.2.shared) 0 } } : State).retryAdmission).settle) ∧
  (∀ (s t u : State) (dt : Nat) (x : Sample) (l : List Sample), Finds s dt t → t.xbc.samples = x :: l →
    u = (({ t with xbc := { t.xbc with samples := l } } : State).uncharge { acct := 130, tc := bitsOf x.metaWord 45 3, chg := x.cells, ncells := 1 }).retryAdmission →
    (u.ringRoom .smr < 2 → exec (.sampleWrite dt) s = .next (u.lose .smr).settle) ∧
    (u.ringRoom .smr ≥ 2 → ∃ w : State, w = ((u.writeRecord .smr (leBytes 2 1 ++ [0, 0] ++ leBytes 4 u.xbc.smpSeq ++ leBytes 8 x.metaWord
        ++ leBytes 8 x.time ++ (padTo 64 x.bytes).take 40)).writeRecord .smr
          (leBytes 2 2 ++ [0, 0] ++ leBytes 4 u.xbc.smpSeq ++ (padTo 64 x.bytes).drop 40)) ∧
      exec (.sampleWrite dt) s = .next ({ w with xbc := { w.xbc with smpSeq := (u.xbc.smpSeq + 1) % 2 ^ 32 } } : State).settle))

/-- R107, R108, R112, R113, R116, R119: the commit fences. A fence message of the right form takes a number and waits to be
taken (or finishes at once where its group is none that it may use); another is counted and discarded; a fence is taken when
it is the oldest pending one of its source and class; a flush is sent once the copies of the fence's generation have left, or
its replica fails; the answer of a flush sets its replica's cause; a finished fence writes its record when every earlier one
of its source and class has.
The model's own choices in it: log entries 12 and 109. -/
def Obligations.FencesComplete : Prop :=
  (∀ (s t : State) (dt v tc lenDw : Nat) (op : FenceOp), Finds s dt t →
    t.flag R.CMT_CFG F.CMT_CFG_VDM_EN = false ∨ lenDw ≠ 4 ∨ op.recordAddr % 32 ≠ 0 →
    exec (.fenceMessage dt v tc lenDw op) s = .next (t.count (R.CMT_CNT 3)).settle) ∧
  (∀ (s t : State) (dt v tc : Nat) (op : FenceOp), Finds s dt t → t.flag R.CMT_CFG F.CMT_CFG_VDM_EN = true →
    op.recordAddr % 32 = 0 → op.group > 1023 →
    exec (.fenceMessage dt v tc 4 op) s = .next ({ t with mce := { t.mce with
      fences := tput t.mce.fences t.mce.nextFence {
        id := op.fenceId, group := op.group % 1024, recordAddr := op.recordAddr,
        src := t.srcFid v, vs := v, tc := tc, slice := none, st := 3, bad := some 6 }
      nextFence := t.mce.nextFence + 1 } } : State).settle) ∧
  (∀ (s t : State) (dt v tc : Nat) (op : FenceOp), Finds s dt t → t.flag R.CMT_CFG F.CMT_CFG_VDM_EN = true →
    op.recordAddr % 32 = 0 → op.group ≤ 1023 → ∀ u : State, u = t.groupRead (t.upPort v) op.group →
    (u.group u.cfg.epoch op.group).bad = false → (u.group u.cfg.epoch op.group).valid = true → u.fenceSlots < 8192 →
    exec (.fenceMessage dt v tc 4 op) s = .next ({ u with mce := { u.mce with
      fences := tput u.mce.fences u.mce.nextFence {
        id := op.fenceId, group := op.group, recordAddr := op.recordAddr,
        src := u.srcFid v, vs := v, tc := tc, slice := none, st := 1, bad := none }
      nextFence := u.mce.nextFence + 1 } } : State).settle) ∧
  (∀ (s t : State) (dt n : Nat) (f : Fence), Finds s dt t → tfind t.mce.fences n = some f → f.st = 1 → t.cmtFrozen = false →
    t.earlierPending n f = false → (∀ e ∈ t.mce.fences, e.2.saved = false) →
    exec (.fenceTake dt n) s = .next (t.fenceTake n f).settle) ∧
  (∀ (s t : State) (dt n r : Nat) (f : Fence), Finds s dt t → tfind t.mce.fences n = some f → f.st = 2 →
    (f.reps.getD r {}).st = 0 → t.cmtFrozen = false → t.upsets = [] → t.flow? (f.key (f.reps.getD r {})) = none →
    t.entryFaulty t.cfg.epoch 2 (f.reps.getD r {}).fid = false →
    exec (.flushSend dt n r) s = .next ((if t.unreachable t.cfg.epoch (t.flushHdr f (f.reps.getD r {})) then t.setCause n r 1
      else t.flushOut n r f (f.reps.getD r {})).settle)) ∧
  (∀ (s t : State) (dt n r : Nat) (a : Answer), Finds s dt t → t.cmtFrozen = false →
    t.answers.find? Answer.ofFence = some a → a.origin = .fence n r →
    exec (.flushCompletion dt) s =
      .next ((({ t with answers := t.answers.erase a } : State).setCause n r (flushCause a)).settle)) ∧
  (∀ (s t : State) (dt n : Nat) (f : Fence), Finds s dt t → tfind t.mce.fences n = some f → f.st = 3 → t.cmtFrozen = false → f.saved = false ∨ t.dct.exitDue = false →
    (∀ e ∈ t.mce.fences, ¬ (e.1 < n ∧ e.2.src = f.src ∧ e.2.tc = f.tc)) →
    exec (.fenceRecordWrite dt n) s = .next (t.fenceRecord n f).settle)

/-- R142, R145, R146, R148, R151, R152, R263: resequencing and escape. A gap that has stood for its time, without the time that
its timer stood still, ends; a skip that names the next number of one of this device's flows counts and moves the flow past
it; the head of a Scango egress queue that has found no credit for THR_NS takes the escape path.
The model's own choices in it: log entry 6. -/
def Obligations.RoutingSteps : Prop :=
  (∀ (s t u : State) (dt w x : Nat), Finds s dt t → t.decanting = false → t.safe = false → u = t.checkRsq (t.rsq w).flow →
    (u.rsq w).timer = some x → u.gapNow - x ≥ 1000 * (u.rsq w).tmo →
    exec (.gapTimeout dt w) s = .next (u.endGap w none).settle) ∧
  (∀ (s t u : State) (dt p src dst tc seq : Nat), Finds s dt t → t.isScango p = true → (t.sglOf p).phase = 3 →
    (t.sglOf p).ccIn < 16 → src < 4096 → dst < 4096 → tc < 8 → seq < 65536 →
    u = t.setSgl p { t.sglOf p with ccIn := (t.sglOf p).ccIn + 1 } → u.ownFid dst = true →
    exec (.seqSkip dt p src dst tc seq) s = .next ((u.seqSkip src dst tc seq).returnCrema (some p)).settle) ∧
  (∀ (s t : State) (dt q i d : Nat) (l : List (Nat × Nat)), Finds s dt t → (t.queue q).mem = (i, d) :: l →
    t.isScango (q / 256) = true → t.flag R.RTE_ESC_THR F.RTE_ESC_THR_ESC_EN = true → ((t.pkt i).dest d).hdr.esc = false →
    t.now - max (t.queue q).headAt (t.queue q).creditAt ≥ t.fld R.RTE_ESC_THR F.RTE_ESC_THR_THR_NS → t.headCredit q = false →
    exec (.escape dt q) s = .next ((((t.setPkt { t.pkt i with dests := (t.pkt i).dests.set d { (t.pkt i).dest d with
      hdr := { ((t.pkt i).dest d).hdr with esc := true, down := false } } }).count (R.RTE_CNT 8)).ev 3 3 (q / 256) (t.pkt i).tc).settle))

/-- R165, R170, R171, R172: the traffic manager's timers and samples. The wheel of a quadrant reaches each slot once in the 8 ns
that are its own: an entry with no round left leaves the wheel, and the largest lateness is kept; one with rounds left loses
one; a held red write is metered again once its peak bucket holds its length; once in each period of INTERVAL_NS a histogram
sample bins the depth and the head's delay of every valid queue.
The model's own choices in it: log entries 6 and 15. -/
def Obligations.TrafficSteps : Prop :=
  (∀ (s t u : State) (dt quad slot n net : Nat) (x : Queue), Finds s dt t → t.tmg.queues = [(n, x)] → t.quadrant (n / 256) = quad →
    t.now / 8 % 4096 = slot → tfind t.tmg.wheelAt quad ≠ some (t.now / 8) →
    u = ({ t with tmg := { t.tmg with wheelAt := tput t.tmg.wheelAt quad (t.now / 8) } } : State) →
    (x.wheel = some (slot, 0, net) → exec (.wheelSlot dt quad slot) s = .next (((u.setQueue n { x with wheel := none }).setFld
      (R.TMG_CAL_STAT quad) F.TMG_CAL_STAT_LATE_MAX (max (t.fld (R.TMG_CAL_STAT quad) F.TMG_CAL_STAT_LATE_MAX)
        (min 0xFFFF (t.now - net / 2 ^ 20)))).ev 2 3 (n / 256) (n / 32 % 8)).settle) ∧
    (∀ r : Nat, x.wheel = some (slot, r + 1, net) → exec (.wheelSlot dt quad slot) s =
      .next (u.setQueue n { x with wheel := some (slot, r, net) }).settle)) ∧
  (∀ (s t : State) (dt quad slot : Nat), Finds s dt t → t.now / 8 % 4096 ≠ slot ∨ tfind t.tmg.wheelAt quad = some (t.now / 8) →
    exec (.wheelSlot dt quad slot) s = .next t.settle) ∧
  (∀ (s t : State) (dt i : Nat), Finds s dt t → t.hasPkt i = true → (t.pkt i).stall = some .posted →
    t.peakHolds (t.pkt i).epoch (t.pkt i).vh (t.pkt i).tc (t.pkt i).hdr.size = true →
    exec (.postedDelay dt i) s = .next ((t.unstall i).addJob (.enter i)).settle) ∧
  (∀ (s t : State) (dt quad : Nat), Finds s dt t → t.flag R.TMG_HIST_CFG F.TMG_HIST_CFG_EN = true →
    (∀ y : Nat, tfind t.tmg.histAt quad = some y →
      y / t.fld R.TMG_HIST_CFG F.TMG_HIST_CFG_INTERVAL_NS ≠ t.now / t.fld R.TMG_HIST_CFG F.TMG_HIST_CFG_INTERVAL_NS) →
    exec (.histogramSample dt quad) s = .next ((t.validQueues quad).foldl (fun (u : State) q => { u with tmg := { u.tmg with
        hist := tput u.tmg.hist q (bumpBin (bumpBin (tget [] u.tmg.hist q) (depthBin (u.depth q)))
        (16 + (if (u.queue q).mem = [] then 0 else delayBin (u.now - (u.queue q).headAt)))) } })
          ({ t with tmg := { t.tmg with histAt := tput t.tmg.histAt quad t.now } } : State)).settle) ∧
  (∀ (s t : State) (dt quad : Nat), Finds s dt t → t.flag R.TMG_HIST_CFG F.TMG_HIST_CFG_EN = false →
    exec (.histogramSample dt quad) s = .next t.settle)

/-- R182 to R184, R190, R192, R194, R195, R214, R321: the bridge's own steps, by its timers, which stand still in a decant. The
table read of a translation miss fills the cache, and the held packet is looked up again; a request answered BUSY goes out again
after its back-off as a new packet of its flow; a tracker entry whose deadline has passed is counted, raised and closed as lost,
or freed with a fault where its own check fails, and a requester inside the part whose entry was freed is told at that time; a quarantine that has ended frees its tag; the
oldest queued failure record is written once its ring has room.
The model's own choices in it: log entries 6, 19, 89 and 141. -/
def Obligations.BridgeTimers : Prop :=
  (∀ (s t u : State) (dt i idx a q : Nat), Finds s dt t → (t.pkt i).stall = some (.xlt idx) → (t.pkt i).ingress = .port q →
    t.tblAddr 0 (8 * idx) = some a → (t.tmRead (1 + t.quadrant q) a 8).xltFill (t.pkt i).epoch idx = some u →
    exec (.xltMiss dt i) s = .next ((u.unstall i).addJob (.enter i)).settle) ∧
  (∀ (s t u w : State) (dt k at_ i : Nat) (x : Trk) (h : Hdr), Finds s dt t → tfind t.brg.trk k = some x → x.retryAt = some at_ →
    at_ ≤ t.brgNow → t.brgFrozen = false → ∀ e : Nat, e = (if t.isPrev x.epoch then x.epoch else t.cfg.epoch) →
    (t.checkTrk k).1 = false → t.stampHdr e x.req = some (h, u) →
    u.tryMakeAt e { internalPkt h none with origin := x.origin, trkOut := some k, vs := x.vs, vh := x.vs } x.data = some (i, w) →
    exec (.busyRetry dt k) s = .next (((({ w with brg := { w.brg with trk := tput w.brg.trk k { x with retryAt := none, req := h } } } :
      State).count (R.BRG_CNT 6)).fabSend i h)).settle) ∧
  (∀ (s t : State) (dt k : Nat) (x : Trk), Finds s dt t → tfind t.brg.trk k = some x → x.deadline ≤ t.brgNow → t.brgFrozen = false →
    (∀ e ∈ t.brg.lost, e.1 ≠ k) → ((t.checkTrk k).1 = true → exec (.cplTimeout dt k) s = .next (t.checkTrk k).2.settle) ∧
    ((t.checkTrk k).1 = false → exec (.cplTimeout dt k) s = .next ((((t.count (R.BRG_CNT 2)).raise Flt.BRG_CPL_TMO 0
      (if x.inbound then trkInfo x.src (some x.port) x.myTag else trkInfo x.dst none x.myTag) x.tc).closeTrk k
        (if x.inbound then 8 else 4) true)).settle)) ∧
  (∀ (s t : State) (dt k : Nat) (e : Nat × Trk), Finds s dt t → t.brgFrozen = false →
    t.brg.lost.find? (fun e => e.1 == k && decide (e.2.deadline ≤ t.brgNow)) = some e →
    exec (.cplTimeout dt k) s = .next (({ t with brg := { t.brg with lost := t.brg.lost.erase e } } : State).notify e.2.origin 4 e.2.acc
      true).settle) ∧
  (∀ (s t : State) (dt unit tag : Nat) (inb : Bool), Finds s dt t →
    (t.decanting = true → exec (.quarantineEnd dt inb unit tag) s = .next t.settle) ∧
    (t.decanting = false → exec (.quarantineEnd dt inb unit tag) s = .next ({ t with brg := { t.brg with
      quar := t.brg.quar.filter fun q => !(q.inbound == inb && q.unit == unit && q.tag == tag && decide (q.until_ ≤ t.brgNow)) } } :
        State).settle)) ∧
  (∀ (s t : State) (dt : Nat) (v : Fin 32) (b : List Byte) (l : List (List Byte)), Finds s dt t →
    tget [] t.dmv.failQ v.val = b :: l → t.ringRoom (.fail v) > 0 →
    exec (.failRingWrite dt v) s =
      .next ((({ t with dmv := { t.dmv with failQ := tput t.dmv.failQ v.val l } } : State).writeRecord (.fail v) b)).settle)

/-- R205, R206, R211: prefetches and rate-limited values. An answer fills its entry, and the reads that wait for it are looked
up again; a failed one discards the entry, and so do 50 µs without use; a value held for its RATE is sent with its latest
contents.
The model's own choices in it: log entries 12 and 82. -/
def Obligations.PrefetchAndRates : Prop :=
  (∀ (s t : State) (dt id j : Nat) (a : Answer) (x : Pf), Finds s dt t → t.answers.find? Answer.ofPrefetch = some a →
    a.origin = .prefetch id → t.brg.pf.find? (fun e => e.2.id == id) = some (j, x) →
    (a.status = 0 → a.lost = false → exec (.prefetchFill dt) s = .next ((({ t with
      answers := t.answers.erase a
      brg := { t.brg with pf := tput t.brg.pf j { x with filled := true, data := a.data, last := t.brgNow } } } :
        State).resumePf j)).settle) ∧
    (a.status ≠ 0 ∨ a.lost = true →
      exec (.prefetchFill dt) s = .next ((({ t with answers := t.answers.erase a } : State).pfDrop j)).settle)) ∧
  (∀ (s t : State) (dt j : Nat) (x : Pf), Finds s dt t → tfind t.brg.pf j = some x → x.filled = true → t.brgNow - x.last ≥ 50000 →
    t.decanting = false →
    exec (.prefetchExpiry dt j) s = .next (t.pfDrop j).settle) ∧
  (∀ (s t : State) (dt id w : Nat) (x : SbVal), Finds s dt t → x = tget {} t.brg.sb id → w = t.onDieAt t.cfg.epoch 4 (8 * id) 8 →
    x.pending = true → t.brgNow - x.lastSend ≥ max 1 (bitsOf w 13 12) * 100000 → t.brgFrozen = false →
    t.entryFaulty t.cfg.epoch 4 id = false → bitAt w 63 = true → bitsOf w 61 2 = 1 ∨ bitsOf w 61 2 = 2 →
    exec (.sidebandRateSend dt id) s = .next ((({ t with brg := { t.brg with
      sb := tput t.brg.sb id { x with pending := false, lastSend := t.brgNow, sent := true } } } : State).sbForward t.cfg.epoch
        (id / 64) (id % 64) x.reqId x.data)).settle)

/-- R197, R198, R200 to R203, R263: routed messages that end at this device. Each is read back from its 32 bytes with the
operands it was sent with, acts, and its crema credit returns: a note of a failed write is recorded for the virtual switch
that owns its source; a lock request, grant, release and break act on the lock.
The model's own choices in it: log entries 24 and 88. -/
def Obligations.RoutedMessagesComplete : Prop :=
  ∀ (s t u : State) (dt p : Nat), Finds s dt t → t.isScango p = true → (t.sglOf p).phase = 3 → (t.sglOf p).ccIn < 16 →
    u = t.setSgl p { t.sglOf p with ccIn := (t.sglOf p).ccIn + 1 } →
    (∀ (op : NoteOp) (v : Nat), op.cause < 256 → op.dst < 4096 → op.src < 4096 → op.tc < 8 → op.seq < 65536 → op.length < 65536 →
      op.offset < 2 ^ 52 → op.reqId < 65536 → op.reporter < 4096 → (∀ x, op.pasid = some x → x < 2 ^ 20) → u.ownFid op.src = true →
      u.fidIndex op.src = some v → u.dct.quiet = false →
      exec (.pwfNote dt p op) s = .next (((u.pwfRecord (u.ownerVs v) {
        cause := op.cause, tc := op.tc, remote := true, reqId := op.reqId,
        dst := op.dst, src := op.src, reporter := op.reporter, length := op.length, seq := op.seq, offset := op.offset,
        pasid := op.pasid }).returnCrema (some p))).settle) ∧
    (∀ owner target id reason : Nat, owner < 4096 → target < 4096 → id < 65536 → reason < 256 →
      (u.ownFid u.arbFid = true →
        exec (.lockReq dt p owner target) s = .next ((u.lockReq owner target).returnCrema (some p)).settle ∧
        exec (.lockRelease dt p owner target id) s = .next ((u.lockRelease owner target id).returnCrema (some p)).settle) ∧
      (u.ownFid owner = true →
        exec (.lockGrant dt p owner target id) s = .next ((u.lockGranted owner target id).returnCrema (some p)).settle) ∧
      exec (.lockBreak dt p reason owner target id) s =
        .next (((u.lockBreakIn owner target id).breakOn (lockMsg 0x0D reason owner target id) p).returnCrema (some p)).settle)

/-- R200, R202: the lock timers. Ten milliseconds after the arbiter's grant, or after a virtual switch began to wait for one,
the lock is broken with reason 1.
The model's own choices in it: log entry 6. -/
def Obligations.LockTimers : Prop :=
  (∀ (s t : State) (dt o g id since : Nat), Finds s dt t → t.brg.arb = some (o, g, id, since) → t.brgNow - since ≥ 10000000 →
    t.brgFrozen = false → exec (.lockTimer dt) s = .next (t.lockBreak 1 o g id).settle) ∧
  (∀ (s t : State) (dt v : Nat), Finds s dt t → (t.lock v).st = 1 → t.brgNow - (t.lock v).since ≥ 10000000 → t.brgFrozen = false →
    exec (.lockGrantTimeout dt v) s = .next (t.lockBreak 1 (t.lock v).owner (t.lock v).target 0).settle) ∧
  (∀ (s t : State) (dt o g id since : Nat), Finds s dt t → t.brg.arb = some (o, g, id, since) → t.brgNow - since < 10000000 →
    exec (.lockTimer dt) s = .next t.settle)

/-- R229, R231, R233, R241: the link of a PCI Express port. It comes up with the rate, width and credits that the partner
advertises and what this port grants; it goes down, with a Surprise Down Error where it has no hot-plug slot; it enters and
leaves L1; it narrows in L0p; a replay timeout is a correctable error and replays, or retrains when the numbers roll over.
The model's own choices in it: log entry 16. -/
def Obligations.PcieLinkStates : Prop :=
  (∀ (s t : State) (dt p : Nat) (x : LinkUpOp), Finds s dt t → t.isPcie p = true → (t.pcpOf p).up = false → t.mayTrain p = true →
    ∀ adv : Word, adv = fcAdvert (t.raw (t.pk p R.PCP_FC)) (t.hdrmMin p) → F.PCP_FC_ADV_NO_FIT.get adv ≠ 1 →
    exec (.pcieLinkUp dt p x) s = .next ((((((t.upLanes p).foldl State.overTaps (((t.setRaw (t.pk p R.PCP_FC_ADV) adv).setRaw (t.pk p R.PCP_LINK_STAT)
      (F.PCP_LINK_STAT_WIDTH_NEG.set (F.PCP_LINK_STAT_RATE.set (F.PCP_LINK_STAT_FLIT.set (F.PCP_LINK_STAT_DL_ACTIVE.set
        (F.PCP_LINK_STAT_UP.set 0 1) 1) (b2n x.flit)) x.rate) x.lanes)).setRaw (R.XBC_PORT_SPEED p)
      (F.XBC_PORT_SPEED_SPEED.set (F.XBC_PORT_SPEED_UP.set 0 1) (pcieSpeed x.rate x.lanes x.flit)))).setPcp p { t.pcpOf p with
        up := true, life := (t.pcpOf p).life + 1, ph := partnerCredit x.ph, pd := partnerCredit x.pd, nph := partnerCredit x.nph, npd := partnerCredit x.npd
        ch := partnerCredit x.ch, cd := partnerCredit x.cd, lanes := x.lanes, narrow := false
        l1 := false, idleSince := t.now, upAt := t.now, sent := [] }).linkStatus p x.rate x.lanes).dllChange p
        true).decantAer p).settle) ∧
  (∀ (s t : State) (dt p : Nat), Finds s dt t → t.isPcie p = true → (t.pcpOf p).up = true →
    (t.flag (t.pk p R.PCP_SLOT_CFG) F.PCP_SLOT_CFG_SLOT_EN = true → exec (.pcieLinkDown dt p) s = .next (t.linkDown p).settle) ∧
    (t.flag (t.pk p R.PCP_SLOT_CFG) F.PCP_SLOT_CFG_SLOT_EN = false → exec (.pcieLinkDown dt p) s =
      .next ((t.portError p .surpriseDown none Flt.PCP_SURPRISE).linkDown p).settle)) ∧
  (∀ (s t : State) (dt p : Nat), Finds s dt t → t.isPcie p = true → (t.pcpOf p).up = true → (t.pcpOf p).l1 = false →
    t.l1Allowed p = true → t.portIdle p = true →
    t.now - (t.pcpOf p).idleSince ≥ 1000 * t.fld (t.pk p R.PCP_PM_CFG) F.PCP_PM_CFG_L1_IDLE →
    t.role p ≠ 0 ∨ t.belowIdle (t.vsOf p) = true →
    exec (.aspmL1Entry dt p) s = .next (((t.setPcp p { t.pcpOf p with l1 := true }).setFld (t.pk p R.PCP_LINK_STAT)
      F.PCP_LINK_STAT_PM (t.l1State p)).emit (.link p "L1")).settle) ∧
  (∀ (s t : State) (dt p : Nat), Finds s dt t → t.isPcie p = true → (t.pcpOf p).l1 = true →
    exec (.aspmL1Exit dt p) s = .next (((t.setPcp p { t.pcpOf p with l1 := false, idleSince := t.now }).setFld
      (t.pk p R.PCP_LINK_STAT) F.PCP_LINK_STAT_PM 0).emit (.link p "L0")).settle) ∧
  (∀ (s t : State) (dt p lanes : Nat), Finds s dt t → t.isPcie p = true → (t.pcpOf p).up = true → (t.pcpOf p).l1 = false →
    t.l0pAllowed p = true → 1 ≤ lanes → t.belowHalf p lanes = true → lanes < t.fld (t.pk p R.PCP_LINK_STAT) F.PCP_LINK_STAT_WIDTH_NEG →
    exec (.l0pNarrow dt p lanes) s = .next (((t.setPcp p { t.pcpOf p with narrow := true }).setWidth p lanes 1).emit
      (.link p "L0p")).settle) ∧
  (∀ (s t : State) (dt p : Nat), Finds s dt t → t.isPcie p = true → (t.pcpOf p).up = true →
    exec (.pcieReplayTimeout dt p false) s =
      .next ((((t.rxLog p .replayTimeout).raise Flt.PCP_RX_COR p).cntPcp p 6).emit (.link p "replay")).settle ∧
    exec (.pcieReplayTimeout dt p true) s =
      .next (((t.rxLog p .replayRollover).raise Flt.PCP_RX_COR p).emit (.link p "retrain")).settle)

/-- R224, R225, R234, R236, R238, R240, R570: resets of a virtual switch and its ports, and the host's and the endpoint
port's own requests. PERST_N at an upstream port resets its virtual switch and stops its answers until it is ready again; a
hot reset resets it; a Secondary Bus Reset stands in the bridge's register and resets the port below; an FLR of the
management function disables its rings; Bus Master Enable clears; DPC is left and the port trains; a slot's PERST_N is
released after its delay; a configuration request ends with its status, its data, or by time.
The model's own choices in it: log entries 16 and 73. -/
def Obligations.PcieResetsAndRequests : Prop :=
  (∀ (s t : State) (dt p : Nat), Finds s dt t → t.role p = 0 →
    exec (.perstN dt p true) s =
      .next ((t.setPcp p { t.pcpOf p with perstIn := true, ready := false }).vsReset (t.vsOf p)).settle ∧
    exec (.perstN dt p false) s = .next ((t.setPcp p { t.pcpOf p with perstIn := false }).trainAgain p).settle) ∧
  (∀ (s t : State) (dt p : Nat), Finds s dt t → t.role p = 0 → (t.pcpOf p).up = true →
    exec (.hotReset dt p) s = .next ((t.vsReset (t.vsOf p)).trainAgain p).settle) ∧
  (∀ (s t : State) (dt p : Nat), Finds s dt t → t.isDown (.port p) = true →
    exec (.secondaryBusReset dt p) s = .next ((t.cfgOr (.port p) 15 (2 ^ 22)).resetDown p).settle) ∧
  (∀ (s t : State) (dt v p : Nat), Finds s dt t → t.upPort v = some p → (t.pcpOf p).perstIn = false →
    exec (.vsReady dt v) s = .next (t.setPcp p { t.pcpOf p with ready := true }).settle) ∧
  (∀ (s t : State) (dt : Nat), Finds s dt t → t.ctl.busyCmd = none → t.wlg.harvest = none →
    ∃ u : State, u = [RingId.mcr, .evr, .ftr, .smr, .cdr].foldl (fun s r => s.setFld r.cfg F.CTL_CFG_EN 0) t ∧
      exec (.mgmtFlr dt) s = .next ({ u with
        ctl := { u.ctl with commit := none, epochDone := true, fetched := u.ringCi .mcr, busyCmd := none }
        brg := { u.brg with loc := u.brg.loc.filter fun e => e.2.origin != .own .mgmt }
        pci := u.pci.filter fun e => e.1 / 1024 ≠ Fn.mgmt.num || stickyDw (e.1 % 1024) || e.1 % 1024 == 1000 } : State).settle) ∧
  (∀ (s t : State) (dt p : Nat), Finds s dt t → t.role p < 2 →
    exec (.busMasterClear dt p) s = .next (t.cfgClear (.port p) 1 4).settle) ∧
  (∀ (s t : State) (dt p : Nat), Finds s dt t → (t.pcpOf p).dpc = true → t.vsContained (t.vsOf p) = false →
    ∀ u : State, u = (((t.setPcp p { t.pcpOf p with dpc := false }).cfgClear (.port p) 0x96 1).markContained p false).setFld
      (t.pk p R.PCP_LINK_STAT) F.PCP_LINK_STAT_PM 7 →
    exec (.dpcRelease dt p) s = .next (if u.mayTrain p then u.emit (.link p "train") else u).settle) ∧
  (∀ (s t : State) (dt p x : Nat), Finds s dt t → (t.pcpOf p).pgSince = some x → t.perstHeld p = false →
    t.now - x ≥ 1000000 * t.fld (t.pk p R.PCP_SLOT_CFG) F.PCP_SLOT_CFG_PERST_DLY →
    exec (.slotPerstDeassert dt p) s = .next (t.setPerst p false).settle) ∧
  (∀ (s t : State) (dt p st data : Nat), Finds s dt t → t.flag (t.pk p R.PCP_CFGRQ) F.PCP_CFGRQ_BUSY = true →
    (t.flag (t.pk p R.PCP_CFGRQ) F.PCP_CFGRQ_WRITE = false → ∀ u : State,
      u = (t.setFld (t.pk p R.PCP_CFGRQ) F.PCP_CFGRQ_BUSY 0).setFld (t.pk p R.PCP_CFGRQ) F.PCP_CFGRQ_STATUS 0 →
      exec (.cfgrqDone dt p 0 data) s = .next (u.setFld (t.pk p R.PCP_CFGRQ_DATA) F.PCP_CFGRQ_DATA_DATA data).settle) ∧
    (st = 1 ∨ st = 2 ∨ st = 4 → exec (.cfgrqDone dt p st data) s =
      .next ((t.setFld (t.pk p R.PCP_CFGRQ) F.PCP_CFGRQ_BUSY 0).setFld (t.pk p R.PCP_CFGRQ) F.PCP_CFGRQ_STATUS st).settle) ∧
    (t.now - (t.pcpOf p).cfgSince ≥ 50000000 → exec (.cfgrqTimeout dt p) s =
      .next ((t.setFld (t.pk p R.PCP_CFGRQ) F.PCP_CFGRQ_BUSY 0).setFld (t.pk p R.PCP_CFGRQ) F.PCP_CFGRQ_STATUS 7).settle))

/-- R245, R252, R254, R255, R257, R262, R264, R270: flits of a Scango link. A replay goes out first, then crema messages, then
data, and with nothing to send an IDLE flit, as one goes out in every 1,024; a flit of the replay goes out again with the present
acknowledgement. A good flit is taken by its FSN: the one expected next is accepted, counted, and its messages act or its
packet bytes go on; an earlier one is counted as a duplicate and acknowledged again; a later one within 512 asks for a NAK;
any other is a violation. A flit that cannot be decoded is counted, a violation, and asks for a NAK; a NAK that acknowledges
what was sent starts a replay, and so does the replay timer.
The model's own choices in it: log entries 10, 25 and 166. -/
def Obligations.FlitsComplete : Prop :=
  (∀ (s t : State) (dt p : Nat) (bad : Bool), Finds s dt t → t.isScango p = true → (t.sglOf p).st = 2 ∨ (t.sglOf p).st = 3 →
    ∀ (x : SglSt) (u : State), x = ((t.linkCheck p).sglOf p).dropUnsent → u = (t.linkCheck p).setSgl p { x with run := x.run + 1 } →
    (x.run + 1 > 1023 → exec (.flitSend dt p bad) s = .next (u.putIdle p).settle) ∧
    (x.run + 1 ≤ 1023 → (u.sglOf p).replay = none → u.cremaReady p = false → (u.sglOf p).buf.length ≥ 496 ∨ u.sendData p = none →
      exec (.flitSend dt p bad) s = .next ((u.setSgl p { u.sglOf p with run := 0 }).putFlit p
        (mkFlit 0 (u.sglOf p).txFsn (u.sglOf p).ackVal 0x3F [])).settle) ∧
    (x.run + 1 ≤ 1023 → (u.sglOf p).replay = none → u.cremaReady p = true → (u.sglOf p).buf.length < 512 → u.sendData p = none →
      exec (.flitSend dt p bad) s = .next (u.sendCremaFlit p).settle) ∧
    (∀ w : State, x.run + 1 ≤ 1023 → (u.sglOf p).replay = none → (u.sglOf p).buf.length < 496 → u.sendData p = some w →
      u.cremaReady p = false ∨ (u.sglOf p).cremaRun < 3 → exec (.flitSend dt p bad) s = .next w.settle) ∧
    (∀ (k : Nat) (f : TxFlit), x.run + 1 ≤ 1023 → (u.sglOf p).replay = some k →
      (u.sglOf p).buf[(u.sglOf p).buf.length - k]? = some f →
      (u.flitBad p f.fsn = false → exec (.flitSend dt p false) s = .next ((((u.ev 5 3 p 0).slotDue p 1 236).setSgl p { u.sglOf p with
        replay := if k ≤ 1 then none else some (k - 1) }).putFlit p (f.again (u.sglOf p).ackVal)).settle) ∧
      exec (.flitSend dt p true) s = .next ((u.raise Flt.SGL_REPLAY_ECC p).sglDown p [f.fsn]).settle)) ∧
  (∀ (s t : State) (dt p : Nat) (raw : List Byte), Finds s dt t → t.isScango p = true →
    (t.sglOf p).st = 2 ∨ (t.sglOf p).st = 3 → decodeFlit raw = none →
    exec (.flitReceive dt p raw) s =
      .next ((((t.corrections p (flitFixes raw)).modSgl p fun x => { x with goodRun := 0, nakDue := true }).cntSgl p 2).violation
        p Flt.SGL_FLIT_BAD).settle) ∧
  (∀ (s t : State) (dt p : Nat) (raw f : List Byte) (fixed : List Nat), Finds s dt t → t.isScango p = true →
    (t.sglOf p).st = 2 ∨ (t.sglOf p).st = 3 → decodeFlit raw = some (f, fixed) →
    ∀ (u : State) (y : SglSt) (d ty : Nat), u = (((t.ev 5 4 p 0).corrections p fixed).ackIn p (bitsOf (beAt f 0 4) 6 12)).2.goodFlit p →
    y = u.sglOf p → d = (bitsOf (beAt f 0 4) 18 12 + 4096 - y.exp) % 4096 → ty = bitsOf (beAt f 0 4) 30 2 →
    (ty = 3 → d = 0 → exec (.flitReceive dt p raw) s = .next ((slots 7 (f.drop 4)).foldl (fun s m => s.cremaIn p m)
      ((u.setSgl p { y with exp := (y.exp + 1) % 4096, nakDue := y.nakDue && u.nakOpen p }).cntSgl p 0)).settle) ∧
    (ty = 1 ∨ ty = 2 → y.phase ≠ 2 → d = 0 → exec (.flitReceive dt p raw) s =
      .next (((u.setSgl p { y with exp := (y.exp + 1) % 4096, nakDue := y.nakDue && u.nakOpen p }).cntSgl p 0).rxData p (ty == 2)
        (bitsOf (beAt f 0 4) 0 6) ((f.drop 4).take 236)).settle) ∧
    (ty ≠ 0 → ty = 3 ∨ y.phase ≠ 2 → 1 ≤ d → d < 512 →
      exec (.flitReceive dt p raw) s = .next (u.setSgl p { y with nakDue := true }).settle) ∧
    (ty ≠ 0 → ty = 3 ∨ y.phase ≠ 2 → 512 ≤ d → d < 2048 →
      exec (.flitReceive dt p raw) s = .next ((u.violation p Flt.SGL_PROTO).retrain p).settle) ∧
    (ty ≠ 0 → ty = 3 ∨ y.phase ≠ 2 → 2048 ≤ d → ackMsg false 0 ∉ y.linkMsgs → exec (.flitReceive dt p raw) s =
      .next ((u.setSgl p { y with linkMsgs := y.linkMsgs ++ [ackMsg false 0] }).cntSgl p 5).settle) ∧
    (ty = 0 → d = 0 ∨ 512 ≤ d → exec (.flitReceive dt p raw) s = .next u.settle)) ∧
  (∀ (s t u : State) (dt p a : Nat), Finds s dt t → t.isScango p = true → (t.sglOf p).st = 2 ∨ (t.sglOf p).st = 3 →
    t.ackIn p a = (true, u) →
    exec (.ack dt p true a) s = .next (u.startReplay p false).settle ∧ exec (.ack dt p false a) s = .next u.settle) ∧
  (∀ (s t : State) (dt p : Nat), Finds s dt t → (t.sglOf p).st = 2 ∨ (t.sglOf p).st = 3 → (t.sglOf p).buf ≠ [] →
    t.now - (t.sglOf p).timer ≥ (t.sglOf p).tmo →
    exec (.replayTimer dt p) s = .next (t.startReplay p true).settle)

/-- R260, R263 to R265: link initialisation and credits. A CREDIT whose returns do not exceed what was consumed sets the
returns of its six pools and of the crema messages; one that exceeds them is a violation and retrains; a CREDIT_INIT of an
initialising link sets its six pools and the link comes up once all are there, as does LINK_PARAM, which keeps the partner's
identity until then; an initialisation of more than 10 µs brings the link down.
The model's own choices in it: log entry 95. -/
def Obligations.LinkMessagesComplete : Prop :=
  (∀ (s t : State) (dt p first cc : Nat) (vals : List (Nat × Nat)), Finds s dt t → t.isScango p = true →
    (t.sglOf p).st = 2 ∨ (t.sglOf p).st = 3 → first ∈ [0, 6, 12, 18] →
    ((∀ j < 6, ((vals.getD j (0, 0)).1 + 4096 - (tget {} (t.sglOf p).pools (first + j)).cr) % 4096 ≤
          ((tget {} (t.sglOf p).pools (first + j)).cons + 4096 - (tget {} (t.sglOf p).pools (first + j)).cr) % 4096 ∧
        ((vals.getD j (0, 0)).2 + 65536 - (tget {} (t.sglOf p).pools (first + j)).crD) % 65536 ≤
          ((tget {} (t.sglOf p).pools (first + j)).consD + 65536 - (tget {} (t.sglOf p).pools (first + j)).crD) % 65536) →
      (cc + 256 - (t.sglOf p).ccRet) % 256 ≤ ((t.sglOf p).ccCons + 256 - (t.sglOf p).ccRet) % 256 →
      exec (.credit dt p first cc vals) s = .next (t.setSgl p { t.sglOf p with
        ccRet := cc
        pools := [0, 1, 2, 3, 4, 5].foldl (fun q j => tput q (first + j) { (tget ({} : Pool) q (first + j)) with
          cr := (vals.getD j (0, 0)).1, crD := (vals.getD j (0, 0)).2 }) (t.sglOf p).pools }).settle) ∧
    ((cc + 256 - (t.sglOf p).ccRet) % 256 > ((t.sglOf p).ccCons + 256 - (t.sglOf p).ccRet) % 256 →
      exec (.credit dt p first cc vals) s = .next ((t.violation p Flt.SGL_FC_PROTO).retrain p).settle)) ∧
  (∀ (s t : State) (dt p first cc : Nat) (vals : List (Nat × Nat)), Finds s dt t → t.isScango p = true → (t.sglOf p).st = 2 →
    first ∈ [0, 6, 12, 18] → (∀ v ∈ vals, v.1 ≤ 2047 ∧ v.2 ≤ 32767) →
    exec (.creditInit dt p first cc vals) s = .next ((t.setSgl p { t.sglOf p with
      gotInit := first :: (t.sglOf p).gotInit, cc := cc, ccCons := 0, ccRet := 0
      pools := [0, 1, 2, 3, 4, 5].foldl (fun q j => tput q (first + j) { (tget ({} : Pool) q (first + j)) with
        init := (vals.getD j (0, 0)).1, initD := (vals.getD j (0, 0)).2, cons := 0, consD := 0, cr := 0, crD := 0 })
          (t.sglOf p).pools }).tryUp p).settle) ∧
  (∀ (s t : State) (dt p fid partner : Nat), Finds s dt t → t.isScango p = true → (t.sglOf p).st = 2 →
    exec (.linkParam dt p fid partner) s = .next ((t.modSgl p fun x => { x with gotParam := true, partner := (fid, partner) }).tryUp p).settle) ∧
  (∀ (s t : State) (dt p : Nat), Finds s dt t → (t.sglOf p).st = 2 → t.now - (t.sglOf p).initSince ≥ 10000 →
    exec (.linkInitTimeout dt p) s = .next (t.sglDown p).settle)

/-- R267 to R269: a lane swap. The partner drives its spare beside the lane asked for, or refuses with its reason; the
acknowledgement takes the lane's bytes from the spare and answers DONE, or ends the swap with the partner's result; DONE ends
the driving of the lane and is counted and raised; 50 µs without an acknowledgement end the swap with result 7, and the link
goes the way that the swap's cause asks.
The model's own choices in it: log entry 99. -/
def Obligations.LaneSwapsComplete : Prop :=
  (∀ (s t : State) (dt p lane : Nat), Finds s dt t → t.isScango p = true → (t.sglOf p).st = 2 ∨ (t.sglOf p).st = 3 →
    (lane ≥ t.width p → exec (.laneSwap dt p lane) s = .next ((t.cntSgl p 10).modSgl p fun x => { x with
      linkMsgs := x.linkMsgs ++ [crema ([0x06] ++ beBytes 1 lane ++ beBytes 1 3)] }).settle) ∧
    (lane < t.width p → (t.sglOf p).swap.tx ≠ none → exec (.laneSwap dt p lane) s = .next (t.modSgl p fun x => { x with
      linkMsgs := x.linkMsgs ++ [crema ([0x06] ++ beBytes 1 lane ++ beBytes 1 2)] }).settle) ∧
    (lane < t.width p → (t.sglOf p).swap.tx = none → t.ownsSpare p lane = true → t.laneRetired (t.spareOf p lane) = false →
      exec (.laneSwap dt p lane) s =
        .next ((((t.spareNormal (t.spareOf p lane)).modSgl p fun x => { x with swap := { x.swap with tx := some lane, txBoth := true } }).laneOut (t.spareOf p lane)
          "lane and spare").modSgl p fun x => { x with
            linkMsgs := x.linkMsgs ++ [crema ([0x06] ++ beBytes 1 lane ++ beBytes 1 0)] }).settle)) ∧
  (∀ (s t : State) (dt p lane result fsn why : Nat), Finds s dt t → t.isScango p = true →
    (t.sglOf p).st = 2 ∨ (t.sglOf p).st = 3 → (t.sglOf p).swap.rxPending = some (lane, why) →
    exec (.laneSwapAck dt p lane 0 fsn) s = .next ((((t.swapEnd p (some 0)).spareNormal (t.spareOf p lane)).modSgl p fun x => { x with
      linkMsgs := x.linkMsgs ++ [crema ([0x07] ++ beBytes 1 lane ++ [0, 0] ++ beBytes 2 (fsn % 4096))]
      swap := { x.swap with rx := some lane } }).laneOut (t.laneOf p lane) "from spare").settle ∧
    (result ≠ 0 → exec (.laneSwapAck dt p lane result fsn) s =
      .next ((t.swapEnd p (some (result % 8))).swapFailed p why).settle)) ∧
  (∀ (s t : State) (dt p lane : Nat), Finds s dt t → t.isScango p = true → (t.sglOf p).st = 2 ∨ (t.sglOf p).st = 3 →
    (t.sglOf p).swap.txBoth = true → (t.sglOf p).swap.tx = some lane → ∀ u : State,
    u = (t.modSgl p fun x => { x with swap := { x.swap with txBoth := false } }).laneOut (t.laneOf p lane) "idle" →
    exec (.laneSwapDone dt p lane) s = .next ((({ u with lg := { u.lg with
      events := u.lg.events ++ [(t.laneOf p lane, 0, t.now)] } } : State).raise Flt.SGL_LANE_SWAP p).cntSgl p 8).settle) ∧
  (∀ (s t : State) (dt p l why : Nat), Finds s dt t → (t.sglOf p).swap.rxPending = some (l, why) →
    t.now - (t.sglOf p).swapSince ≥ 50000 →
    exec (.laneSwapTimeout dt p) s = .next ((t.swapEnd p (some 7)).swapFailed p why).settle)

/-- R270, R271, R273: retraining and loss. The partner's retrain pattern brings an active link into RETRAIN; its end goes back
to where the link was, with a replay of all that is not acknowledged; a retrain of more than 500 µs, and RETRAIN_MAX retrains
in a second, bring the link down; a lost alignment asks for a swap where the spare is free for the one lane, waits for the
swap of that lane where one runs, and else brings the link down; a link that is down tries again after 10 ms.
The model's own choices in it: log entry 95. -/
def Obligations.RetrainsComplete : Prop :=
  (∀ (s t : State) (dt p lanes : Nat), Finds s dt t → t.isScango p = true → (t.sglOf p).st = 3 → t.width p ≤ 2 * lanes →
    ∀ u : State, u = (t.upLanes p ++ t.upSpares p).foldl (fun w n => w.setLane n { w.lane n with
      adapted := false, locked := false, hit := false, slipAt := (w.lane n).pos }) ((t.swapAbandon p).modSgl p fun x => { x with
        st := 4, back := x.st, retrainSince := t.now, goodRun := 0,
        retrains := (x.retrains.filter fun y => t.now - y < 1000000000) ++ [t.now] }) →
    exec (.retrainPattern dt { port := p, lanes := lanes }) s = .next (((((u.cntSgl p 6).raise
      Flt.SGL_RETRAIN p).emit (.link p "retrain")).setStep p 3).trainOut p 3 0).settle) ∧
  (∀ (s t u : State) (dt p : Nat), Finds s dt t → (t.sglOf p).st = 4 → u = (((((t.upLanes p ++ t.upSpares p).foldl (fun w n =>
      if w.lgBit F.LG_BRINGUP_FAILED n then w
      else (w.setLane n { w.lane n with adapted := true, locked := true }).laneStat n F.LG_LANE_STAT_ADAPTED 1) t).setStep p 7).trainOut
        p 2 16).setStep p 0).loadScr p →
    ((t.sglOf p).buf = [] → exec (.retrainDone dt p) s = .next ((u.setSgl p { u.sglOf p with
      st := (t.sglOf p).back, timer := t.now, tmo := t.sglCfg p F.SGL_CFG_REPLAY_TMR, replayCnt := 0 }).tryUp p).settle) ∧
    ((t.sglOf p).buf ≠ [] → exec (.retrainDone dt p) s = .next (((u.setSgl p { u.sglOf p with
      st := (t.sglOf p).back, timer := t.now, tmo := t.sglCfg p F.SGL_CFG_REPLAY_TMR,
      replayCnt := (t.sglOf p).replayCnt }).startReplay p true true).tryUp p).settle)) ∧
  (∀ (s t : State) (dt p : Nat), Finds s dt t →
    ((t.sglOf p).st = 4 ∧ t.now - (t.sglOf p).retrainSince ≥ 500000) ∨ (((t.sglOf p).st = 3 ∨ (t.sglOf p).st = 4) ∧
      ((t.sglOf p).retrains.filter fun y => t.now - y < 1000000000).length ≥ t.sglCfg p F.SGL_CFG_RETRAIN_MAX) →
    exec (.retrainTimeout dt p) s = .next (t.sglDown p).settle) ∧
  (∀ (s t : State) (dt p lane : Nat) (more : Bool), Finds s dt t → (t.sglOf p).st = 2 ∨ (t.sglOf p).st = 3 →
    (more = true → exec (.alignmentLoss dt p lane more) s = .next (t.sglDown p).settle) ∧
    (more = false → (t.sglOf p).swap.rx = some lane → exec (.alignmentLoss dt p lane more) s = .next t.settle) ∧
    (∀ why : Nat, more = false → (t.sglOf p).swap.rx ≠ some lane → (t.sglOf p).swap.rxPending = some (lane, why) →
      exec (.alignmentLoss dt p lane more) s = .next (t.setSgl p { t.sglOf p with
        swap := { (t.sglOf p).swap with rxPending := some (lane, 2) } }).settle) ∧
    (more = false → (t.sglOf p).swap.rx ≠ some lane → (∀ l ∈ (t.sglOf p).swap.rxPending, l.1 ≠ lane) →
      exec (.alignmentLoss dt p lane more) s =
        .next (if t.swapFree p lane = true then t.swapRequest p lane 2 else t.sglDown p).settle)) ∧
  (∀ (s t : State) (dt p : Nat), Finds s dt t → (t.sglOf p).st = 0 → t.mayBringUp p = true →
    t.now - (t.sglOf p).downSince ≥ 10000000 → (t.sglOf p).fails < 3 → t.flag R.AGE_CFG F.AGE_CFG_RATE_AUTO = false →
    exec (.bringupRetry dt p) s = .next ((t.setSgl p (t.sglOf p)).bringUp p).settle)

/-- R281, R284 to R287, R289: bring-up of a Scango link, step by step. A lane that locks its clock, adapts, and finds its
alignment is marked so, and the link goes on when all have (a lane of an active link that has lost its clock locks again); a
slip position that does not match moves the position on, and the last one fails the lane; under MANUAL only MATCH is reported; a round of equalisation ends with the partner's request; alignment
starts the link layer; a step after 4 that overruns its bound fails the attempt.
The model's own choices in it: log entries 97, 168 and 169. -/
def Obligations.BringUpSteps : Prop :=
  (∀ (s t : State) (dt g l : Nat), Finds s dt t → t.upPortAt g l = none → (t.lane (9 * g + l)).lost = true →
    exec (.cdrLock dt g l) s = .next ((t.setLane (9 * g + l) { t.lane (9 * g + l) with lost := false }).setLgBit F.LG_BRINGUP_CDR_LOCK
      (9 * g + l) true).settle) ∧
  (∀ (s t u : State) (dt g l p n : Nat), Finds s dt t → t.upPortAt g l = some p → n = 9 * g + l → t.lgBit F.LG_BRINGUP_FAILED n = false →
    (t.lane n).lost = false →
    ((t.sglOf p).st ≠ 4 → u = (if (t.sglOf p).bstep = 1 then t.setStep p 2 else t) →
      exec (.cdrLock dt g l) s = .next (((((u.setLane n { t.lane n with cdr := true }).setLgBit F.LG_BRINGUP_CDR_LOCK
        n true).trainLaneOut p 1 0 n).stepOn p).stepOn p).settle) ∧
    (∀ coef : List Int, (t.lane n).cdr = true → exec (.adapted dt g l coef) s =
      .next (((((t.setLane n { t.lane n with adapted := true, coef := coef }).laneStat n
        F.LG_LANE_STAT_ADAPTED 1).trainLaneOut p (t.sglOf p).trainType 0 n).stepOn p).stepOn p).settle) ∧
    ((t.lane n).adapted = true → (t.lane n).locked = false → (t.sglOf p).manual.contains g = false →
      ∀ o : SlipSeen, (∀ (b : List Byte) (inv : Bool), trainIn o.blk = some (b, inv) → exec (.bitslipTry dt g l o) s =
        .next (((t.setLane n { t.lane n with inv := inv, rxLane := beAt b 6 1, skew := o.skew, hit := true, locked := true }).setLgBit
          F.LG_BRINGUP_BLOCK_LOCK n true).stepOn p).settle) ∧
      (∀ pos : Nat, pos = ((t.lane n).pos + (if (t.sglOf p).rateIdx = 0 then 1 else 2)) % 128 → trainIn o.blk = none →
        (pos ≠ (t.lane n).slipAt → exec (.bitslipTry dt g l o) s =
          .next ((t.setLgBit F.LG_BRINGUP_BLOCK_LOCK n false).setLane n { t.lane n with pos := pos }).settle) ∧
        (pos = (t.lane n).slipAt → exec (.bitslipTry dt g l o) s =
          .next (((t.setLgBit F.LG_BRINGUP_BLOCK_LOCK n false).setLgBit F.LG_BRINGUP_FAILED n true).stepOn p).settle))) ∧
    ((t.lane n).adapted = true → (t.lane n).locked = false → (t.sglOf p).manual.contains g = true → ∀ o : SlipSeen, trainIn o.blk = none →
      exec (.bitslipTry dt g l o) s = .next (t.setLane n { t.lane n with hit := false }).settle)) ∧
  (∀ (s t u : State) (dt g l p n : Nat) (req : TxEqReq) (best : Bool), Finds s dt t → t.upPortAt g l = some p → n = 9 * g + l →
    (t.sglOf p).bstep = 6 → (t.lane n).eqOk = false → t.now - max (t.lane n).roundAt (t.sglOf p).bsince ≥ 10000 →
    u = t.eqRequest n req →
    exec (.txeqRound dt g l req best) s = .next (((u.setLane n { u.lane n with
      rounds := (t.lane n).rounds + 1, roundAt := t.now, eqOk := best || (t.lane n).rounds + 1 ≥ 16 }).trainLaneOut p 1 0 n).stepOn
        p).settle) ∧
  (∀ (s t : State) (dt p : Nat) (tx : Option Nat), Finds s dt t → t.isScango p = true → (t.sglOf p).st = 1 → (t.sglOf p).bstep = 7 →
    exec (.alignDone dt p tx) s = .next (((t.trainOut p 2 16).setStep p 0).linkInit p tx).settle) ∧
  (∀ (s t : State) (dt p : Nat), Finds s dt t → (t.sglOf p).st = 1 → (t.sglOf p).bstep = 7 → t.now - (t.sglOf p).bsince ≥ 5000 →
    exec (.bringupTimeout dt p) s = .next (t.failAttempt p (t.liveLanes p)).settle)

/-- R292 to R296, R301: lanes in use. The first drift check of a lane, and no other for 100 ms, takes a snapshot (of an idle lane, the coefficients it
holds); a revert's freeze ends after 10 ms; an eye point that is measured ends with its errors; a lost clock lock is marked and
raised, and holds a Scango lane's coefficients; a pattern checker locks, and when it unlocks its errors are counted.
The model's own choices in it: log entry 6. -/
def Obligations.LaneChecks : Prop :=
  (∀ (s t : State) (dt g l e : Nat) (coef : List Int), Finds s dt t → t.laneUp g l = true → (t.lane (9 * g + l)).snap = none →
    (t.lane (9 * g + l)).frozenAt = none → (∀ y ∈ (t.lane (9 * g + l)).checked, y + 100000000 ≤ t.now) →
    ∀ (x : LaneSt) (c : List Int), x = t.lane (9 * g + l) → c = (if t.laneIdle g l = true then x.coef else coef) →
    exec (.driftCheck dt g l coef e) s = .next (((t.laneStat (9 * g + l) F.LG_LANE_STAT_DRIFT 0).laneStat (9 * g + l)
      F.LG_LANE_STAT_ERR_LAST (min (x.errs + e) (2 ^ 32 - 1))).setLane (9 * g + l) { x with
        errs := 0, checked := some t.now, coef := c, snap := some (c, x.errs + e) }).settle) ∧
  (∀ (s t : State) (dt g l x : Nat), Finds s dt t → (t.lane (9 * g + l)).frozenAt = some x → t.now - x ≥ 10000000 →
    t.flag (R.LG_LANE_STAT g l) F.LG_LANE_STAT_PINNED = false →
    exec (.freezeEnd dt g l) s = .next ((t.setLane (9 * g + l) { t.lane (9 * g + l) with frozenAt := none }).laneStat (9 * g + l)
      F.LG_LANE_STAT_FROZEN 0).settle) ∧
  (∀ (s t : State) (dt g errors : Nat) (aborted : Bool), Finds s dt t → t.flag (R.LG_EYE_STAT g) F.LG_EYE_STAT_BUSY = true →
    exec (.eyePointDone dt g errors aborted) s = .next (t.setRaw (R.LG_EYE_STAT g) (F.LG_EYE_STAT_ERRORS.set
      (F.LG_EYE_STAT_ABORTED.set (F.LG_EYE_STAT_DONE.set 0 1) (b2n aborted)) (min errors (2 ^ 48 - 1)))).settle) ∧
  (∀ (s t : State) (dt g l : Nat), Finds s dt t → t.laneUp g l = true →
    (t.flag (R.LG_CFG g) F.LG_CFG_MODE = false → exec (.cdrLost dt g l) s =
      .next ((t.setLgBit F.LG_BRINGUP_CDR_LOCK (9 * g + l) false).raise Flt.LG_CDR_LOST (9 * g + l)).settle) ∧
    (t.flag (R.LG_CFG g) F.LG_CFG_MODE = true → exec (.cdrLost dt g l) s =
      .next (((t.setLane (9 * g + l) { t.lane (9 * g + l) with lost := true }).setLgBit F.LG_BRINGUP_CDR_LOCK (9 * g + l)
        false).raise Flt.LG_CDR_LOST (9 * g + l)).settle)) ∧
  (∀ (s t : State) (dt g l : Nat), Finds s dt t → t.prbsOn g l = true →
    exec (.prbsCheckerLock dt g l) s = .next (t.setFld (R.LG_TEST g l) F.LG_TEST_LOCK 1).settle) ∧
  (∀ (s t : State) (dt g l errors : Nat), Finds s dt t → t.flag (R.LG_TEST g l) F.LG_TEST_LOCK = true →
    exec (.prbsCheckerUnlock dt g l errors) s =
      .next ((t.setFld (R.LG_TEST g l) F.LG_TEST_LOCK 0).count (R.LG_PRBS_ERR g l) errors).settle)

/-- R307, R309, R317 to R320: a slice's controls. A submission doorbell within the ring is taken, one beyond it is ignored and
marked BAD_PARAM, and every one while the mover's domain is off; a completion doorbell is taken and restarts moderation; a slice that is assigned, disabled and well configured
runs from index 0, but not while the mover is off; a disabled one drains; an abort of a drained slice ends each unfinished
descriptor with ABORTED; a function reset, and Bus Master Enable, act on the slices of the virtual switch.
The model's own choices in it: log entries 21 and 83. -/
def Obligations.SliceControlsComplete : Prop :=
  (∀ (s t : State) (dt n v : Nat), Finds s dt t → t.sliceOn n = true → bitAt (t.raw R.PWR_ON).toNat 61 = true →
    (v < 2 * t.sqSize n → (v + 2 * t.sqSize n - (t.slice n).sqCi) % (2 * t.sqSize n) ≤ t.sqSize n →
      exec (.sqDoorbell dt n v) s = .next (t.setFld (R.DMV_DB_SQ_PI n) F.DMV_DB_SQ_PI_INDEX v).settle) ∧
    (v ≥ 2 * t.sqSize n → exec (.sqDoorbell dt n v) s = .next (t.setFld (R.DMV_SLICE_CTL n) F.DMV_SLICE_CTL_ERR stBadParam).settle)) ∧
  (∀ (s t : State) (dt n v : Nat), Finds s dt t → bitAt (t.raw R.PWR_ON).toNat 61 = false →
    exec (.sqDoorbell dt n v) s = .next t.settle ∧ exec (.cqDoorbell dt n v) s = .next t.settle) ∧
  (∀ (s t u : State) (dt n v : Nat), Finds s dt t → t.sliceOn n = true → bitAt (t.raw R.PWR_ON).toNat 61 = true → v < 2 * t.cqSize n →
    (v + 2 * t.cqSize n - t.fld (R.DMV_DB_CQ_CI n) F.DMV_DB_CQ_CI_INDEX % (2 * t.cqSize n)) % (2 * t.cqSize n) ≤ t.cqUsed n →
    u = t.setFld (R.DMV_DB_CQ_CI n) F.DMV_DB_CQ_CI_INDEX v → t.fld (R.DMV_CQ_CFG n) F.DMV_CQ_CFG_IRQ_COUNT = 0 →
    exec (.cqDoorbell dt n v) s =
      .next (u.setSlice n { u.slice n with irq := (u.slice n).irq.restart (u.cqUsed n) t.now }).settle) ∧
  (∀ (s t : State) (dt n : Nat), Finds s dt t → (t.slice n).st = 0 → t.flag (R.DMV_SLICE_CTL n) F.DMV_SLICE_CTL_EN = false →
    t.domainRuns 61 = true → t.sliceOn n = true → 6 ≤ t.fld (R.DMV_SQ_CFG n) F.DMV_SQ_CFG_LOG2_SIZE → t.fld (R.DMV_SQ_CFG n) F.DMV_SQ_CFG_LOG2_SIZE ≤ 16 →
    6 ≤ t.fld (R.DMV_CQ_CFG n) F.DMV_CQ_CFG_LOG2_SIZE → t.fld (R.DMV_CQ_CFG n) F.DMV_CQ_CFG_LOG2_SIZE ≤ 16 →
    baseOk (t.raw (R.DMV_SQ_BASE n)).toNat (2 ^ t.fld (R.DMV_SQ_CFG n) F.DMV_SQ_CFG_LOG2_SIZE) = true →
    baseOk (t.raw (R.DMV_CQ_BASE n)).toNat (2 ^ t.fld (R.DMV_CQ_CFG n) F.DMV_CQ_CFG_LOG2_SIZE) = true →
    exec (.sliceEnable dt n) s = .next ((((t.setFld (R.DMV_SLICE_CTL n) F.DMV_SLICE_CTL_EN 1).setFld (R.DMV_DB_SQ_PI n)
      F.DMV_DB_SQ_PI_INDEX 0).setFld (R.DMV_DB_CQ_CI n) F.DMV_DB_CQ_CI_INDEX 0).setSlice n { t.slice n with
        st := if t.sliceRuns n then 1 else 4, back := 1, sqCi := 0, cqPi := 0, irq := {}, descs := [], deficit := 0 }).settle) ∧
  (∀ (s t : State) (dt n : Nat), Finds s dt t → t.domainRuns 61 = false → exec (.sliceEnable dt n) s = .next t.settle) ∧
  (∀ (s t : State) (dt n : Nat), Finds s dt t → (t.slice n).st = 1 → exec (.sliceDisable dt n) s =
    .next (((t.setFld (R.DMV_SLICE_CTL n) F.DMV_SLICE_CTL_EN 0).setSlice n { t.slice n with st := 2, back := 2 }).sliceIdle n).settle) ∧
  (∀ (s t : State) (dt n : Nat) (d : SDesc), Finds s dt t → t.flag (R.DMV_SLICE_CTL n) F.DMV_SLICE_CTL_EN = false →
    (t.slice n).descs = [d] → d.fin = none → exec (.sliceAbort dt n) s = .next (t.finDesc n d stAborted).settle) ∧
  (∀ (s t : State) (dt v : Nat), Finds s dt t →
    exec (.dmvFlr dt v) s = .next ((t.dmvReset v).cfgFlr (.dmv v)).settle ∧
    exec (.dmvBusMasterClear dt v) s = .next ((t.slicesOf v).foldl State.haltSlice (t.cfgClear (.dmv v) 1 4)).settle ∧
    exec (.dmvBusMasterSet dt v) s = .next ((t.slicesOf v).foldl State.resumeSlice (t.cfgOr (.dmv v) 1 4)).settle)

/-- R109, R310, R311, R313, R317: a slice's descriptors. A descriptor fetched is held in order, with the consumer index
moved past it; one with an opcode that R311 does not list ends with BAD_OPCODE. A NOP ends with success; COPY, FILL,
COMPARE and CHECKSUM start when LENGTH is not 0 and their ranges do not overlap, and else end with BAD_PARAM; a FENCE whose
record address is aligned goes to CMT, another ends with BAD_PARAM.
The model's own choices in it: log entry 83. -/
def Obligations.DescriptorsComplete : Prop :=
  (∀ (s t : State) (dt n : Nat) (bytes : List Byte) (d : SDesc), Finds s dt t → (t.slice n).st = 1 → t.sliceRuns n = true →
    t.decanting = false → t.fld (R.DMV_DB_SQ_PI n) F.DMV_DB_SQ_PI_INDEX ≠ (t.slice n).sqCi →
    (t.slice n).descs.length < t.sliceDepth n →
    d = { id := (t.slice n).nextId, slot := (t.slice n).sqCi % t.sqSize n, bytes := padTo 64 bytes } →
    ∀ u : State, u = (t.hostRead (.dmv (t.sliceVs n)) ((t.raw (R.DMV_SQ_BASE n)).toNat
      + 64 * ((t.slice n).sqCi % t.sqSize n)) 64 (t.slicePasid n) 128).setSlice n { t.slice n with
        sqCi := ((t.slice n).sqCi + 1) % (2 * t.sqSize n), descs := (t.slice n).descs ++ [d], nextId := (t.slice n).nextId + 1 } →
    exec (.descriptorFetch dt n bytes false) s = .next (if d.op ≤ 5 then u else u.finDesc n d stBadOpcode).settle) ∧
  (∀ (s t : State) (dt n : Nat) (d : SDesc), Finds s dt t →
    (t.startable n 0 = some d → exec (.descNop dt n) s = .next (t.finDesc n { d with started := true } stSuccess).settle) ∧
    (d.length ≠ 0 → ∀ u : State, u = t.setDesc n { d with started := true, crc := (d.b % 2 ^ 32) ^^^ 0xFFFFFFFF } →
      (t.startable n 1 = some d → overlap d.a d.b d.length = false → exec (.descCopy dt n) s = .next u.settle) ∧
      (t.startable n 2 = some d → exec (.descFill dt n) s = .next u.settle) ∧
      (t.startable n 3 = some d → overlap d.a d.b d.length = false → exec (.descCompare dt n) s = .next u.settle) ∧
      (t.startable n 5 = some d → exec (.descChecksum dt n) s = .next u.settle)) ∧
    (d.length = 0 → ∀ u : State, u = t.finDesc n { d with started := true } stBadParam →
      (t.startable n 1 = some d → exec (.descCopy dt n) s = .next u.settle) ∧
      (t.startable n 2 = some d → exec (.descFill dt n) s = .next u.settle) ∧
      (t.startable n 3 = some d → exec (.descCompare dt n) s = .next u.settle) ∧
      (t.startable n 5 = some d → exec (.descChecksum dt n) s = .next u.settle))) ∧
  (∀ (s t : State) (dt n : Nat) (d : SDesc) (l : List SDesc), Finds s dt t → t.startable n 4 = some d → (t.slice n).descs = d :: l →
    t.sliceStalled n = [] →
    (leAt d.bytes 16 8 % 32 = 0 → exec (.descFence dt n) s = .next ((t.setDesc n { d with started := true }).fenceSubmit
      (t.sliceVs n) d.tc { fenceId := leAt d.bytes 8 4, group := leAt d.bytes 12 2, recordAddr := leAt d.bytes 16 8 }
        (some (n, d.id))).settle) ∧
    (leAt d.bytes 16 8 % 32 ≠ 0 → exec (.descFence dt n) s =
      .next (t.finDesc n { d with started := true, fstat := 6 } stBadParam).settle))

/-- R306, R308, R312 to R316: a slice's requests, answers and entries. The slice whose turn it is issues its next request; the
oldest answer ends the read it belongs to, or is counted; a read past its completion timeout ends with the detail of a
timeout; the oldest finished descriptor's entry is written as a posted write of 64 bytes, counted, and moderated.
The model's own choices in it: log entries 12, 16 and 22. -/
def Obligations.SliceTrafficCompletes : Prop :=
  (∀ (s t u : State) (dt i : Nat) (r : SReq), Finds s dt t →
    (t.dmv.slices.map (·.1)).filter (fun i => (t.sliceNext i).isSome) ≠ [] →
    t.sliceTurn ((t.dmv.slices.map (·.1)).filter fun i => (t.sliceNext i).isSome)
      (70 * (((t.dmv.slices.map (·.1)).filter fun i => (t.sliceNext i).isSome).length + 2)) = some (i, r, u) →
    exec (.sliceIssue dt) s = .next (u.issueReq i r).settle) ∧
  (∀ (s t u : State) (dt i d part : Nat) (a : Answer), Finds s dt t → t.answers.find? Answer.ofSlice = some a →
    a.origin = .slice i d part → u = { t with answers := t.answers.erase a } →
    (∀ r : SRead, (t.slice i).reads.find? (fun r => r.desc == d && r.part == part) = some r →
      exec (.dmvReadCompletion dt) s = .next (u.readEnd i r a.status (readDetail a.status) a.data).settle) ∧
    ((t.slice i).reads.find? (fun r => r.desc == d && r.part == part) = none →
      exec (.dmvReadCompletion dt) s = .next (u.count (R.DMV_CNT 3)).settle)) ∧
  (∀ (s t : State) (dt i d part x : Nat) (r : SRead), Finds s dt t →
    (t.slice i).reads.find? (fun r => r.desc == d && r.part == part) = some r → r.deadline = some x → x ≤ t.now →
    exec (.dmvReadTimeout dt i d part) s = .next (t.readEnd i r 1 3 []).settle) ∧
  (∀ (s t : State) (dt i st : Nat) (d : SDesc) (l : List SDesc), Finds s dt t → (t.slice i).descs = d :: l → d.fin = some st →
    t.cqFull i = false → t.sliceRuns i = true → t.decanting = false → (t.slice i).st ≠ 4 →
    t.fld (R.DMV_CQ_CFG i) F.DMV_CQ_CFG_IRQ_COUNT = 0 →
    ∀ (h : Hdr) (u : State), h = spanHdr .mwr ((t.raw (R.DMV_CQ_BASE i)).toNat + 64 * ((t.slice i).cqPi % t.cqSize i)) 64 d.tc
        (t.dmvId (t.sliceVs i)) (t.slicePasid i) →
      u = (t.addJob (.make {
        ingress := .dmv i, acct := 128, tc := d.tc, hdr := h, orig := h,
        hoff := t.sliceHoff (t.sliceVs i) ((t.raw (R.DMV_CQ_BASE i)).toNat + 64 * ((t.slice i).cqPi % t.cqSize i)),
        vs := t.sliceVs i, vh := t.sliceVs i,
        hostAddr := some ((t.raw (R.DMV_CQ_BASE i)).toNat + 64 * ((t.slice i).cqPi % t.cqSize i)) }
          (d.entry (phaseOf (t.cqSize i) (t.slice i).cqPi)))).count (R.DMV_CNT 0) →
    exec (.cqEntryWrite dt i) s = .next (((if st = 0 then u else u.count (R.DMV_CNT 1)).setSlice i { t.slice i with
      descs := l, cqPi := ((t.slice i).cqPi + 1) % (2 * t.cqSize i)
      irq := { (t.slice i).irq with
        count := (t.slice i).irq.count + 1
        first := if (t.slice i).irq.count = 0 then t.now else (t.slice i).irq.first
        timing := true } }).sliceIdle i).settle)

/-- R325 to R327, R337: write logging. The entries unused for 10 µs, or that must make room, are merged; a context whose
bitmaps are clear becomes ready; when every write of the old generation has left, the harvest's flush read goes out; its
answer, and the FLUSH_TMO that stood when it was sent, end the flush.
The model's own choices in it: log entries 12 and 17. -/
def Obligations.WriteLoggingSteps : Prop :=
  (∀ (s t : State) (dt : Nat), Finds s dt t → t.dct.quiet = false → exec (.cacheMerge dt) s =
    .next (((t.wlg.cache.zip (List.range t.wlg.cache.length)).filter fun e => e.1.evict || decide (t.now - e.1.last ≥ 10000)).foldl
      (fun u e => u.mergeEntry e.2 e.1) t).settle) ∧
  (∀ (s t : State) (dt c : Nat), Finds s dt t → t.flag (R.WLG_CTX_STAT c) F.WLG_CTX_STAT_CLEARING = true →
    exec (.contextReady dt c) s = .next ((t.tmZero (t.bmpBase c 0) (2 * t.bmpLen c)).setRaw (R.WLG_CTX_STAT c)
      (F.WLG_CTX_STAT_READY.set 0 1)).settle) ∧
  (∀ (s t : State) (dt v u tag : Nat) (h : Harvest), Finds s dt t → t.wlg.harvest = some h → h.step = 3 →
    t.genOut h.ctx h.gen = false → v = t.fld (R.WLG_CTX_CFG h.ctx) F.WLG_CTX_CFG_VS → t.upPort v = some u →
    t.freeTag true v (t.tagSpace v) = some tag →
    exec (.harvestDrained dt) s = .next (({ t with
      brg := { t.brg with loc := tput t.brg.loc (v * 16384 + tag) { origin := .harvest } }
      wlg := { t.wlg with harvest := some { h with step := 4, since := t.now, tmo := t.fld R.WLG_CFG F.WLG_CFG_FLUSH_TMO } } } : State).addJob (.make
        { internalPkt { kind := .mrd, hlen := 16, len := 1, fbe := 0, addr := (t.raw (R.WLG_CTX_HOST h.ctx)).toNat, tag := tag
                        reqId := t.dmvId v } (some u) with origin := .harvest, vs := v, vh := v } [])).settle) ∧
  (∀ (s t : State) (dt : Nat) (a : Answer) (h : Harvest), Finds s dt t → t.answers.find? (fun a => a.origin == .harvest) = some a →
    t.wlg.harvest = some h → h.step = 4 → exec (.harvestFlushDone dt) s =
      .next (({ t with answers := t.answers.erase a } : State).flushEnded h (a.status == 0 && !a.lost)).settle) ∧
  (∀ (s t : State) (dt : Nat) (h : Harvest), Finds s dt t → t.wlg.harvest = some h → h.step = 4 →
    t.now - h.since ≥ 1000000 * h.tmo →
    exec (.harvestFlushTimeout dt) s = .next (t.flushEnded h false).settle)

/-- R339, R341, R342, R344, R346, R347, R356: a decant. The fall of PWRFAIL_N is noted, whether the core runs or not; held low
for DEGLITCH it is confirmed, and not armed it is ignored, with its event and its fault; the drain ends when no drainable
write is left, and at its deadline; a port that has drained sends its flush, or lists that it cannot; an answer in time marks
the port flushed; when every flush is answered the links stop.
The model's own choices in it: log entries 12 and 104. -/
def Obligations.DecantDrains : Prop :=
  (∀ (s t : State) (dt : Nat), t = s.elapse dt → exec (.pwrfailFall dt) s =
    .next ({ t with aon := { t.aon with pwrfail := false, fellAt := t.now, confirmed := false } } : State).settle) ∧
  (∀ (s t : State) (dt : Nat) (vaux : Bool), Finds s dt t → t.aon.pwrfail = false → t.aon.confirmed = false →
    t.now - t.aon.fellAt ≥ 100 * t.fld R.DCT_CFG F.DCT_CFG_DEGLITCH → t.flag R.DCT_ARM F.DCT_ARM_ARMED = false →
    exec (.pwrfailConfirm dt vaux) s = .next ((({ (t.setFld R.DCT_STAT F.DCT_STAT_VAUX_OK (b2n vaux)) with
      aon := { t.aon with confirmed := true, ignored := true } } : State).event { code := 0x0502 }).raise Flt.DCT_PWRFAIL_IGNORED).settle) ∧
  (∀ (s t : State) (dt : Nat) (vaux : Bool), Finds s dt t → t.aon.pwrfail = false → t.aon.confirmed = false →
    t.now - t.aon.fellAt ≥ 100 * t.fld R.DCT_CFG F.DCT_CFG_DEGLITCH → t.flag R.DCT_ARM F.DCT_ARM_ARMED = true →
    t.dct.active = false → t.fld R.DCT_ARM F.DCT_ARM_MODE = 1 → t.safe = false → t.ctl.commit = none → t.ctl.busyCmd = none →
    ∃ u : State, exec (.pwrfailConfirm dt vaux) s = .next u.settle ∧ u.dct.active = true ∧ u.dct.quiet = true ∧ u.dct.drain = true ∧
      u.dct.phase = 2 ∧ u.dct.t0 = t.aon.fellAt ∧ u.dct.cmd = none ∧ u.aon.confirmed = true ∧
      u.dct.deadline = 1000 * (t.fld R.DCT_CFG F.DCT_CFG_BUDGET_US - t.fld R.DCT_CFG F.DCT_CFG_FLUSH_US) ∧
      u.dct.budget = 1000 * t.fld R.DCT_CFG F.DCT_CFG_BUDGET_US) ∧
  (∀ (s t : State) (dt : Nat), Finds s dt t → t.dct.active = true → t.dct.phase = 2 →
    (t.drainable = false → exec (.drainEnd dt) s = .next t.drainEnds.settle) ∧
    (t.now - t.dct.t0 ≥ t.dct.deadline → exec (.drainDeadline dt) s = .next t.drainEnds.settle)) ∧
  (∀ (s t : State) (dt p : Nat), Finds s dt t → t.dct.active = true → t.dct.phase = 3 → t.flushPorts.contains p = true →
    tfind t.dct.flushes p = none →
    (t.portOpen p = false → exec (.portFlush dt p) s = .next (t.flushEntry p 7).settle) ∧
    (∀ tag v : Nat, t.portOpen p = true → t.role p ≠ 2 → v = t.vsOf p → t.freeTag true v (t.tagSpace v) = some tag →
      exec (.portFlush dt p) s = .next (({ t with
        brg := { t.brg with loc := tput t.brg.loc (v * 16384 + tag) { origin := .decant p } }
        dct := { t.dct with flushes := tput t.dct.flushes p 0 } } : State).addJob (.make
          { internalPkt { kind := .mrd, hlen := 16, len := 1, fbe := 0, lbe := 0, addr := t.fld (R.DCT_FLUSH p) F.DCT_FLUSH_ADDR * 4
                          tag := tag, reqId := t.dmvId v } (some p) with origin := .decant p, vs := v, vh := v } [])).settle)) ∧
  (∀ (s t : State) (dt p : Nat) (a : Answer), Finds s dt t → t.answers.find? Answer.ofDecant = some a → a.origin = .decant p →
    t.dct.active = true → tfind t.dct.flushes p = some 0 → a.status = 0 → a.lost = false → t.now - t.dct.t0 < t.dct.budget →
    exec (.decantFlushAnswer dt) s = .next (({ t with
      answers := t.answers.erase a
      dct := { t.dct with flushes := tput t.dct.flushes p 1 } } : State).count (R.DCT_CNT 5)).settle) ∧
  (∀ (s t : State) (dt : Nat), Finds s dt t → t.dct.active = true → t.dct.phase = 3 → t.safe = false →
    t.now - t.dct.t0 ≥ t.dct.budget → t.dct.cmd = none →
    exec (.budgetEnd dt) s = .next (t.flushesLate.stopLinks).settle)

/-- R342, R349 to R356, R375: keep-warm and the exit. The seal saves a carafe with the next counter value; the entry takes the
device into keep-warm; KEEP_MAX_H hours there discard the carafe; an exit whose power fails again before its end stays in
keep-warm, one whose carafe a check of R355 refuses boots afresh, one whose domain does not wake is a reset, and one whose carafe is accepted gives back its parts and
goes on at the time resumed, with LAST_EXIT 1 and the completions owed; after an exit each abandoned write is delivered as event 0x0500, and event
0x0501 ends the list.
The model's own choices in it: log entries 52, 105, 106, 110 and 175. -/
def Obligations.KeepWarmSteps : Prop :=
  (∀ (s t : State) (dt : Nat), Finds s dt t → t.dct.active = true → t.dct.phase = 4 →
    ∃ (u : State) (c : Carafe), exec (.seal dt) s = .next u.settle ∧ u.dct = { t.dct with phase := 5 } ∧
      u.aon = { t.aon with saveCtr := (t.aon.saveCtr + 1) % 2 ^ 64, carafe := some c } ∧ c.sealed = true ∧ c.format = 1 ∧
      c.counter = (t.aon.saveCtr + 1) % 2 ^ 64 ∧ c.epoch = t.cfg.epoch ∧ c.onDie = t.cfg.onDie ∧ c.list = t.dct.list ∧
      c.nextFence = t.mce.nextFence ∧ c.draining = t.dct.draining) ∧
  (∀ (s t : State) (dt : Nat), Finds s dt t → t.dct.active = true → t.dct.phase = 5 →
    ∃ u : State, exec (.keepWarmEntry dt) s = .next u ∧ u.aon.mode = 1 ∧ u.aon.entered = t.aon.ns ∧ u.aon.byCmd = t.dct.cmd.isSome ∧
      u.aon.keepExpired = false ∧ u.aon.tsRec = t.now) ∧
  (∀ (s t : State) (dt : Nat), t = s.elapse dt → t.aon.mode = 1 → t.aon.keepMax ≠ 0 →
    t.aon.ns - t.aon.entered ≥ t.aon.keepMax * 3600000000000 →
    exec (.keepExpired dt) s = .next ({ t with aon := { t.aon with carafe := none, keepExpired := true } } : State)) ∧
  (∀ (s t : State) (dt : Nat) (x : BootIn) (mac : Bool), t = s.elapse dt → t.aon.mode = 1 → t.aon.pwrfail = true →
    (t.aon.byCmd = true → t.aon.wake = true) →
    exec (.keepWarmExit dt x mac true) s = .next ({ t with aon := { t.aon with pwrfail := false, fellAt := t.now } } : State)) ∧
  (∀ (s t : State) (dt : Nat) (x : BootIn) (mac : Bool), t = s.elapse dt → t.aon.mode = 1 → t.aon.pwrfail = true →
    (t.aon.byCmd = true → t.aon.wake = true) → ∀ u : State,
    u = ({ t with aon := { t.aon with main := true, carafe := t.aon.carafe.map (·.upset x.kept) } } : State).mainEn t.aon.wakeCfg true →
    u.exitCheck (u.sec.otp.bootChain x) (mac && sramGood x.sram) ≠ 1 →
    exec (.keepWarmExit dt x mac false) s =
      .next (u.bootFrom x 0 (u.exitCheck (u.sec.otp.bootChain x) (mac && sramGood x.sram)) u.resumeTime).settle) ∧
  (∀ (s t : State) (dt : Nat) (x : BootIn) (mac : Bool) (c : Carafe), t = s.elapse dt → t.aon.mode = 1 → t.aon.pwrfail = true →
    ∀ (u w : State) (r : Booted) (ts : Nat),
    u = ({ t with aon := { t.aon with main := true, carafe := t.aon.carafe.map (·.upset x.kept) } } : State).mainEn t.aon.wakeCfg true → r = u.sec.otp.bootChain x →
    ts = u.resumeTime → u.aon.carafe = some c → u.exitCheck r (mac && sramGood x.sram) = 1 → (u.wakes x).1 = true →
    w = (((({ u.coreOff with spc := u.spcAfter ts (ts - u.now) false } : State).coreStart x r u.aon.cause false ts).restoreCarafe c).setFld
      R.DCT_STAT F.DCT_STAT_LAST_EXIT 1).setFld R.DCT_STAT F.DCT_STAT_TM_LOST c.lostDies →
    ∀ v : State, v = w.setRaw (R.DCT_CNT 7) (BitVec.ofNat 64 (min w.aon.fallbacks (2 ^ 48 - 1))) →
    (t.aon.byCmd = false → exec (.keepWarmExit dt x mac false) s = .next ((v.coreReady x r ts).owedAfter c).settle) ∧
    (t.aon.byCmd = true → t.aon.wake = true → exec (.keepWarmExit dt x mac false) s =
      .next (((((v.count (R.PWR_CNT 2)).count (R.PWR_CNT 0)).setRaw R.PWR_LAST (BitVec.ofNat 64 (pwrResult 0xFF 0 0 2))).coreReady
        x r ts).owedAfter c).settle)) ∧
  (∀ (s t : State) (dt : Nat), Finds s dt t → t.decanting = false → t.ringRoom .evr ≠ 0 → t.ctl.held = [] →
    (∀ (e : Nat × List Byte) (l : List (Nat × List Byte)), t.dct.list = e :: l → exec (.decantAbandoned dt) s =
      .next (({ t with dct := { t.dct with list := l } } : State).putEvr { code := 0x0500, data := e.2 }).settle) ∧
    (t.dct.list = [] → t.dct.summ = [] → t.dct.exitDue = true → exec (.decantAbandoned dt) s =
      .next (({ t with dct := { t.dct with exitDue := false, phase := 0 } } : State).putEvr
        { code := 0x0501, data := leBytes 1 t.dct.lost }).settle)) ∧
  (∀ (s t : State) (dt : Nat) (x : BootIn) (mac : Bool) (c : Carafe), t = s.elapse dt → t.aon.mode = 1 → t.aon.pwrfail = true →
    (t.aon.byCmd = true → t.aon.wake = true) → ∀ u : State,
    u = ({ t with aon := { t.aon with main := true, carafe := t.aon.carafe.map (·.upset x.kept) } } : State).mainEn t.aon.wakeCfg true →
    u.aon.carafe = some c → u.exitCheck (u.sec.otp.bootChain x) (mac && sramGood x.sram) = 1 → (u.wakes x).1 = false →
    exec (.keepWarmExit dt x mac false) s =
      .next ({ (u.wakes x).2 with aon := { (u.wakes x).2.aon with exitCode := 0, carafe := none } } : State).settle)

/-- R367 to R372, R376, R379: stopping, waking and wake events. The block that PWR waits for agrees, refuses with its reason,
or answers late or nothing within STOP_TMO_US (reason 7); the last agreement switches every stopped domain off; a domain whose wake
passes its last stage is on; a stage past its bound fails the wake (reason 8); a wake event reaches the AON island in every
mode.
The model's own choices in it: log entry 115. -/
def Obligations.DomainSteps : Prop :=
  (∀ (s t : State) (dt d : Nat) (c : PwrCmd) (rest : List Nat) (late : Bool), Finds s dt t → t.pwr.cmd = some c → c.stops = d :: rest →
    late = decide (t.now - c.since > 1000 * t.fld R.PWR_CFG F.PWR_CFG_STOP_TMO_US) →
    (late = true → exec (.stopAnswer dt) s = .next ((t.raise Flt.PWR_REFUSED).pwrDone c.slot c.desc false c.quiet
      (pwrResult d 7 c.stopped.length c.target)).settle) ∧
    (∀ r : Nat, late = false → t.refusal d = some r → exec (.stopAnswer dt) s = .next ((t.raise Flt.PWR_REFUSED).pwrDone c.slot c.desc false c.quiet
      (pwrResult d r c.stopped.length c.target)).settle) ∧
    (late = false → t.refusal d = none → rest ≠ [] → exec (.stopAnswer dt) s = .next ({ t with
      pwr := { t.pwr with cmd := some { c with stops := rest, stopped := c.stopped ++ [d], since := t.now } } } : State).settle) ∧
    (late = false → t.refusal d = none → rest = [] → c.wakes = [] → exec (.stopAnswer dt) s =
      .next (((c.stopped ++ [d]).foldl State.domainOff t).pwrDone c.slot c.desc true c.quiet (pwrResult 0xFF 0 0 c.target)).settle) ∧
    (t.now - c.since ≥ 1000 * t.fld R.PWR_CFG F.PWR_CFG_STOP_TMO_US → exec (.stopTimeout dt) s =
      .next ((t.raise Flt.PWR_REFUSED).pwrDone c.slot c.desc false c.quiet (pwrResult d 7 c.stopped.length c.target)).settle)) ∧
  (∀ (s t : State) (dt d : Nat) (c : PwrCmd) (rest : List Nat), Finds s dt t → t.pwr.cmd = some c → c.stops = [] → c.wakes = d :: rest →
    (∀ test : Bool, t.now - c.since ≤ 1000 * wakeBound d c.stage → ¬ (56 ≤ d ∧ d ≤ 59) →
      (c.stage < 3 → exec (.domainWakeReady dt test) s = .next ({ t with
        pwr := { t.pwr with cmd := some { c with stage := c.stage + 1, since := t.now } } } : State).settle) ∧
      (c.stage ≥ 3 → rest = [] → exec (.domainWakeReady dt test) s =
        .next ((t.domainOn d test).pwrDone c.slot c.desc true c.quiet (pwrResult 0xFF 0 0 c.target)).settle)) ∧
    (t.now - c.since > 1000 * wakeBound d c.stage → exec (.wakeTimeout dt) s =
      .next ((((t.domainOff d).count (R.PWR_CNT 3)).raise Flt.PWR_WAKE_FAIL).pwrDone c.slot c.desc false c.quiet
        (pwrResult d 8 0 c.target)).settle)) ∧
  (∀ (s t : State) (dt : Nat), t = s.elapse dt → t.aon.mode = 1 ∨ t.aon.mode = 2 →
    (F.PWR_WAKE_CFG_WAKE_EN.get t.aon.wakeCfg = 1 → exec (.wakeGpio dt) s = .next { t with aon := { t.aon with wake := true } }) ∧
    (t.aon.mode = 1 → t.aon.byCmd = true → t.aon.wakeAfter ≠ 0 → t.aon.ns - t.aon.entered ≥ t.aon.wakeAfter * 1000000000 →
      exec (.calendarWake dt) s = .next { t with aon := { t.aon with wake := true } }) ∧
    (t.aon.pwrfail = false → exec (.pwrfailRise dt) s = .next { t with aon := { t.aon with pwrfail := true, wake := true } }))

/-- R386 to R393: one sample of a slot power controller. Limit in the sample at which the count reaches FLT_TMO_US trips TIMER;
the ramp time-out trips RAMP_TMO; a rail at its FAST threshold trips FAST first; the fourth sample in a row with one rail's input outside its window turns the
gates off; the eighth
sample in a row with PRSNT_N high loses presence; the start conditions together turn the gates on and start the ramp; the end of
the re-arm hold leads to WAIT, or to OFF while the enable is 0.
The model's own choices in it: log entries 102 and 103. -/
def Obligations.SlotSamples : Prop :=
  ∀ (s t : State) (dt n : Nat) (x : SpcIn) (c d : SpcSt) (in12 in3 inWin lim fast pg : Bool), Finds s dt t → c = t.spcSt n → x.avg = none →
    in12 = t.railIn n 0 x.r12 → in3 = t.railIn n 1 x.r3 → inWin = (in12 && in3) → lim = (t.railLim n 0 x.r12 || t.railLim n 1 x.r3) →
    fast = (t.railFast n 0 x.r12.shunt || t.railFast n 1 x.r3.shunt) →
    pg = (t.railPg n 0 x.r12 && t.railPg n 1 x.r3) → d = { c with samples := c.samples + 1, inWindow := inWin, inLimit := lim } →
    (x.present = true → c.present = true → c.highs = 0 →
      (c.st = 2 ∨ c.st = 3 →
        (inWin = true → fast = true → exec (.spcSample dt n x) s = .next ((t.setSpc n { d with outs := (0, 0) }).spcTrip n 1).settle) ∧
        (inWin = true → fast = false → lim = true → c.count + 1 ≥ t.fld (R.SPC_TIMING n) F.SPC_TIMING_FLT_TMO_US →
          exec (.timerTrip dt n x) s = .next ((t.setSpc n { d with outs := (0, 0), count := c.count + 1 }).spcTrip n 2).settle) ∧
        (inWin = true → fast = false → lim = true → c.count + 1 < t.fld (R.SPC_TIMING n) F.SPC_TIMING_FLT_TMO_US → c.st = 3 →
          exec (.spcSample dt n x) s = .next (t.setSpc n { d with outs := (0, 0), count := c.count + 1 }).settle) ∧
        ((in12 = false ∧ c.outs.1 ≥ 3) ∨ (in3 = false ∧ c.outs.2 ≥ 3) → exec (.inputTurnOff dt n x) s =
          .next ((((t.setSpc n { d with
            outs := (if in12 then 0 else c.outs.1 + 1, if in3 then 0 else c.outs.2 + 1) }).spcOff n 4 5).count (R.SPC_CNT n 4)).raise Flt.SPC_INPUT n n).settle)) ∧
      (∀ k : Nat, c.st = 2 → inWin = true → fast = false → lim = false → pg = false → k = (if (c.samples + 1) % 8 = 0 then c.count - 1 else c.count) →
        k < t.fld (R.SPC_TIMING n) F.SPC_TIMING_FLT_TMO_US →
        t.now - c.rampAt ≥ 1000000 * t.fld (R.SPC_TIMING n) F.SPC_TIMING_PG_TMO_MS →
        exec (.rampTmo dt n x) s = .next ((t.setSpc n { d with outs := (0, 0), count := k }).spcTrip n 3).settle) ∧
      (c.st = 1 → c.en = true → inWin = true → t.now - c.gained ≥ 1000000 * t.fld (R.SPC_TIMING n) F.SPC_TIMING_INS_DLY_MS →
        c.offAt = none → exec (.insertionDelayEnd dt n x) s =
          .next (((t.setSpc n { d with st := 2, count := 0, rampAt := t.now, outs := (0, 0) }).gates n true).count (R.SPC_CNT n 0)).settle) ∧
      (∀ o : Int, c.st = 5 → c.offAt = some o → (t.now : Int) - o ≥ 1000000 * (t.fld (R.SPC_TIMING n) F.SPC_TIMING_REARM_MS : Int) →
        exec (.rearmHoldEnd dt n x) s = .next (t.setSpc n { d with st := if c.en then 1 else 0 }).settle)) ∧
    (x.present = false → c.present = true → c.highs ≥ 7 → c.st = 0 ∨ c.st = 4 → exec (.presenceLost dt n x) s =
      .next ((t.setSpc n { d with highs := 8, present := false }).spcGone n).settle)
/-- R237, R387, R389, R392, R393: the enable, the fast trip, the loss of the analog half and the attention button. The enable
takes OFF to WAIT; its removal clears a latch and turns the gates off; a rail at its FAST threshold trips without a sample, and takes
the place of a TIMER trip of the same sample; ANALOG_LOSS turns off and latches the controllers that lose the analog die, and
all of them at once are a fault of the die; the button is a slot event.
The model's own choices in it: log entries 20, 112 and 172. -/
def Obligations.SlotControls : Prop :=
  (∀ (s t : State) (dt n : Nat) (c : SpcSt), Finds s dt t → c = t.spcSt n →
    (t.spcWanted n = true → c.en = false → c.st ≠ 0 →
      exec (.slotEnable dt n) s = .next (t.setSpc n { c with en := true }).settle) ∧
    (t.spcWanted n = true → c.en = false → c.st = 0 →
      exec (.slotEnable dt n) s = .next (t.setSpc n { c with en := true, st := 1 }).settle) ∧
    (t.spcWanted n = false → c.en = true → c.st = 1 ∨ c.st = 4 →
      exec (.slotDisable dt n) s = .next (t.setSpc n { c with en := false, st := 0 }).settle) ∧
    (t.spcWanted n = false → c.en = true → c.st = 2 ∨ c.st = 3 →
      exec (.slotDisable dt n) s = .next ((t.setSpc n { c with en := false }).spcOff n 6 5).settle) ∧
    (∀ rail shunt : Nat, t.railFast n rail shunt = true →
      (c.st = 2 ∨ c.st = 3 → exec (.fastTrip dt { ctl := n, rail := rail, shunt := shunt }) s =
        .next ((((t.spcOff n 1 4).count (R.SPC_CNT n 1)).slotEvent n 17 26).raise Flt.SPC_FAST_TRIP n n).settle) ∧
      (∀ o : Int, c.st = 4 → c.cause = 2 → c.offAt = some o → (t.now : Int) - o < 1000 →
        exec (.fastTrip dt { ctl := n, rail := rail, shunt := shunt }) s =
          .next ((((t.setSpc n { c with cause := 1 }).setFld (R.SPC_CNT n 2) F.SPC_CNT_COUNT
            (t.fld (R.SPC_CNT n 2) F.SPC_CNT_COUNT - 1)).count (R.SPC_CNT n 1)).raise Flt.SPC_FAST_TRIP n n).settle)) ∧
    (∀ rail shunt : Nat, t.railFast n rail shunt = false →
      exec (.fastTrip dt { ctl := n, rail := rail, shunt := shunt }) s = .next t.settle)) ∧
  (∀ (s t : State) (dt k : Nat), Finds s dt t → k < 32 →
    ((t.spcSt k).st = 2 ∨ (t.spcSt k).st = 3 →
      exec (.analogLoss { dt := dt, ctls := 2 ^ k }) s = .next ((t.spcOff k 8 4).raise Flt.SPC_ANALOG k k).settle) ∧
    ((t.spcSt k).st ≠ 2 → (t.spcSt k).st ≠ 3 →
      exec (.analogLoss { dt := dt, ctls := 2 ^ k }) s = .next ((t.setSpc k { t.spcSt k with
        cause := 8, st := if (t.spcSt k).en then 4 else 0, pg := false }).raise Flt.SPC_ANALOG k k).settle)) ∧
  (∀ (s t : State) (dt : Nat), Finds s dt t → exec (.analogLoss { dt := dt, ctls := 2 ^ 32 - 1 }) s =
    .next ((List.range 32).foldl State.analogOff (t.raise Flt.SPC_ANALOG_DIE)).settle) ∧
  (∀ (s t : State) (dt n p : Nat), Finds s dt t → t.spcPort n = some p →
    t.role p = 2 ∨ (t.isDown (.port p) = true ∧ t.buttonOf p ≠ 0) →
    exec (.attentionButtonPressed dt n) s = .next (t.slotEvent n 16 24).settle)

/-- R402, R405, R408: fault messages. A fault that a source raises joins the messages that wait, with the time and the epoch,
and FCR takes the one that is next in order; an upset marks the stored entry; windows that have ended close.
The model's own choices in it: log entries 9 and 98. -/
def Obligations.FaultMessagesComplete : Prop :=
  (∀ (s t : State) (dt source kind block info : Nat) (m x : FaultIn) (rest : List FaultIn), Finds s dt t →
    faultKnown source kind = true → m = { word := faultWord source kind block info, time := t.now, epoch := t.cfg.epoch, quiet := t.dct.quiet } →
    ∀ u : State, u = t.faultEffect source kind info → nextFault (u.fcr.inbox ++ [m]) = some (x, rest) →
    exec (.faultMessage dt (.raised source kind block info)) s =
      .next (({ u with fcr := { u.fcr with inbox := rest } } : State).takeFault x).settle) ∧
  (∀ (s t : State) (dt : Nat), Finds s dt t →
    (t.fcr.inbox = [] → exec (.faultMessage dt .next) s = .next t.settle) ∧
    (∀ (x : FaultIn) (rest : List FaultIn), nextFault t.fcr.inbox = some (x, rest) → exec (.faultMessage dt .next) s =
      .next (({ t with fcr := { t.fcr with inbox := rest } } : State).takeFault x).settle)) ∧
  (∀ (s t : State) (dt c i : Nat), Finds s dt t → c = 2 ∨ c = 4 ∨ c = 5 ∨ c = 6 → t.cfg.faulty.contains (c, i) = false →
    exec (.faultMessage dt (.strike c i)) s =
      .next ({ t with cfg := { t.cfg with faulty := t.cfg.faulty ++ [(c, i)] } } : State).settle) ∧
  (∀ (s t : State) (dt : Nat), Finds s dt t → exec (.countWindowClose dt) s =
    .next ({ t with fcr := { t.fcr with counts := t.fcr.counts.filterMap fun c => c.closed t.now } } : State).settle)

/-- R430, R431, R434 to R442, R445 to R447: the table memory at work. An idle die, or one in its owner's last data cycle, is
granted to the winner of its phase, with the values that a COMMIT has installed; requester 31 takes it from its owner in a
decant; a requester that has waited STARVE cycles becomes urgent; a read of a good word changes nothing, one with a correctable
bit counts it, marks the word for a revisit and reports it, and one of a bad word counts and reports that; the patrol moves on
by 256 bytes when its next block is due; once in each period a faulty entry
in force is repaired from its clean shadow entry, and reported otherwise; the fill ends with zeros; a failed die leaves
service; the copier passes to the next block.
The model's own choices in it: log entries 117, 118, 119 and 152. -/
def Obligations.TableMemorySteps : Prop :=
  (∀ (s t v : State) (dt d cycles : Nat) (asks : List TmAsk) (y x : TmDie) (e : List TmReq) (l : Nat), Finds s dt t →
    y = (t.die d).pass cycles → y.up = true → y.filling = false →
    v = (if asks ≠ [] ∨ (heads y.waiting).any (fun r => r.backoff == 0 || r.urgent.isSome) = true then (t.setDie d y).adoptArb d
      else t.setDie d y) →
    x = v.join d asks (v.die d) → e = (heads x.waiting).filter (fun r => r.backoff == 0 || r.urgent.isSome) →
    l = lfsrStep (v.fld (R.TM_LFSR d) F.TM_LFSR_STATE) →
    (y.owner = none ∨ y.left = 0 → e = [] → exec (.arbitrationPhase dt d cycles asks) s = .next (v.setDie d x).settle) ∧
    (∀ w : TmReq, y.owner = none ∨ y.left = 0 → v.arbWin d l e = some w → e ≠ [] → exec (.arbitrationPhase dt d cycles asks) s =
      .next ((v.setFld (R.TM_LFSR d) F.TM_LFSR_STATE l).grant d x w e).settle) ∧
    (∀ o w : TmReq, t.decanting = true → y.owner = some o → y.left ≠ 0 → x.yields o e = true → e.find? (fun r => r.num == 31) = some w →
      exec (.arbitrationPhase dt d cycles asks) s =
        .next (((v.setFld (R.TM_LFSR d) F.TM_LFSR_STATE l).grant d x w e [{ o with done := 0 }]).count (R.TM_CNT d 2)).settle)) ∧
  (∀ (s t : State) (dt d r cycles : Nat) (x : TmDie) (q : TmReq), Finds s dt t → x = (t.die d).pass cycles →
    (heads x.waiting).find? (fun q => q.num == r) = some q → q.urgent = none →
    x.cycle - q.since ≥ t.fld (R.TM_ARB_CFG d) F.TM_ARB_CFG_STARVE → exec (.urgent dt d r cycles) s =
      .next (((t.setDie d { x with waiting := putHead { q with urgent := some x.cycle } x.waiting }).count
        (R.TM_CNT d 4)).raise Flt.TBM_STARVE 0 (atBits r 29 5) d).settle) ∧
  (∀ (s t : State) (dt r a : Nat), Finds s dt t → t.dieServes a = true → a < 2 ^ 29 →
    (t.wordBad (32 * (a / 32)) = true → exec (.tableWordRead dt r a []) s =
      .next (((t.count (R.TBM_CNT 1)).tbmRaise Flt.TBM_UNCORR r (32 * (a / 32))).rowCount (t.phys (32 * (a / 32))) true).settle) ∧
    (t.wordBad (32 * (a / 32)) = false → t.tbm.flips.filter (fun e => e.1 / 32 == a / 32 && (eccOf e.2).fixes) = [] →
      exec (.tableWordRead dt r a []) s = .next t.settle) ∧
    (t.wordBad (32 * (a / 32)) = false → (t.tbm.flips.filter fun e => e.1 / 32 == a / 32 && (eccOf e.2).fixes).length = 1 → t.tbm.revisit.contains (a / 32) = false → t.tbm.revisit.length < 64 →
      ∀ u : State, u = t.count (R.TM_CNT (t.phys (32 * (a / 32)) / 2 ^ 27 % 4) 5) → exec (.tableWordRead dt r a []) s =
        .next ((({ u with tbm := { u.tbm with revisit := u.tbm.revisit ++ [a / 32] } } : State).tbmRaise Flt.TBM_COR r
          (32 * (a / 32))).rowCount (t.phys (32 * (a / 32))) false).settle)) ∧
  (∀ (s t : State) (dt d : Nat), Finds s dt t → t.flag R.TBM_CFG F.TBM_CFG_SCRUB_EN = true → t.decanting = false → t.pdOn (56 + d) = true →
    (t.die d).up = true → (t.die d).filling = false → t.tbm.out = none → t.tbm.flips = [] → t.tbm.poison = [] → t.tbm.revisit = [] →
    (t.patrolDue d = true → exec (.patrolScrub dt d []) s = .next (t.setDie d { t.die d with
      patrol := ((t.die d).patrol + 256) % 2 ^ 27, patrolAt := some t.now }).settle) ∧
    (t.patrolDue d = false → exec (.patrolScrub dt d []) s = .next t.settle)) ∧
  (∀ (s t : State) (dt : Nat), Finds s dt t → t.ondieDue = false → exec (.ondieScrub dt) s = .next t.settle) ∧
  (∀ (s t u : State) (dt : Nat) (e : Nat × Nat), Finds s dt t → t.cfg.faulty = [e] → t.ondieDue = true →
    u = { t with tbm := { t.tbm with ondieAt := some t.now } } →
    (∀ n a : Nat, n = entrySize e.1 → a = onDieBase e.1 + n * e.2 → t.shadowClean e.1 e.2 = true → t.cfg.faultySh.contains e = false →
      exec (.ondieScrub dt) s = .next (({ u with
        tmg := { u.tmg with found := u.tmg.found.filter (· ≠ e) },
        cfg := { u.cfg with
          faulty := [],
          onDie := Mem.wrN 0 u.cfg.onDie a (Mem.rdN 0 u.cfg.onDieSh a n) } } : State).count (R.TBM_CNT 4)).settle) ∧
    (t.shadowClean e.1 e.2 = false ∨ t.cfg.faultySh.contains e = true → exec (.ondieScrub dt) s =
      .next (u.raise Flt.TBM_ONDIE_PARITY 0 (atBits e.1 32 8 ||| atBits e.2 0 16)).settle)) ∧
  (∀ (s t : State) (dt d : Nat), Finds s dt t → (t.die d).filling = true →
    exec (.fillDone dt d) s = .next ((t.zeroDie d).setDie d { t.die d with filling := false }).settle) ∧
  (∀ (s t : State) (dt d : Nat), Finds s dt t → t.pdOn (56 + d) = true → t.tbm.gone.contains d = false →
    ∃ u : State, exec (.dieFail dt d) s = .next u.settle ∧ u.tbm.gone = t.tbm.gone ++ [d] ∧ (u.die d).up = false ∧ u.tbm.out.isSome = true) ∧
  (∀ (s t : State) (dt d : Nat), Finds s dt t → t.tbm.out = some d → t.decanting = false → t.tbm.flips = [] → t.tbm.poison = [] →
    t.tbm.revisit = [] → t.tbm.gone.contains d = false → t.tbm.copied + 1 < t.relocBlocks →
    exec (.relocBlock dt) s = .next ({ t with tbm := { t.tbm with copied := t.tbm.copied + 1 } } : State).settle)

/-- R488, R489, R492, R493, R495, R498: ageing. A round stores its readings, counts itself and shows the worst slack; a slack
sample below SLACK_CRIT raises the guardband by one step; an engine that misses its watchdog stops, and a stopped engine is
replaced and recorded; a row that qualifies is copied into a spare row and recorded; a summary is written every 24 hours.
The model's own choices in it: log entries 65 and 68. -/
def Obligations.AgeingSteps : Prop :=
  (∀ (s t u : State) (dt : Nat) (c : Cup) (e : Nat × Int) (es : List (Nat × Int)) (w : Int) (ok : Bool), Finds s dt t →
    t.flag R.AGE_CFG F.AGE_CFG_CUP_EN = true → t.dct.quiet = false →
    t.now - t.age.roundAt ≥ 60000000000 * t.fld R.AGE_CFG F.AGE_CFG_PERIOD_MIN → c.eyes = [] → c.slack = e :: es →
    w = es.foldl (fun m x => min m x.2) e.2 → u = ((t.onAge fun a => { a with roundAt := t.now }).cupSlack c.slack).cupRings c.rings →
    t.age.clr = false → w ≥ (u.fld R.AGE_MARGIN_CFG F.AGE_MARGIN_CFG_SLACK_MIN : Int) →
    exec (.cuppingRound dt c ok) s = .next ((u.setFld R.AGE_STAT F.AGE_STAT_ROUNDS ((u.fld R.AGE_STAT F.AGE_STAT_ROUNDS + 1) % 2 ^ 30)).setFld
      R.AGE_STAT F.AGE_STAT_WORST_SLACK (BitVec.ofInt 8 w).toNat).settle) ∧
  (∀ (s t : State) (dt : Nat) (worst : Int) (ok : Bool), Finds s dt t →
    (worst ≥ (t.fld R.AGE_MARGIN_CFG F.AGE_MARGIN_CFG_SLACK_CRIT : Int) → exec (.slackSample dt worst ok) s = .next t.settle) ∧
    (worst < (t.fld R.AGE_MARGIN_CFG F.AGE_MARGIN_CFG_SLACK_CRIT : Int) → t.age.lastFast = none →
      (t.age.gb + 5 ≤ t.fld R.AGE_MARGIN_CFG F.AGE_MARGIN_CFG_GB_MAX → t.vcore (t.age.gb + 5) ≤ 800 → exec (.slackSample dt worst ok) s =
        .next ((t.onAge fun a => { a with lastFast := some t.now }).setGb (t.age.gb + 5) 1 worst ok).settle) ∧
      (t.age.gb + 5 > t.fld R.AGE_MARGIN_CFG F.AGE_MARGIN_CFG_GB_MAX →
        exec (.slackSample dt worst ok) s = .next (t.raise Flt.AGE_MARGIN_LOW).settle))) ∧
  (∀ (s t : State) (dt e : Nat), Finds s dt t → t.engRetired e = false → t.age.stopped.contains e = false →
    exec (.engineWatchdog dt e) s = .next ((t.raise Flt.EC_WATCHDOG e).stopEngine e 2).settle) ∧
  (∀ (s t : State) (dt e : Nat), Finds s dt t → (List.range 144).find? t.age.stopped.contains = some e →
    exec (.engineStop dt true) s = .next (((t.onAge fun a => { a with fwBad := false }).replaceEngine e).ageRecord 3 1 e 0
      (faultId Flt.EC_MEM_COR.source (tget 2 t.age.stopWhy e))).settle) ∧
  (∀ (s t : State) (dt row f d n : Nat) (rest : List (Nat × Nat)), Finds s dt t → t.age.rowDue = (row, f) :: rest → d = row / 65536 →
    t.decanting = false → t.tbm.out = none → n = t.rowsUsed d → n < 128 → t.tbm.flips = [] → t.tbm.poison = [] →
    exec (.rowRepairDone dt) s = .next (((((t.setFld (R.AGE_ROWS d) F.AGE_ROWS_USED (n + 1)).onAge fun a => { a with
      rowDue := a.rowDue.filter (·.1 ≠ row), rowCor := tdel a.rowCor row, remap := tput a.remap row n }).raise Flt.AGE_ROW_SPARED 0
        (ageInfo d (row % 65536))).ageRecord 2 3 d (row % 65536) f)).settle) ∧
  (∀ (s t : State) (dt : Nat), Finds s dt t → t.age.onNs - t.age.lastSum ≥ 86400000000000 → exec (.ledgerSummary dt) s =
    .next ((t.onAge fun a => { a with lastSum := a.onNs }).ledgerPut 1 t.summaryBody).settle)

/-- R511, R514, R515: counters. A dump runs when PERIOD_US has passed; a sample of the sampled counter is queued with the next
sample number and written while the CDR has room.
The model's own choices in it: log entries 28 and 71. -/
def Obligations.CounterSteps : Prop :=
  (∀ (s t : State) (dt : Nat), Finds s dt t → t.flag R.PMC_DUMP_CFG F.PMC_DUMP_CFG_EN = true → t.dct.quiet = false →
    t.now - t.pmc.lastDump ≥ 1000 * t.fld R.PMC_DUMP_CFG F.PMC_DUMP_CFG_PERIOD_US → exec (.periodicDump dt) s =
      .next (({ t with pmc := { t.pmc with lastDump := t.now } } : State).dump 0 (t.fld R.PMC_DUMP_CFG F.PMC_DUMP_CFG_SET)
        (t.flag R.PMC_DUMP_CFG F.PMC_DUMP_CFG_CLEAR)).2.2.2.settle) ∧
  (∀ (s t : State) (dt skid work addr k e c r per : Nat), Finds s dt t → k = t.fld R.PMC_SMP_CFG F.PMC_SMP_CFG_COUNTER →
    e = t.fld (R.PMC_SEL k) F.PMC_SEL_UNIT → per = t.fld R.PMC_SMP_CFG F.PMC_SMP_CFG_PERIOD →
    t.flag R.PMC_SMP_CFG F.PMC_SMP_CFG_EN = true → t.dct.quiet = false → t.pmc.smpDue ≥ per → t.engRetired e = false →
    t.engRole e = some (c, r) →
    (t.pmc.samples.length < 64 → exec (.engineSample dt skid work addr) s = .next (({ t with
      pmc := { t.pmc with
        smpDue := t.pmc.smpDue - per, smpSeq := (t.pmc.smpSeq + 1) % 2 ^ 32
        samples := t.pmc.samples ++ [leBytes 2 0x0C03 ++ leBytes 1 (min 12 skid) ++ [0] ++ leBytes 4 t.pmc.smpSeq ++ leBytes 8 t.now ++
          leBytes 2 e ++ leBytes 1 (16 * c + r) ++ leBytes 1 (work % 8) ++ leBytes 4 addr ++
          leBytes 8 (tget 0 t.pmc.cnt k)] } } : State).smpDrain 64).settle) ∧
    (t.pmc.samples.length ≥ 64 → exec (.engineSample dt skid work addr) s = .next (({ t with
      pmc := { t.pmc with smpDue := t.pmc.smpDue - per, smpSeq := (t.pmc.smpSeq + 1) % 2 ^ 32 } } : State).setFld R.PMC_STAT
        F.PMC_STAT_SMP_LOST (min 0xFFFF (t.fld R.PMC_STAT F.PMC_STAT_SMP_LOST + 1))).settle))

/-- R355, R362, R377, R378, R522 to R530: resets, supplies and clocks. RESET_N low for 1 µs holds the core in reset; a cold boot starts it,
with cause 0 after power-on or out of OFF, and drives MAIN_EN high where a GPIO has it; the loss of REF begins a holdover, which the return of lock ends, and 1 ms without it a reset; the
crystal's failure stops the calendar; a loss of the main supplies, or of VAUX in keep-warm, is noted.
The model's own choices in it: log entries 41, 50 and 55. -/
def Obligations.ClockAndSupplySteps : Prop :=
  (∀ (s t : State) (dt : Nat), t = s.elapse dt →
    (∀ low : Nat, low ≥ 200 → t.aon.mode = 0 → t.dct.active = false → exec (.resetN dt low) s = .next (t.holdReset 1 0).settle) ∧
    (∀ low : Nat, low ≥ 200 → t.aon.mode = 1 → exec (.resetN dt low) s = .next (t.holdReset 1 8).settle) ∧
    (∀ x : BootIn, t.aon.mode = 2 → exec (.coldBoot dt true x) s =
      .next (({ t with spc := [], aon := { mode := 2, pwrfail := t.aon.pwrfail, main := true, vaux := true } } : State).bootFrom x 0 0 0).settle) ∧
    (∀ (x : BootIn) (u : State), u = ({ t with aon := { t.aon with main := true, vaux := true } } : State).mainEn t.aon.wakeCfg true →
      (t.aon.mode = 2 → t.aon.main = false ∨ t.aon.wake = true →
        exec (.coldBoot dt false x) s = .next (u.bootFrom x 0 t.aon.exitCode 0).settle) ∧
      (t.aon.mode = 3 → t.aon.cause ≠ 4 →
        exec (.coldBoot dt false x) s = .next (u.bootFrom x t.aon.cause t.aon.exitCode 0).settle)) ∧
    (t.aon.mode = 0 → t.aon.xtal = true → exec (.xtalFail dt) s = .next ((({ t with
      aon := { t.aon with xtal := false, calValid := false } } : State).setFld R.CLK_STAT F.CLK_STAT_XTAL_OK 0).raise Flt.CLK_XTAL_FAIL).settle) ∧
    (t.aon.mode = 0 → exec (.xtalRestart dt) s =
      .next (({ t with aon := { t.aon with xtal := true } } : State).setFld R.CLK_STAT F.CLK_STAT_XTAL_OK 1).settle) ∧
    (t.aon.mode ≠ 0 → exec (.mainSupplyLoss dt) s = .next { t with aon := { t.aon with main := false } }) ∧
    (t.aon.mode = 0 → t.dct.active = false → t.aon.ignored = false → exec (.mainSupplyLoss dt) s =
      .next (({ t with aon := { t.aon with main := false } } : State).goOff 0).settle) ∧
    (t.aon.mode = 1 → exec (.vauxDrop dt) s = .next { t with aon := { t.aon with vauxDrop := true } }) ∧
    (∀ x : BootIn, t.aon.mode = 0 → exec (.refReturn dt x) s = .next t.relock.settle) ∧
    (∀ x : BootIn, t.aon.mode = 3 → t.aon.cause = 4 → exec (.refReturn dt x) s = .next (t.bootFrom x 4 t.aon.exitCode 0).settle)) ∧
  (∀ (s t : State) (dt : Nat), Finds s dt t →
    (t.clk.holdover = none → exec (.refLost dt false) s = .next ({ ((t.setFld R.CLK_STAT F.CLK_STAT_HOLDOVER 1).setFld R.CLK_STAT
      F.CLK_STAT_REF_OK 0).raise Flt.CLK_REF_LOST with clk := { t.clk with holdover := some t.now } } : State).settle) ∧
    (t.clk.holdover = none → exec (.refLost dt true) s = .next ({ ((t.setFld R.CLK_STAT F.CLK_STAT_HOLDOVER 1).setFld R.CLK_STAT
      F.CLK_STAT_PLL_LOCK 0).raise Flt.CLK_PLL_UNLOCK with clk := { t.clk with holdover := some t.now } } : State).settle) ∧
    (∀ b : Nat, t.clk.holdover = some b → t.now - b ≥ 1000000 → exec (.holdoverEnd dt) s = .next (t.holdReset 4 0).settle))

/-- R521, R532 to R535: the captured pair of times and the temperature. A PTM dialogue of the chosen upstream port stores both
times; a sample stores the hottest reading, its sensor and the peak, and raises DEV_THERM_WARN, DEV_THERM_CRIT as their thresholds
are reached.
The model's own choices in it: log entries 57, 58 and 60. -/
def Obligations.SensorSteps : Prop :=
  (∀ (s t : State) (dt p master : Nat), Finds s dt t → t.flag R.CLK_PTM_CFG F.CLK_PTM_CFG_EN = true →
    t.fld R.CLK_PTM_CFG F.CLK_PTM_CFG_PORT = p → t.isPcie p = true → t.role p = 0 → t.linkUp p = true → exec (.ptmCapture dt p master) s =
      .next ((t.setRaw R.CLK_PTM_LOCAL (BitVec.ofNat 64 t.now)).setRaw R.CLK_PTM_MASTER (BitVec.ofNat 64 master)).settle) ∧
  (∀ (s t u : State) (dt n : Nat) (l : List Int) (j peak w y : Int), Finds s dt t → hottest l = (j, n) →
    peak = (match t.clk.peak with | some q => max q j | none => j) →
    u = ((t.setFld R.DEV_TEMP F.DEV_TEMP_TJ_MAX (BitVec.ofInt 16 j).toNat).setFld R.DEV_TEMP F.DEV_TEMP_SENSOR n).setFld R.DEV_TEMP
      F.DEV_TEMP_TJ_PEAK (BitVec.ofInt 16 peak).toNat →
    w = signed8 (u.fld R.DEV_THERM_CFG F.DEV_THERM_CFG_WARN_C) * 16 → y = (u.fld R.DEV_THERM_CFG F.DEV_THERM_CFG_HYST_C : Int) * 16 →
    (j < w → j < u.critTemp → exec (.thermalSample dt l) s = .next ((({ u with
      clk := { u.clk with peak := some peak, warn := u.clk.warn && decide (j ≥ w - y), crit := false } } : State).thermCycle j).thermValue).settle) ∧
    (j ≥ w → u.flag R.DEV_THERM_CFG F.DEV_THERM_CFG_WARN_EN = true → u.clk.warn = false → j < u.critTemp → ∀ v : State,
      v = u.raise Flt.DEV_THERM_WARN 0 (thermInfo j n) → exec (.thermalSample dt l) s = .next ((({ v with
        clk := { v.clk with peak := some peak, warn := true, crit := false } } : State).thermCycle j).thermValue).settle) ∧
    (j < w → j ≥ u.critTemp → u.clk.crit = false → ∀ v : State, v = u.raise Flt.DEV_THERM_CRIT 0 (thermInfo j n) →
      exec (.thermalSample dt l) s = .next ((({ v with
        clk := { v.clk with peak := some peak, warn := v.clk.warn && decide (j ≥ w - y), crit := true } } : State).thermCycle j).thermValue).settle))

/-- R454, R459, R470, R472, R473, R482: authorisation and flash. An object that fails is answered with its RESULT, and the nonce
is spent; an owner-key object that passes changes the owner keys; a life-cycle object that passes changes the life-cycle state and
holds the core in reset; a flash operation ends with its RESULT, an erased or programmed sector holds 0xFF or the buffer's bytes.
The model's own choices in it: log entries 64 and 122. -/
def Obligations.AuthorisationAndFlash : Prop :=
  (∀ (s t : State) (dt : Nat) (b : List Byte) (ok : Bool) (r : Nat), Finds s dt t → t.flag R.SEC_LC_CMD F.SEC_LC_CMD_BUSY = true →
    r = t.lcResult (authObj b) ok →
    (r ≠ 1 → exec (.lifecycleCheckDone dt (some b) ok) s = .next ((t.onSec fun x => { x with nonce := none }).lcEnd r).settle) ∧
    (r = 1 → (authObj b).typ ≠ 1 → exec (.lifecycleCheckDone dt (some b) ok) s =
      .next (((t.onSec fun x => { x with nonce := none }).lcEnd 1).ownerChange (authObj b)).settle)) ∧
  (∀ (s t : State) (dt : Nat), Finds s dt t → t.flag R.SEC_LC_CMD F.SEC_LC_CMD_BUSY = true →
    exec (.lifecycleCheckDone dt none false) s = .next (t.lcEnd 5).settle) ∧
  (∀ (s t : State) (dt n : Nat) (d : List Byte), Finds s dt t →
    (t.sec.flashOp = some (0, n) → exec (.flashDone dt none false) s = .next ((t.eraseSector n).flashEnd 0).settle) ∧
    (t.sec.flashOp = some (1, n) → exec (.flashDone dt (some d) false) s =
      .next (((t.eraseSector n).putSector n (padTo 4096 d)).flashEnd 0).settle) ∧
    (t.sec.flashOp = some (1, n) → exec (.flashDone dt none false) s = .next ((t.eraseSector n).flashEnd 3).settle) ∧
    (t.sec.flashOp = some (2, n) → exec (.flashDone dt (some d) false) s = .next ((t.hostWrite .mgmt
      (t.fld R.SEC_FLASH_ADDR F.SEC_FLASH_ADDR_ADDR * 4096) (Mem.rdN 0xFF t.sec.flash (sectorBase n) 4096)).flashEnd 0).settle) ∧
    (t.sec.flashOp = some (2, n) → exec (.flashDone dt (some d) true) s = .next (t.flashEnd 4).settle))

/-- R461 to R465: SPDM. Each request on a transport that is there is answered; one that needs a signature is answered with ERROR
while SEC's engines are shut, and otherwise over fresh bytes; KEY_EXCHANGE opens a session, at most eight; a session ends.
The model's own choices in it: log entries 5, 7 and 27. -/
def Obligations.SpdmAnswers : Prop :=
  (∀ (s t : State) (dt via : Nat), Finds s dt t → t.spdmVia via = true →
    exec (.getVersion dt via) s = .next (t.emit (.spdm via 0x04 [1, 0x1200] [])) ∧
    exec (.getCapabilities dt via) s = .next (t.emit (.spdm via 0x61 [spdmFlags] [])) ∧
    exec (.negotiateAlgorithms dt via) s = .next (t.emit (.spdm via 0x63
      (if t.sec.otp.curve then [0x80, 2, 0x10, 2] else [0x10, 1, 8, 2]) [])) ∧
    exec (.getDigests dt via) s = .next (t.emit (.spdm via 0x01 [1] (Config.digest t.certChain))) ∧
    (∀ off len : Nat, exec (.getCertificate dt via 0 off len) s = .next (t.emit (.spdm via 0x02
      [0, ((t.certChain.drop off).take len).length, t.certChain.length - off - ((t.certChain.drop off).take len).length]
      ((t.certChain.drop off).take len)))) ∧
    (∀ (index : Nat) (nonce : List Byte), 1 ≤ index → index ≤ 7 → exec (.getMeasurements dt via index false nonce) s =
      .next (t.emit (.spdm via 0x60 [index, 1] (BitVec.ofNat 8 index :: t.measurement index)))) ∧
    (∀ (e : Nat) (share nonce : List Byte), t.spdmShut true = some e →
      exec (.challenge dt via 0 nonce) s = .next (t.emit (.spdm via 0x7F [e, 0] [])) ∧
      exec (.keyExchange dt via share) s = .next (t.emit (.spdm via 0x7F [e, 0] []))) ∧
    (∀ (nonce r : List Byte) (u : State), t.spdmShut true = none → t.freshBytes 4 = (r, u) → exec (.challenge dt via 0 nonce) s =
      .next (u.emit (.spdm via 0x03 [0, 1] (Config.digest t.certChain ++ r ++ Config.digest ((3 : Byte) :: nonce ++ r))))) ∧
    (∀ (share r : List Byte) (u : State), t.spdmShut true = none → t.freshBytes 4 = (r, u) → t.sec.sessions.length < 8 →
      exec (.keyExchange dt via share) s = .next (((u.onSec fun x => { x with
        sessions := x.sessions ++ [{ id := t.sec.nextSession, via := via }], nextSession := t.sec.nextSession + 1 }).showSessions).emit
          (.spdm via 0x64 [t.sec.nextSession] (r ++ Config.digest ((0x64 : Byte) :: share ++ r)))))) ∧
  (∀ (s t : State) (dt : Nat) (x : Session), Finds s dt t → t.sec.sessions.find? (fun y => y.id == x.id) = some x →
    ∀ u : State, u = (t.onSec fun y => { y with sessions := y.sessions.filter fun z => z.id != x.id }).showSessions →
    exec (.spdmSessionEnd dt x.id true) s = .next u ∧
    exec (.spdmSessionEnd dt x.id false) s = .next (u.emit (.spdm x.via 0x6C [] [])))

/-- R466 to R468: link keys. In a session of a virtual switch, QUERY names the port, or status 2 for none; KEY_PROG stores the key
of a set, substream and direction; K_SET_GO makes a programmed set the active one, K_SET_STOP ends its use.
The model's own choices in it: log entry 27. -/
def Obligations.LinkKeys : Prop :=
  ∀ (s t : State) (dt id v i p : Nat) (op : IdeOp), Finds s dt t → t.ideSession id = (some v, t) → op.session = id → op.index = i →
    (t.idePort v i = none → exec (.query dt id i) s = .next (t.emit (.spdm v 1 [i, 2] [])) ∧
      (∀ key : List Byte, exec (.keyProg dt op key) s = .next (t.emit (.spdm v 3 [i, 2] [])))) ∧
    (t.idePort v i = some p → ∀ k : IdeKeys, k = tget {} t.sec.keys p →
      exec (.query dt id i) s = .next (t.emit (.spdm v 1 [i, t.busOf (.port p), 0, t.role p] [])) ∧
      (∀ key : List Byte, (t.pcpOf p).up = false → exec (.keyProg dt op key) s = .next (t.emit (.spdm v 3 [i, 4] []))) ∧
      (∀ key : List Byte, (t.pcpOf p).up = true → t.portContained p = false → exec (.keyProg dt op key) s =
        .next ((t.onSec fun x => { x with keys := tput x.keys p { k with keys := k.keys.filter (fun x => !(x.1 == op.set % 2 &&
          x.2.1 == op.sub % 3 && x.2.2.1 == op.dir % 2)) ++ [(op.set % 2, op.sub % 3, op.dir % 2, key)] } }).emit
            (.spdm v 3 [i, 0] []))) ∧
      ((k.keys.any fun x => x.1 == op.set % 2 && x.2.1 == op.sub % 3 && x.2.2.1 == op.dir % 2) = true →
        exec (.kSetGo dt op) s = .next (((t.onSec fun x => { x with keys := tput x.keys p { k with
          active := k.active.filter (fun x => x.2 != (op.sub % 3, op.dir % 2)) ++ [(op.set % 2, op.sub % 3, op.dir % 2)] } }).showIde p).emit
            (.spdm v 6 [i, 0] []))) ∧
      ((k.keys.any fun x => x.1 == op.set % 2 && x.2.1 == op.sub % 3 && x.2.2.1 == op.dir % 2) = false →
        exec (.kSetGo dt op) s = .next (t.emit (.spdm v 6 [i, 4] []))) ∧
      ((tfind t.sec.keys p).isSome = true → exec (.kSetStop dt op) s = .next (((t.onSec fun x => { x with keys := tput x.keys p { k with
        active := k.active.filter fun x => x != (op.set % 2, op.sub % 3, op.dir % 2) } }).showIde p).emit (.spdm v 6 [i, 0] []))))

/-- R470, R471, R479 to R481: the debug port. An instruction that the life cycle closes acts as BYPASS; IDCODE shifts out its
constant; UNLOCK_CHALLENGE gives the serial number and a fresh nonce; a good object opens the port, a bad one is reported, and both
spend the nonce; the first CORE_DEBUG drops the keys; EXTEST drops every link.
The model's own choices in it: log entries 5 and 39. -/
def Obligations.DebugPort : Prop :=
  ∀ (s t : State) (dt : Nat), Finds s dt t → t.sec.extest = false →
    (∀ c : Nat, c ≠ 0 → t.jtagIr c = t.onSec fun x => { x with ir := if t.jtagOk c then c else 0xFF, extest := false }) ∧
    exec (.bypass dt) s = .next (t.onSec fun x => { x with ir := 0xFF, extest := false }) ∧
    exec (.samplePreload dt) s = .next (t.onSec fun x => { x with ir := 1, extest := false }) ∧
    exec (.idcode dt) s = .next ((t.onSec fun x => { x with ir := 2, extest := false }).emit (.jtag 0x12880F3B 32)) ∧
    (t.jtagOk 0 = true → exec (.extest dt) s = .next (t.cfg.ports.foldl (fun u e => if e.2.scango then u.sglDown e.1 else u.linkDown e.1)
      (t.onSec fun x => { x with ir := 0, extest := true })).settle) ∧
    (t.jtagOk 0x10 = true → ∀ (off len : Nat) (l words : List Nat) (ok : Bool) (u v : State),
      v = (t.onSec fun x => { x with ir := 0x10, extest := false }) →
      (v.burst false words (min 128 len) (off / 4 * 4) [] = (l, ok, u) → exec (.memAccess dt false off len words) s =
        .next ((l.foldl (fun u w => u.emit (.jtag w 32)) u).onSec fun x => { x with mem := (if ok then 0 else 1, l.length) }).settle) ∧
      (v.burst true words (min 128 len) (off / 4 * 4) [] = (l, ok, u) → exec (.memAccess dt true off len words) s =
        .next (u.onSec fun x => { x with mem := (if ok then 0 else 1, l.length) }).settle)) ∧
    (t.jtagOk 0x11 = true → ∀ (w : Word) (u : State), (t.jtagIr 0x11).fresh = (w, u) → exec (.unlockChallenge dt) s =
      .next ((u.onSec fun x => { x with jtagNonce := some w }).emit (.jtag (t.sec.otp.serial % 2 ^ 64 + 2 ^ 64 * w.toNat) 128))) ∧
    (t.jtagOk 0x12 = true → ∀ (obj : List Byte) (a : AuthObj), a = authObj obj → t.sec.otp.lc = 3 → a.typ = 2 →
      (a.serial = t.sec.otp.serial → t.sec.jtagNonce = some (BitVec.ofNat 64 a.nonce) → a.key = 0x21 → exec (.unlock dt obj true) s =
        .next (((t.onSec fun x => { x with ir := 0x12, extest := false, jtagNonce := none }).setFld R.SEC_STAT F.SEC_STAT_DEBUG_OPEN
          1).raise Flt.SEC_DEBUG_UNLOCK)) ∧
      exec (.unlock dt obj false) s =
        .next ((t.onSec fun x => { x with ir := 0x12, extest := false, jtagNonce := none }).raise Flt.SEC_AUTH_REJECT)) ∧
    (t.jtagOk 0x13 = true → t.flag R.SEC_STAT F.SEC_STAT_CORE_DEBUG_USED = false → exec (.coreDebug dt) s = .next
      (((t.onSec fun x => { x with ir := 0x13, extest := false, keyStore := false }).setFld R.SEC_STAT F.SEC_STAT_CORE_DEBUG_USED 1).raise
        Flt.SEC_DEBUG_UNLOCK))

/-- R38, R40, R43, R44, R45, R475, R568: the registers of the rings. An index that the ring's state allows is taken, and another is
BAD_PARAM; the MCR's consumer index is read-only; an enable starts a ring whose size and base are as R38 asks, and leaves EN at 0
otherwise; a ring that is enabled holds its LOG2_SIZE, and a write that reaches it is reported; OVF is cleared by writing 1. The MCR
has no IRQ_TIME and no IRQ_COUNT. A class without the right changes nothing: it is a violation.
The model's own choices in it: log entries 21, 29, 30 and 127. -/
def Obligations.RingRegisterRows : Prop :=
  (∀ (s t : State) (dt : Nat) (m : Master), Finds s dt t → t.mpuRight m 1 true = true → ∀ index : Nat,
    (t.mcrIndexOk (index % 2 ^ 17) = true → exec (.mcrDoorbell dt m index) s = .next ((t.put (R.CTL_PI 0)
      (mixBits (t.raw (R.CTL_PI 0)) (BitVec.ofNat 64 index) F.CTL_PI_INDEX.mask)).mcrFetch).settle) ∧
    (t.mcrIndexOk (index % 2 ^ 17) = false → exec (.mcrDoorbell dt m index) s = .next (t.regErr stBadParam (R.CTL_PI 0)).settle) ∧
    exec (.ringCiWrite dt m .mcr index) s = .next t.settle) ∧
  (∀ (s t : State) (dt : Nat) (m : Master) (r : RingId), Finds s dt t → ((∀ v, r ≠ .fail v) → t.mpuRight m 1 true = true) →
    (∀ index : Nat, r ≠ .mcr → t.ciOk r (index % 2 ^ 17) = true → exec (.ringCiWrite dt m r index) s =
      .next ((t.put r.ci (mixBits (t.raw r.ci) (BitVec.ofNat 64 index) F.CTL_CI_INDEX.mask)).ciMoved r).settle) ∧
    (∀ index : Nat, r ≠ .mcr → t.ciOk r (index % 2 ^ 17) = false →
      exec (.ringCiWrite dt m r index) s = .next (t.regErr stBadParam r.ci).settle) ∧
    (∀ (v : Word) (k live : Nat), k = r.cfg → live = (if r = .mcr then 0x80000000 else 0x8FFFFF00) →
      (t.ringOn r = false →
        (∀ u : State, u = t.put k (mixBits (t.raw k) (F.CTL_CFG_EN.set v 1) (live ||| 0x1F)) →
          (u.ringReady r = true → exec (.ringEnable dt m r v) s = .next (u.ringStart r).settle) ∧
          (u.ringReady r = false → exec (.ringEnable dt m r v) s = .next ((u.setFld k F.CTL_CFG_EN 0).regErr stBadParam k).settle)) ∧
        exec (.ringDisable dt m r v) s = .next (t.put k (mixBits (t.raw k) (F.CTL_CFG_EN.set v 0) (live ||| 0x1F))).settle) ∧
      (t.ringOn r = true → ∀ e : State, e = t.regErr stCfgBusy k →
        (∀ w : Word, w = mixBits (t.raw k) (F.CTL_CFG_EN.set v 1) live →
          exec (.ringEnable dt m r v) s = .next (if w = t.raw k then e else e.setRaw k w).settle) ∧
        exec (.ringDisable dt m r v) s = .next (e.setRaw k (mixBits (t.raw k) (F.CTL_CFG_EN.set v 0) live)).settle)) ∧
    exec (.ringOvfClear dt m r) s = .next (t.put r.stat (F.CTL_STAT_OVF.set (t.raw r.stat) 0)).settle) ∧
  (∀ (s t : State) (dt : Nat) (m : Master) (r : RingId), Finds s dt t → (∀ v, r ≠ .fail v) → t.mpuRight m 1 true = false →
    (∀ index : Nat, exec (.mcrDoorbell dt m index) s = .next (t.violate m (R.CTL_PI 0) 4 true false).settle ∧
      exec (.ringCiWrite dt m r index) s = .next (t.violate m r.ci 4 true false).settle) ∧
    (∀ v : Word, exec (.ringEnable dt m r v) s = .next (t.violate m r.cfg 4 true false).settle ∧
      exec (.ringDisable dt m r v) s = .next (t.violate m r.cfg 4 true false).settle) ∧
    exec (.ringOvfClear dt m r) s = .next (t.violate m r.stat 4 true false).settle)

/-- R10, R91, R96, R172, R225, R267, R272, R273, R475, R477: registers of the switch core and of the ports. SAMPLING_ENABLE
loads the counter where EN was 0; a snapshot is taken; a configuration request starts, unless one is under way; a swap of a lane
of the link starts; ADMIN_UP 0 takes a link down and 1 starts its bring-up. In a locked slot the LK fields stand and the write
is a violation; a class without the right changes nothing.
The model's own choices in it: log entries 29, 34 and 127. -/
def Obligations.PortRegisterRows : Prop :=
  (∀ (s t : State) (dt p : Nat) (m : Master) (w x : Word), Finds s dt t → p < 128 →
    x = mixBits (t.raw (R.XBC_SMP_CFG p)) (F.XBC_SMP_CFG_EN.set w 1) 0xC000FFFF →
    (t.mpuRight m 10 true = true → t.slotLocked 10 = false →
      (F.XBC_SMP_CFG_N.get x = 0 → exec (.samplingEnable dt m p w) s = .next (t.regErr stBadParam (R.XBC_SMP_CFG p)).settle) ∧
      (F.XBC_SMP_CFG_N.get x ≠ 0 → ∀ u : State, u = t.put (R.XBC_SMP_CFG p) x →
        (t.flag (R.XBC_SMP_CFG p) F.XBC_SMP_CFG_EN = true → exec (.samplingEnable dt m p w) s = .next u.settle) ∧
        (t.flag (R.XBC_SMP_CFG p) F.XBC_SMP_CFG_EN = false → ∀ (n : Nat) (v : State), u.smpReload p = (n, v) →
          exec (.samplingEnable dt m p w) s = .next ({ v with xbc := { v.xbc with smpCnt := tput v.xbc.smpCnt p n } } : State).settle))) ∧
    (t.mpuRight m 10 true = true → t.slotLocked 10 = true →
      exec (.samplingEnable dt m p w) s = .next (t.violate m (R.XBC_SMP_CFG p) 4 true true).settle) ∧
    (t.mpuRight m 10 true = false → exec (.samplingEnable dt m p w) s = .next (t.violate m (R.XBC_SMP_CFG p) 4 true false).settle)) ∧
  (∀ (s t : State) (dt q : Nat) (clr : Bool) (m : Master), Finds s dt t →
    (t.mpuRight m 13 true = true → exec (.snapshot dt m clr q) s = .next ((t.put R.TMG_SNAP_SEL (mixBits (t.raw R.TMG_SNAP_SEL)
      (putFields 0 [(F.TMG_SNAP_SEL_CLR, b2n clr), (F.TMG_SNAP_SEL_QUEUE, q)]) 0x80007FFF)).doSnapshot clr (q % 2 ^ 15)).settle) ∧
    (t.mpuRight m 13 true = false → exec (.snapshot dt m clr q) s = .next (t.violate m R.TMG_SNAP_SEL 4 true false).settle)) ∧
  (∀ (s t : State) (dt p k : Nat) (m : Master) (op : CfgrqOp), Finds s dt t →
    (t.role p ≠ 2 → exec (.cfgrqGo dt m p op) s = .next t.settle) ∧
    (∀ i : PortInfo, t.port p = some i → t.role p = 2 → i.group < 32 → i.inst < 4 → k = R.PCP_CFGRQ i.group i.inst →
      t.pagePort k = some p →
      (t.mpuRight m (k / 0x40000) true = true → t.slotLocked (k / 0x40000) = false → t.flag k F.PCP_CFGRQ_BUSY = false →
        exec (.cfgrqGo dt m p op) s = .next ((t.put k (mixBits (t.raw k) (putFields 0 [(F.PCP_CFGRQ_WRITE, b2n op.write),
          (F.PCP_CFGRQ_BE, op.be), (F.PCP_CFGRQ_BDF, op.bdf), (F.PCP_CFGRQ_DW, op.dw)])
          (F.PCP_CFGRQ_WRITE.mask ||| F.PCP_CFGRQ_BE.mask ||| F.PCP_CFGRQ_BDF.mask ||| F.PCP_CFGRQ_DW.mask))).cfgrqGo p).settle) ∧
      (t.mpuRight m (k / 0x40000) true = true → t.slotLocked (k / 0x40000) = false → t.flag k F.PCP_CFGRQ_BUSY = true →
        exec (.cfgrqGo dt m p op) s = .next (t.regErr stBadParam k).settle) ∧
      (t.mpuRight m (k / 0x40000) true = true → t.slotLocked (k / 0x40000) = true → t.flag k F.PCP_CFGRQ_BUSY = false →
        exec (.cfgrqGo dt m p op) s = .next ((t.cfgrqGo p).violate m k 8 true true).settle) ∧
      (t.mpuRight m (k / 0x40000) true = false → exec (.cfgrqGo dt m p op) s = .next (t.violate m k 8 true false).settle))) ∧
  (∀ (s t : State) (dt p l k : Nat) (m : Master), Finds s dt t →
    (t.isScango p = false → exec (.swapCmd dt m p l) s = .next t.settle) ∧
    (∀ i : PortInfo, t.port p = some i → i.scango = true → i.group < 32 → i.inst < 4 → k = R.SGL_SWAP_CMD i.group i.inst →
      t.pagePort k = some p →
      (t.mpuRight m (k / 0x40000) true = true → t.slotLocked (k / 0x40000) = false →
        (l % 16 < t.width p → exec (.swapCmd dt m p l) s =
          .next ((t.put k (F.SGL_SWAP_CMD_GO.set (F.SGL_SWAP_CMD_LANE.set (t.raw k) l) 1)).swapGo p).settle) ∧
        (l % 16 ≥ t.width p → exec (.swapCmd dt m p l) s = .next (t.regErr stBadParam k).settle)) ∧
      (t.mpuRight m (k / 0x40000) true = true → t.slotLocked (k / 0x40000) = true → F.SGL_SWAP_CMD_LANE.get (t.raw k) < t.width p →
        exec (.swapCmd dt m p l) s = .next (((t.put k (F.SGL_SWAP_CMD_GO.set (t.raw k) 1)).swapGo p).violate m k 4 true true).settle) ∧
      (t.mpuRight m (k / 0x40000) true = false → exec (.swapCmd dt m p l) s = .next (t.violate m k 4 true false).settle))) ∧
  (∀ (s t : State) (dt p k : Nat) (m : Master), Finds s dt t →
    (t.isScango p = false → exec (.adminDown dt m p) s = .next t.settle ∧ exec (.adminUp dt m p) s = .next t.settle) ∧
    (∀ i : PortInfo, t.port p = some i → i.scango = true → i.group < 32 → i.inst < 4 → k = R.SGL_CFG i.group i.inst →
      t.pagePort k = some p →
      (t.mpuRight m (k / 0x40000) true = true → t.slotLocked (k / 0x40000) = false → t.badPort k (t.raw k) = false →
        ∀ e : State, e = (if t.portRuns p = true then t.regErr stCfgBusy k else t) →
        (t.adminUp p = true → exec (.adminDown dt m p) s = .next ((e.setRaw k (F.SGL_CFG_ADMIN_UP.set (t.raw k) 0)).sglDown p).settle ∧
          exec (.adminUp dt m p) s = .next e.settle) ∧
        (t.adminUp p = false → exec (.adminUp dt m p) s = .next ((e.setRaw k (F.SGL_CFG_ADMIN_UP.set (t.raw k) 1)).sglStart p).settle ∧
          exec (.adminDown dt m p) s = .next e.settle)) ∧
      (t.mpuRight m (k / 0x40000) true = true → t.slotLocked (k / 0x40000) = true →
        exec (.adminDown dt m p) s = .next (t.violate m k 8 true true).settle ∧
        exec (.adminUp dt m p) s = .next (t.violate m k 8 true true).settle) ∧
      (t.mpuRight m (k / 0x40000) true = false → exec (.adminDown dt m p) s = .next (t.violate m k 8 true false).settle ∧
        exec (.adminUp dt m p) s = .next (t.violate m k 8 true false).settle)))

/-- R10, R286, R294 to R297, R475, R477: registers of the lane groups. A manual bit slip takes the position that the register holds,
and without MANUAL is BAD_PARAM; an eye scan starts at a point that R295 allows, while none runs; errors are injected, but not on a
spare lane that is not there. In a locked slot the LK fields stand and the write is a violation; a class without the right changes
nothing.
The model's own choices in it: log entries 31, 32 and 34. -/
def Obligations.LaneRegisterRows : Prop :=
  ∀ (s t : State) (dt g k : Nat) (m : Master), Finds s dt t → g < 32 →
    (∀ w : Word, k = R.LG_BITSLIP g → w = F.LG_BITSLIP_POS.set (t.raw k) (t.lane (9 * g + t.fld k F.LG_BITSLIP_LANE)).pos →
      (t.mpuRight m (18 + g) true = true → t.badLane k w = false →
        (t.flag (R.LG_BRINGUP g) F.LG_BRINGUP_MANUAL = true → t.slotLocked (18 + g) = false →
          exec (.bitslipDone dt m g) s = .next ((t.put k w).bitslipDone g).settle) ∧
        (t.flag (R.LG_BRINGUP g) F.LG_BRINGUP_MANUAL = true → t.slotLocked (18 + g) = true →
          exec (.bitslipDone dt m g) s = .next ((t.bitslipDone g).violate m k 4 true true).settle) ∧
        (t.flag (R.LG_BRINGUP g) F.LG_BRINGUP_MANUAL = false → t.slotLocked (18 + g) = false →
          exec (.bitslipDone dt m g) s = .next ((t.regErr stBadParam k).bitslipDone g).settle)) ∧
      (t.mpuRight m (18 + g) true = true → t.badLane k w = true → t.slotLocked (18 + g) = false →
        exec (.bitslipDone dt m g) s = .next (t.regErr stBadParam k).settle) ∧
      (t.mpuRight m (18 + g) true = false → exec (.bitslipDone dt m g) s = .next (t.violate m k 4 true false).settle)) ∧
    (∀ (op : EyeOp) (margined : Bool) (x : Word), k = R.LG_EYE_CFG g → x = mixBits (t.raw k) (putFields 0 [(F.LG_EYE_CFG_LANE, op.lane),
        (F.LG_EYE_CFG_EYE, op.eye), (F.LG_EYE_CFG_H, op.h), (F.LG_EYE_CFG_V, op.v), (F.LG_EYE_CFG_DWELL, op.dwell)]) 0x7FFFFFC000000000 →
      (t.mpuRight m (18 + g) true = true → t.slotLocked (18 + g) = false →
        (op.lane ≤ 8 → op.eye ≤ 2 → op.eye = 0 ∨ t.pam4 g op.lane = true → 10 ≤ op.dwell → op.dwell ≤ 40 →
          t.flag (R.LG_EYE_STAT g) F.LG_EYE_STAT_BUSY = false →
          exec (.eyeScanGo dt m g op margined) s = .next ((t.put k x).eyeGo g margined).settle) ∧
        (t.badLane k (F.LG_EYE_CFG_GO.set x 1) = true → exec (.eyeScanGo dt m g op margined) s = .next (t.regErr stBadParam k).settle)) ∧
      (t.mpuRight m (18 + g) true = true → t.slotLocked (18 + g) = true → t.badLane k (F.LG_EYE_CFG_GO.set (t.raw k) 1) = false →
        exec (.eyeScanGo dt m g op margined) s = .next ((t.eyeGo g margined).violate m k 8 true true).settle) ∧
      (t.mpuRight m (18 + g) true = false → exec (.eyeScanGo dt m g op margined) s = .next (t.violate m k 8 true false).settle)) ∧
    (∀ l : Nat, l < 9 → k = R.LG_TEST g l → t.fld k F.LG_TEST_MODE ≤ 6 →
      (t.mpuRight m (18 + g) true = true → t.slotLocked (18 + g) = false →
        (t.laneThere g l = false → exec (.prbsInject dt m g l) s = .next t.settle) ∧
        (t.laneThere g l = true → t.laneBusy g l = false → exec (.prbsInject dt m g l) s = .next (t.prbsInj g l).settle) ∧
        (t.laneThere g l = true → t.laneBusy g l = true → exec (.prbsInject dt m g l) s =
          .next ((t.regErr stCfgBusy k).prbsInj g l).settle)) ∧
      (t.mpuRight m (18 + g) true = true → t.slotLocked (18 + g) = true → t.laneThere g l = true →
        exec (.prbsInject dt m g l) s = .next ((t.prbsInj g l).violate m k 4 true true).settle) ∧
      (t.mpuRight m (18 + g) true = false → exec (.prbsInject dt m g l) s = .next (t.violate m k 4 true false).settle))

/-- R10, R325, R374, R405, R421, R475, R477: registers of write logging, of the pads and of fault collection. A context is
enabled from EN 0 where its bitmaps lie in the region, else the write is BAD_PARAM; it is disabled, and holds its other fields
while it is enabled; pad banks are released bit by bit; each forced bit is a forced message; a 1 to FIRST_VALID re-arms the
capture. In a locked slot the LK fields stand and the write is a violation; a class without the right changes nothing.
The model's own choices in it: log entries 29 and 127. -/
def Obligations.BlockRegisterRows : Prop :=
  (∀ (s t : State) (dt c k : Nat) (m : Master) (v : Word), Finds s dt t → c < 1024 → k = R.WLG_CTX_CFG c →
    (t.mpuRight m 16 true = true → t.slotLocked 16 = false →
      (t.flag k F.WLG_CTX_CFG_EN = false →
        (t.ctxOk c = true → exec (.contextEnable dt m c v) s =
          .next ((t.put k (mixBits (t.raw k) (F.WLG_CTX_CFG_EN.set v 1) 0xFE0FFFFF000FFFFF)).ctxEnabled c).settle) ∧
        (t.ctxOk c = false → exec (.contextEnable dt m c v) s = .next (t.regErr stBadParam k).settle) ∧
        exec (.contextDisable dt m c v) s =
          .next (t.put k (mixBits (t.raw k) (F.WLG_CTX_CFG_EN.set v 0) 0xFE0FFFFF000FFFFF)).settle) ∧
      (t.flag k F.WLG_CTX_CFG_EN = true →
        exec (.contextDisable dt m c v) s =
          .next (((t.regErr stCfgBusy k).setRaw k (F.WLG_CTX_CFG_EN.set (t.raw k) 0)).ctxDisabled c).settle ∧
        exec (.contextEnable dt m c v) s = .next (t.regErr stCfgBusy k).settle)) ∧
    (t.mpuRight m 16 true = true → t.slotLocked 16 = true → ∀ u : State, u = (t.violate m k 8 true true).settle →
      exec (.contextEnable dt m c v) s = .next u ∧ exec (.contextDisable dt m c v) s = .next u) ∧
    (t.mpuRight m 16 true = false → ∀ u : State, u = (t.violate m k 8 true false).settle →
      exec (.contextEnable dt m c v) s = .next u ∧ exec (.contextDisable dt m c v) s = .next u)) ∧
  (∀ (s t : State) (dt j bits : Nat) (m : Master), Finds s dt t → j < 2 → bits < 2 ^ 64 →
    (t.mpuRight m 4 true = true → exec (.padRelease dt m j bits) s =
      .next (((List.range 64).filter (bitAt bits)).foldl (fun u b => u.bankRelease (64 * j + b)) t).settle) ∧
    (t.mpuRight m 4 true = false → exec (.padRelease dt m j bits) s = .next (t.violate m (R.PWR_PAD_HOLD j) 8 true false).settle)) ∧
  (∀ (s t : State) (dt j bits : Nat) (m : Master), Finds s dt t → j < 24 → bits < 2 ^ 64 →
    (t.mpuRight m 2 true = true → exec (.faultForce dt m j bits) s = .next (t.forceFaults j bits).settle) ∧
    (t.mpuRight m 2 true = false → exec (.faultForce dt m j bits) s = .next (t.violate m (R.FCR_FORCE j) 8 true false).settle)) ∧
  (∀ (s t : State) (dt : Nat) (m : Master), Finds s dt t →
    (t.mpuRight m 2 true = true → t.slotLocked 2 = false →
      exec (.latchRearm dt m) s = .next (t.put R.FCR_CFG (F.FCR_CFG_FIRST_VALID.set (t.raw R.FCR_CFG) 0)).settle) ∧
    (t.mpuRight m 2 true = true → t.slotLocked 2 = true → exec (.latchRearm dt m) s =
      .next ((t.put R.FCR_CFG (F.FCR_CFG_FIRST_VALID.set (t.raw R.FCR_CFG) 0)).violate m R.FCR_CFG 4 true true).settle) ∧
    (t.mpuRight m 2 true = false → exec (.latchRearm dt m) s = .next (t.violate m R.FCR_CFG 4 true false).settle))

/-- R10, R459, R470, R473, R475, R477, R478: registers of security and protection. A read of SEC_LC_NONCE draws a fresh nonce;
the checks and the flash operations start, while none runs; LOCK is set for good; a 1 to VALID re-arms the violation's capture.
In a locked slot the LK fields stand and the write is a violation; a class without the right reads zeros and changes nothing.
The model's own choices in it: log entries 35, 36 and 127. -/
def Obligations.SecurityRegisterRows : Prop :=
  (∀ (s t : State) (dt : Nat) (m : Master), Finds s dt t →
    (∀ (w : Word) (u : State), t.mpuRight m 6 false = true → t.fresh = (w, u) → exec (.nonceRead dt m) s =
      .next ((u.onSec fun x => { x with nonce := some w }).emit (.regData R.SEC_LC_NONCE (leBytes 8 w.toNat))).settle) ∧
    (t.mpuRight m 6 false = false → exec (.nonceRead dt m) s =
      .next ((t.violate m R.SEC_LC_NONCE 8 false false).emit (.regData R.SEC_LC_NONCE (List.replicate 8 0))).settle) ∧
    (t.mpuRight m 6 true = true → t.slotLocked 6 = false →
      (∀ target : Nat, (target % 8 ≤ 4 → t.flag R.SEC_LC_CMD F.SEC_LC_CMD_BUSY = false → exec (.lifecycleGo dt m target) s =
          .next (t.put R.SEC_LC_CMD (F.SEC_LC_CMD_TARGET.set (t.raw R.SEC_LC_CMD) target)).lcGo.settle) ∧
        (target % 8 > 4 ∨ t.flag R.SEC_LC_CMD F.SEC_LC_CMD_BUSY = true → exec (.lifecycleGo dt m target) s =
          .next (t.regErr stBadParam R.SEC_LC_CMD).settle)) ∧
      (∀ (sector : Nat) (x : Word), x = F.SEC_FLASH_CMD_SECTOR.set (t.raw R.SEC_FLASH_CMD) sector →
        (t.flag R.SEC_FLASH_CMD F.SEC_FLASH_CMD_BUSY = false →
          exec (.flashErase dt m sector) s = .next (t.put R.SEC_FLASH_CMD (F.SEC_FLASH_CMD_OP.set x 0)).flashGo.settle ∧
          exec (.flashProgram dt m sector) s = .next (t.put R.SEC_FLASH_CMD (F.SEC_FLASH_CMD_OP.set x 1)).flashGo.settle ∧
          exec (.flashRead dt m sector) s = .next (t.put R.SEC_FLASH_CMD (F.SEC_FLASH_CMD_OP.set x 2)).flashGo.settle) ∧
        (t.flag R.SEC_FLASH_CMD F.SEC_FLASH_CMD_BUSY = true → ∀ u : State, u = (t.regErr stBadParam R.SEC_FLASH_CMD).settle →
          exec (.flashErase dt m sector) s = .next u ∧ exec (.flashProgram dt m sector) s = .next u ∧
          exec (.flashRead dt m sector) s = .next u))) ∧
    (∀ (target sector : Nat) (lk : Bool) (u v : State), u = (t.violate m R.SEC_LC_CMD 4 true lk).settle →
      v = (t.violate m R.SEC_FLASH_CMD 4 true lk).settle →
      (lk = false ∧ t.mpuRight m 6 true = false ∨ lk = true ∧ t.mpuRight m 6 true = true ∧ t.slotLocked 6 = true) →
      exec (.lifecycleGo dt m target) s = .next u ∧ exec (.flashErase dt m sector) s = .next v ∧
      exec (.flashProgram dt m sector) s = .next v ∧ exec (.flashRead dt m sector) s = .next v)) ∧
  (∀ (s t : State) (dt : Nat) (m : Master), Finds s dt t →
    (t.mpuRight m 3 true = true →
      (∀ n : Nat, n < 256 → t.slotLocked 3 = false → t.slotLocked n = false → exec (.mpuLock dt m n) s =
        .next (t.put (R.MPU_SLOT n) (F.MPU_SLOT_LOCK.set (t.raw (R.MPU_SLOT n)) 1)).settle) ∧
      (∀ n : Nat, n < 256 → t.slotLocked 3 = true → t.slotLocked n = false → exec (.mpuLock dt m n) s =
        .next ((t.put (R.MPU_SLOT n) (F.MPU_SLOT_LOCK.set (t.raw (R.MPU_SLOT n)) 1)).violate m (R.MPU_SLOT n) 4 true true).settle) ∧
      (∀ n : Nat, n < 256 → t.slotLocked n = true → exec (.mpuLock dt m n) s = .next (t.violate m (R.MPU_SLOT n) 4 true true).settle) ∧
      exec (.violationRearm dt m) s = .next (t.put R.MPU_VIOL (F.MPU_VIOL_VALID.set (t.raw R.MPU_VIOL) 0)).settle) ∧
    (t.mpuRight m 3 true = false →
      (∀ n : Nat, n < 256 → exec (.mpuLock dt m n) s = .next (t.violate m (R.MPU_SLOT n) 4 true false).settle) ∧
      exec (.violationRearm dt m) s = .next (t.violate m R.MPU_VIOL 8 true false).settle))

/-- R10, R475, R477, R490, R497, R500, R507, R528: registers of ageing, the counters and the resets. GB_CLR is noted for the
next round's end; a ledger record is fetched; the calendar is set and valid; a counter is cleared; a warm reset runs. In a
locked slot the LK fields stand and the write is a violation; a class without the right changes nothing.
The model's own choices in it: log entries 34 and 127. -/
def Obligations.AgeingRegisterRows : Prop :=
  (∀ (s t : State) (dt : Nat) (m : Master), Finds s dt t →
    (t.mpuRight m 7 true = true →
      (1 ≤ t.fld R.AGE_CFG F.AGE_CFG_PERIOD_MIN → t.fld R.AGE_CFG F.AGE_CFG_PERIOD_MIN ≤ 1440 → ∀ u : State,
        u = (t.onAge fun a => { a with clr := true }) →
        (t.slotLocked 7 = false → exec (.gbClr dt m) s = .next u.settle) ∧
        (t.slotLocked 7 = true → exec (.gbClr dt m) s = .next (u.violate m R.AGE_CFG 4 true true).settle)) ∧
      (∀ index : Nat, exec (.ledgerRead dt m index) s =
        .next (t.put R.AGE_LEDGER_SEL (F.AGE_LEDGER_SEL_INDEX.set (t.raw R.AGE_LEDGER_SEL) index)).ledgerGo.settle) ∧
      (∀ n : Nat, n < 2 ^ 48 → (t.slotLocked 7 = false → ∀ u : State,
          u = (if n = t.calendar then t else t.setRaw R.AGE_CAL_SEC (BitVec.ofNat 64 n)) → exec (.calendarSet dt m n) s =
            .next ({ u with aon := { u.aon with cal := n, calAt := u.aon.ns, calValid := true } } : State).settle) ∧
        (t.slotLocked 7 = true → exec (.calendarSet dt m n) s = .next (t.violate m R.AGE_CAL_SEC 8 true true).settle))) ∧
    (t.mpuRight m 7 true = false → exec (.gbClr dt m) s = .next (t.violate m R.AGE_CFG 4 true false).settle ∧
      (∀ index : Nat, exec (.ledgerRead dt m index) s = .next (t.violate m R.AGE_LEDGER_SEL 4 true false).settle) ∧
      (∀ n : Nat, exec (.calendarSet dt m n) s = .next (t.violate m R.AGE_CAL_SEC 8 true false).settle))) ∧
  (∀ (s t : State) (dt k : Nat) (m : Master), Finds s dt t → k < 2048 →
    (t.mpuRight m 8 true = true → t.fld (R.PMC_SEL k) F.PMC_SEL_MODE ≠ 3 → ∀ u : State,
      u = { t with pmc := { t.pmc with cnt := tdel t.pmc.cnt k } } →
      (t.slotLocked 8 = false → exec (.counterClear dt m k) s = .next u.settle) ∧
      (t.slotLocked 8 = true → exec (.counterClear dt m k) s = .next (u.violate m (R.PMC_SEL k) 8 true true).settle)) ∧
    (t.mpuRight m 8 true = false → exec (.counterClear dt m k) s = .next (t.violate m (R.PMC_SEL k) 8 true false).settle)) ∧
  (∀ (s t : State) (dt : Nat) (m : Master) (ok : Bool), Finds s dt t →
    (t.mpuRight m 5 true = true → exec (.warmReset dt m ok) s = .next (t.warmReset ok).settle) ∧
    (t.mpuRight m 5 true = false → exec (.warmReset dt m ok) s = .next (t.violate m R.CLK_RESET 4 true false).settle))

/-- A step takes the command at the front of the queue and answers what that command's meaning answers with the queue's rest; on
an empty queue the part idles (the model's choice, log entry 3). -/
def Obligations.StepRunsFront : Prop :=
  (∀ (c : Instr) (s : State) (rest : List Instr), step { s with pending := c :: rest } = exec c { s with pending := rest }) ∧
  (∀ s : State, s.pending = [] → step s = .next s)

/-- R362, R523, R526 and log entry 4: time. Before its effect each command lets its 5-ns steps pass: the timestamp counts them
modulo 2^64 while the part runs, the AON island's time while the crystal runs, and the power-on time while both do; where the
core is off or held in reset nothing else changes. -/
def Obligations.TimePasses : Prop :=
  ∀ (s : State) (dt : Nat),
    (s.elapse dt).now = (if s.aon.mode = 0 then (s.now + 5 * dt) % 2 ^ 64 else s.now) ∧
    (s.elapse dt).aon = (if s.aon.xtal then { s.aon with ns := s.aon.ns + 5 * dt } else s.aon) ∧
    (s.elapse dt).age.onNs = (if s.aon.mode = 0 ∧ s.aon.xtal = true then s.age.onNs + 5 * dt else s.age.onNs) ∧
    (s.aon.mode ≠ 0 → s.elapse dt = { s with aon := if s.aon.xtal then { s.aon with ns := s.aon.ns + 5 * dt } else s.aon })

/-- R355, R362: while the core is off, in keep-warm or held in reset, every command but those that the AON island takes (the
rows of resets, supplies, clocks, wake events and the keep-warm exit) lets time pass and changes nothing else.
The model's own choices in it: log entry 41. -/
def Obligations.OffCoreOnlyWaits : Prop :=
  ∀ (c : Instr) (s : State), s.aon.mode ≠ 0 → onAon c = false → ∃ dt : Nat, exec c s = .next (s.elapse dt)

/-- Between commands no work is under way inside a part that runs: what a command has admitted has been taken to a queue, a
buffer, a tracker or a partner, or dropped, before the next one. Every step keeps this, from every state that meets it.
The model's own choices in it: log entry 40. -/
def Obligations.WorkIsFinished : Prop :=
  ∀ s t : State, NoWorkLeft s → step s = .next t → NoWorkLeft t

/-- No work is under way after reset, with any commands waiting.
The model's own choices in it: log entry 40. -/
def Obligations.WorkIsFinishedAtReset : Prop :=
  ∀ l : List Instr, NoWorkLeft { State.reset with pending := l }

/-- R13, R45, R95, R154, R215, R336, R357, R380, R396, R423, R501, R537: what reset leaves in registers of the blocks: the values
of their tables' Reset columns. -/
def Obligations.ResetValues : Prop :=
  (∀ r ∈ [RingId.mcr, .evr, .ftr, .smr, .cdr], State.reset.raw r.cfg = 0x00100106#64 ∧ State.reset.raw r.base = 0) ∧
  State.reset.fld R.CTL_COMMIT_CFG F.CTL_COMMIT_CFG_WAIT_MAX = 0x12C ∧
  State.reset.raw R.XBC_CFG = 0x80040064#64 ∧ (∀ p, p < 128 → State.reset.raw (R.XBC_SMP_CFG p) = 0xFFFF#64) ∧
  State.reset.raw R.RTE_ESC_THR = 0x800007D0#64 ∧ State.reset.fld R.RTE_FLOW_CFG F.RTE_FLOW_CFG_IDLE_MS = 0x12C ∧
  State.reset.fld R.BRG_TRK_CFG F.BRG_TRK_CFG_OUT_RSV = 0x2000 ∧ State.reset.fld R.BRG_TRK_CFG F.BRG_TRK_CFG_INB_RSV = 0x1000 ∧
  State.reset.fld R.WLG_CFG F.WLG_CFG_FLUSH_TMO = 0xA ∧
  State.reset.fld R.DCT_CFG F.DCT_CFG_DEGLITCH = 5 ∧ State.reset.fld R.DCT_CFG F.DCT_CFG_FLUSH_US = 0x64 ∧
  State.reset.fld R.DCT_CFG F.DCT_CFG_BUDGET_US = 0x190 ∧
  State.reset.fld R.PWR_CFG F.PWR_CFG_STOP_TMO_US = 0x3E8 ∧ State.reset.raw R.PWR_LAST = 0xFF00000000000000#64 ∧
  (∀ n, n < 32 → State.reset.fld (R.SPC_TIMING n) F.SPC_TIMING_INS_DLY_MS = 0x64 ∧
    State.reset.fld (R.SPC_TIMING n) F.SPC_TIMING_REARM_MS = 0xC8 ∧ State.reset.fld (R.SPC_TIMING n) F.SPC_TIMING_RAMP_MS = 0xA ∧
    State.reset.fld (R.SPC_TIMING n) F.SPC_TIMING_PG_TMO_MS = 0x32 ∧ State.reset.fld (R.SPC_TIMING n) F.SPC_TIMING_FLT_TMO_US = 0x7D0) ∧
  State.reset.raw R.FCR_CFG = 0x80000000#64 ∧
  State.reset.fld R.AGE_CFG F.AGE_CFG_PERIOD_MIN = 0x3C ∧ State.reset.flag R.AGE_CFG F.AGE_CFG_CUP_EN = true ∧
  State.reset.fld R.AGE_MARGIN_CFG F.AGE_MARGIN_CFG_SLACK_MIN = 0x18 ∧ State.reset.fld R.AGE_MARGIN_CFG F.AGE_MARGIN_CFG_GB_MAX = 0x32 ∧
  State.reset.fld R.DEV_ID F.DEV_ID_VENDOR_ID = 0x1F3A ∧ State.reset.fld R.DEV_ID F.DEV_ID_DEVICE_ID = 0x2881 ∧
  State.reset.fld R.DEV_ID F.DEV_ID_REVISION_ID = 0xB0

/-- R474, R477: a violation is counted; while none is held it is captured with its slot, class, direction, size and offset and the
time, and raised; while one of another moment is held it is only counted.
The model's own choices in it: log entry 37. -/
def Obligations.ViolationsAreCaptured : Prop :=
  ∀ (s u : State) (m : Master) (addr size : Nat) (write lk : Bool), addr < 0x4000000 → u = s.violate m addr size write lk →
    (s.flag R.MPU_VIOL F.MPU_VIOL_VALID = false →
      u.flag R.MPU_VIOL F.MPU_VIOL_VALID = true ∧ u.fld R.MPU_VIOL F.MPU_VIOL_SLOT = addr / 0x40000 ∧ u.fld R.MPU_VIOL F.MPU_VIOL_CLASS = m.num ∧
      u.flag R.MPU_VIOL F.MPU_VIOL_WRITE = write ∧ u.flag R.MPU_VIOL F.MPU_VIOL_LK_WRITE = lk ∧ u.fld R.MPU_VIOL F.MPU_VIOL_OFFSET = addr % 0x40000 ∧
      u.raw R.MPU_VIOL_TIME = BitVec.ofNat 64 s.now ∧ u.fcr.inbox.length = s.fcr.inbox.length + 1 ∧
      ∀ k : Nat, k ≠ R.MPU_VIOL → k ≠ R.MPU_VIOL_TIME → k ≠ R.MPU_CNT → u.raw k = s.raw k) ∧
    (s.flag R.MPU_VIOL F.MPU_VIOL_VALID = true → s.raw R.MPU_VIOL_TIME ≠ BitVec.ofNat 64 s.now → u = s.count R.MPU_CNT)

/-- The memories of the part (table memory, the on-die tables, flash): a write of bytes reads back, every other byte reads as
before, and the listing keeps its one form.
The model's own choices in it: log entry 26. -/
def Obligations.MemoryHoldsWhatIsWritten : Prop :=
  ∀ (d : Byte) (l : Mem) (a : Nat) (bs : List Byte), Mem.wf d l = true →
    Mem.wf d (Mem.wrN d l a bs) = true ∧ Mem.rdN d (Mem.wrN d l a bs) a bs.length = bs ∧
    ∀ i : Nat, i < a ∨ a + bs.length ≤ i → Mem.rd d (Mem.wrN d l a bs) i = Mem.rd d l i

/-- The frame of writes that only set a register: where nothing else is under way, LATCH_REARM, VIOLATION_REARM, MPU_LOCK and
RING_OVF_CLEAR change their register and nothing else: every other register, every memory and every other field stays.
The model's own choices in it: log entries 36 and 40. -/
def Obligations.RegisterOnlyFrames : Prop :=
  ∀ (s t : State) (dt n : Nat) (m : Master) (r : RingId), Finds s dt t → t.calm = true → (∀ j, j < 8 → t.mpuRight m j true = true) →
    (∀ j, j < 256 → t.slotLocked j = false) → n < 256 →
    ∀ (c : Instr) (k : Nat), (c = .latchRearm dt m ∧ k = R.FCR_CFG) ∨ (c = .violationRearm dt m ∧ k = R.MPU_VIOL) ∨
      (c = .mpuLock dt m n ∧ k = R.MPU_SLOT n) ∨ (c = .ringOvfClear dt m r ∧ k = r.stat) →
    ∃ u : State, exec c s = .next u ∧ u = { t with cfg := { t.cfg with regs := u.cfg.regs } } ∧ ∀ i : Nat, i ≠ k → u.raw i = t.raw i

/-- R96, R155, R381, R567: a write that gives XBC_CFG, XBC_SMP_CFG_p, RTE_CFG, RTE_ESC_THR, RTE_FLOW_CFG, PWR_CFG, PWR_WAKE_CFG
or CTL_COMMIT_CFG a value that these rules name is ignored as a whole and reported as BAD_PARAM. -/
def Obligations.BadValuesAreIgnored : Prop :=
  ∀ (s t : State) (dt k p : Nat) (m : Master) (bs : List Byte) (v : Word), Finds s dt t → bs.length = 4 ∨ bs.length = 8 →
    v = BitVec.ofNat 64 (ofLe bs) → accessOk m k bs.length = true → t.mpuRight m (k / 0x40000) true = true →
    t.slotLocked (k / 0x40000) = false → p < 128 →
    (k = R.XBC_CFG ∧ (F.XBC_CFG_CT_STALL_MAX.get v = 0 ∨ F.XBC_CFG_SWEEP_US.get v = 0 ∨ 1000 < F.XBC_CFG_SWEEP_US.get v)) ∨
    (k = R.XBC_SMP_CFG p ∧ F.XBC_SMP_CFG_EN.get v = 1 ∧ F.XBC_SMP_CFG_N.get v = 0) ∨
    (k = R.RTE_CFG ∧ F.RTE_CFG_TTL_INIT.get v = 0) ∨
    (k = R.RTE_ESC_THR ∧ (F.RTE_ESC_THR_THR_NS.get v < 100 ∨ 1000000 < F.RTE_ESC_THR_THR_NS.get v)) ∨
    (k = R.RTE_FLOW_CFG ∧ (F.RTE_FLOW_CFG_IDLE_MS.get v < 1 ∨ 1000 < F.RTE_FLOW_CFG_IDLE_MS.get v)) ∨
    (k = R.PWR_CFG ∧ F.PWR_CFG_STOP_TMO_US.get v < 10) ∨
    (k = R.PWR_WAKE_CFG ∧ F.PWR_WAKE_CFG_WAKE_EN.get v = 1 ∧ F.PWR_WAKE_CFG_MAIN_EN_EN.get v = 1 ∧
      F.PWR_WAKE_CFG_WAKE_GPIO.get v = F.PWR_WAKE_CFG_MAIN_EN_GPIO.get v) ∨
    (k = R.CTL_COMMIT_CFG ∧ F.CTL_COMMIT_CFG_WAIT_MAX.get v = 0) →
    exec (.registerWrite dt m .mgmt k bs) s = .next (t.regErr stBadParam k).settle

/-- R421: each bit of FCR_FORCE_j that is written as 1 raises a message from source 64j + b, with KIND of FCR_FORCE_CFG and BLOCK
and INFO 0, marked as forced; a source to which no fault of that KIND is assigned raises none (R400). -/
def Obligations.ForcedMessagesAreRaised : Prop :=
  ∀ (s t : State) (dt j bits kind : Nat) (m : Master), Finds s dt t → j < 24 → t.mpuRight m 2 true = true → bits < 2 ^ 64 →
    kind = t.fld R.FCR_FORCE_CFG F.FCR_FORCE_CFG_KIND → exec (.faultForce dt m j bits) s = .next ({ t with
      fcr := { t.fcr with inbox := t.fcr.inbox ++ ((List.range 64).filter fun b => bitAt bits b && faultKnown (64 * j + b) kind).map fun b =>
        { word := faultWord (64 * j + b) kind 0 0, time := t.now, epoch := t.cfg.epoch, forced := true, quiet := t.dct.quiet } } } : State).settle
end

