-- ==== Sys2Proof/Laws/Access.lean ====
section
/-! SUPPORT. Register accesses: the bytes of a word, and a write of a whole register by a class that has the right (R15, R475). -/

namespace Sys2Proof.Machine

@[simp] theorem leBytes_length (n v : Nat) : (leBytes n v).length = n := by
  induction n generalizing v with
  | zero => rfl
  | succ n ih => simp [leBytes, ih]

/-- The bytes of a number spell it, as far as they reach. -/
theorem ofLe_leBytes (n v : Nat) : ofLe (leBytes n v) = v % 256 ^ n := by
  induction n generalizing v with
  | zero => simp [leBytes, ofLe, Nat.mod_one]
  | succ n ih =>
    simp only [leBytes, ofLe, ih, BitVec.toNat_ofNat, Nat.shiftRight_eq_div_pow]
    rw [show 256 ^ (n + 1) = 256 * 256 ^ n by rw [Nat.pow_succ, Nat.mul_comm], Nat.mod_mul]

/-- Bytes written at an aligned key reach one register. -/
theorem State.putBytes_one (s : State) (env : Option Bool) (k key n v : Nat) (hk : key % 8 = 0) (hn : 1 ≤ n) (hn' : n ≤ 8) :
    s.putBytes env (k + 1) key (leBytes n v) = s.regApply key (BitVec.ofNat 64 (v % 256 ^ n)) (byteMask 0 n) env := by
  obtain ⟨j, rfl⟩ : ∃ j, n = j + 1 := ⟨n - 1, by omega⟩
  have e : leBytes (j + 1) v = BitVec.ofNat 8 v :: leBytes j (v >>> 8) := rfl
  rw [e, State.putBytes]
  · rw [← e]
    have t : (leBytes (j + 1) v).take (8 - 0) = leBytes (j + 1) v := by
      apply List.take_of_length_le; simp; omega
    have d : (leBytes (j + 1) v).drop (8 - 0) = [] := by
      apply List.drop_of_length_le; simp; omega
    have z : ∀ (u : State) (a : Nat), u.putBytes env k a [] = (false, u) := by
      intro u a; cases k <;> rfl
    simp only [hk, t, d, ofLe_leBytes, leBytes_length, z, Bool.or_false, Nat.mul_zero, Nat.shiftLeft_zero]
    have : key / 8 * 8 = key := by omega
    rw [this]
  · intro h; cases h

/-- A write of a whole register is one write of it, where the class has the right; one that covers a held LK field is a
violation as well. -/
theorem State.regSet_eq {s u : State} {m : Master} {key : Nat} {v : Word} {env : Option Bool} {d : RegDef} {b : Bool}
    (hd : regAt key = some d) (w : d.width = 32 ∨ d.width = 64) (hk : key % 8 = 0) (hr : s.mpuRight m (key / 0x40000) true = true)
    (h : s.regApply key (BitVec.ofNat 64 (v.toNat % 2 ^ d.width)) (2 ^ d.width - 1) env = (b, u)) :
    s.regSet m key v env = if b then u.violate m key (d.width / 8) true true else u := by
  have e : s.putBytes env 9 key (leBytes (d.width / 8) v.toNat) = (b, u) := by
    rw [← h]
    rcases w with w | w <;> rw [w] <;> rw [State.putBytes_one _ _ _ _ _ _ hk (by norm_num) (by norm_num)] <;> simp [byteMask]
  unfold State.regSet State.regWrite State.mpuWrite
  simp only [hd, hr, Bool.not_true, Bool.false_eq_true, if_false, e]
  cases b <;> simp

/-- A write by a class without the right changes no register: it is a violation. -/
theorem State.regWrite_denied {s : State} {m : Master} {addr : Nat} {bs : List Byte} {env : Option Bool}
    (h : s.mpuRight m (addr / 0x40000) true = false) : s.regWrite m addr bs env = s.violate m addr bs.length true false := by
  unfold State.regWrite State.mpuWrite
  simp [h]

/-- The bits of a word put into itself change nothing. -/
@[simp] theorem mixBits_self (x : Word) (k : Nat) : mixBits x x k = x := by
  unfold mixBits
  ext i
  simp only [BitVec.getElem_or, BitVec.getElem_and, BitVec.getElem_not]
  cases x[i] <;> cases (BitVec.ofNat 64 k)[i] <;> rfl

/-- No bits taken from another word. -/
@[simp] theorem mixBits_zero (x y : Word) : mixBits x y 0 = x := by
  have e : mixBits x y 0 = x &&& BitVec.allOnes 64 := by simp [mixBits]
  rw [e, BitVec.and_allOnes]

end Sys2Proof.Machine
end

