-- ==== Sys2Proof/Laws/State.lean ====
section
/-! SUPPORT. One lemma per field per update of the state: what an update leaves as it is, so that no later proof unfolds a
record update. -/

namespace Sys2Proof.Machine

variable (s : State)

/-! ### setRaw -/

@[simp] theorem State.setRaw_pending (k : Nat) (w : Word) : (s.setRaw k w).pending = s.pending := rfl
@[simp] theorem State.setRaw_now (k : Nat) (w : Word) : (s.setRaw k w).now = s.now := rfl
@[simp] theorem State.setRaw_freeCtr (k : Nat) (w : Word) : (s.setRaw k w).freeCtr = s.freeCtr := rfl
@[simp] theorem State.setRaw_out (k : Nat) (w : Word) : (s.setRaw k w).out = s.out := rfl
@[simp] theorem State.setRaw_ctl (k : Nat) (w : Word) : (s.setRaw k w).ctl = s.ctl := rfl
@[simp] theorem State.setRaw_xbc (k : Nat) (w : Word) : (s.setRaw k w).xbc = s.xbc := rfl
@[simp] theorem State.setRaw_mce (k : Nat) (w : Word) : (s.setRaw k w).mce = s.mce := rfl
@[simp] theorem State.setRaw_rte (k : Nat) (w : Word) : (s.setRaw k w).rte = s.rte := rfl
@[simp] theorem State.setRaw_tmg (k : Nat) (w : Word) : (s.setRaw k w).tmg = s.tmg := rfl
@[simp] theorem State.setRaw_brg (k : Nat) (w : Word) : (s.setRaw k w).brg = s.brg := rfl
@[simp] theorem State.setRaw_pcp (k : Nat) (w : Word) : (s.setRaw k w).pcp = s.pcp := rfl
@[simp] theorem State.setRaw_sgl (k : Nat) (w : Word) : (s.setRaw k w).sgl = s.sgl := rfl
@[simp] theorem State.setRaw_lg (k : Nat) (w : Word) : (s.setRaw k w).lg = s.lg := rfl
@[simp] theorem State.setRaw_pci (k : Nat) (w : Word) : (s.setRaw k w).pci = s.pci := rfl
@[simp] theorem State.setRaw_answers (k : Nat) (w : Word) : (s.setRaw k w).answers = s.answers := rfl
@[simp] theorem State.setRaw_dmv (k : Nat) (w : Word) : (s.setRaw k w).dmv = s.dmv := rfl
@[simp] theorem State.setRaw_wlg (k : Nat) (w : Word) : (s.setRaw k w).wlg = s.wlg := rfl
@[simp] theorem State.setRaw_fcr (k : Nat) (w : Word) : (s.setRaw k w).fcr = s.fcr := rfl
@[simp] theorem State.setRaw_tbm (k : Nat) (w : Word) : (s.setRaw k w).tbm = s.tbm := rfl
@[simp] theorem State.setRaw_upsets (k : Nat) (w : Word) : (s.setRaw k w).upsets = s.upsets := rfl
@[simp] theorem State.setRaw_dct (k : Nat) (w : Word) : (s.setRaw k w).dct = s.dct := rfl
@[simp] theorem State.setRaw_aon (k : Nat) (w : Word) : (s.setRaw k w).aon = s.aon := rfl
@[simp] theorem State.setRaw_pwr (k : Nat) (w : Word) : (s.setRaw k w).pwr = s.pwr := rfl
@[simp] theorem State.setRaw_spc (k : Nat) (w : Word) : (s.setRaw k w).spc = s.spc := rfl
@[simp] theorem State.setRaw_sec (k : Nat) (w : Word) : (s.setRaw k w).sec = s.sec := rfl
@[simp] theorem State.setRaw_age (k : Nat) (w : Word) : (s.setRaw k w).age = s.age := rfl
@[simp] theorem State.setRaw_pmc (k : Nat) (w : Word) : (s.setRaw k w).pmc = s.pmc := rfl
@[simp] theorem State.setRaw_clk (k : Nat) (w : Word) : (s.setRaw k w).clk = s.clk := rfl

/-! ### setFld -/

@[simp] theorem State.setFld_pending (k : Nat) (f : Fld) (v : Nat) : (s.setFld k f v).pending = s.pending := rfl
@[simp] theorem State.setFld_now (k : Nat) (f : Fld) (v : Nat) : (s.setFld k f v).now = s.now := rfl
@[simp] theorem State.setFld_freeCtr (k : Nat) (f : Fld) (v : Nat) : (s.setFld k f v).freeCtr = s.freeCtr := rfl
@[simp] theorem State.setFld_out (k : Nat) (f : Fld) (v : Nat) : (s.setFld k f v).out = s.out := rfl
@[simp] theorem State.setFld_ctl (k : Nat) (f : Fld) (v : Nat) : (s.setFld k f v).ctl = s.ctl := rfl
@[simp] theorem State.setFld_xbc (k : Nat) (f : Fld) (v : Nat) : (s.setFld k f v).xbc = s.xbc := rfl
@[simp] theorem State.setFld_mce (k : Nat) (f : Fld) (v : Nat) : (s.setFld k f v).mce = s.mce := rfl
@[simp] theorem State.setFld_rte (k : Nat) (f : Fld) (v : Nat) : (s.setFld k f v).rte = s.rte := rfl
@[simp] theorem State.setFld_tmg (k : Nat) (f : Fld) (v : Nat) : (s.setFld k f v).tmg = s.tmg := rfl
@[simp] theorem State.setFld_brg (k : Nat) (f : Fld) (v : Nat) : (s.setFld k f v).brg = s.brg := rfl
@[simp] theorem State.setFld_pcp (k : Nat) (f : Fld) (v : Nat) : (s.setFld k f v).pcp = s.pcp := rfl
@[simp] theorem State.setFld_sgl (k : Nat) (f : Fld) (v : Nat) : (s.setFld k f v).sgl = s.sgl := rfl
@[simp] theorem State.setFld_lg (k : Nat) (f : Fld) (v : Nat) : (s.setFld k f v).lg = s.lg := rfl
@[simp] theorem State.setFld_pci (k : Nat) (f : Fld) (v : Nat) : (s.setFld k f v).pci = s.pci := rfl
@[simp] theorem State.setFld_answers (k : Nat) (f : Fld) (v : Nat) : (s.setFld k f v).answers = s.answers := rfl
@[simp] theorem State.setFld_dmv (k : Nat) (f : Fld) (v : Nat) : (s.setFld k f v).dmv = s.dmv := rfl
@[simp] theorem State.setFld_wlg (k : Nat) (f : Fld) (v : Nat) : (s.setFld k f v).wlg = s.wlg := rfl
@[simp] theorem State.setFld_fcr (k : Nat) (f : Fld) (v : Nat) : (s.setFld k f v).fcr = s.fcr := rfl
@[simp] theorem State.setFld_tbm (k : Nat) (f : Fld) (v : Nat) : (s.setFld k f v).tbm = s.tbm := rfl
@[simp] theorem State.setFld_upsets (k : Nat) (f : Fld) (v : Nat) : (s.setFld k f v).upsets = s.upsets := rfl
@[simp] theorem State.setFld_dct (k : Nat) (f : Fld) (v : Nat) : (s.setFld k f v).dct = s.dct := rfl
@[simp] theorem State.setFld_aon (k : Nat) (f : Fld) (v : Nat) : (s.setFld k f v).aon = s.aon := rfl
@[simp] theorem State.setFld_pwr (k : Nat) (f : Fld) (v : Nat) : (s.setFld k f v).pwr = s.pwr := rfl
@[simp] theorem State.setFld_spc (k : Nat) (f : Fld) (v : Nat) : (s.setFld k f v).spc = s.spc := rfl
@[simp] theorem State.setFld_sec (k : Nat) (f : Fld) (v : Nat) : (s.setFld k f v).sec = s.sec := rfl
@[simp] theorem State.setFld_age (k : Nat) (f : Fld) (v : Nat) : (s.setFld k f v).age = s.age := rfl
@[simp] theorem State.setFld_pmc (k : Nat) (f : Fld) (v : Nat) : (s.setFld k f v).pmc = s.pmc := rfl
@[simp] theorem State.setFld_clk (k : Nat) (f : Fld) (v : Nat) : (s.setFld k f v).clk = s.clk := rfl

/-! ### count -/

@[simp] theorem State.count_pending (k n : Nat) : (s.count k n).pending = s.pending := rfl
@[simp] theorem State.count_now (k n : Nat) : (s.count k n).now = s.now := rfl
@[simp] theorem State.count_freeCtr (k n : Nat) : (s.count k n).freeCtr = s.freeCtr := rfl
@[simp] theorem State.count_out (k n : Nat) : (s.count k n).out = s.out := rfl
@[simp] theorem State.count_ctl (k n : Nat) : (s.count k n).ctl = s.ctl := rfl
@[simp] theorem State.count_xbc (k n : Nat) : (s.count k n).xbc = s.xbc := rfl
@[simp] theorem State.count_mce (k n : Nat) : (s.count k n).mce = s.mce := rfl
@[simp] theorem State.count_rte (k n : Nat) : (s.count k n).rte = s.rte := rfl
@[simp] theorem State.count_tmg (k n : Nat) : (s.count k n).tmg = s.tmg := rfl
@[simp] theorem State.count_brg (k n : Nat) : (s.count k n).brg = s.brg := rfl
@[simp] theorem State.count_pcp (k n : Nat) : (s.count k n).pcp = s.pcp := rfl
@[simp] theorem State.count_sgl (k n : Nat) : (s.count k n).sgl = s.sgl := rfl
@[simp] theorem State.count_lg (k n : Nat) : (s.count k n).lg = s.lg := rfl
@[simp] theorem State.count_pci (k n : Nat) : (s.count k n).pci = s.pci := rfl
@[simp] theorem State.count_answers (k n : Nat) : (s.count k n).answers = s.answers := rfl
@[simp] theorem State.count_dmv (k n : Nat) : (s.count k n).dmv = s.dmv := rfl
@[simp] theorem State.count_wlg (k n : Nat) : (s.count k n).wlg = s.wlg := rfl
@[simp] theorem State.count_fcr (k n : Nat) : (s.count k n).fcr = s.fcr := rfl
@[simp] theorem State.count_tbm (k n : Nat) : (s.count k n).tbm = s.tbm := rfl
@[simp] theorem State.count_upsets (k n : Nat) : (s.count k n).upsets = s.upsets := rfl
@[simp] theorem State.count_dct (k n : Nat) : (s.count k n).dct = s.dct := rfl
@[simp] theorem State.count_aon (k n : Nat) : (s.count k n).aon = s.aon := rfl
@[simp] theorem State.count_pwr (k n : Nat) : (s.count k n).pwr = s.pwr := rfl
@[simp] theorem State.count_spc (k n : Nat) : (s.count k n).spc = s.spc := rfl
@[simp] theorem State.count_sec (k n : Nat) : (s.count k n).sec = s.sec := rfl
@[simp] theorem State.count_age (k n : Nat) : (s.count k n).age = s.age := rfl
@[simp] theorem State.count_pmc (k n : Nat) : (s.count k n).pmc = s.pmc := rfl
@[simp] theorem State.count_clk (k n : Nat) : (s.count k n).clk = s.clk := rfl

/-! ### emit -/

@[simp] theorem State.emit_pending (o : Out) : (s.emit o).pending = s.pending := rfl
@[simp] theorem State.emit_now (o : Out) : (s.emit o).now = s.now := rfl
@[simp] theorem State.emit_freeCtr (o : Out) : (s.emit o).freeCtr = s.freeCtr := rfl
@[simp] theorem State.emit_cfg (o : Out) : (s.emit o).cfg = s.cfg := rfl
@[simp] theorem State.emit_ctl (o : Out) : (s.emit o).ctl = s.ctl := rfl
@[simp] theorem State.emit_xbc (o : Out) : (s.emit o).xbc = s.xbc := rfl
@[simp] theorem State.emit_mce (o : Out) : (s.emit o).mce = s.mce := rfl
@[simp] theorem State.emit_rte (o : Out) : (s.emit o).rte = s.rte := rfl
@[simp] theorem State.emit_tmg (o : Out) : (s.emit o).tmg = s.tmg := rfl
@[simp] theorem State.emit_brg (o : Out) : (s.emit o).brg = s.brg := rfl
@[simp] theorem State.emit_pcp (o : Out) : (s.emit o).pcp = s.pcp := rfl
@[simp] theorem State.emit_sgl (o : Out) : (s.emit o).sgl = s.sgl := rfl
@[simp] theorem State.emit_lg (o : Out) : (s.emit o).lg = s.lg := rfl
@[simp] theorem State.emit_pci (o : Out) : (s.emit o).pci = s.pci := rfl
@[simp] theorem State.emit_answers (o : Out) : (s.emit o).answers = s.answers := rfl
@[simp] theorem State.emit_dmv (o : Out) : (s.emit o).dmv = s.dmv := rfl
@[simp] theorem State.emit_wlg (o : Out) : (s.emit o).wlg = s.wlg := rfl
@[simp] theorem State.emit_fcr (o : Out) : (s.emit o).fcr = s.fcr := rfl
@[simp] theorem State.emit_tbm (o : Out) : (s.emit o).tbm = s.tbm := rfl
@[simp] theorem State.emit_upsets (o : Out) : (s.emit o).upsets = s.upsets := rfl
@[simp] theorem State.emit_dct (o : Out) : (s.emit o).dct = s.dct := rfl
@[simp] theorem State.emit_aon (o : Out) : (s.emit o).aon = s.aon := rfl
@[simp] theorem State.emit_pwr (o : Out) : (s.emit o).pwr = s.pwr := rfl
@[simp] theorem State.emit_spc (o : Out) : (s.emit o).spc = s.spc := rfl
@[simp] theorem State.emit_sec (o : Out) : (s.emit o).sec = s.sec := rfl
@[simp] theorem State.emit_age (o : Out) : (s.emit o).age = s.age := rfl
@[simp] theorem State.emit_pmc (o : Out) : (s.emit o).pmc = s.pmc := rfl
@[simp] theorem State.emit_clk (o : Out) : (s.emit o).clk = s.clk := rfl

/-! ### raise -/

@[simp] theorem State.raise_pending (k : FaultKind) (i j b : Nat) : (s.raise k i j b).pending = s.pending := rfl
@[simp] theorem State.raise_now (k : FaultKind) (i j b : Nat) : (s.raise k i j b).now = s.now := rfl
@[simp] theorem State.raise_freeCtr (k : FaultKind) (i j b : Nat) : (s.raise k i j b).freeCtr = s.freeCtr := rfl
@[simp] theorem State.raise_out (k : FaultKind) (i j b : Nat) : (s.raise k i j b).out = s.out := rfl
@[simp] theorem State.raise_cfg (k : FaultKind) (i j b : Nat) : (s.raise k i j b).cfg = s.cfg := rfl
@[simp] theorem State.raise_ctl (k : FaultKind) (i j b : Nat) : (s.raise k i j b).ctl = s.ctl := rfl
@[simp] theorem State.raise_xbc (k : FaultKind) (i j b : Nat) : (s.raise k i j b).xbc = s.xbc := rfl
@[simp] theorem State.raise_mce (k : FaultKind) (i j b : Nat) : (s.raise k i j b).mce = s.mce := rfl
@[simp] theorem State.raise_rte (k : FaultKind) (i j b : Nat) : (s.raise k i j b).rte = s.rte := rfl
@[simp] theorem State.raise_tmg (k : FaultKind) (i j b : Nat) : (s.raise k i j b).tmg = s.tmg := rfl
@[simp] theorem State.raise_brg (k : FaultKind) (i j b : Nat) : (s.raise k i j b).brg = s.brg := rfl
@[simp] theorem State.raise_pcp (k : FaultKind) (i j b : Nat) : (s.raise k i j b).pcp = s.pcp := rfl
@[simp] theorem State.raise_sgl (k : FaultKind) (i j b : Nat) : (s.raise k i j b).sgl = s.sgl := rfl
@[simp] theorem State.raise_lg (k : FaultKind) (i j b : Nat) : (s.raise k i j b).lg = s.lg := rfl
@[simp] theorem State.raise_pci (k : FaultKind) (i j b : Nat) : (s.raise k i j b).pci = s.pci := rfl
@[simp] theorem State.raise_answers (k : FaultKind) (i j b : Nat) : (s.raise k i j b).answers = s.answers := rfl
@[simp] theorem State.raise_dmv (k : FaultKind) (i j b : Nat) : (s.raise k i j b).dmv = s.dmv := rfl
@[simp] theorem State.raise_wlg (k : FaultKind) (i j b : Nat) : (s.raise k i j b).wlg = s.wlg := rfl
@[simp] theorem State.raise_tbm (k : FaultKind) (i j b : Nat) : (s.raise k i j b).tbm = s.tbm := rfl
@[simp] theorem State.raise_upsets (k : FaultKind) (i j b : Nat) : (s.raise k i j b).upsets = s.upsets := rfl
@[simp] theorem State.raise_dct (k : FaultKind) (i j b : Nat) : (s.raise k i j b).dct = s.dct := rfl
@[simp] theorem State.raise_aon (k : FaultKind) (i j b : Nat) : (s.raise k i j b).aon = s.aon := rfl
@[simp] theorem State.raise_pwr (k : FaultKind) (i j b : Nat) : (s.raise k i j b).pwr = s.pwr := rfl
@[simp] theorem State.raise_spc (k : FaultKind) (i j b : Nat) : (s.raise k i j b).spc = s.spc := rfl
@[simp] theorem State.raise_sec (k : FaultKind) (i j b : Nat) : (s.raise k i j b).sec = s.sec := rfl
@[simp] theorem State.raise_pmc (k : FaultKind) (i j b : Nat) : (s.raise k i j b).pmc = s.pmc := rfl
@[simp] theorem State.raise_clk (k : FaultKind) (i j b : Nat) : (s.raise k i j b).clk = s.clk := rfl

/-! ### addJob -/

@[simp] theorem State.addJob_pending (j : Job) : (s.addJob j).pending = s.pending := rfl
@[simp] theorem State.addJob_now (j : Job) : (s.addJob j).now = s.now := rfl
@[simp] theorem State.addJob_freeCtr (j : Job) : (s.addJob j).freeCtr = s.freeCtr := rfl
@[simp] theorem State.addJob_out (j : Job) : (s.addJob j).out = s.out := rfl
@[simp] theorem State.addJob_cfg (j : Job) : (s.addJob j).cfg = s.cfg := rfl
@[simp] theorem State.addJob_ctl (j : Job) : (s.addJob j).ctl = s.ctl := rfl
@[simp] theorem State.addJob_mce (j : Job) : (s.addJob j).mce = s.mce := rfl
@[simp] theorem State.addJob_rte (j : Job) : (s.addJob j).rte = s.rte := rfl
@[simp] theorem State.addJob_tmg (j : Job) : (s.addJob j).tmg = s.tmg := rfl
@[simp] theorem State.addJob_brg (j : Job) : (s.addJob j).brg = s.brg := rfl
@[simp] theorem State.addJob_pcp (j : Job) : (s.addJob j).pcp = s.pcp := rfl
@[simp] theorem State.addJob_sgl (j : Job) : (s.addJob j).sgl = s.sgl := rfl
@[simp] theorem State.addJob_lg (j : Job) : (s.addJob j).lg = s.lg := rfl
@[simp] theorem State.addJob_pci (j : Job) : (s.addJob j).pci = s.pci := rfl
@[simp] theorem State.addJob_answers (j : Job) : (s.addJob j).answers = s.answers := rfl
@[simp] theorem State.addJob_dmv (j : Job) : (s.addJob j).dmv = s.dmv := rfl
@[simp] theorem State.addJob_wlg (j : Job) : (s.addJob j).wlg = s.wlg := rfl
@[simp] theorem State.addJob_fcr (j : Job) : (s.addJob j).fcr = s.fcr := rfl
@[simp] theorem State.addJob_tbm (j : Job) : (s.addJob j).tbm = s.tbm := rfl
@[simp] theorem State.addJob_upsets (j : Job) : (s.addJob j).upsets = s.upsets := rfl
@[simp] theorem State.addJob_dct (j : Job) : (s.addJob j).dct = s.dct := rfl
@[simp] theorem State.addJob_aon (j : Job) : (s.addJob j).aon = s.aon := rfl
@[simp] theorem State.addJob_pwr (j : Job) : (s.addJob j).pwr = s.pwr := rfl
@[simp] theorem State.addJob_spc (j : Job) : (s.addJob j).spc = s.spc := rfl
@[simp] theorem State.addJob_sec (j : Job) : (s.addJob j).sec = s.sec := rfl
@[simp] theorem State.addJob_age (j : Job) : (s.addJob j).age = s.age := rfl
@[simp] theorem State.addJob_pmc (j : Job) : (s.addJob j).pmc = s.pmc := rfl
@[simp] theorem State.addJob_clk (j : Job) : (s.addJob j).clk = s.clk := rfl

/-! ### setRing -/

@[simp] theorem State.setRing_pending (r : RingId) (x : Ring) : (s.setRing r x).pending = s.pending := rfl
@[simp] theorem State.setRing_now (r : RingId) (x : Ring) : (s.setRing r x).now = s.now := rfl
@[simp] theorem State.setRing_freeCtr (r : RingId) (x : Ring) : (s.setRing r x).freeCtr = s.freeCtr := rfl
@[simp] theorem State.setRing_out (r : RingId) (x : Ring) : (s.setRing r x).out = s.out := rfl
@[simp] theorem State.setRing_cfg (r : RingId) (x : Ring) : (s.setRing r x).cfg = s.cfg := rfl
@[simp] theorem State.setRing_xbc (r : RingId) (x : Ring) : (s.setRing r x).xbc = s.xbc := rfl
@[simp] theorem State.setRing_mce (r : RingId) (x : Ring) : (s.setRing r x).mce = s.mce := rfl
@[simp] theorem State.setRing_rte (r : RingId) (x : Ring) : (s.setRing r x).rte = s.rte := rfl
@[simp] theorem State.setRing_tmg (r : RingId) (x : Ring) : (s.setRing r x).tmg = s.tmg := rfl
@[simp] theorem State.setRing_brg (r : RingId) (x : Ring) : (s.setRing r x).brg = s.brg := rfl
@[simp] theorem State.setRing_pcp (r : RingId) (x : Ring) : (s.setRing r x).pcp = s.pcp := rfl
@[simp] theorem State.setRing_sgl (r : RingId) (x : Ring) : (s.setRing r x).sgl = s.sgl := rfl
@[simp] theorem State.setRing_lg (r : RingId) (x : Ring) : (s.setRing r x).lg = s.lg := rfl
@[simp] theorem State.setRing_pci (r : RingId) (x : Ring) : (s.setRing r x).pci = s.pci := rfl
@[simp] theorem State.setRing_answers (r : RingId) (x : Ring) : (s.setRing r x).answers = s.answers := rfl
@[simp] theorem State.setRing_dmv (r : RingId) (x : Ring) : (s.setRing r x).dmv = s.dmv := rfl
@[simp] theorem State.setRing_wlg (r : RingId) (x : Ring) : (s.setRing r x).wlg = s.wlg := rfl
@[simp] theorem State.setRing_fcr (r : RingId) (x : Ring) : (s.setRing r x).fcr = s.fcr := rfl
@[simp] theorem State.setRing_tbm (r : RingId) (x : Ring) : (s.setRing r x).tbm = s.tbm := rfl
@[simp] theorem State.setRing_upsets (r : RingId) (x : Ring) : (s.setRing r x).upsets = s.upsets := rfl
@[simp] theorem State.setRing_dct (r : RingId) (x : Ring) : (s.setRing r x).dct = s.dct := rfl
@[simp] theorem State.setRing_aon (r : RingId) (x : Ring) : (s.setRing r x).aon = s.aon := rfl
@[simp] theorem State.setRing_pwr (r : RingId) (x : Ring) : (s.setRing r x).pwr = s.pwr := rfl
@[simp] theorem State.setRing_spc (r : RingId) (x : Ring) : (s.setRing r x).spc = s.spc := rfl
@[simp] theorem State.setRing_sec (r : RingId) (x : Ring) : (s.setRing r x).sec = s.sec := rfl
@[simp] theorem State.setRing_age (r : RingId) (x : Ring) : (s.setRing r x).age = s.age := rfl
@[simp] theorem State.setRing_pmc (r : RingId) (x : Ring) : (s.setRing r x).pmc = s.pmc := rfl
@[simp] theorem State.setRing_clk (r : RingId) (x : Ring) : (s.setRing r x).clk = s.clk := rfl

/-! ### setPcp -/

@[simp] theorem State.setPcp_pending (p : Nat) (x : PcpSt) : (s.setPcp p x).pending = s.pending := rfl
@[simp] theorem State.setPcp_now (p : Nat) (x : PcpSt) : (s.setPcp p x).now = s.now := rfl
@[simp] theorem State.setPcp_freeCtr (p : Nat) (x : PcpSt) : (s.setPcp p x).freeCtr = s.freeCtr := rfl
@[simp] theorem State.setPcp_out (p : Nat) (x : PcpSt) : (s.setPcp p x).out = s.out := rfl
@[simp] theorem State.setPcp_cfg (p : Nat) (x : PcpSt) : (s.setPcp p x).cfg = s.cfg := rfl
@[simp] theorem State.setPcp_ctl (p : Nat) (x : PcpSt) : (s.setPcp p x).ctl = s.ctl := rfl
@[simp] theorem State.setPcp_xbc (p : Nat) (x : PcpSt) : (s.setPcp p x).xbc = s.xbc := rfl
@[simp] theorem State.setPcp_mce (p : Nat) (x : PcpSt) : (s.setPcp p x).mce = s.mce := rfl
@[simp] theorem State.setPcp_rte (p : Nat) (x : PcpSt) : (s.setPcp p x).rte = s.rte := rfl
@[simp] theorem State.setPcp_tmg (p : Nat) (x : PcpSt) : (s.setPcp p x).tmg = s.tmg := rfl
@[simp] theorem State.setPcp_brg (p : Nat) (x : PcpSt) : (s.setPcp p x).brg = s.brg := rfl
@[simp] theorem State.setPcp_sgl (p : Nat) (x : PcpSt) : (s.setPcp p x).sgl = s.sgl := rfl
@[simp] theorem State.setPcp_lg (p : Nat) (x : PcpSt) : (s.setPcp p x).lg = s.lg := rfl
@[simp] theorem State.setPcp_pci (p : Nat) (x : PcpSt) : (s.setPcp p x).pci = s.pci := rfl
@[simp] theorem State.setPcp_answers (p : Nat) (x : PcpSt) : (s.setPcp p x).answers = s.answers := rfl
@[simp] theorem State.setPcp_dmv (p : Nat) (x : PcpSt) : (s.setPcp p x).dmv = s.dmv := rfl
@[simp] theorem State.setPcp_wlg (p : Nat) (x : PcpSt) : (s.setPcp p x).wlg = s.wlg := rfl
@[simp] theorem State.setPcp_fcr (p : Nat) (x : PcpSt) : (s.setPcp p x).fcr = s.fcr := rfl
@[simp] theorem State.setPcp_tbm (p : Nat) (x : PcpSt) : (s.setPcp p x).tbm = s.tbm := rfl
@[simp] theorem State.setPcp_upsets (p : Nat) (x : PcpSt) : (s.setPcp p x).upsets = s.upsets := rfl
@[simp] theorem State.setPcp_dct (p : Nat) (x : PcpSt) : (s.setPcp p x).dct = s.dct := rfl
@[simp] theorem State.setPcp_aon (p : Nat) (x : PcpSt) : (s.setPcp p x).aon = s.aon := rfl
@[simp] theorem State.setPcp_pwr (p : Nat) (x : PcpSt) : (s.setPcp p x).pwr = s.pwr := rfl
@[simp] theorem State.setPcp_spc (p : Nat) (x : PcpSt) : (s.setPcp p x).spc = s.spc := rfl
@[simp] theorem State.setPcp_sec (p : Nat) (x : PcpSt) : (s.setPcp p x).sec = s.sec := rfl
@[simp] theorem State.setPcp_age (p : Nat) (x : PcpSt) : (s.setPcp p x).age = s.age := rfl
@[simp] theorem State.setPcp_pmc (p : Nat) (x : PcpSt) : (s.setPcp p x).pmc = s.pmc := rfl
@[simp] theorem State.setPcp_clk (p : Nat) (x : PcpSt) : (s.setPcp p x).clk = s.clk := rfl

/-! ### setSgl -/

@[simp] theorem State.setSgl_pending (p : Nat) (x : SglSt) : (s.setSgl p x).pending = s.pending := rfl
@[simp] theorem State.setSgl_now (p : Nat) (x : SglSt) : (s.setSgl p x).now = s.now := rfl
@[simp] theorem State.setSgl_freeCtr (p : Nat) (x : SglSt) : (s.setSgl p x).freeCtr = s.freeCtr := rfl
@[simp] theorem State.setSgl_out (p : Nat) (x : SglSt) : (s.setSgl p x).out = s.out := rfl
@[simp] theorem State.setSgl_cfg (p : Nat) (x : SglSt) : (s.setSgl p x).cfg = s.cfg := rfl
@[simp] theorem State.setSgl_ctl (p : Nat) (x : SglSt) : (s.setSgl p x).ctl = s.ctl := rfl
@[simp] theorem State.setSgl_xbc (p : Nat) (x : SglSt) : (s.setSgl p x).xbc = s.xbc := rfl
@[simp] theorem State.setSgl_mce (p : Nat) (x : SglSt) : (s.setSgl p x).mce = s.mce := rfl
@[simp] theorem State.setSgl_rte (p : Nat) (x : SglSt) : (s.setSgl p x).rte = s.rte := rfl
@[simp] theorem State.setSgl_tmg (p : Nat) (x : SglSt) : (s.setSgl p x).tmg = s.tmg := rfl
@[simp] theorem State.setSgl_brg (p : Nat) (x : SglSt) : (s.setSgl p x).brg = s.brg := rfl
@[simp] theorem State.setSgl_pcp (p : Nat) (x : SglSt) : (s.setSgl p x).pcp = s.pcp := rfl
@[simp] theorem State.setSgl_lg (p : Nat) (x : SglSt) : (s.setSgl p x).lg = s.lg := rfl
@[simp] theorem State.setSgl_pci (p : Nat) (x : SglSt) : (s.setSgl p x).pci = s.pci := rfl
@[simp] theorem State.setSgl_answers (p : Nat) (x : SglSt) : (s.setSgl p x).answers = s.answers := rfl
@[simp] theorem State.setSgl_dmv (p : Nat) (x : SglSt) : (s.setSgl p x).dmv = s.dmv := rfl
@[simp] theorem State.setSgl_wlg (p : Nat) (x : SglSt) : (s.setSgl p x).wlg = s.wlg := rfl
@[simp] theorem State.setSgl_fcr (p : Nat) (x : SglSt) : (s.setSgl p x).fcr = s.fcr := rfl
@[simp] theorem State.setSgl_tbm (p : Nat) (x : SglSt) : (s.setSgl p x).tbm = s.tbm := rfl
@[simp] theorem State.setSgl_upsets (p : Nat) (x : SglSt) : (s.setSgl p x).upsets = s.upsets := rfl
@[simp] theorem State.setSgl_dct (p : Nat) (x : SglSt) : (s.setSgl p x).dct = s.dct := rfl
@[simp] theorem State.setSgl_aon (p : Nat) (x : SglSt) : (s.setSgl p x).aon = s.aon := rfl
@[simp] theorem State.setSgl_pwr (p : Nat) (x : SglSt) : (s.setSgl p x).pwr = s.pwr := rfl
@[simp] theorem State.setSgl_spc (p : Nat) (x : SglSt) : (s.setSgl p x).spc = s.spc := rfl
@[simp] theorem State.setSgl_sec (p : Nat) (x : SglSt) : (s.setSgl p x).sec = s.sec := rfl
@[simp] theorem State.setSgl_age (p : Nat) (x : SglSt) : (s.setSgl p x).age = s.age := rfl
@[simp] theorem State.setSgl_pmc (p : Nat) (x : SglSt) : (s.setSgl p x).pmc = s.pmc := rfl
@[simp] theorem State.setSgl_clk (p : Nat) (x : SglSt) : (s.setSgl p x).clk = s.clk := rfl

/-! ### setPkt -/

@[simp] theorem State.setPkt_pending (p : Pkt) : (s.setPkt p).pending = s.pending := rfl
@[simp] theorem State.setPkt_now (p : Pkt) : (s.setPkt p).now = s.now := rfl
@[simp] theorem State.setPkt_freeCtr (p : Pkt) : (s.setPkt p).freeCtr = s.freeCtr := rfl
@[simp] theorem State.setPkt_out (p : Pkt) : (s.setPkt p).out = s.out := rfl
@[simp] theorem State.setPkt_cfg (p : Pkt) : (s.setPkt p).cfg = s.cfg := rfl
@[simp] theorem State.setPkt_ctl (p : Pkt) : (s.setPkt p).ctl = s.ctl := rfl
@[simp] theorem State.setPkt_mce (p : Pkt) : (s.setPkt p).mce = s.mce := rfl
@[simp] theorem State.setPkt_rte (p : Pkt) : (s.setPkt p).rte = s.rte := rfl
@[simp] theorem State.setPkt_tmg (p : Pkt) : (s.setPkt p).tmg = s.tmg := rfl
@[simp] theorem State.setPkt_brg (p : Pkt) : (s.setPkt p).brg = s.brg := rfl
@[simp] theorem State.setPkt_pcp (p : Pkt) : (s.setPkt p).pcp = s.pcp := rfl
@[simp] theorem State.setPkt_sgl (p : Pkt) : (s.setPkt p).sgl = s.sgl := rfl
@[simp] theorem State.setPkt_lg (p : Pkt) : (s.setPkt p).lg = s.lg := rfl
@[simp] theorem State.setPkt_pci (p : Pkt) : (s.setPkt p).pci = s.pci := rfl
@[simp] theorem State.setPkt_answers (p : Pkt) : (s.setPkt p).answers = s.answers := rfl
@[simp] theorem State.setPkt_dmv (p : Pkt) : (s.setPkt p).dmv = s.dmv := rfl
@[simp] theorem State.setPkt_wlg (p : Pkt) : (s.setPkt p).wlg = s.wlg := rfl
@[simp] theorem State.setPkt_fcr (p : Pkt) : (s.setPkt p).fcr = s.fcr := rfl
@[simp] theorem State.setPkt_tbm (p : Pkt) : (s.setPkt p).tbm = s.tbm := rfl
@[simp] theorem State.setPkt_upsets (p : Pkt) : (s.setPkt p).upsets = s.upsets := rfl
@[simp] theorem State.setPkt_dct (p : Pkt) : (s.setPkt p).dct = s.dct := rfl
@[simp] theorem State.setPkt_aon (p : Pkt) : (s.setPkt p).aon = s.aon := rfl
@[simp] theorem State.setPkt_pwr (p : Pkt) : (s.setPkt p).pwr = s.pwr := rfl
@[simp] theorem State.setPkt_spc (p : Pkt) : (s.setPkt p).spc = s.spc := rfl
@[simp] theorem State.setPkt_sec (p : Pkt) : (s.setPkt p).sec = s.sec := rfl
@[simp] theorem State.setPkt_age (p : Pkt) : (s.setPkt p).age = s.age := rfl
@[simp] theorem State.setPkt_pmc (p : Pkt) : (s.setPkt p).pmc = s.pmc := rfl
@[simp] theorem State.setPkt_clk (p : Pkt) : (s.setPkt p).clk = s.clk := rfl

/-! ### setLane -/

@[simp] theorem State.setLane_pending (n : Nat) (x : LaneSt) : (s.setLane n x).pending = s.pending := rfl
@[simp] theorem State.setLane_now (n : Nat) (x : LaneSt) : (s.setLane n x).now = s.now := rfl
@[simp] theorem State.setLane_freeCtr (n : Nat) (x : LaneSt) : (s.setLane n x).freeCtr = s.freeCtr := rfl
@[simp] theorem State.setLane_out (n : Nat) (x : LaneSt) : (s.setLane n x).out = s.out := rfl
@[simp] theorem State.setLane_cfg (n : Nat) (x : LaneSt) : (s.setLane n x).cfg = s.cfg := rfl
@[simp] theorem State.setLane_ctl (n : Nat) (x : LaneSt) : (s.setLane n x).ctl = s.ctl := rfl
@[simp] theorem State.setLane_xbc (n : Nat) (x : LaneSt) : (s.setLane n x).xbc = s.xbc := rfl
@[simp] theorem State.setLane_mce (n : Nat) (x : LaneSt) : (s.setLane n x).mce = s.mce := rfl
@[simp] theorem State.setLane_rte (n : Nat) (x : LaneSt) : (s.setLane n x).rte = s.rte := rfl
@[simp] theorem State.setLane_tmg (n : Nat) (x : LaneSt) : (s.setLane n x).tmg = s.tmg := rfl
@[simp] theorem State.setLane_brg (n : Nat) (x : LaneSt) : (s.setLane n x).brg = s.brg := rfl
@[simp] theorem State.setLane_pcp (n : Nat) (x : LaneSt) : (s.setLane n x).pcp = s.pcp := rfl
@[simp] theorem State.setLane_sgl (n : Nat) (x : LaneSt) : (s.setLane n x).sgl = s.sgl := rfl
@[simp] theorem State.setLane_pci (n : Nat) (x : LaneSt) : (s.setLane n x).pci = s.pci := rfl
@[simp] theorem State.setLane_answers (n : Nat) (x : LaneSt) : (s.setLane n x).answers = s.answers := rfl
@[simp] theorem State.setLane_dmv (n : Nat) (x : LaneSt) : (s.setLane n x).dmv = s.dmv := rfl
@[simp] theorem State.setLane_wlg (n : Nat) (x : LaneSt) : (s.setLane n x).wlg = s.wlg := rfl
@[simp] theorem State.setLane_fcr (n : Nat) (x : LaneSt) : (s.setLane n x).fcr = s.fcr := rfl
@[simp] theorem State.setLane_tbm (n : Nat) (x : LaneSt) : (s.setLane n x).tbm = s.tbm := rfl
@[simp] theorem State.setLane_upsets (n : Nat) (x : LaneSt) : (s.setLane n x).upsets = s.upsets := rfl
@[simp] theorem State.setLane_dct (n : Nat) (x : LaneSt) : (s.setLane n x).dct = s.dct := rfl
@[simp] theorem State.setLane_aon (n : Nat) (x : LaneSt) : (s.setLane n x).aon = s.aon := rfl
@[simp] theorem State.setLane_pwr (n : Nat) (x : LaneSt) : (s.setLane n x).pwr = s.pwr := rfl
@[simp] theorem State.setLane_spc (n : Nat) (x : LaneSt) : (s.setLane n x).spc = s.spc := rfl
@[simp] theorem State.setLane_sec (n : Nat) (x : LaneSt) : (s.setLane n x).sec = s.sec := rfl
@[simp] theorem State.setLane_age (n : Nat) (x : LaneSt) : (s.setLane n x).age = s.age := rfl
@[simp] theorem State.setLane_pmc (n : Nat) (x : LaneSt) : (s.setLane n x).pmc = s.pmc := rfl
@[simp] theorem State.setLane_clk (n : Nat) (x : LaneSt) : (s.setLane n x).clk = s.clk := rfl

/-! ### setFence -/

@[simp] theorem State.setFence_pending (n : Nat) (x : Fence) : (s.setFence n x).pending = s.pending := rfl
@[simp] theorem State.setFence_now (n : Nat) (x : Fence) : (s.setFence n x).now = s.now := rfl
@[simp] theorem State.setFence_freeCtr (n : Nat) (x : Fence) : (s.setFence n x).freeCtr = s.freeCtr := rfl
@[simp] theorem State.setFence_out (n : Nat) (x : Fence) : (s.setFence n x).out = s.out := rfl
@[simp] theorem State.setFence_cfg (n : Nat) (x : Fence) : (s.setFence n x).cfg = s.cfg := rfl
@[simp] theorem State.setFence_ctl (n : Nat) (x : Fence) : (s.setFence n x).ctl = s.ctl := rfl
@[simp] theorem State.setFence_xbc (n : Nat) (x : Fence) : (s.setFence n x).xbc = s.xbc := rfl
@[simp] theorem State.setFence_rte (n : Nat) (x : Fence) : (s.setFence n x).rte = s.rte := rfl
@[simp] theorem State.setFence_tmg (n : Nat) (x : Fence) : (s.setFence n x).tmg = s.tmg := rfl
@[simp] theorem State.setFence_brg (n : Nat) (x : Fence) : (s.setFence n x).brg = s.brg := rfl
@[simp] theorem State.setFence_pcp (n : Nat) (x : Fence) : (s.setFence n x).pcp = s.pcp := rfl
@[simp] theorem State.setFence_sgl (n : Nat) (x : Fence) : (s.setFence n x).sgl = s.sgl := rfl
@[simp] theorem State.setFence_lg (n : Nat) (x : Fence) : (s.setFence n x).lg = s.lg := rfl
@[simp] theorem State.setFence_pci (n : Nat) (x : Fence) : (s.setFence n x).pci = s.pci := rfl
@[simp] theorem State.setFence_answers (n : Nat) (x : Fence) : (s.setFence n x).answers = s.answers := rfl
@[simp] theorem State.setFence_dmv (n : Nat) (x : Fence) : (s.setFence n x).dmv = s.dmv := rfl
@[simp] theorem State.setFence_wlg (n : Nat) (x : Fence) : (s.setFence n x).wlg = s.wlg := rfl
@[simp] theorem State.setFence_fcr (n : Nat) (x : Fence) : (s.setFence n x).fcr = s.fcr := rfl
@[simp] theorem State.setFence_tbm (n : Nat) (x : Fence) : (s.setFence n x).tbm = s.tbm := rfl
@[simp] theorem State.setFence_upsets (n : Nat) (x : Fence) : (s.setFence n x).upsets = s.upsets := rfl
@[simp] theorem State.setFence_dct (n : Nat) (x : Fence) : (s.setFence n x).dct = s.dct := rfl
@[simp] theorem State.setFence_aon (n : Nat) (x : Fence) : (s.setFence n x).aon = s.aon := rfl
@[simp] theorem State.setFence_pwr (n : Nat) (x : Fence) : (s.setFence n x).pwr = s.pwr := rfl
@[simp] theorem State.setFence_spc (n : Nat) (x : Fence) : (s.setFence n x).spc = s.spc := rfl
@[simp] theorem State.setFence_sec (n : Nat) (x : Fence) : (s.setFence n x).sec = s.sec := rfl
@[simp] theorem State.setFence_age (n : Nat) (x : Fence) : (s.setFence n x).age = s.age := rfl
@[simp] theorem State.setFence_pmc (n : Nat) (x : Fence) : (s.setFence n x).pmc = s.pmc := rfl
@[simp] theorem State.setFence_clk (n : Nat) (x : Fence) : (s.setFence n x).clk = s.clk := rfl

/-! ### setSlice -/

@[simp] theorem State.setSlice_pending (n : Nat) (x : Slice) : (s.setSlice n x).pending = s.pending := rfl
@[simp] theorem State.setSlice_now (n : Nat) (x : Slice) : (s.setSlice n x).now = s.now := rfl
@[simp] theorem State.setSlice_freeCtr (n : Nat) (x : Slice) : (s.setSlice n x).freeCtr = s.freeCtr := rfl
@[simp] theorem State.setSlice_out (n : Nat) (x : Slice) : (s.setSlice n x).out = s.out := rfl
@[simp] theorem State.setSlice_cfg (n : Nat) (x : Slice) : (s.setSlice n x).cfg = s.cfg := rfl
@[simp] theorem State.setSlice_ctl (n : Nat) (x : Slice) : (s.setSlice n x).ctl = s.ctl := rfl
@[simp] theorem State.setSlice_xbc (n : Nat) (x : Slice) : (s.setSlice n x).xbc = s.xbc := rfl
@[simp] theorem State.setSlice_mce (n : Nat) (x : Slice) : (s.setSlice n x).mce = s.mce := rfl
@[simp] theorem State.setSlice_rte (n : Nat) (x : Slice) : (s.setSlice n x).rte = s.rte := rfl
@[simp] theorem State.setSlice_tmg (n : Nat) (x : Slice) : (s.setSlice n x).tmg = s.tmg := rfl
@[simp] theorem State.setSlice_brg (n : Nat) (x : Slice) : (s.setSlice n x).brg = s.brg := rfl
@[simp] theorem State.setSlice_pcp (n : Nat) (x : Slice) : (s.setSlice n x).pcp = s.pcp := rfl
@[simp] theorem State.setSlice_sgl (n : Nat) (x : Slice) : (s.setSlice n x).sgl = s.sgl := rfl
@[simp] theorem State.setSlice_lg (n : Nat) (x : Slice) : (s.setSlice n x).lg = s.lg := rfl
@[simp] theorem State.setSlice_pci (n : Nat) (x : Slice) : (s.setSlice n x).pci = s.pci := rfl
@[simp] theorem State.setSlice_answers (n : Nat) (x : Slice) : (s.setSlice n x).answers = s.answers := rfl
@[simp] theorem State.setSlice_wlg (n : Nat) (x : Slice) : (s.setSlice n x).wlg = s.wlg := rfl
@[simp] theorem State.setSlice_fcr (n : Nat) (x : Slice) : (s.setSlice n x).fcr = s.fcr := rfl
@[simp] theorem State.setSlice_tbm (n : Nat) (x : Slice) : (s.setSlice n x).tbm = s.tbm := rfl
@[simp] theorem State.setSlice_upsets (n : Nat) (x : Slice) : (s.setSlice n x).upsets = s.upsets := rfl
@[simp] theorem State.setSlice_dct (n : Nat) (x : Slice) : (s.setSlice n x).dct = s.dct := rfl
@[simp] theorem State.setSlice_aon (n : Nat) (x : Slice) : (s.setSlice n x).aon = s.aon := rfl
@[simp] theorem State.setSlice_pwr (n : Nat) (x : Slice) : (s.setSlice n x).pwr = s.pwr := rfl
@[simp] theorem State.setSlice_spc (n : Nat) (x : Slice) : (s.setSlice n x).spc = s.spc := rfl
@[simp] theorem State.setSlice_sec (n : Nat) (x : Slice) : (s.setSlice n x).sec = s.sec := rfl
@[simp] theorem State.setSlice_age (n : Nat) (x : Slice) : (s.setSlice n x).age = s.age := rfl
@[simp] theorem State.setSlice_pmc (n : Nat) (x : Slice) : (s.setSlice n x).pmc = s.pmc := rfl
@[simp] theorem State.setSlice_clk (n : Nat) (x : Slice) : (s.setSlice n x).clk = s.clk := rfl

/-! ### setSpc -/

@[simp] theorem State.setSpc_pending (n : Nat) (x : SpcSt) : (s.setSpc n x).pending = s.pending := rfl
@[simp] theorem State.setSpc_now (n : Nat) (x : SpcSt) : (s.setSpc n x).now = s.now := rfl
@[simp] theorem State.setSpc_freeCtr (n : Nat) (x : SpcSt) : (s.setSpc n x).freeCtr = s.freeCtr := rfl
@[simp] theorem State.setSpc_out (n : Nat) (x : SpcSt) : (s.setSpc n x).out = s.out := rfl
@[simp] theorem State.setSpc_cfg (n : Nat) (x : SpcSt) : (s.setSpc n x).cfg = s.cfg := rfl
@[simp] theorem State.setSpc_ctl (n : Nat) (x : SpcSt) : (s.setSpc n x).ctl = s.ctl := rfl
@[simp] theorem State.setSpc_xbc (n : Nat) (x : SpcSt) : (s.setSpc n x).xbc = s.xbc := rfl
@[simp] theorem State.setSpc_mce (n : Nat) (x : SpcSt) : (s.setSpc n x).mce = s.mce := rfl
@[simp] theorem State.setSpc_rte (n : Nat) (x : SpcSt) : (s.setSpc n x).rte = s.rte := rfl
@[simp] theorem State.setSpc_tmg (n : Nat) (x : SpcSt) : (s.setSpc n x).tmg = s.tmg := rfl
@[simp] theorem State.setSpc_brg (n : Nat) (x : SpcSt) : (s.setSpc n x).brg = s.brg := rfl
@[simp] theorem State.setSpc_pcp (n : Nat) (x : SpcSt) : (s.setSpc n x).pcp = s.pcp := rfl
@[simp] theorem State.setSpc_sgl (n : Nat) (x : SpcSt) : (s.setSpc n x).sgl = s.sgl := rfl
@[simp] theorem State.setSpc_lg (n : Nat) (x : SpcSt) : (s.setSpc n x).lg = s.lg := rfl
@[simp] theorem State.setSpc_pci (n : Nat) (x : SpcSt) : (s.setSpc n x).pci = s.pci := rfl
@[simp] theorem State.setSpc_answers (n : Nat) (x : SpcSt) : (s.setSpc n x).answers = s.answers := rfl
@[simp] theorem State.setSpc_dmv (n : Nat) (x : SpcSt) : (s.setSpc n x).dmv = s.dmv := rfl
@[simp] theorem State.setSpc_wlg (n : Nat) (x : SpcSt) : (s.setSpc n x).wlg = s.wlg := rfl
@[simp] theorem State.setSpc_fcr (n : Nat) (x : SpcSt) : (s.setSpc n x).fcr = s.fcr := rfl
@[simp] theorem State.setSpc_tbm (n : Nat) (x : SpcSt) : (s.setSpc n x).tbm = s.tbm := rfl
@[simp] theorem State.setSpc_upsets (n : Nat) (x : SpcSt) : (s.setSpc n x).upsets = s.upsets := rfl
@[simp] theorem State.setSpc_dct (n : Nat) (x : SpcSt) : (s.setSpc n x).dct = s.dct := rfl
@[simp] theorem State.setSpc_aon (n : Nat) (x : SpcSt) : (s.setSpc n x).aon = s.aon := rfl
@[simp] theorem State.setSpc_pwr (n : Nat) (x : SpcSt) : (s.setSpc n x).pwr = s.pwr := rfl
@[simp] theorem State.setSpc_sec (n : Nat) (x : SpcSt) : (s.setSpc n x).sec = s.sec := rfl
@[simp] theorem State.setSpc_age (n : Nat) (x : SpcSt) : (s.setSpc n x).age = s.age := rfl
@[simp] theorem State.setSpc_pmc (n : Nat) (x : SpcSt) : (s.setSpc n x).pmc = s.pmc := rfl
@[simp] theorem State.setSpc_clk (n : Nat) (x : SpcSt) : (s.setSpc n x).clk = s.clk := rfl

/-! ### setDie -/

@[simp] theorem State.setDie_pending (n : Nat) (x : TmDie) : (s.setDie n x).pending = s.pending := rfl
@[simp] theorem State.setDie_now (n : Nat) (x : TmDie) : (s.setDie n x).now = s.now := rfl
@[simp] theorem State.setDie_freeCtr (n : Nat) (x : TmDie) : (s.setDie n x).freeCtr = s.freeCtr := rfl
@[simp] theorem State.setDie_out (n : Nat) (x : TmDie) : (s.setDie n x).out = s.out := rfl
@[simp] theorem State.setDie_cfg (n : Nat) (x : TmDie) : (s.setDie n x).cfg = s.cfg := rfl
@[simp] theorem State.setDie_ctl (n : Nat) (x : TmDie) : (s.setDie n x).ctl = s.ctl := rfl
@[simp] theorem State.setDie_xbc (n : Nat) (x : TmDie) : (s.setDie n x).xbc = s.xbc := rfl
@[simp] theorem State.setDie_mce (n : Nat) (x : TmDie) : (s.setDie n x).mce = s.mce := rfl
@[simp] theorem State.setDie_rte (n : Nat) (x : TmDie) : (s.setDie n x).rte = s.rte := rfl
@[simp] theorem State.setDie_tmg (n : Nat) (x : TmDie) : (s.setDie n x).tmg = s.tmg := rfl
@[simp] theorem State.setDie_brg (n : Nat) (x : TmDie) : (s.setDie n x).brg = s.brg := rfl
@[simp] theorem State.setDie_pcp (n : Nat) (x : TmDie) : (s.setDie n x).pcp = s.pcp := rfl
@[simp] theorem State.setDie_sgl (n : Nat) (x : TmDie) : (s.setDie n x).sgl = s.sgl := rfl
@[simp] theorem State.setDie_lg (n : Nat) (x : TmDie) : (s.setDie n x).lg = s.lg := rfl
@[simp] theorem State.setDie_pci (n : Nat) (x : TmDie) : (s.setDie n x).pci = s.pci := rfl
@[simp] theorem State.setDie_answers (n : Nat) (x : TmDie) : (s.setDie n x).answers = s.answers := rfl
@[simp] theorem State.setDie_dmv (n : Nat) (x : TmDie) : (s.setDie n x).dmv = s.dmv := rfl
@[simp] theorem State.setDie_wlg (n : Nat) (x : TmDie) : (s.setDie n x).wlg = s.wlg := rfl
@[simp] theorem State.setDie_fcr (n : Nat) (x : TmDie) : (s.setDie n x).fcr = s.fcr := rfl
@[simp] theorem State.setDie_upsets (n : Nat) (x : TmDie) : (s.setDie n x).upsets = s.upsets := rfl
@[simp] theorem State.setDie_dct (n : Nat) (x : TmDie) : (s.setDie n x).dct = s.dct := rfl
@[simp] theorem State.setDie_aon (n : Nat) (x : TmDie) : (s.setDie n x).aon = s.aon := rfl
@[simp] theorem State.setDie_pwr (n : Nat) (x : TmDie) : (s.setDie n x).pwr = s.pwr := rfl
@[simp] theorem State.setDie_spc (n : Nat) (x : TmDie) : (s.setDie n x).spc = s.spc := rfl
@[simp] theorem State.setDie_sec (n : Nat) (x : TmDie) : (s.setDie n x).sec = s.sec := rfl
@[simp] theorem State.setDie_age (n : Nat) (x : TmDie) : (s.setDie n x).age = s.age := rfl
@[simp] theorem State.setDie_pmc (n : Nat) (x : TmDie) : (s.setDie n x).pmc = s.pmc := rfl
@[simp] theorem State.setDie_clk (n : Nat) (x : TmDie) : (s.setDie n x).clk = s.clk := rfl

/-! ### onSec -/

@[simp] theorem State.onSec_pending (f : SecSt → SecSt) : (s.onSec f).pending = s.pending := rfl
@[simp] theorem State.onSec_now (f : SecSt → SecSt) : (s.onSec f).now = s.now := rfl
@[simp] theorem State.onSec_freeCtr (f : SecSt → SecSt) : (s.onSec f).freeCtr = s.freeCtr := rfl
@[simp] theorem State.onSec_out (f : SecSt → SecSt) : (s.onSec f).out = s.out := rfl
@[simp] theorem State.onSec_cfg (f : SecSt → SecSt) : (s.onSec f).cfg = s.cfg := rfl
@[simp] theorem State.onSec_ctl (f : SecSt → SecSt) : (s.onSec f).ctl = s.ctl := rfl
@[simp] theorem State.onSec_xbc (f : SecSt → SecSt) : (s.onSec f).xbc = s.xbc := rfl
@[simp] theorem State.onSec_mce (f : SecSt → SecSt) : (s.onSec f).mce = s.mce := rfl
@[simp] theorem State.onSec_rte (f : SecSt → SecSt) : (s.onSec f).rte = s.rte := rfl
@[simp] theorem State.onSec_tmg (f : SecSt → SecSt) : (s.onSec f).tmg = s.tmg := rfl
@[simp] theorem State.onSec_brg (f : SecSt → SecSt) : (s.onSec f).brg = s.brg := rfl
@[simp] theorem State.onSec_pcp (f : SecSt → SecSt) : (s.onSec f).pcp = s.pcp := rfl
@[simp] theorem State.onSec_sgl (f : SecSt → SecSt) : (s.onSec f).sgl = s.sgl := rfl
@[simp] theorem State.onSec_lg (f : SecSt → SecSt) : (s.onSec f).lg = s.lg := rfl
@[simp] theorem State.onSec_pci (f : SecSt → SecSt) : (s.onSec f).pci = s.pci := rfl
@[simp] theorem State.onSec_answers (f : SecSt → SecSt) : (s.onSec f).answers = s.answers := rfl
@[simp] theorem State.onSec_dmv (f : SecSt → SecSt) : (s.onSec f).dmv = s.dmv := rfl
@[simp] theorem State.onSec_wlg (f : SecSt → SecSt) : (s.onSec f).wlg = s.wlg := rfl
@[simp] theorem State.onSec_fcr (f : SecSt → SecSt) : (s.onSec f).fcr = s.fcr := rfl
@[simp] theorem State.onSec_tbm (f : SecSt → SecSt) : (s.onSec f).tbm = s.tbm := rfl
@[simp] theorem State.onSec_upsets (f : SecSt → SecSt) : (s.onSec f).upsets = s.upsets := rfl
@[simp] theorem State.onSec_dct (f : SecSt → SecSt) : (s.onSec f).dct = s.dct := rfl
@[simp] theorem State.onSec_aon (f : SecSt → SecSt) : (s.onSec f).aon = s.aon := rfl
@[simp] theorem State.onSec_pwr (f : SecSt → SecSt) : (s.onSec f).pwr = s.pwr := rfl
@[simp] theorem State.onSec_spc (f : SecSt → SecSt) : (s.onSec f).spc = s.spc := rfl
@[simp] theorem State.onSec_age (f : SecSt → SecSt) : (s.onSec f).age = s.age := rfl
@[simp] theorem State.onSec_pmc (f : SecSt → SecSt) : (s.onSec f).pmc = s.pmc := rfl
@[simp] theorem State.onSec_clk (f : SecSt → SecSt) : (s.onSec f).clk = s.clk := rfl

/-! ### onAge -/

@[simp] theorem State.onAge_pending (f : AgeSt → AgeSt) : (s.onAge f).pending = s.pending := rfl
@[simp] theorem State.onAge_now (f : AgeSt → AgeSt) : (s.onAge f).now = s.now := rfl
@[simp] theorem State.onAge_freeCtr (f : AgeSt → AgeSt) : (s.onAge f).freeCtr = s.freeCtr := rfl
@[simp] theorem State.onAge_out (f : AgeSt → AgeSt) : (s.onAge f).out = s.out := rfl
@[simp] theorem State.onAge_cfg (f : AgeSt → AgeSt) : (s.onAge f).cfg = s.cfg := rfl
@[simp] theorem State.onAge_ctl (f : AgeSt → AgeSt) : (s.onAge f).ctl = s.ctl := rfl
@[simp] theorem State.onAge_xbc (f : AgeSt → AgeSt) : (s.onAge f).xbc = s.xbc := rfl
@[simp] theorem State.onAge_mce (f : AgeSt → AgeSt) : (s.onAge f).mce = s.mce := rfl
@[simp] theorem State.onAge_rte (f : AgeSt → AgeSt) : (s.onAge f).rte = s.rte := rfl
@[simp] theorem State.onAge_tmg (f : AgeSt → AgeSt) : (s.onAge f).tmg = s.tmg := rfl
@[simp] theorem State.onAge_brg (f : AgeSt → AgeSt) : (s.onAge f).brg = s.brg := rfl
@[simp] theorem State.onAge_pcp (f : AgeSt → AgeSt) : (s.onAge f).pcp = s.pcp := rfl
@[simp] theorem State.onAge_sgl (f : AgeSt → AgeSt) : (s.onAge f).sgl = s.sgl := rfl
@[simp] theorem State.onAge_lg (f : AgeSt → AgeSt) : (s.onAge f).lg = s.lg := rfl
@[simp] theorem State.onAge_pci (f : AgeSt → AgeSt) : (s.onAge f).pci = s.pci := rfl
@[simp] theorem State.onAge_answers (f : AgeSt → AgeSt) : (s.onAge f).answers = s.answers := rfl
@[simp] theorem State.onAge_dmv (f : AgeSt → AgeSt) : (s.onAge f).dmv = s.dmv := rfl
@[simp] theorem State.onAge_wlg (f : AgeSt → AgeSt) : (s.onAge f).wlg = s.wlg := rfl
@[simp] theorem State.onAge_fcr (f : AgeSt → AgeSt) : (s.onAge f).fcr = s.fcr := rfl
@[simp] theorem State.onAge_tbm (f : AgeSt → AgeSt) : (s.onAge f).tbm = s.tbm := rfl
@[simp] theorem State.onAge_upsets (f : AgeSt → AgeSt) : (s.onAge f).upsets = s.upsets := rfl
@[simp] theorem State.onAge_dct (f : AgeSt → AgeSt) : (s.onAge f).dct = s.dct := rfl
@[simp] theorem State.onAge_aon (f : AgeSt → AgeSt) : (s.onAge f).aon = s.aon := rfl
@[simp] theorem State.onAge_pwr (f : AgeSt → AgeSt) : (s.onAge f).pwr = s.pwr := rfl
@[simp] theorem State.onAge_spc (f : AgeSt → AgeSt) : (s.onAge f).spc = s.spc := rfl
@[simp] theorem State.onAge_sec (f : AgeSt → AgeSt) : (s.onAge f).sec = s.sec := rfl
@[simp] theorem State.onAge_pmc (f : AgeSt → AgeSt) : (s.onAge f).pmc = s.pmc := rfl
@[simp] theorem State.onAge_clk (f : AgeSt → AgeSt) : (s.onAge f).clk = s.clk := rfl

end Sys2Proof.Machine
end

