-- ==== Sys2Proof/Laws/Tables.lean ====
section
/-! SUPPORT. Tables by number and the registers in force: what a write of one entry does. -/

namespace Sys2Proof.Machine

variable {α : Type}

@[simp] theorem tput_tput (l : Tbl α) (i : Nat) (x y : α) : tput (tput l i x) i y = tput l i y := by
  induction l with
  | nil => simp [tput]
  | cons e l ih =>
    unfold tput
    by_cases a : i < e.1
    · simp [a, tput]
    · by_cases b : i = e.1
      · simp [b, tput]
      · simp [a, b, tput, ih]

@[simp] theorem tget_tput (d : α) (l : Tbl α) (i : Nat) (x : α) : tget d (tput l i x) i = x := by
  induction l with
  | nil => simp [tput, tget]
  | cons e l ih =>
    unfold tput
    by_cases a : i < e.1
    · simp [a, tget]
    · by_cases b : i = e.1
      · simp [b, tget]
      · simp [a, b, tget, ih]

theorem tget_tput_ne (d : α) (l : Tbl α) {i j : Nat} (x : α) (h : j ≠ i) : tget d (tput l i x) j = tget d l j := by
  induction l with
  | nil => simp [tput, tget, h]
  | cons e l ih =>
    unfold tput
    by_cases a : i < e.1
    · simp [a, tget, h]
    · by_cases b : i = e.1
      · subst b; simp [tget, h]
      · by_cases c : j = e.1
        · simp [a, b, tget, c]
        · simp [a, b, tget, c, ih]

@[simp] theorem tfind_tput (l : Tbl α) (i : Nat) (x : α) : tfind (tput l i x) i = some x := by
  induction l with
  | nil => simp [tput, tfind]
  | cons e l ih =>
    unfold tput
    by_cases a : i < e.1
    · simp [a, tfind]
    · by_cases b : i = e.1
      · simp [b, tfind]
      · simp [a, b, tfind, ih]

theorem tfind_tput_ne (l : Tbl α) {i j : Nat} (x : α) (h : j ≠ i) : tfind (tput l i x) j = tfind l j := by
  induction l with
  | nil => simp [tput, tfind, h]
  | cons e l ih =>
    unfold tput
    by_cases a : i < e.1
    · simp [a, tfind, h]
    · by_cases b : i = e.1
      · subst b; simp [tfind, h]
      · by_cases c : j = e.1
        · simp [a, b, tfind, c]
        · simp [a, b, tfind, c, ih]

/-- A register holds what was written. -/
@[simp] theorem State.raw_setRaw (s : State) (k : Nat) (w : Word) : (s.setRaw k w).raw k = w := by
  simp [State.raw, State.setRaw]

/-- A write of a register leaves every other register. -/
theorem State.raw_setRaw_ne (s : State) {k i : Nat} (w : Word) (h : i ≠ k) : (s.setRaw k w).raw i = s.raw i := by
  simp [State.raw, State.setRaw, tfind_tput_ne _ _ h]

/-- A second write of a register replaces the first. -/
@[simp] theorem State.setRaw_setRaw (s : State) (k : Nat) (v w : Word) : (s.setRaw k v).setRaw k w = s.setRaw k w := by
  simp [State.setRaw]

/-- A write of a field leaves every other register. -/
theorem State.raw_setFld_ne (s : State) {k i : Nat} (f : Fld) (v : Nat) (h : i ≠ k) : (s.setFld k f v).raw i = s.raw i :=
  s.raw_setRaw_ne _ h

/-- Counting leaves every other register. -/
theorem State.raw_count_ne (s : State) {k i : Nat} (n : Nat) (h : i ≠ k) : (s.count k n).raw i = s.raw i :=
  s.raw_setRaw_ne _ h

/-- A slot controller holds what was put. -/
@[simp] theorem State.spcSt_setSpc (s : State) (n : Nat) (x : SpcSt) : (s.setSpc n x).spcSt n = x := by
  simp [State.spcSt, State.setSpc]

@[simp] theorem State.setSpc_setSpc (s : State) (n : Nat) (x y : SpcSt) : (s.setSpc n x).setSpc n y = s.setSpc n y := by
  simp [State.setSpc]

/-- A fault's message joins those that wait, and registers stay. -/
@[simp] theorem State.raw_raise (s : State) (k : FaultKind) (i j b n : Nat) : (s.raise k i j b).raw n = s.raw n := rfl

end Sys2Proof.Machine
end

