-- ==== Sys2Proof/Laws/Control.lean ====
section
/-! SUPPORT. The configuration epoch: what the install of a COMMIT, a port's adoption and a discarded prefetch leave as it was
(R60, R66, R160, R206). -/

namespace Sys2Proof.Machine

/-- What every step of a fold keeps, the fold keeps. -/
theorem foldl_keeps {α β : Type} (r : α → α → Prop) (f : α → β → α) (refl : ∀ a, r a a) (trans : ∀ a b c, r a b → r b c → r a c)
    (h : ∀ a x, r a (f a x)) (l : List β) (a : α) : r a (l.foldl f a) := by
  induction l generalizing a with
  | nil => exact refl a
  | cons x l ih => exact trans _ _ _ (h a x) (ih _)

/-- Registers in force may change, and nothing else. -/
def State.OnlyRegs (s u : State) : Prop := u = { s with cfg := { s.cfg with regs := u.cfg.regs } }

theorem State.OnlyRegs.trans (a b c : State) (h : a.OnlyRegs b) (g : b.OnlyRegs c) : a.OnlyRegs c := by
  unfold State.OnlyRegs at *; rw [g, h]

/-- The install of registers changes registers alone. -/
theorem State.installRegs_only (s : State) (set : Tbl Word) : s.OnlyRegs (s.installRegs set) := by
  unfold State.installRegs
  refine foldl_keeps State.OnlyRegs _ (fun _ => ?_) State.OnlyRegs.trans (fun _ _ => ?_) set s <;> rfl

/-- Table memory and its codes may change, and nothing else. -/
def State.OnlyTm (s u : State) : Prop := u = { s with cfg := { s.cfg with tm := u.cfg.tm }, tbm := u.tbm }

theorem State.OnlyTm.trans (a b c : State) (h : a.OnlyTm b) (g : b.OnlyTm c) : a.OnlyTm c := by
  unfold State.OnlyTm at *; rw [g, h]

theorem State.tmWrite_only (s : State) (a : Nat) (bs : List Byte) : s.OnlyTm (s.tmWrite a bs) := rfl

/-- The install of tables changes table memory and its codes, and leaves no shadow block. -/
theorem State.installTm_only (s : State) :
    s.installTm = { s with cfg := { s.cfg with tm := s.installTm.cfg.tm, tmSh := [], shBlocks := [], shPlace := [] }, tbm := s.installTm.tbm } := by
  have h : ∀ l : List Nat, s.OnlyTm (l.foldl (fun (u : State) a => u.tmWrite a (Mem.rdN 0 u.cfg.tmSh a 32)) s) :=
    fun l => foldl_keeps State.OnlyTm (fun u a => u.tmWrite a (Mem.rdN 0 u.cfg.tmSh a 32)) (fun u => Eq.refl u) State.OnlyTm.trans
      (fun u a => u.tmWrite_only a _) l s
  unfold State.installTm
  generalize s.cfg.shBlocks.foldl _ _ = l
  have g := h l
  unfold State.OnlyTm at g
  dsimp only
  generalize l.foldl _ s = u at g ⊢
  rw [g]

/-- What a discarded prefetch changes: what waits for it, the prefetch buffer, and two counters (R206). -/
def State.OnlyPf (s u : State) : Prop :=
  u = { s with xbc := u.xbc, brg := u.brg, cfg := { s.cfg with regs := u.cfg.regs } } ∧
  ∀ k : Nat, k ≠ R.BRG_CNT 12 → (∀ w : Nat, k ≠ R.BRG_WIN_PFDROP w) → u.raw k = s.raw k

theorem State.OnlyPf.trans (a b c : State) (h : a.OnlyPf b) (g : b.OnlyPf c) : a.OnlyPf c := by
  refine ⟨?_, fun k x y => (g.2 k x y).trans (h.2 k x y)⟩
  rw [g.1, h.1]

theorem State.resumePf_only (s : State) (j : Nat) : s.OnlyPf (s.resumePf j) := by
  unfold State.resumePf
  refine foldl_keeps State.OnlyPf _ (fun _ => ?_) State.OnlyPf.trans (fun _ _ => ?_) _ s <;> exact ⟨rfl, fun _ _ _ => rfl⟩

theorem State.pfDrop_only (s : State) (j : Nat) : s.OnlyPf (s.pfDrop j) := by
  unfold State.pfDrop
  split
  · exact ⟨rfl, fun _ _ _ => rfl⟩
  · rename_i x _
    have h := State.resumePf_only ({ s with brg := { s.brg with pf := tdel s.brg.pf j } }) j
    refine State.OnlyPf.trans _ ({ s with brg := { s.brg with pf := tdel s.brg.pf j } }) _ ⟨rfl, fun _ _ _ => rfl⟩ ?_
    simp only
    split
    · exact h
    · refine State.OnlyPf.trans _ _ _ h ⟨rfl, fun k a b => ?_⟩
      rw [State.raw_count_ne _ _ (b x.win), State.raw_count_ne _ _ a]

/-- What the adoption of an epoch by a port changes: queues of TMG (R160). -/
theorem State.keepQueues_only (s : State) (p : Nat) : s.keepQueues p = { s with tmg := (s.keepQueues p).tmg } := by
  unfold State.keepQueues
  split
  · rfl
  · refine foldl_keeps (fun a b : State => b = { a with tmg := b.tmg }) _ (fun _ => rfl) (fun a b c h g => by rw [g, h]) (fun a x => ?_) _ s
    dsimp only
    split <;> rfl

end Sys2Proof.Machine
end

