-- ==== Sys2Proof/Laws/Exec.lean ====
section
/-! SUPPORT. What each command answers, stated once: the operation of its rule applied to the state that it finds, and then
what that sets off. -/

namespace Sys2Proof.Machine

/-- A command that the part takes while it runs. -/
theorem State.running_finds {s t : State} {dt : Nat} (h : Finds s dt t) (f : State → State) :
    s.running dt f = .next (f t).settle := by
  obtain ⟨h, rfl⟩ := h; simp [State.running, h]

/-- One that sets nothing off. -/
theorem State.alone_finds {s t : State} {dt : Nat} (h : Finds s dt t) (f : State → State) :
    s.alone dt f = .next (f t) := by
  obtain ⟨h, rfl⟩ := h; simp [State.alone, h]

/-- One of the test access port. -/
theorem State.tap_finds {s t : State} {dt : Nat} (h : Finds s dt t) (f : State → State) :
    s.tap dt f = .next (f t) := by
  obtain ⟨h, rfl⟩ := h; simp [State.tap, h]

theorem exec_mcrDoorbell {s t : State} {dt : Nat} (h : Finds s dt t) (m : Master) (index : Nat) :
    exec (.mcrDoorbell dt m index) s = .next (t.mcrDoorbell m index).settle :=
  State.running_finds h fun s => s.mcrDoorbell m index

theorem exec_ringCiWrite {s t : State} {dt : Nat} (h : Finds s dt t) (m : Master) (r : RingId) (index : Nat) :
    exec (.ringCiWrite dt m r index) s = .next (t.ringCiWrite m r index).settle :=
  State.running_finds h fun s => s.ringCiWrite m r index

theorem exec_ringEnable {s t : State} {dt : Nat} (h : Finds s dt t) (m : Master) (r : RingId) (v : Word) :
    exec (.ringEnable dt m r v) s = .next (t.ringEnable m r v).settle :=
  State.running_finds h fun s => s.ringEnable m r v

theorem exec_ringDisable {s t : State} {dt : Nat} (h : Finds s dt t) (m : Master) (r : RingId) (v : Word) :
    exec (.ringDisable dt m r v) s = .next (t.ringDisable m r v).settle :=
  State.running_finds h fun s => s.ringDisable m r v

theorem exec_ringStopped {s t : State} {dt : Nat} (h : Finds s dt t) (r : RingId) :
    exec (.ringStopped dt r) s = .next (t.doRingStopped r).settle :=
  State.running_finds h fun s => s.doRingStopped r

theorem exec_irqTimeExpiry {s t : State} {dt : Nat} (h : Finds s dt t) (src : IrqSrc) :
    exec (.irqTimeExpiry dt src) s = .next (t.doIrqTime src).settle :=
  State.running_finds h fun s => s.doIrqTime src

theorem exec_ringOvfClear {s t : State} {dt : Nat} (h : Finds s dt t) (m : Master) (r : RingId) :
    exec (.ringOvfClear dt m r) s = .next (t.ringOvfClear m r).settle :=
  State.running_finds h fun s => s.ringOvfClear m r

theorem exec_heldRecordWrite {s t : State} {dt : Nat} (h : Finds s dt t) (r : RingId) :
    exec (.heldRecordWrite dt r) s = .next (t.doHeldRecord r).settle :=
  State.running_finds h fun s => s.doHeldRecord r

theorem exec_nop {s t : State} {dt : Nat} (h : Finds s dt t) (d : Desc) :
    exec (.nop dt d) s = .next (t.doNop d).settle :=
  State.running_finds h fun s => s.doNop d

theorem exec_tableWrite {s t : State} {dt : Nat} (h : Finds s dt t) (d : Desc) (op : TableOp) (data : Option (List Byte)) :
    exec (.tableWrite dt d op data) s = .next (t.doTableWrite d op data).settle :=
  State.running_finds h fun s => s.doTableWrite d op data

theorem exec_tableRead {s t : State} {dt : Nat} (h : Finds s dt t) (d : Desc) (op : TableOp) :
    exec (.tableRead dt d op) s = .next (t.doTableRead d op).settle :=
  State.running_finds h fun s => s.doTableRead d op

theorem exec_commit {s t : State} {dt : Nat} (h : Finds s dt t) (d : Desc) :
    exec (.commit dt d) s = .next (t.doCommit d).settle :=
  State.running_finds h fun s => s.doCommit d

theorem exec_epochStuck {s t : State} {dt : Nat} (h : Finds s dt t) :
    exec (.epochStuck dt) s = .next (t.doEpochStuck).settle :=
  State.running_finds h fun s => s.doEpochStuck

theorem exec_commitChecks {s t : State} {dt : Nat} (h : Finds s dt t) :
    exec (.commitChecks dt) s = .next (t.doCommitChecks).settle :=
  State.running_finds h fun s => s.doCommitChecks

theorem exec_portAdoptEpoch {s t : State} {dt : Nat} (h : Finds s dt t) (p : Nat) :
    exec (.portAdoptEpoch dt p) s = .next (t.doPortAdopt p).settle :=
  State.running_finds h fun s => s.doPortAdopt p

theorem exec_epochDrained {s t : State} {dt : Nat} (h : Finds s dt t) :
    exec (.epochDrained dt) s = .next (t.doEpochDrained).settle :=
  State.running_finds h fun s => s.doEpochDrained

theorem exec_shadowDiscard {s t : State} {dt : Nat} (h : Finds s dt t) (d : Desc) :
    exec (.shadowDiscard dt d) s = .next (t.doShadowDiscard d).settle :=
  State.running_finds h fun s => s.doShadowDiscard d

theorem exec_harvest {s t : State} {dt : Nat} (h : Finds s dt t) (d : Desc) (op : HarvestOp) :
    exec (.harvest dt d op) s = .next (t.doHarvest d op).settle :=
  State.running_finds h fun s => s.doHarvest d op

theorem exec_powerStateTrim {s t : State} {dt : Nat} (h : Finds s dt t) (d : Desc) (target : Nat) (onMask : Nat) :
    exec (.powerStateTrim dt d target onMask) s = .next (t.doTrim d target onMask).settle :=
  State.running_finds h fun s => s.doTrim d target onMask

theorem exec_powerStateKeepWarm {s t : State} {dt : Nat} (h : Finds s dt t) (d : Desc) (op : PowerOp) :
    exec (.powerStateKeepWarm dt d op) s = .next (t.doKeepWarm d op.flags op.drainMs op.wakeAfter).settle :=
  State.running_finds h fun s => s.doKeepWarm d op.flags op.drainMs op.wakeAfter

theorem exec_powerStateOff {s t : State} {dt : Nat} (h : Finds s dt t) (d : Desc) (op : PowerOp) :
    exec (.powerStateOff dt d op) s = .next (t.doOff d op.flags op.drainMs).settle :=
  State.running_finds h fun s => s.doOff d op.flags op.drainMs

theorem exec_decantArm {s t : State} {dt : Nat} (h : Finds s dt t) (d : Desc) (mode : Nat) :
    exec (.decantArm dt d mode) s = .next (t.doDecantArm d mode).settle :=
  State.running_finds h fun s => s.doDecantArm d mode

theorem exec_counterDump {s t : State} {dt : Nat} (h : Finds s dt t) (d : Desc) (set : Nat) (clear : Bool) :
    exec (.counterDump dt d set clear) s = .next (t.doCounterDump d set clear).settle :=
  State.running_finds h fun s => s.doCounterDump d set clear

theorem exec_faultAck {s t : State} {dt : Nat} (h : Finds s dt t) (d : Desc) (first : Nat) (n : Nat) (flags : Nat) :
    exec (.faultAck dt d first n flags) s = .next (t.doFaultAck d first n flags).settle :=
  State.running_finds h fun s => s.doFaultAck d first n flags

theorem exec_unlistedOpcode {s t : State} {dt : Nat} (h : Finds s dt t) (d : Desc) (op : Nat) :
    exec (.unlistedOpcode dt d op) s = .next (t.doUnlisted d op).settle :=
  State.running_finds h fun s => s.doUnlisted d op

theorem exec_descriptorReadError {s t : State} {dt : Nat} (h : Finds s dt t) :
    exec (.descriptorReadError dt) s = .next (t.doDescError).settle :=
  State.running_finds h fun s => s.doDescError

theorem exec_registerWrite {s t : State} {dt : Nat} (h : Finds s dt t) (m : Master) (sp : RegSpace) (addr : Nat) (bytes : List Byte) :
    exec (.registerWrite dt m sp addr bytes) s = .next (t.registerWrite m sp addr bytes).settle :=
  State.running_finds h fun s => s.registerWrite m sp addr bytes

theorem exec_readClear {s t : State} {dt : Nat} (h : Finds s dt t) (m : Master) (sp : RegSpace) (addr : Nat) (len : Nat) :
    exec (.readClear dt m sp addr len) s = .next (t.registerRead m sp addr len).settle :=
  State.running_finds h fun s => s.registerRead m sp addr len

theorem exec_tlpReceive {s t : State} {dt : Nat} (h : Finds s dt t) (p : Nat) (x : PcieRx) :
    exec (.tlpReceive dt p x) s = .next (t.doTlpReceive p x).settle :=
  State.running_finds h fun s => s.doTlpReceive p x

theorem exec_lookupResume {s t : State} {dt : Nat} (h : Finds s dt t) (ing : Ingress) (tc : Nat) :
    exec (.lookupResume dt ing tc) s = .next (t.lookupResume ing tc).settle :=
  State.running_finds h fun s => s.lookupResume ing tc

theorem exec_egressSelect {s t : State} {dt : Nat} (h : Finds s dt t) (p : Nat) (ups : List Upset) :
    exec (.egressSelect dt p ups) s = .next (t.doEgress p ups).settle :=
  State.running_finds h fun s => s.doEgress p ups

theorem exec_egressSendDone {s t : State} {dt : Nat} (h : Finds s dt t) (p : Nat) :
    exec (.egressSendDone dt p) s = .next (t.sendDone p).settle :=
  State.running_finds h fun s => s.sendDone p

theorem exec_ctStallTimeout {s t : State} {dt : Nat} (h : Finds s dt t) (p : Nat) :
    exec (.ctStallTimeout dt p) s = .next (t.ctStall p).settle :=
  State.running_finds h fun s => s.ctStall p

theorem exec_ageSweep {s t : State} {dt : Nat} (h : Finds s dt t) (q : Nat) :
    exec (.ageSweep dt q) s = .next (t.ageSweep q).settle :=
  State.running_finds h fun s => s.ageSweep q

theorem exec_sbReclaim {s t : State} {dt : Nat} (h : Finds s dt t) :
    exec (.sbReclaim dt) s = .next (t.sbReclaim).settle :=
  State.running_finds h fun s => s.sbReclaim

theorem exec_sampleWrite {s t : State} {dt : Nat} (h : Finds s dt t) :
    exec (.sampleWrite dt) s = .next (t.sampleWrite).settle :=
  State.running_finds h fun s => s.sampleWrite

theorem exec_samplingEnable {s t : State} {dt : Nat} (h : Finds s dt t) (m : Master) (p : Nat) (v : Word) :
    exec (.samplingEnable dt m p v) s = .next (t.samplingEnable m p v).settle :=
  State.running_finds h fun s => s.samplingEnable m p v

theorem exec_fenceMessage {s t : State} {dt : Nat} (h : Finds s dt t) (v : Nat) (tc : Nat) (lenDw : Nat) (op : FenceOp) :
    exec (.fenceMessage dt v tc lenDw op) s = .next (t.fenceMessage v tc lenDw op).settle :=
  State.running_finds h fun s => s.fenceMessage v tc lenDw op

theorem exec_fenceTake {s t : State} {dt : Nat} (h : Finds s dt t) (n : Nat) :
    exec (.fenceTake dt n) s = .next (t.doFenceTake n).settle :=
  State.running_finds h fun s => s.doFenceTake n

theorem exec_flushSend {s t : State} {dt : Nat} (h : Finds s dt t) (n : Nat) (r : Nat) :
    exec (.flushSend dt n r) s = .next (t.doFlushSend n r).settle :=
  State.running_finds h fun s => s.doFlushSend n r

theorem exec_flushCompletion {s t : State} {dt : Nat} (h : Finds s dt t) :
    exec (.flushCompletion dt) s = .next (t.doFlushCompletion).settle :=
  State.running_finds h fun s => s.doFlushCompletion

theorem exec_fenceRecordWrite {s t : State} {dt : Nat} (h : Finds s dt t) (n : Nat) :
    exec (.fenceRecordWrite dt n) s = .next (t.doFenceRecord n).settle :=
  State.running_finds h fun s => s.doFenceRecord n

theorem exec_gapTimeout {s t : State} {dt : Nat} (h : Finds s dt t) (w : Nat) :
    exec (.gapTimeout dt w) s = .next (t.gapTimeout w).settle :=
  State.running_finds h fun s => s.gapTimeout w

theorem exec_seqSkip {s t : State} {dt : Nat} (h : Finds s dt t) (p : Nat) (src : Nat) (dst : Nat) (tc : Nat) (seq : Nat) :
    exec (.seqSkip dt p src dst tc seq) s = .next (t.routedMsg p (skipMsg dst src tc seq)).settle :=
  State.running_finds h fun s => s.routedMsg p (skipMsg dst src tc seq)

theorem exec_escape {s t : State} {dt : Nat} (h : Finds s dt t) (q : Nat) :
    exec (.escape dt q) s = .next (t.escape q).settle :=
  State.running_finds h fun s => s.escape q

theorem exec_wheelSlot {s t : State} {dt : Nat} (h : Finds s dt t) (q : Nat) (slot : Nat) :
    exec (.wheelSlot dt q slot) s = .next (t.wheelSlot q slot).settle :=
  State.running_finds h fun s => s.wheelSlot q slot

theorem exec_postedDelay {s t : State} {dt : Nat} (h : Finds s dt t) (n : Nat) :
    exec (.postedDelay dt n) s = .next (t.postedResume n).settle :=
  State.running_finds h fun s => s.postedResume n

theorem exec_histogramSample {s t : State} {dt : Nat} (h : Finds s dt t) (q : Nat) :
    exec (.histogramSample dt q) s = .next (t.doHistogram q).settle :=
  State.running_finds h fun s => s.doHistogram q

theorem exec_snapshot {s t : State} {dt : Nat} (h : Finds s dt t) (m : Master) (clr : Bool) (q : Nat) :
    exec (.snapshot dt m clr q) s = .next (t.snapshotWrite m clr q).settle :=
  State.running_finds h fun s => s.snapshotWrite m clr q

theorem exec_xltMiss {s t : State} {dt : Nat} (h : Finds s dt t) (n : Nat) :
    exec (.xltMiss dt n) s = .next (t.doXltMiss n).settle :=
  State.running_finds h fun s => s.doXltMiss n

theorem exec_busyRetry {s t : State} {dt : Nat} (h : Finds s dt t) (k : Nat) :
    exec (.busyRetry dt k) s = .next (t.doBusyRetry k).settle :=
  State.running_finds h fun s => s.doBusyRetry k

theorem exec_cplTimeout {s t : State} {dt : Nat} (h : Finds s dt t) (k : Nat) :
    exec (.cplTimeout dt k) s = .next (t.doCplTimeout k).settle :=
  State.running_finds h fun s => s.doCplTimeout k

theorem exec_quarantineEnd {s t : State} {dt : Nat} (h : Finds s dt t) (inb : Bool) (unit : Nat) (tag : Nat) :
    exec (.quarantineEnd dt inb unit tag) s = .next (t.doQuarantineEnd inb unit tag).settle :=
  State.running_finds h fun s => s.doQuarantineEnd inb unit tag

theorem exec_pwfNote {s t : State} {dt : Nat} (h : Finds s dt t) (p : Nat) (op : NoteOp) :
    exec (.pwfNote dt p op) s = .next (t.routedMsg p op.bytes).settle :=
  State.running_finds h fun s => s.routedMsg p op.bytes

theorem exec_failRingWrite {s t : State} {dt : Nat} (h : Finds s dt t) (v : Fin 32) :
    exec (.failRingWrite dt v) s = .next (t.doFailRing v).settle :=
  State.running_finds h fun s => s.doFailRing v

theorem exec_lockReq {s t : State} {dt : Nat} (h : Finds s dt t) (p : Nat) (owner : Nat) (target : Nat) :
    exec (.lockReq dt p owner target) s = .next (t.routedMsg p (lockMsg 0x0A 0 owner target 0)).settle :=
  State.running_finds h fun s => s.routedMsg p (lockMsg 0x0A 0 owner target 0)

theorem exec_lockGrant {s t : State} {dt : Nat} (h : Finds s dt t) (p : Nat) (owner : Nat) (target : Nat) (id : Nat) :
    exec (.lockGrant dt p owner target id) s = .next (t.routedMsg p (lockMsg 0x0B 0 owner target id)).settle :=
  State.running_finds h fun s => s.routedMsg p (lockMsg 0x0B 0 owner target id)

theorem exec_lockRelease {s t : State} {dt : Nat} (h : Finds s dt t) (p : Nat) (owner : Nat) (target : Nat) (id : Nat) :
    exec (.lockRelease dt p owner target id) s = .next (t.routedMsg p (lockMsg 0x0C 0 owner target id)).settle :=
  State.running_finds h fun s => s.routedMsg p (lockMsg 0x0C 0 owner target id)

theorem exec_lockBreak {s t : State} {dt : Nat} (h : Finds s dt t) (p : Nat) (reason : Nat) (owner : Nat) (target : Nat) (id : Nat) :
    exec (.lockBreak dt p reason owner target id) s = .next (t.routedMsg p (lockMsg 0x0D reason owner target id)).settle :=
  State.running_finds h fun s => s.routedMsg p (lockMsg 0x0D reason owner target id)

theorem exec_lockTimer {s t : State} {dt : Nat} (h : Finds s dt t) :
    exec (.lockTimer dt) s = .next (t.doLockTimer).settle :=
  State.running_finds h fun s => s.doLockTimer

theorem exec_lockGrantTimeout {s t : State} {dt : Nat} (h : Finds s dt t) (v : Nat) :
    exec (.lockGrantTimeout dt v) s = .next (t.doGrantTimeout v).settle :=
  State.running_finds h fun s => s.doGrantTimeout v

theorem exec_prefetchFill {s t : State} {dt : Nat} (h : Finds s dt t) :
    exec (.prefetchFill dt) s = .next (t.doPrefetchFill).settle :=
  State.running_finds h fun s => s.doPrefetchFill

theorem exec_prefetchExpiry {s t : State} {dt : Nat} (h : Finds s dt t) (j : Nat) :
    exec (.prefetchExpiry dt j) s = .next (t.doPrefetchExpiry j).settle :=
  State.running_finds h fun s => s.doPrefetchExpiry j

theorem exec_sidebandRateSend {s t : State} {dt : Nat} (h : Finds s dt t) (id : Nat) :
    exec (.sidebandRateSend dt id) s = .next (t.doRateSend id).settle :=
  State.running_finds h fun s => s.doRateSend id

theorem exec_cfgrqGo {s t : State} {dt : Nat} (h : Finds s dt t) (m : Master) (p : Nat) (op : CfgrqOp) :
    exec (.cfgrqGo dt m p op) s = .next (t.cfgrqWrite m p op).settle :=
  State.running_finds h fun s => s.cfgrqWrite m p op

theorem exec_cfgrqDone {s t : State} {dt : Nat} (h : Finds s dt t) (p : Nat) (st : Nat) (data : Nat) :
    exec (.cfgrqDone dt p st data) s = .next (t.doCfgrqDone p st data).settle :=
  State.running_finds h fun s => s.doCfgrqDone p st data

theorem exec_cfgrqTimeout {s t : State} {dt : Nat} (h : Finds s dt t) (p : Nat) :
    exec (.cfgrqTimeout dt p) s = .next (t.doCfgrqTmo p).settle :=
  State.running_finds h fun s => s.doCfgrqTmo p

theorem exec_pcieLinkUp {s t : State} {dt : Nat} (h : Finds s dt t) (p : Nat) (x : LinkUpOp) :
    exec (.pcieLinkUp dt p x) s = .next (t.doLinkUp p x.rate x.lanes x.flit x.ph x.pd x.nph x.npd x.ch x.cd).settle :=
  State.running_finds h fun s => s.doLinkUp p x.rate x.lanes x.flit x.ph x.pd x.nph x.npd x.ch x.cd

theorem exec_pcieLinkDown {s t : State} {dt : Nat} (h : Finds s dt t) (p : Nat) :
    exec (.pcieLinkDown dt p) s = .next (t.doLinkDown p).settle :=
  State.running_finds h fun s => s.doLinkDown p

theorem exec_aspmL1Entry {s t : State} {dt : Nat} (h : Finds s dt t) (p : Nat) :
    exec (.aspmL1Entry dt p) s = .next (t.doL1Entry p).settle :=
  State.running_finds h fun s => s.doL1Entry p

theorem exec_l0pNarrow {s t : State} {dt : Nat} (h : Finds s dt t) (p : Nat) (lanes : Nat) :
    exec (.l0pNarrow dt p lanes) s = .next (t.doL0pNarrow p lanes).settle :=
  State.running_finds h fun s => s.doL0pNarrow p lanes

theorem exec_perstN {s t : State} {dt : Nat} (h : Finds s dt t) (p : Nat) (low : Bool) :
    exec (.perstN dt p low) s = .next (t.doPerstN p low).settle :=
  State.running_finds h fun s => s.doPerstN p low

theorem exec_hotReset {s t : State} {dt : Nat} (h : Finds s dt t) (p : Nat) :
    exec (.hotReset dt p) s = .next (t.doHotReset p).settle :=
  State.running_finds h fun s => s.doHotReset p

theorem exec_secondaryBusReset {s t : State} {dt : Nat} (h : Finds s dt t) (p : Nat) :
    exec (.secondaryBusReset dt p) s = .next (t.secondaryReset p).settle :=
  State.running_finds h fun s => s.secondaryReset p

theorem exec_vsReady {s t : State} {dt : Nat} (h : Finds s dt t) (v : Nat) :
    exec (.vsReady dt v) s = .next (t.doVsReady v).settle :=
  State.running_finds h fun s => s.doVsReady v

theorem exec_mgmtFlr {s t : State} {dt : Nat} (h : Finds s dt t) :
    exec (.mgmtFlr dt) s = .next (t.doMgmtFlr).settle :=
  State.running_finds h fun s => s.doMgmtFlr

theorem exec_busMasterClear {s t : State} {dt : Nat} (h : Finds s dt t) (p : Nat) :
    exec (.busMasterClear dt p) s = .next (t.doBmeClear p).settle :=
  State.running_finds h fun s => s.doBmeClear p

theorem exec_dpcRelease {s t : State} {dt : Nat} (h : Finds s dt t) (p : Nat) :
    exec (.dpcRelease dt p) s = .next (t.doDpcRelease p).settle :=
  State.running_finds h fun s => s.doDpcRelease p

theorem exec_slotPerstDeassert {s t : State} {dt : Nat} (h : Finds s dt t) (p : Nat) :
    exec (.slotPerstDeassert dt p) s = .next (t.doPerstDeassert p).settle :=
  State.running_finds h fun s => s.doPerstDeassert p

theorem exec_pcieReplayTimeout {s t : State} {dt : Nat} (h : Finds s dt t) (p : Nat) (rollover : Bool) :
    exec (.pcieReplayTimeout dt p rollover) s = .next (t.doReplayTmo p rollover).settle :=
  State.running_finds h fun s => s.doReplayTmo p rollover

theorem exec_flitSend {s t : State} {dt : Nat} (h : Finds s dt t) (p : Nat) (bad : Bool) :
    exec (.flitSend dt p bad) s = .next (t.doFlitSend p bad).settle :=
  State.running_finds h fun s => s.doFlitSend p bad

theorem exec_flitReceive {s t : State} {dt : Nat} (h : Finds s dt t) (p : Nat) (raw : List Byte) :
    exec (.flitReceive dt p raw) s = .next (t.doFlitReceive p raw).settle :=
  State.running_finds h fun s => s.doFlitReceive p raw

theorem exec_ack {s t : State} {dt : Nat} (h : Finds s dt t) (p : Nat) (nak : Bool) (a : Nat) :
    exec (.ack dt p nak a) s = .next (t.linkMsg p fun t => t.ackMsgIn p a nak).settle :=
  State.running_finds h fun s => s.linkMsg p fun s => s.ackMsgIn p a nak

theorem exec_replayTimer {s t : State} {dt : Nat} (h : Finds s dt t) (p : Nat) :
    exec (.replayTimer dt p) s = .next (t.doReplayTimer p).settle :=
  State.running_finds h fun s => s.doReplayTimer p

theorem exec_credit {s t : State} {dt : Nat} (h : Finds s dt t) (p : Nat) (first : Nat) (cc : Nat) (vals : List (Nat × Nat)) :
    exec (.credit dt p first cc vals) s = .next (t.linkMsg p fun t => t.creditIn p first cc vals).settle :=
  State.running_finds h fun s => s.linkMsg p fun s => s.creditIn p first cc vals

theorem exec_creditInit {s t : State} {dt : Nat} (h : Finds s dt t) (p : Nat) (first : Nat) (cc : Nat) (vals : List (Nat × Nat)) :
    exec (.creditInit dt p first cc vals) s = .next (t.linkMsg p fun t => t.creditInitIn p first cc vals).settle :=
  State.running_finds h fun s => s.linkMsg p fun s => s.creditInitIn p first cc vals

theorem exec_linkParam {s t : State} {dt : Nat} (h : Finds s dt t) (p : Nat) (fid : Nat) (partner : Nat) :
    exec (.linkParam dt p fid partner) s = .next (t.linkMsg p fun t => t.linkParamIn p fid partner).settle :=
  State.running_finds h fun s => s.linkMsg p fun s => s.linkParamIn p fid partner

theorem exec_linkInitTimeout {s t : State} {dt : Nat} (h : Finds s dt t) (p : Nat) :
    exec (.linkInitTimeout dt p) s = .next (t.doInitTmo p).settle :=
  State.running_finds h fun s => s.doInitTmo p

theorem exec_swapCmd {s t : State} {dt : Nat} (h : Finds s dt t) (m : Master) (p : Nat) (lane : Nat) :
    exec (.swapCmd dt m p lane) s = .next (t.swapWrite m p lane).settle :=
  State.running_finds h fun s => s.swapWrite m p lane

theorem exec_laneSwap {s t : State} {dt : Nat} (h : Finds s dt t) (p : Nat) (lane : Nat) :
    exec (.laneSwap dt p lane) s = .next (t.linkMsg p fun t => t.laneSwapIn p lane).settle :=
  State.running_finds h fun s => s.linkMsg p fun s => s.laneSwapIn p lane

theorem exec_laneSwapAck {s t : State} {dt : Nat} (h : Finds s dt t) (p : Nat) (lane : Nat) (result : Nat) (fsn : Nat) :
    exec (.laneSwapAck dt p lane result fsn) s = .next (t.linkMsg p fun t => t.laneSwapAckIn p lane result fsn).settle :=
  State.running_finds h fun s => s.linkMsg p fun s => s.laneSwapAckIn p lane result fsn

theorem exec_laneSwapDone {s t : State} {dt : Nat} (h : Finds s dt t) (p : Nat) (lane : Nat) :
    exec (.laneSwapDone dt p lane) s = .next (t.linkMsg p fun t => t.laneSwapDoneIn p lane).settle :=
  State.running_finds h fun s => s.linkMsg p fun s => s.laneSwapDoneIn p lane

theorem exec_laneSwapTimeout {s t : State} {dt : Nat} (h : Finds s dt t) (p : Nat) :
    exec (.laneSwapTimeout dt p) s = .next (t.doSwapTmo p).settle :=
  State.running_finds h fun s => s.doSwapTmo p

theorem exec_retrainPattern {s t : State} {dt : Nat} (h : Finds s dt t) (op : PatternSeen) :
    exec (.retrainPattern dt op) s = .next (t.doRetrainPattern op.port op.lanes).settle :=
  State.running_finds h fun s => s.doRetrainPattern op.port op.lanes

theorem exec_retrainDone {s t : State} {dt : Nat} (h : Finds s dt t) (p : Nat) :
    exec (.retrainDone dt p) s = .next (t.doRetrainDone p).settle :=
  State.running_finds h fun s => s.doRetrainDone p

theorem exec_retrainTimeout {s t : State} {dt : Nat} (h : Finds s dt t) (p : Nat) :
    exec (.retrainTimeout dt p) s = .next (t.doRetrainTmo p).settle :=
  State.running_finds h fun s => s.doRetrainTmo p

theorem exec_alignmentLoss {s t : State} {dt : Nat} (h : Finds s dt t) (p : Nat) (lane : Nat) (more : Bool) :
    exec (.alignmentLoss dt p lane more) s = .next (t.doAlignLoss p lane more).settle :=
  State.running_finds h fun s => s.doAlignLoss p lane more

theorem exec_bringupRetry {s t : State} {dt : Nat} (h : Finds s dt t) (p : Nat) :
    exec (.bringupRetry dt p) s = .next (t.doBringupRetry p).settle :=
  State.running_finds h fun s => s.doBringupRetry p

theorem exec_adminDown {s t : State} {dt : Nat} (h : Finds s dt t) (m : Master) (p : Nat) :
    exec (.adminDown dt m p) s = .next (t.adminWrite m p false).settle :=
  State.running_finds h fun s => s.adminWrite m p false

theorem exec_adminUp {s t : State} {dt : Nat} (h : Finds s dt t) (m : Master) (p : Nat) :
    exec (.adminUp dt m p) s = .next (t.adminWrite m p true).settle :=
  State.running_finds h fun s => s.adminWrite m p true

theorem exec_cdrLock {s t : State} {dt : Nat} (h : Finds s dt t) (g : Nat) (l : Nat) :
    exec (.cdrLock dt g l) s = .next (t.doCdrLock g l).settle :=
  State.running_finds h fun s => s.doCdrLock g l

theorem exec_adapted {s t : State} {dt : Nat} (h : Finds s dt t) (g : Nat) (l : Nat) (coef : List Int) :
    exec (.adapted dt g l coef) s = .next (t.doAdapted g l coef).settle :=
  State.running_finds h fun s => s.doAdapted g l coef

theorem exec_bitslipTry {s t : State} {dt : Nat} (h : Finds s dt t) (g : Nat) (l : Nat) (x : SlipSeen) :
    exec (.bitslipTry dt g l x) s = .next (t.doBitslipTry g l x).settle :=
  State.running_finds h fun s => s.doBitslipTry g l x

theorem exec_bitslipDone {s t : State} {dt : Nat} (h : Finds s dt t) (m : Master) (g : Nat) :
    exec (.bitslipDone dt m g) s = .next (t.bitslipWrite m g).settle :=
  State.running_finds h fun s => s.bitslipWrite m g

theorem exec_txeqRound {s t : State} {dt : Nat} (h : Finds s dt t) (g : Nat) (l : Nat) (req : TxEqReq) (best : Bool) :
    exec (.txeqRound dt g l req best) s = .next (t.doTxeqRound g l req best).settle :=
  State.running_finds h fun s => s.doTxeqRound g l req best

theorem exec_alignDone {s t : State} {dt : Nat} (h : Finds s dt t) (p : Nat) (tx : Option Nat) :
    exec (.alignDone dt p tx) s = .next (t.doAlignDone p tx).settle :=
  State.running_finds h fun s => s.doAlignDone p tx

theorem exec_bringupTimeout {s t : State} {dt : Nat} (h : Finds s dt t) (p : Nat) :
    exec (.bringupTimeout dt p) s = .next (t.doBringupTmo p).settle :=
  State.running_finds h fun s => s.doBringupTmo p

theorem exec_driftCheck {s t : State} {dt : Nat} (h : Finds s dt t) (g : Nat) (l : Nat) (coef : List Int) (e : Nat) :
    exec (.driftCheck dt g l coef e) s = .next (t.doDriftCheck g l coef e).settle :=
  State.running_finds h fun s => s.doDriftCheck g l coef e

theorem exec_freezeEnd {s t : State} {dt : Nat} (h : Finds s dt t) (g : Nat) (l : Nat) :
    exec (.freezeEnd dt g l) s = .next (t.doFreezeEnd g l).settle :=
  State.running_finds h fun s => s.doFreezeEnd g l

theorem exec_eyeScanGo {s t : State} {dt : Nat} (h : Finds s dt t) (m : Master) (g : Nat) (op : EyeOp) (margined : Bool) :
    exec (.eyeScanGo dt m g op margined) s = .next (t.eyeWrite m g op margined).settle :=
  State.running_finds h fun s => s.eyeWrite m g op margined

theorem exec_eyePointDone {s t : State} {dt : Nat} (h : Finds s dt t) (g : Nat) (errors : Nat) (aborted : Bool) :
    exec (.eyePointDone dt g errors aborted) s = .next (t.doEyeDone g errors aborted).settle :=
  State.running_finds h fun s => s.doEyeDone g errors aborted

theorem exec_prbsInject {s t : State} {dt : Nat} (h : Finds s dt t) (m : Master) (g : Nat) (l : Nat) :
    exec (.prbsInject dt m g l) s = .next (t.prbsWrite m g l).settle :=
  State.running_finds h fun s => s.prbsWrite m g l

theorem exec_cdrLost {s t : State} {dt : Nat} (h : Finds s dt t) (g : Nat) (l : Nat) :
    exec (.cdrLost dt g l) s = .next (t.doCdrLost g l).settle :=
  State.running_finds h fun s => s.doCdrLost g l

theorem exec_prbsCheckerLock {s t : State} {dt : Nat} (h : Finds s dt t) (g : Nat) (l : Nat) :
    exec (.prbsCheckerLock dt g l) s = .next (t.doPrbsLock g l).settle :=
  State.running_finds h fun s => s.doPrbsLock g l

theorem exec_prbsCheckerUnlock {s t : State} {dt : Nat} (h : Finds s dt t) (g : Nat) (l : Nat) (errors : Nat) :
    exec (.prbsCheckerUnlock dt g l errors) s = .next (t.doPrbsUnlock g l errors).settle :=
  State.running_finds h fun s => s.doPrbsUnlock g l errors

theorem exec_sqDoorbell {s t : State} {dt : Nat} (h : Finds s dt t) (n : Nat) (index : Nat) :
    exec (.sqDoorbell dt n index) s = .next (t.doSqDoorbell n index).settle :=
  State.running_finds h fun s => s.doSqDoorbell n index

theorem exec_cqDoorbell {s t : State} {dt : Nat} (h : Finds s dt t) (n : Nat) (index : Nat) :
    exec (.cqDoorbell dt n index) s = .next (t.doCqDoorbell n index).settle :=
  State.running_finds h fun s => s.doCqDoorbell n index

theorem exec_sliceEnable {s t : State} {dt : Nat} (h : Finds s dt t) (n : Nat) :
    exec (.sliceEnable dt n) s = .next (t.doSliceEnable n).settle :=
  State.running_finds h fun s => s.doSliceEnable n

theorem exec_sliceDisable {s t : State} {dt : Nat} (h : Finds s dt t) (n : Nat) :
    exec (.sliceDisable dt n) s = .next (t.doSliceDisable n).settle :=
  State.running_finds h fun s => s.doSliceDisable n

theorem exec_sliceAbort {s t : State} {dt : Nat} (h : Finds s dt t) (n : Nat) :
    exec (.sliceAbort dt n) s = .next (t.doSliceAbort n).settle :=
  State.running_finds h fun s => s.doSliceAbort n

theorem exec_descriptorFetch {s t : State} {dt : Nat} (h : Finds s dt t) (n : Nat) (bytes : List Byte) (err : Bool) :
    exec (.descriptorFetch dt n bytes err) s = .next (t.doDescFetch n bytes err).settle :=
  State.running_finds h fun s => s.doDescFetch n bytes err

theorem exec_descNop {s t : State} {dt : Nat} (h : Finds s dt t) (n : Nat) :
    exec (.descNop dt n) s = .next (t.doDescNop n).settle :=
  State.running_finds h fun s => s.doDescNop n

theorem exec_descCopy {s t : State} {dt : Nat} (h : Finds s dt t) (n : Nat) :
    exec (.descCopy dt n) s = .next (t.doDescCopy n).settle :=
  State.running_finds h fun s => s.doDescCopy n

theorem exec_descFill {s t : State} {dt : Nat} (h : Finds s dt t) (n : Nat) :
    exec (.descFill dt n) s = .next (t.doDescFill n).settle :=
  State.running_finds h fun s => s.doDescFill n

theorem exec_descCompare {s t : State} {dt : Nat} (h : Finds s dt t) (n : Nat) :
    exec (.descCompare dt n) s = .next (t.doDescCompare n).settle :=
  State.running_finds h fun s => s.doDescCompare n

theorem exec_descFence {s t : State} {dt : Nat} (h : Finds s dt t) (n : Nat) :
    exec (.descFence dt n) s = .next (t.doDescFence n).settle :=
  State.running_finds h fun s => s.doDescFence n

theorem exec_descChecksum {s t : State} {dt : Nat} (h : Finds s dt t) (n : Nat) :
    exec (.descChecksum dt n) s = .next (t.doDescChecksum n).settle :=
  State.running_finds h fun s => s.doDescChecksum n

theorem exec_sliceIssue {s t : State} {dt : Nat} (h : Finds s dt t) :
    exec (.sliceIssue dt) s = .next (t.doSliceIssue).settle :=
  State.running_finds h fun s => s.doSliceIssue

theorem exec_dmvReadCompletion {s t : State} {dt : Nat} (h : Finds s dt t) :
    exec (.dmvReadCompletion dt) s = .next (t.doReadCompletion).settle :=
  State.running_finds h fun s => s.doReadCompletion

theorem exec_dmvReadTimeout {s t : State} {dt : Nat} (h : Finds s dt t) (n : Nat) (d : Nat) (part : Nat) :
    exec (.dmvReadTimeout dt n d part) s = .next (t.doReadTimeout n d part).settle :=
  State.running_finds h fun s => s.doReadTimeout n d part

theorem exec_cqEntryWrite {s t : State} {dt : Nat} (h : Finds s dt t) (n : Nat) :
    exec (.cqEntryWrite dt n) s = .next (t.doCqEntry n).settle :=
  State.running_finds h fun s => s.doCqEntry n

theorem exec_dmvFlr {s t : State} {dt : Nat} (h : Finds s dt t) (v : Nat) :
    exec (.dmvFlr dt v) s = .next (t.doDmvFlr v).settle :=
  State.running_finds h fun s => s.doDmvFlr v

theorem exec_dmvBusMasterClear {s t : State} {dt : Nat} (h : Finds s dt t) (v : Nat) :
    exec (.dmvBusMasterClear dt v) s = .next (t.doDmvBmeClear v).settle :=
  State.running_finds h fun s => s.doDmvBmeClear v

theorem exec_dmvBusMasterSet {s t : State} {dt : Nat} (h : Finds s dt t) (v : Nat) :
    exec (.dmvBusMasterSet dt v) s = .next (t.doDmvBmeSet v).settle :=
  State.running_finds h fun s => s.doDmvBmeSet v

theorem exec_cacheMerge {s t : State} {dt : Nat} (h : Finds s dt t) :
    exec (.cacheMerge dt) s = .next (t.doCacheMerge).settle :=
  State.running_finds h fun s => s.doCacheMerge

theorem exec_contextEnable {s t : State} {dt : Nat} (h : Finds s dt t) (m : Master) (c : Nat) (v : Word) :
    exec (.contextEnable dt m c v) s = .next (t.contextEnable m c v).settle :=
  State.running_finds h fun s => s.contextEnable m c v

theorem exec_contextReady {s t : State} {dt : Nat} (h : Finds s dt t) (c : Nat) :
    exec (.contextReady dt c) s = .next (t.doCtxReady c).settle :=
  State.running_finds h fun s => s.doCtxReady c

theorem exec_contextDisable {s t : State} {dt : Nat} (h : Finds s dt t) (m : Master) (c : Nat) (v : Word) :
    exec (.contextDisable dt m c v) s = .next (t.contextDisable m c v).settle :=
  State.running_finds h fun s => s.contextDisable m c v

theorem exec_harvestDrained {s t : State} {dt : Nat} (h : Finds s dt t) :
    exec (.harvestDrained dt) s = .next (t.doHarvestDrained).settle :=
  State.running_finds h fun s => s.doHarvestDrained

theorem exec_harvestFlushDone {s t : State} {dt : Nat} (h : Finds s dt t) :
    exec (.harvestFlushDone dt) s = .next (t.doHarvestFlushDone).settle :=
  State.running_finds h fun s => s.doHarvestFlushDone

theorem exec_harvestFlushTimeout {s t : State} {dt : Nat} (h : Finds s dt t) :
    exec (.harvestFlushTimeout dt) s = .next (t.doHarvestFlushTmo).settle :=
  State.running_finds h fun s => s.doHarvestFlushTmo

theorem exec_pwrfailFall (s : State) (dt : Nat) :
    exec (.pwrfailFall dt) s = .next ((fun s : State => s.doPwrfailFall) (s.elapse dt)).settle := rfl

theorem exec_pwrfailConfirm {s t : State} {dt : Nat} (h : Finds s dt t) (vaux : Bool) :
    exec (.pwrfailConfirm dt vaux) s = .next (t.doPwrfailConfirm vaux).settle :=
  State.running_finds h fun s => s.doPwrfailConfirm vaux

theorem exec_drainEnd {s t : State} {dt : Nat} (h : Finds s dt t) :
    exec (.drainEnd dt) s = .next (t.doDrainEnd).settle :=
  State.running_finds h fun s => s.doDrainEnd

theorem exec_drainDeadline {s t : State} {dt : Nat} (h : Finds s dt t) :
    exec (.drainDeadline dt) s = .next (t.doDrainDeadline).settle :=
  State.running_finds h fun s => s.doDrainDeadline

theorem exec_portFlush {s t : State} {dt : Nat} (h : Finds s dt t) (p : Nat) :
    exec (.portFlush dt p) s = .next (t.doPortFlush p).settle :=
  State.running_finds h fun s => s.doPortFlush p

theorem exec_decantFlushAnswer {s t : State} {dt : Nat} (h : Finds s dt t) :
    exec (.decantFlushAnswer dt) s = .next (t.doDecantAnswer).settle :=
  State.running_finds h fun s => s.doDecantAnswer

theorem exec_budgetEnd {s t : State} {dt : Nat} (h : Finds s dt t) :
    exec (.budgetEnd dt) s = .next (t.doBudgetEnd).settle :=
  State.running_finds h fun s => s.doBudgetEnd

theorem exec_seal {s t : State} {dt : Nat} (h : Finds s dt t) :
    exec (.seal dt) s = .next (t.doSeal).settle :=
  State.running_finds h fun s => s.doSeal

theorem exec_keepWarmEntry {s t : State} {dt : Nat} (h : Finds s dt t) :
    exec (.keepWarmEntry dt) s = .next (t.doKeepWarmEntry).settle :=
  State.running_finds h fun s => s.doKeepWarmEntry

theorem exec_keepExpired (s : State) (dt : Nat) :
    exec (.keepExpired dt) s = .next ((fun s : State => s.doKeepExpired) (s.elapse dt)).settle := rfl

theorem exec_keepWarmExit (s : State) (dt : Nat) (x : BootIn) (macOk : Bool) (falls : Bool) :
    exec (.keepWarmExit dt x macOk falls) s = .next ((fun s : State => s.doKeepWarmExit x macOk falls) (s.elapse dt)).settle := rfl

theorem exec_decantAbandoned {s t : State} {dt : Nat} (h : Finds s dt t) :
    exec (.decantAbandoned dt) s = .next (t.doDecantAbandoned).settle :=
  State.running_finds h fun s => s.doDecantAbandoned

theorem exec_stopAnswer {s t : State} {dt : Nat} (h : Finds s dt t) :
    exec (.stopAnswer dt) s = .next (t.doStopAnswer).settle :=
  State.running_finds h fun s => s.doStopAnswer

theorem exec_stopTimeout {s t : State} {dt : Nat} (h : Finds s dt t) :
    exec (.stopTimeout dt) s = .next (t.doStopTimeout).settle :=
  State.running_finds h fun s => s.doStopTimeout

theorem exec_domainWakeReady {s t : State} {dt : Nat} (h : Finds s dt t) (test : Bool) :
    exec (.domainWakeReady dt test) s = .next (t.doWakeReady test).settle :=
  State.running_finds h fun s => s.doWakeReady test

theorem exec_wakeTimeout {s t : State} {dt : Nat} (h : Finds s dt t) :
    exec (.wakeTimeout dt) s = .next (t.doWakeTimeout).settle :=
  State.running_finds h fun s => s.doWakeTimeout

theorem exec_padRelease {s t : State} {dt : Nat} (h : Finds s dt t) (m : Master) (k : Nat) (bits : Nat) :
    exec (.padRelease dt m k bits) s = .next (t.padRelease m k bits).settle :=
  State.running_finds h fun s => s.padRelease m k bits

theorem exec_wakeGpio (s : State) (dt : Nat) :
    exec (.wakeGpio dt) s = .next ((fun s : State => s.doWakeGpio) (s.elapse dt)).settle := rfl

theorem exec_calendarWake (s : State) (dt : Nat) :
    exec (.calendarWake dt) s = .next ((fun s : State => s.doCalendarWake) (s.elapse dt)).settle := rfl

theorem exec_pwrfailRise (s : State) (dt : Nat) :
    exec (.pwrfailRise dt) s = .next ((fun s : State => s.doPwrfailRise) (s.elapse dt)).settle := rfl

theorem exec_spcSample {s t : State} {dt : Nat} (h : Finds s dt t) (n : Nat) (x : SpcIn) :
    exec (.spcSample dt n x) s = .next (t.doSpcSample n x).settle :=
  State.running_finds h fun s => s.doSpcSample n x

theorem exec_fastTrip {s t : State} {dt : Nat} (h : Finds s dt t) (x : FastSeen) :
    exec (.fastTrip dt x) s = .next (t.doFastTrip x).settle :=
  State.running_finds h fun s => s.doFastTrip x

theorem exec_timerTrip {s t : State} {dt : Nat} (h : Finds s dt t) (n : Nat) (x : SpcIn) :
    exec (.timerTrip dt n x) s = .next (t.doTimerTrip n x).settle :=
  State.running_finds h fun s => s.doTimerTrip n x

theorem exec_rampTmo {s t : State} {dt : Nat} (h : Finds s dt t) (n : Nat) (x : SpcIn) :
    exec (.rampTmo dt n x) s = .next (t.doRampTmo n x).settle :=
  State.running_finds h fun s => s.doRampTmo n x

theorem exec_inputTurnOff {s t : State} {dt : Nat} (h : Finds s dt t) (n : Nat) (x : SpcIn) :
    exec (.inputTurnOff dt n x) s = .next (t.doInputOff n x).settle :=
  State.running_finds h fun s => s.doInputOff n x

theorem exec_presenceLost {s t : State} {dt : Nat} (h : Finds s dt t) (n : Nat) (x : SpcIn) :
    exec (.presenceLost dt n x) s = .next (t.doPresenceLost n x).settle :=
  State.running_finds h fun s => s.doPresenceLost n x

theorem exec_insertionDelayEnd {s t : State} {dt : Nat} (h : Finds s dt t) (n : Nat) (x : SpcIn) :
    exec (.insertionDelayEnd dt n x) s = .next (t.doInsertionEnd n x).settle :=
  State.running_finds h fun s => s.doInsertionEnd n x

theorem exec_rearmHoldEnd {s t : State} {dt : Nat} (h : Finds s dt t) (n : Nat) (x : SpcIn) :
    exec (.rearmHoldEnd dt n x) s = .next (t.doRearmEnd n x).settle :=
  State.running_finds h fun s => s.doRearmEnd n x

theorem exec_slotEnable {s t : State} {dt : Nat} (h : Finds s dt t) (n : Nat) :
    exec (.slotEnable dt n) s = .next (t.doSlotEnable n).settle :=
  State.running_finds h fun s => s.doSlotEnable n

theorem exec_slotDisable {s t : State} {dt : Nat} (h : Finds s dt t) (n : Nat) :
    exec (.slotDisable dt n) s = .next (t.doSlotDisable n).settle :=
  State.running_finds h fun s => s.doSlotDisable n

theorem exec_analogLoss {s t : State} {x : AnalogLost} (h : Finds s x.dt t) :
    exec (.analogLoss x) s = .next (t.doAnalogLoss x.ctls).settle :=
  State.running_finds h fun s => s.doAnalogLoss x.ctls

theorem exec_attentionButtonPressed {s t : State} {dt : Nat} (h : Finds s dt t) (n : Nat) :
    exec (.attentionButtonPressed dt n) s = .next (t.doAttention n).settle :=
  State.running_finds h fun s => s.doAttention n

theorem exec_faultMessage {s t : State} {dt : Nat} (h : Finds s dt t) (x : FaultEvent) :
    exec (.faultMessage dt x) s = .next (t.doFaultMessage x).settle :=
  State.running_finds h fun s => s.doFaultMessage x

theorem exec_countWindowClose {s t : State} {dt : Nat} (h : Finds s dt t) :
    exec (.countWindowClose dt) s = .next (t.doWindowClose).settle :=
  State.running_finds h fun s => s.doWindowClose

theorem exec_faultForce {s t : State} {dt : Nat} (h : Finds s dt t) (m : Master) (j : Nat) (bits : Nat) :
    exec (.faultForce dt m j bits) s = .next (t.faultForce m j bits).settle :=
  State.running_finds h fun s => s.faultForce m j bits

theorem exec_latchRearm {s t : State} {dt : Nat} (h : Finds s dt t) (m : Master) :
    exec (.latchRearm dt m) s = .next (t.latchRearm m).settle :=
  State.running_finds h fun s => s.latchRearm m

theorem exec_arbitrationPhase {s t : State} {dt : Nat} (h : Finds s dt t) (d : Nat) (cycles : Nat) (asks : List TmAsk) :
    exec (.arbitrationPhase dt d cycles asks) s = .next (t.doArbPhase d cycles asks).settle :=
  State.running_finds h fun s => s.doArbPhase d cycles asks

theorem exec_urgent {s t : State} {dt : Nat} (h : Finds s dt t) (d : Nat) (r : Nat) (cycles : Nat) :
    exec (.urgent dt d r cycles) s = .next (t.doUrgent d r cycles).settle :=
  State.running_finds h fun s => s.doUrgent d r cycles

theorem exec_tableWordRead {s t : State} {dt : Nat} (h : Finds s dt t) (r : Nat) (a : Nat) (strikes : List (Nat × Nat)) :
    exec (.tableWordRead dt r a strikes) s = .next (t.doWordRead r a strikes).settle :=
  State.running_finds h fun s => s.doWordRead r a strikes

theorem exec_patrolScrub {s t : State} {dt : Nat} (h : Finds s dt t) (d : Nat) (strikes : List (Nat × Nat)) :
    exec (.patrolScrub dt d strikes) s = .next (t.doPatrol d strikes).settle :=
  State.running_finds h fun s => s.doPatrol d strikes

theorem exec_ondieScrub {s t : State} {dt : Nat} (h : Finds s dt t) :
    exec (.ondieScrub dt) s = .next (t.doOndieScrub).settle :=
  State.running_finds h fun s => s.doOndieScrub

theorem exec_fillDone {s t : State} {dt : Nat} (h : Finds s dt t) (d : Nat) :
    exec (.fillDone dt d) s = .next (t.doFillDone d).settle :=
  State.running_finds h fun s => s.doFillDone d

theorem exec_dieFail {s t : State} {dt : Nat} (h : Finds s dt t) (d : Nat) :
    exec (.dieFail dt d) s = .next (t.doDieRetire d).settle :=
  State.running_finds h fun s => s.doDieRetire d

theorem exec_relocBlock {s t : State} {dt : Nat} (h : Finds s dt t) :
    exec (.relocBlock dt) s = .next (t.doRelocBlock).settle :=
  State.running_finds h fun s => s.doRelocBlock

theorem exec_nonceRead {s t : State} {dt : Nat} (h : Finds s dt t) (m : Master) :
    exec (.nonceRead dt m) s = .next (t.nonceRead m).settle :=
  State.running_finds h fun s => s.nonceRead m

theorem exec_lifecycleGo {s t : State} {dt : Nat} (h : Finds s dt t) (m : Master) (target : Nat) :
    exec (.lifecycleGo dt m target) s = .next (t.lcWrite m target).settle :=
  State.running_finds h fun s => s.lcWrite m target

theorem exec_lifecycleCheckDone {s t : State} {dt : Nat} (h : Finds s dt t) (obj : Option (List Byte)) (sigOk : Bool) :
    exec (.lifecycleCheckDone dt obj sigOk) s = .next (t.lcDone obj sigOk).settle :=
  State.running_finds h fun s => s.lcDone obj sigOk

theorem exec_flashErase {s t : State} {dt : Nat} (h : Finds s dt t) (m : Master) (sector : Nat) :
    exec (.flashErase dt m sector) s = .next (t.flashWrite m 0 sector).settle :=
  State.running_finds h fun s => s.flashWrite m 0 sector

theorem exec_flashProgram {s t : State} {dt : Nat} (h : Finds s dt t) (m : Master) (sector : Nat) :
    exec (.flashProgram dt m sector) s = .next (t.flashWrite m 1 sector).settle :=
  State.running_finds h fun s => s.flashWrite m 1 sector

theorem exec_flashRead {s t : State} {dt : Nat} (h : Finds s dt t) (m : Master) (sector : Nat) :
    exec (.flashRead dt m sector) s = .next (t.flashWrite m 2 sector).settle :=
  State.running_finds h fun s => s.flashWrite m 2 sector

theorem exec_flashDone {s t : State} {dt : Nat} (h : Finds s dt t) (data : Option (List Byte)) (err : Bool) :
    exec (.flashDone dt data err) s = .next (t.doFlashDone data err).settle :=
  State.running_finds h fun s => s.doFlashDone data err

theorem exec_getVersion {s t : State} {dt : Nat} (h : Finds s dt t) (via : Nat) :
    exec (.getVersion dt via) s = .next (t.doGetVersion via) :=
  State.alone_finds h fun s => s.doGetVersion via

theorem exec_getCapabilities {s t : State} {dt : Nat} (h : Finds s dt t) (via : Nat) :
    exec (.getCapabilities dt via) s = .next (t.doGetCapabilities via) :=
  State.alone_finds h fun s => s.doGetCapabilities via

theorem exec_negotiateAlgorithms {s t : State} {dt : Nat} (h : Finds s dt t) (via : Nat) :
    exec (.negotiateAlgorithms dt via) s = .next (t.doNegotiate via) :=
  State.alone_finds h fun s => s.doNegotiate via

theorem exec_getDigests {s t : State} {dt : Nat} (h : Finds s dt t) (via : Nat) :
    exec (.getDigests dt via) s = .next (t.doGetDigests via) :=
  State.alone_finds h fun s => s.doGetDigests via

theorem exec_getCertificate {s t : State} {dt : Nat} (h : Finds s dt t) (via : Nat) (slot : Nat) (off : Nat) (len : Nat) :
    exec (.getCertificate dt via slot off len) s = .next (t.doGetCertificate via slot off len) :=
  State.alone_finds h fun s => s.doGetCertificate via slot off len

theorem exec_getMeasurements {s t : State} {dt : Nat} (h : Finds s dt t) (via : Nat) (index : Nat) (sign : Bool) (nonce : List Byte) :
    exec (.getMeasurements dt via index sign nonce) s = .next (t.doGetMeasurements via index sign nonce) :=
  State.alone_finds h fun s => s.doGetMeasurements via index sign nonce

theorem exec_keyExchange {s t : State} {dt : Nat} (h : Finds s dt t) (via : Nat) (share : List Byte) :
    exec (.keyExchange dt via share) s = .next (t.doKeyExchange via share) :=
  State.alone_finds h fun s => s.doKeyExchange via share

theorem exec_query {s t : State} {dt : Nat} (h : Finds s dt t) (session : Nat) (index : Nat) :
    exec (.query dt session index) s = .next (t.doIdeQuery session index) :=
  State.alone_finds h fun s => s.doIdeQuery session index

theorem exec_keyProg {s t : State} {dt : Nat} (h : Finds s dt t) (op : IdeOp) (key : List Byte) :
    exec (.keyProg dt op key) s = .next (t.doKeyProg op.session op.index op.set op.sub op.dir key) :=
  State.alone_finds h fun s => s.doKeyProg op.session op.index op.set op.sub op.dir key

theorem exec_kSetGo {s t : State} {dt : Nat} (h : Finds s dt t) (op : IdeOp) :
    exec (.kSetGo dt op) s = .next (t.doKeyGo op.session op.index op.set op.sub op.dir) :=
  State.alone_finds h fun s => s.doKeyGo op.session op.index op.set op.sub op.dir

theorem exec_kSetStop {s t : State} {dt : Nat} (h : Finds s dt t) (op : IdeOp) :
    exec (.kSetStop dt op) s = .next (t.doKeyStop op.session op.index op.set op.sub op.dir) :=
  State.alone_finds h fun s => s.doKeyStop op.session op.index op.set op.sub op.dir

theorem exec_extest {s t : State} {dt : Nat} (h : Finds s dt t) :
    exec (.extest dt) s = .next (t.doExtest).settle :=
  State.running_finds h fun s => s.doExtest

theorem exec_samplePreload {s t : State} {dt : Nat} (h : Finds s dt t) :
    exec (.samplePreload dt) s = .next (t.doSample) :=
  State.tap_finds h fun s => s.doSample

theorem exec_idcode {s t : State} {dt : Nat} (h : Finds s dt t) :
    exec (.idcode dt) s = .next (t.doIdcode) :=
  State.tap_finds h fun s => s.doIdcode

theorem exec_memAccess {s t : State} {dt : Nat} (h : Finds s dt t) (write : Bool) (offset : Nat) (len : Nat) (words : List Nat) :
    exec (.memAccess dt write offset len words) s = .next (t.doMemAccess write offset len words).settle :=
  State.running_finds h fun s => s.doMemAccess write offset len words

theorem exec_unlockChallenge {s t : State} {dt : Nat} (h : Finds s dt t) :
    exec (.unlockChallenge dt) s = .next (t.doUnlockChallenge) :=
  State.tap_finds h fun s => s.doUnlockChallenge

theorem exec_unlock {s t : State} {dt : Nat} (h : Finds s dt t) (obj : List Byte) (sigOk : Bool) :
    exec (.unlock dt obj sigOk) s = .next (t.doUnlock obj sigOk) :=
  State.tap_finds h fun s => s.doUnlock obj sigOk

theorem exec_coreDebug {s t : State} {dt : Nat} (h : Finds s dt t) :
    exec (.coreDebug dt) s = .next (t.doCoreDebug) :=
  State.tap_finds h fun s => s.doCoreDebug

theorem exec_bypass {s t : State} {dt : Nat} (h : Finds s dt t) :
    exec (.bypass dt) s = .next (t.doBypass) :=
  State.tap_finds h fun s => s.doBypass

theorem exec_mpuLock {s t : State} {dt : Nat} (h : Finds s dt t) (m : Master) (n : Nat) :
    exec (.mpuLock dt m n) s = .next (t.mpuLock m n).settle :=
  State.running_finds h fun s => s.mpuLock m n

theorem exec_violationRearm {s t : State} {dt : Nat} (h : Finds s dt t) (m : Master) :
    exec (.violationRearm dt m) s = .next (t.violRearm m).settle :=
  State.running_finds h fun s => s.violRearm m

theorem exec_challenge {s t : State} {dt : Nat} (h : Finds s dt t) (via : Nat) (slot : Nat) (nonce : List Byte) :
    exec (.challenge dt via slot nonce) s = .next (t.doChallenge via slot nonce) :=
  State.alone_finds h fun s => s.doChallenge via slot nonce

theorem exec_spdmSessionEnd {s t : State} {dt : Nat} (h : Finds s dt t) (session : Nat) (lost : Bool) :
    exec (.spdmSessionEnd dt session lost) s = .next (t.doSessionEnd session lost) :=
  State.alone_finds h fun s => s.doSessionEnd session lost

theorem exec_cuppingRound {s t : State} {dt : Nat} (h : Finds s dt t) (x : Cup) (ok : Bool) :
    exec (.cuppingRound dt x ok) s = .next (t.doCupping x ok).settle :=
  State.running_finds h fun s => s.doCupping x ok

theorem exec_slackSample {s t : State} {dt : Nat} (h : Finds s dt t) (worst : Int) (ok : Bool) :
    exec (.slackSample dt worst ok) s = .next (t.doSlackSample worst ok).settle :=
  State.running_finds h fun s => s.doSlackSample worst ok

theorem exec_gbClr {s t : State} {dt : Nat} (h : Finds s dt t) (m : Master) :
    exec (.gbClr dt m) s = .next (t.gbClrWrite m).settle :=
  State.running_finds h fun s => s.gbClrWrite m

theorem exec_engineWatchdog {s t : State} {dt : Nat} (h : Finds s dt t) (e : Nat) :
    exec (.engineWatchdog dt e) s = .next (t.doEngineWatchdog e).settle :=
  State.running_finds h fun s => s.doEngineWatchdog e

theorem exec_engineStop {s t : State} {dt : Nat} (h : Finds s dt t) (loaded : Bool) :
    exec (.engineStop dt loaded) s = .next (t.doEngineStop loaded).settle :=
  State.running_finds h fun s => s.doEngineStop loaded

theorem exec_rowRepairDone {s t : State} {dt : Nat} (h : Finds s dt t) :
    exec (.rowRepairDone dt) s = .next (t.doRowRepair).settle :=
  State.running_finds h fun s => s.doRowRepair

theorem exec_ledgerSummary {s t : State} {dt : Nat} (h : Finds s dt t) :
    exec (.ledgerSummary dt) s = .next (t.doLedgerSummary).settle :=
  State.running_finds h fun s => s.doLedgerSummary

theorem exec_ledgerRead {s t : State} {dt : Nat} (h : Finds s dt t) (m : Master) (index : Nat) :
    exec (.ledgerRead dt m index) s = .next (t.ledgerRead m index).settle :=
  State.running_finds h fun s => s.ledgerRead m index

theorem exec_calendarSet {s t : State} {dt : Nat} (h : Finds s dt t) (m : Master) (seconds : Nat) :
    exec (.calendarSet dt m seconds) s = .next (t.calendarSet m seconds).settle :=
  State.running_finds h fun s => s.calendarSet m seconds

theorem exec_counterClear {s t : State} {dt : Nat} (h : Finds s dt t) (m : Master) (k : Nat) :
    exec (.counterClear dt m k) s = .next (t.counterClear m k).settle :=
  State.running_finds h fun s => s.counterClear m k

theorem exec_periodicDump {s t : State} {dt : Nat} (h : Finds s dt t) :
    exec (.periodicDump dt) s = .next (t.doPeriodicDump).settle :=
  State.running_finds h fun s => s.doPeriodicDump

theorem exec_engineSample {s t : State} {dt : Nat} (h : Finds s dt t) (skid : Nat) (work : Nat) (addr : Nat) :
    exec (.engineSample dt skid work addr) s = .next (t.doEngineSample skid work addr).settle :=
  State.running_finds h fun s => s.doEngineSample skid work addr

theorem exec_coldBoot (s : State) (dt : Nat) (first : Bool) (x : BootIn) :
    exec (.coldBoot dt first x) s = .next ((fun s : State => s.doColdBoot first x) (s.elapse dt)).settle := rfl

theorem exec_resetN (s : State) (dt : Nat) (low : Nat) :
    exec (.resetN dt low) s = .next ((fun s : State => s.doResetN low) (s.elapse dt)).settle := rfl

theorem exec_warmReset {s t : State} {dt : Nat} (h : Finds s dt t) (m : Master) (engOk : Bool) :
    exec (.warmReset dt m engOk) s = .next (t.warmWrite m engOk).settle :=
  State.running_finds h fun s => s.warmWrite m engOk

theorem exec_refLost {s t : State} {dt : Nat} (h : Finds s dt t) (pll : Bool) :
    exec (.refLost dt pll) s = .next (t.doRefLost pll).settle :=
  State.running_finds h fun s => s.doRefLost pll

theorem exec_holdoverEnd {s t : State} {dt : Nat} (h : Finds s dt t) :
    exec (.holdoverEnd dt) s = .next (t.doHoldoverEnd).settle :=
  State.running_finds h fun s => s.doHoldoverEnd

theorem exec_xtalFail (s : State) (dt : Nat) :
    exec (.xtalFail dt) s = .next ((fun s : State => s.doXtalFail) (s.elapse dt)).settle := rfl

theorem exec_ptmCapture {s t : State} {dt : Nat} (h : Finds s dt t) (p : Nat) (master : Nat) :
    exec (.ptmCapture dt p master) s = .next (t.doPtm p master).settle :=
  State.running_finds h fun s => s.doPtm p master

theorem exec_thermalSample {s t : State} {dt : Nat} (h : Finds s dt t) (temps : List Int) :
    exec (.thermalSample dt temps) s = .next (t.doThermal temps).settle :=
  State.running_finds h fun s => s.doThermal temps

theorem exec_mainSupplyLoss (s : State) (dt : Nat) :
    exec (.mainSupplyLoss dt) s = .next ((fun s : State => s.doMainLoss) (s.elapse dt)).settle := rfl

theorem exec_vauxDrop (s : State) (dt : Nat) :
    exec (.vauxDrop dt) s = .next ((fun s : State => s.doVauxDrop) (s.elapse dt)).settle := rfl

theorem exec_refReturn (s : State) (dt : Nat) (x : BootIn) :
    exec (.refReturn dt x) s = .next ((fun s : State => s.doRefReturn x) (s.elapse dt)).settle := rfl

theorem exec_xtalRestart (s : State) (dt : Nat) :
    exec (.xtalRestart dt) s = .next ((fun s : State => s.doXtalRestart) (s.elapse dt)).settle := rfl

theorem exec_aspmL1Exit {s t : State} {dt : Nat} (h : Finds s dt t) (p : Nat) :
    exec (.aspmL1Exit dt p) s = .next (t.doL1Exit p).settle :=
  State.running_finds h fun s => s.doL1Exit p

end Sys2Proof.Machine
end

