-- ==== Sys2Proof/Laws/Memory.lean ====
section
/-! SUPPORT. The sparse memories: a byte reads as written, every other byte stays, and the listing keeps its one form. -/

namespace Sys2Proof.Machine

variable {d : Byte}

/-- Whether every address listed lies above one, for a listing in canonical form. -/
def Mem.above (a : Nat) : Mem → Bool
  | [] => true
  | e :: _ => decide (a < e.1)

theorem Mem.wf_cons (k : Nat) (v : Byte) (m : Mem) :
    Mem.wf d ((k, v) :: m) = true ↔ v ≠ d ∧ Mem.above k m = true ∧ Mem.wf d m = true := by
  cases m <;> simp [Mem.wf, Mem.above, and_assoc]

theorem Mem.above_trans {a k : Nat} (h : a < k) (m : Mem) (hm : Mem.above k m = true) : Mem.above a m = true := by
  cases m <;> simp_all [Mem.above]; omega

/-- An address below every one listed reads as the default. -/
theorem Mem.rd_above (m : Mem) (a : Nat) (h : Mem.wf d m = true) (ha : Mem.above a m = true) : Mem.rd d m a = d := by
  induction m with
  | nil => rfl
  | cons e m ih =>
    obtain ⟨k, v⟩ := e
    obtain ⟨_, h2, h3⟩ := (Mem.wf_cons k v m).mp h
    have ha : a < k := by simpa [Mem.above] using ha
    rw [Mem.rd, if_neg (by omega)]
    exact ih h3 (Mem.above_trans ha m h2)

theorem Mem.above_wr (m : Mem) (x a : Nat) (b : Byte) (h : Mem.wf d m = true) (hm : Mem.above x m = true) (ha : x < a) :
    Mem.above x (Mem.wr d m a b) = true := by
  cases m with
  | nil => rw [Mem.wr]; split <;> simp [Mem.above, ha]
  | cons e m =>
    obtain ⟨k, v⟩ := e
    obtain ⟨_, h2, _⟩ := (Mem.wf_cons k v m).mp h
    have hk : x < k := by simpa [Mem.above] using hm
    have hx := Mem.above_trans hk m h2
    rw [Mem.wr]
    split
    · split <;> simp [Mem.above, ha, hk]
    · split
      · split
        · exact hx
        · simp [Mem.above, ha]
      · simp [Mem.above, hk]

/-- A write keeps the canonical form. -/
theorem Mem.wf_wr (m : Mem) (a : Nat) (b : Byte) (h : Mem.wf d m = true) : Mem.wf d (Mem.wr d m a b) = true := by
  induction m with
  | nil => rw [Mem.wr]; split <;> simp_all [Mem.wf]
  | cons e m ih =>
    obtain ⟨k, v⟩ := e
    obtain ⟨h1, h2, h3⟩ := (Mem.wf_cons k v m).mp h
    rw [Mem.wr]
    split
    · rename_i hk
      split
      · exact h
      · exact (Mem.wf_cons _ _ _).mpr ⟨by assumption, by simpa [Mem.above] using hk, h⟩
    · split
      · rename_i hk; subst hk
        split
        · exact h3
        · exact (Mem.wf_cons _ _ _).mpr ⟨by assumption, h2, h3⟩
      · exact (Mem.wf_cons _ _ _).mpr ⟨h1, Mem.above_wr m k a b h3 h2 (by omega), ih h3⟩

/-- What every byte reads as after a write of one. -/
theorem Mem.rd_wr (m : Mem) (a i : Nat) (b : Byte) (h : Mem.wf d m = true) :
    Mem.rd d (Mem.wr d m a b) i = if i = a then b else Mem.rd d m i := by
  induction m with
  | nil => rw [Mem.wr]; split <;> simp_all [Mem.rd]
  | cons e m ih =>
    obtain ⟨k, v⟩ := e
    obtain ⟨_, h2, h3⟩ := (Mem.wf_cons k v m).mp h
    rw [Mem.wr]
    split
    · rename_i hk
      split
      · rename_i hb
        split
        · rename_i hi; subst hi; rw [hb]; exact Mem.rd_above _ _ h (by simpa [Mem.above] using hk)
        · rfl
      · rw [Mem.rd]
    · split
      · rename_i hk; subst hk
        by_cases hi : i = a
        · subst hi
          split
          · rename_i hb; rw [if_pos rfl, hb]; exact Mem.rd_above _ _ h3 h2
          · rw [Mem.rd, if_pos rfl, if_pos rfl]
        · split <;> simp [Mem.rd, hi]
      · rw [Mem.rd, Mem.rd, ih h3]
        by_cases hi : i = k
        · subst hi; rw [if_pos rfl, if_pos rfl, if_neg (by omega)]
        · rw [if_neg hi, if_neg hi]

/-- A write of bytes keeps the canonical form. -/
theorem Mem.wf_wrN (m : Mem) (a : Nat) (bs : List Byte) (h : Mem.wf d m = true) : Mem.wf d (Mem.wrN d m a bs) = true := by
  induction bs generalizing m a with
  | nil => exact h
  | cons b bs ih => exact ih _ _ (Mem.wf_wr m a b h)

end Sys2Proof.Machine
end

