-- ==== Sys2Proof/Laws/RegisterWrites.lean ====
section
/-! SUPPORT. Writes of whole registers: what the register map says of a register is read off once (`RegInfo`), and one lemma says all
that a write of it does, for a class that has the right and for one that has not (R10, R56 to R58, R475, R477). -/

namespace Sys2Proof.Machine

set_option Elab.async false

/-- What the register map says of the writes of a register: its LK fields, whether it has shadow fields, its QUIESCE fields, its
other RW fields, the bits that take a 1, and those that a 1 clears. -/
structure RegInfo where
  base : Nat
  width : Nat
  lk : Nat := 0
  sh : Bool := false
  quiesce : Nat := 0
  rw : Nat := 0
  ones : Nat := 0
  clears : Nat := 0
  deriving DecidableEq, Repr

/-- The information of a register's definition. -/
def RegDef.info (d : RegDef) : RegInfo where
  base := d.base
  width := d.width
  lk := fieldsMask d (·.lk)
  sh := d.fields.any fun f => f.cls == .sh
  quiesce := fieldsMask d fun f => f.acc == .rw && f.cls == .quiesce
  rw := fieldsMask d fun f => f.acc == .rw && f.cls != .sh && f.cls != .quiesce
  ones := fieldsMask d fun f => f.acc == .w1s || (f.acc == .w1c && d.base == R.PWR_PAD_HOLD 0)
  clears := fieldsMask d fun f => f.acc == .w1c && !(d.base == R.PWR_PAD_HOLD 0)

/-- The information of the register at a key. -/
def regInfo (key : Nat) : Option RegInfo := (regAt key).map RegDef.info

/-- What follows a write that has been taken in. -/
def State.afterWrite (s : State) (key : Nat) (old w ones : Word) (m : Nat) (env : Option Bool) : State :=
  ((s.afterSwitch key old w).afterPort key old w ones m env).afterMgmt key old w ones env

/-- The definition behind a register's information. -/
theorem regInfo_def {key : Nat} {x : RegInfo} (h : regInfo key = some x) : ∃ d, regAt key = some d ∧ d.info = x := by
  unfold regInfo at h
  cases hd : regAt key with
  | none => rw [hd] at h; cases h
  | some d => rw [hd] at h; exact ⟨d, rfl, by simpa using h⟩

/-- The base of a register. -/
theorem regBase_info {key : Nat} {x : RegInfo} (h : regInfo key = some x) : regBase key = x.base := by
  obtain ⟨d, hd, rfl⟩ := regInfo_def h
  unfold regBase; rw [hd]; rfl

/-- Which register a key is of. -/
theorem isReg_info {key : Nat} {x : RegInfo} (h : regInfo key = some x) (k : Nat) : isReg key k = (x.base == k) := by
  rw [← regBase_info h]
  obtain ⟨d, hd, rfl⟩ := regInfo_def h
  simp [isReg, hd]

/-- A fold whose steps all keep its start. -/
theorem foldl_keep {α β : Type} (f : β → α → β) (b : β) : ∀ l : List α, (∀ x ∈ l, f b x = b) → l.foldl f b = b
  | [], _ => rfl
  | x :: l, h => by rw [List.foldl_cons, h x (by simp)]; exact foldl_keep f b l fun y hy => h y (by simp [hy])

/-- A register without shadow fields has no shadow value. -/
theorem mergeSh_info {key : Nat} {x : RegInfo} (h : regInfo key = some x) (hx : x.sh = false) (u v : Word) : mergeSh key u v = u := by
  obtain ⟨d, hd, rfl⟩ := regInfo_def h
  unfold mergeSh; rw [hd]
  refine foldl_keep _ _ _ fun f hf => ?_
  have : (f.cls == Cls.sh) = false := by
    simp only [RegDef.info] at hx
    rw [List.any_eq_false] at hx
    simpa using hx f hf
  rw [if_neg (by simpa using this)]

/-- No field, no bits. -/
theorem fieldsMask_none (d : RegDef) (p : FieldDef → Bool) (h : ∀ f ∈ d.fields, p f = false) : fieldsMask d p = 0 := by
  unfold fieldsMask
  rw [List.filter_eq_nil_iff.mpr (by intro f hf; simp [h f hf])]; rfl

/-- A write of bits of a register, by what its information says. -/
theorem State.regApply_info {s : State} {key : Nat} {x : RegInfo} (h : regInfo key = some x) (hx : x.sh = false)
    {v : Word} {m : Nat} {env : Option Bool} {L : Bool} {ro : Nat} (ha : s.absent key = false) (hs : s.sliceWrite key v m = none)
    (hl : s.lkHeld key = L) (hro : s.roBits key = ro) :
    s.regApply key v m env =
      (let lkm := if L then x.lk else 0
      let hit := decide (lkm &&& m ≠ 0)
      let free := m &&& (2 ^ 64 - 1 - ((lkm ||| ro) &&& (2 ^ 64 - 1)))
      let ones := v &&& BitVec.ofNat 64 (x.ones &&& free)
      let clr := v &&& BitVec.ofNat 64 (x.clears &&& free)
      if ((x.quiesce &&& free) ||| (x.rw &&& free)) = 0 ∧ ones = 0 ∧ clr = 0 ∧ !(x.base == R.LG_BITSLIP 0) then (hit, s)
      else
        let old := s.held key
        let cand := mixBits (mixBits old v ((x.quiesce &&& free) ||| (x.rw &&& free))) ones ones.toNat
        let cand := if (x.base == R.LG_BITSLIP 0) = true then mixBits cand v (m &&& F.LG_BITSLIP_POS.mask) else cand
        if s.regBad key cand then (hit, s.regErr stBadParam key)
        else
          let runs := (x.quiesce &&& free) ≠ 0 && s.quiesceRuns key
          let s0 := if runs then s.regErr stCfgBusy key else s
          let s1 := if (x.base == R.LG_BITSLIP 0) = true ∧ ro &&& m ≠ 0 then s0.regErr stBadParam key else s0
          let w := (mixBits old v ((x.rw &&& free) ||| (if runs then 0 else x.quiesce &&& free))) &&& ~~~clr
          let w' := if (x.base == R.MPU_SLOT 0 || x.base == R.SGL_SWAP_CMD 0 0) then w ||| ones else w
          (hit, (if w' = old then s1 else s1.setRaw key w').afterWrite key old w' ones free env)) := by
  have hb := regBase_info h
  have hi := isReg_info h
  have hg := mergeSh_info h hx
  obtain ⟨d, hd, rfl⟩ := regInfo_def h
  have hsh : fieldsMask d (fun f => f.acc == .rw && f.cls == .sh) = 0 := by
    refine fieldsMask_none _ _ fun f hf => ?_
    simp only [RegDef.info, List.any_eq_false] at hx
    have := hx f hf
    simp at this ⊢; intro _; exact this
  unfold State.regApply
  simp only [ha, hd, hs, hl, hro, hg, w1sStays, hi, hsh, State.afterWrite, Bool.false_eq_true, if_false, Nat.zero_and, Nat.zero_or]
  rfl

/-- Keys of different registers differ. -/
theorem key_ne {key k : Nat} (h : ¬ regBase key = regBase k) : (key = k) = False := by
  simp only [eq_iff_iff, iff_false]; rintro rfl; exact h rfl

/-- A write that has the right, taken in by a register. -/
def State.regTake (s : State) (x : RegInfo) (key : Nat) (v : Word) (m free ro : Nat) (env : Option Bool) : State :=
      let ones := v &&& BitVec.ofNat 64 (x.ones &&& free)
      let clr := v &&& BitVec.ofNat 64 (x.clears &&& free)
      if ((x.quiesce &&& free) ||| (x.rw &&& free)) = 0 ∧ ones = 0 ∧ clr = 0 ∧ !(x.base == R.LG_BITSLIP 0) then s
      else
        let old := s.held key
        let cand := mixBits (mixBits old v ((x.quiesce &&& free) ||| (x.rw &&& free))) ones ones.toNat
        let cand := if (x.base == R.LG_BITSLIP 0) = true then mixBits cand v (m &&& F.LG_BITSLIP_POS.mask) else cand
        if s.regBad key cand then s.regErr stBadParam key
        else
          let runs := (x.quiesce &&& free) ≠ 0 && s.quiesceRuns key
          let s0 := if runs then s.regErr stCfgBusy key else s
          let s1 := if (x.base == R.LG_BITSLIP 0) = true ∧ ro &&& m ≠ 0 then s0.regErr stBadParam key else s0
          let w := (mixBits old v ((x.rw &&& free) ||| (if runs then 0 else x.quiesce &&& free))) &&& ~~~clr
          let w' := if (x.base == R.MPU_SLOT 0 || x.base == R.SGL_SWAP_CMD 0 0) then w ||| ones else w
          (if w' = old then s1 else s1.setRaw key w').afterWrite key old w' ones free env

/-- What of a write's bits may change a register. -/
def freeBits (x : RegInfo) (m ro : Nat) (locked : Bool) : Nat :=
  m &&& (2 ^ 64 - 1 - (((if locked then x.lk else 0) ||| ro) &&& (2 ^ 64 - 1)))

/-- Bits of a register are taken in as `regTake` says; the write has met a held LK field where the mask reaches one. -/
theorem State.regApply_take {s : State} {key : Nat} {x : RegInfo} (h : regInfo key = some x) (hx : x.sh = false)
    {v : Word} {m : Nat} {env : Option Bool} {L : Bool} {ro : Nat} (ha : s.absent key = false) (hs : s.sliceWrite key v m = none)
    (hl : s.lkHeld key = L) (hro : s.roBits key = ro) :
    s.regApply key v m env = (decide ((if L then x.lk else 0) &&& m ≠ 0), s.regTake x key v m (freeBits x m ro L) ro env) := by
  rw [State.regApply_info h hx ha hs hl hro]
  unfold State.regTake freeBits
  generalize (x.base == R.LG_BITSLIP 0) = b
  cases L <;> cases b <;> simp only [Bool.false_eq_true, if_true, if_false, false_and, true_and] <;>
    (split; rfl; try (split <;> rfl))

/-- A write of a whole register by a class that has the right: all that it can do. -/
theorem State.regSet_take {s : State} {mm : Master} {key : Nat} {x : RegInfo} (h : regInfo key = some x) (hx : x.sh = false)
    (w : x.width = 32 ∨ x.width = 64) (hk : key % 8 = 0) (hr : s.mpuRight mm (key / 0x40000) true = true)
    {v : Word} {env : Option Bool} {L : Bool} {ro : Nat} (ha : s.absent key = false)
    (hs : ∀ v m, s.sliceWrite key v m = none) (hl : s.lkHeld key = L) (hro : s.roBits key = ro) :
    s.regSet mm key v env =
      (let m := 2 ^ x.width - 1
      let u := s.regTake x key (BitVec.ofNat 64 (v.toNat % 2 ^ x.width)) m (freeBits x m ro L) ro env
      if (if L then x.lk else 0) &&& m ≠ 0 then u.violate mm key (x.width / 8) true true else u) := by
  obtain ⟨d, hd, rfl⟩ := regInfo_def h
  have e := State.regApply_take (s := s) (m := 2 ^ d.width - 1) (v := BitVec.ofNat 64 (v.toNat % 2 ^ d.width)) (env := env)
    h hx ha (hs _ _) hl hro
  rw [State.regSet_eq hd w hk hr e]
  simp only [RegDef.info]
  split <;> split <;> simp_all

/-- A write by a class without the right is a violation and changes no register. -/
theorem State.regSet_denied {s : State} {m : Master} {key : Nat} {v : Word} {env : Option Bool} {x : RegInfo} (h : regInfo key = some x)
    (hr : s.mpuRight m (key / 0x40000) true = false) :
    s.regSet m key v env = s.violate m key (x.width / 8) true false := by
  obtain ⟨d, hd, rfl⟩ := regInfo_def h
  unfold State.regSet; rw [State.regWrite_denied hr]; simp [hd, RegDef.info]

/-- Below the port pages no register is absent. -/
theorem State.absent_low {s : State} {key : Nat} (h : key < R.PCP_PORT_CFG 0 0) : s.absent key = false := by
  unfold State.absent; simp; intro h'; omega

/-- Above the port pages no register is absent. -/
theorem State.absent_high {s : State} {key : Nat} (h : R.PCP_PORT_CFG 32 0 ≤ key) : s.absent key = false := by
  unfold State.absent; simp; intro _ h'; omega

/-- A register of a port that the image assigns is not absent. -/
theorem State.absent_has {s : State} {key : Nat} {p : Nat} (h : s.pagePort key = some p) : s.absent key = false := by
  unfold State.absent; simp [h]

/-- The LK fields of a register are held where its slot is locked. -/
theorem State.lkHeld_info {s : State} {key : Nat} {x : RegInfo} (h : regInfo key = some x) (hx : (x.base == R.MPU_SLOT 0) = false)
    (hk : key < 0x4000000) : s.lkHeld key = s.slotLocked (key / 0x40000) := by
  unfold State.lkHeld; rw [isReg_info h, hx]; simp [hk]

/-- Only the registers of the data mover are written through its slices. -/
theorem State.sliceWrite_low {s : State} {key : Nat} {b : Nat} (h : regBase key = b) (hb : b < 0x4000000) (v : Word) (m : Nat) :
    s.sliceWrite key v m = none := by
  unfold State.sliceWrite; simp only [h]
  rw [if_neg (by simp only [R.DMV_DB_SQ_PI]; omega), if_neg (by simp only [R.DMV_DB_CQ_CI]; omega),
    if_neg (by simp only [R.DMV_SLICE_CTL]; omega)]

/-- A 32-bit write carries every bit that a 32-bit register takes. -/
theorem mixBits_low32 (x v : Word) (k : Nat) (h : k < 2 ^ 32) : mixBits x (BitVec.ofNat 64 (v.toNat % 4294967296)) k = mixBits x v k := by
  unfold mixBits
  congr 1
  apply BitVec.eq_of_toNat_eq
  simp only [BitVec.toNat_and, BitVec.toNat_ofNat]
  apply Nat.eq_of_testBit_eq
  intro i
  simp only [Nat.testBit_and]
  rw [show (4294967296:Nat) = 2^32 from rfl]
  simp only [Nat.testBit_mod_two_pow]
  by_cases h32 : i < 32
  · have h64 : i < 64 := by omega
    simp [h32, h64]
  · have : k.testBit i = false := Nat.testBit_lt_two_pow (lt_of_lt_of_le h (Nat.pow_le_pow_right (by decide) (by omega)))
    simp [this]

/-- A 64-bit write carries every bit. -/
theorem mixBits_full (v : Word) : BitVec.ofNat 64 (v.toNat % 18446744073709551616) = v := by
  apply BitVec.eq_of_toNat_eq; rw [BitVec.toNat_ofNat]; have := v.isLt; omega

/-- All bits of a word. -/
theorem and_ones (x : Word) : x &&& 18446744073709551615#64 = x := by
  have : (18446744073709551615#64) = BitVec.allOnes 64 := rfl
  rw [this, BitVec.and_allOnes]

/-- The registers that are looked at by their key are the first, or the only one, of their definition. -/
theorem regBase_fixed : [R.XBC_CFG, R.CMT_CFG, R.RTE_CFG, R.RTE_ESC_THR, R.RTE_FLOW_CFG, R.TMG_HIST_CFG, R.BRG_CFG, R.BRG_TRK_CFG,
    R.WLG_CFG, R.TBM_CFG, R.CTL_COMMIT_CFG, R.TMG_SNAP_SEL, R.SEC_LC_CMD, R.SEC_FLASH_CMD, R.AGE_CFG, R.AGE_MARGIN_CFG,
    R.PMC_DUMP_CFG, R.PMC_SMP_CFG, R.DCT_CFG, R.PWR_CFG, R.PWR_WAKE_CFG, R.CLK_PTM_CFG, R.DEV_THERM_CFG, R.AGE_CAL_SEC,
    R.AGE_LEDGER_SEL, R.DEV_GPIO_CFG, R.DEV_GPIO_DATA, R.CLK_RESET, R.TMG_CAL_CFG, R.CTL_CI 0, R.CTL_PI 0, R.CTL_CFG 0].all
    (fun k => regBase k == k) = true := by decide +kernel

/-- Only the calendar is held elsewhere than among the written registers. -/
theorem State.held_ne {s : State} {key : Nat} (h : key ≠ R.AGE_CAL_SEC) : s.held key = s.raw key := by
  unfold State.held; rw [if_neg h]

/-! ### The registers that rows of the table write -/

theorem regInfo_CTL_PI : ∀ i < 5, regInfo (R.CTL_PI i) = some
    { base := 0x40010, width := 0x20, rw := 0x1FFFF } := by decide +kernel

theorem regInfo_CTL_CI : ∀ i < 5, regInfo (R.CTL_CI i) = some
    { base := 0x40018, width := 0x20, rw := 0x1FFFF } := by decide +kernel

theorem regInfo_CTL_CFG : ∀ i < 5, regInfo (R.CTL_CFG i) = some
    { base := 0x40008, width := 0x20, quiesce := 0x1F, rw := 0x8FFFFF00 } := by decide +kernel

theorem regInfo_CTL_STAT : ∀ i < 5, regInfo (R.CTL_STAT i) = some
    { base := 0x40020, width := 0x20, clears := 0x40000000 } := by decide +kernel

theorem regInfo_XBC_SMP_CFG : ∀ i < 128, regInfo (R.XBC_SMP_CFG i) = some
    { base := 0x280800, width := 0x20, lk := 0xC000FFFF, rw := 0xC000FFFF } := by decide +kernel

theorem regInfo_TMG_SNAP_SEL : regInfo R.TMG_SNAP_SEL = some
    { base := 0x340018, width := 0x20, rw := 0x80007FFF } := by decide +kernel

theorem regInfo_PCP_CFGRQ : ∀ i < 32, ∀ j < 4, regInfo (R.PCP_CFGRQ i j) = some
    { base := 0xC80040, width := 0x40, lk := 0x7C00FFFF0000FFC, rw := 0x7C00FFFF0000FFC, ones := 0x8000000000000000 } := by decide +kernel

theorem regInfo_SGL_CFG : ∀ i < 32, ∀ j < 4, regInfo (R.SGL_CFG i j) = some
    { base := 0xC88000, width := 0x40, lk := 0x3EFF00FFFFFFFF, quiesce := 0x30000000000000, rw := 0xEFF00FFFFFFFF } := by decide +kernel

theorem regInfo_SGL_SWAP_CMD : ∀ i < 32, ∀ j < 4, regInfo (R.SGL_SWAP_CMD i j) = some
    { base := 0xC88010, width := 0x20, lk := 0xF, rw := 0xF, ones := 0x80000000 } := by decide +kernel

theorem regInfo_LG_BITSLIP : ∀ i < 32, regInfo (R.LG_BITSLIP i) = some
    { base := 0x480010, width := 0x20, lk := 0x7F00000, rw := 0x7FF00000, ones := 0x80000000 } := by decide +kernel

theorem regInfo_LG_EYE_CFG : ∀ i < 32, regInfo (R.LG_EYE_CFG i) = some
    { base := 0x480020, width := 0x40, lk := 0x7FFFFFC000000000, rw := 0x7FFFFFC000000000, ones := 0x8000000000000000 } := by decide +kernel

theorem regInfo_LG_TEST : ∀ i < 32, ∀ j < 9, regInfo (R.LG_TEST i j) = some
    { base := 0x480108, width := 0x20, lk := 0xF7C00000, quiesce := 0xF7C00000, ones := 0x8000000, clears := 0x100000 } := by decide +kernel

theorem regInfo_WLG_CTX_CFG : ∀ i < 1024, regInfo (R.WLG_CTX_CFG i) = some
    { base := 0x410000, width := 0x40, lk := 0xFE0FFFFF000FFFFF, quiesce := 0x7E0FFFFF000FFFFF, rw := 0x8000000000000000 } := by
  decide +kernel

theorem regInfo_PWR_PAD_HOLD : ∀ i < 2, regInfo (R.PWR_PAD_HOLD i) = some
    { base := 0x100040, width := 0x40, ones := 0xFFFFFFFFFFFFFFFF } := by decide +kernel

theorem regInfo_FCR_FORCE : ∀ i < 24, regInfo (R.FCR_FORCE i) = some
    { base := 0x80500, width := 0x40, ones := 0xFFFFFFFFFFFFFFFF } := by decide +kernel

theorem regInfo_FCR_CFG : regInfo R.FCR_CFG = some
    { base := 0x80000, width := 0x20, lk := 0x80000000, rw := 0x80000000, clears := 0x60000000 } := by decide +kernel

theorem regInfo_SEC_LC_CMD : regInfo R.SEC_LC_CMD = some
    { base := 0x180018, width := 0x20, lk := 0xB8000000, rw := 0x38000000, ones := 0x80000000 } := by decide +kernel

theorem regInfo_SEC_FLASH_CMD : regInfo R.SEC_FLASH_CMD = some
    { base := 0x180028, width := 0x20, lk := 0xB0001FFF, rw := 0x30001FFF, ones := 0x80000000 } := by decide +kernel

theorem regInfo_MPU_SLOT : ∀ i < 256, regInfo (R.MPU_SLOT i) = some
    { base := 0xC0400, width := 0x20, lk := 0xFF, rw := 0xFF, ones := 0x80000000 } := by decide +kernel

theorem regInfo_MPU_VIOL : regInfo R.MPU_VIOL = some
    { base := 0xC0000, width := 0x40, clears := 0x8000000000000000 } := by decide +kernel

theorem regInfo_AGE_CFG : regInfo R.AGE_CFG = some
    { base := 0x1C0000, width := 0x20, lk := 0xC00007FF, rw := 0xC00007FF, ones := 0x20000000 } := by decide +kernel

theorem regInfo_AGE_LEDGER_SEL : regInfo R.AGE_LEDGER_SEL = some
    { base := 0x1C0020, width := 0x20, rw := 0x7FF, ones := 0x80000000 } := by decide +kernel

theorem regInfo_AGE_CAL_SEC : regInfo R.AGE_CAL_SEC = some
    { base := 0x1C0018, width := 0x40, lk := 0xFFFFFFFFFFFF, rw := 0xFFFFFFFFFFFF } := by decide +kernel

theorem regInfo_PMC_SEL : ∀ i < 2048, regInfo (R.PMC_SEL i) = some
    { base := 0x210000, width := 0x40, lk := 0xB000FFFF8FFFFF00, rw := 0xB000FFFF8FFFFF00, ones := 0x4000000000000000 } := by decide +kernel

theorem regInfo_CLK_RESET : regInfo R.CLK_RESET = some
    { base := 0x140018, width := 0x20, ones := 0x80000000 } := by decide +kernel

theorem regInfo_DMV_FAIL_CFG : ∀ i < 32, regInfo (R.DMV_FAIL_CFG i) = some
    { base := 0x10000008, width := 0x20, quiesce := 0x1F, rw := 0x8FFFFF00 } := by decide +kernel

theorem regInfo_DMV_FAIL_CI : ∀ i < 32, regInfo (R.DMV_FAIL_CI i) = some
    { base := 0x10000018, width := 0x20, rw := 0x1FFFF } := by decide +kernel

theorem regInfo_DMV_FAIL_STAT : ∀ i < 32, regInfo (R.DMV_FAIL_STAT i) = some
    { base := 0x10000020, width := 0x20, clears := 0x40000000 } := by decide +kernel

end Sys2Proof.Machine
end

