-- ==== Sys2Proof/Laws/Settle.lean ====
section
/-! SUPPORT. What follows a command: work in hand is finished, and a state that has none is left as it is. -/

namespace Sys2Proof.Machine

/-- Work in hand ends with none left. -/
@[simp] theorem State.runJobs_jobs (s : State) (n : Nat) : (s.runJobs n).xbc.jobs = [] := by
  induction n generalizing s with
  | zero => rfl
  | succ n ih => unfold State.runJobs; split <;> simp_all

/-- A calm state is settled. -/
theorem State.settle_calm {s : State} (h : s.calm = true) : s.settle = s := by
  unfold State.settle; simp [h]

/-- A core that is off, in keep-warm or held in reset sets nothing off. -/
theorem State.settle_off {s : State} (h : s.aon.mode ≠ 0) : s.settle = s := by
  unfold State.settle; simp [h]

/-- A settled state that runs has no work in hand. -/
theorem State.settle_jobs {s : State} (h : s.settle.aon.mode = 0) : s.settle.xbc.jobs = [] := by
  revert h
  unfold State.settle
  split
  · rename_i c
    intro hm
    rcases c with c | c
    · exact absurd hm c
    · simp only [State.calm, Bool.and_eq_true, List.isEmpty_iff] at c
      tauto
  · exact fun _ => State.runJobs_jobs _ _

/-- A command of a part that does not run lets time pass. -/
theorem State.running_off {s : State} {dt : Nat} {f : State → State} (h : s.aon.mode ≠ 0) : State.running s dt f = .next (s.elapse dt) :=
  congrArg Host.Outcome.next (if_neg h)

theorem State.alone_off {s : State} {dt : Nat} {f : State → State} (h : s.aon.mode ≠ 0) : State.alone s dt f = .next (s.elapse dt) :=
  congrArg Host.Outcome.next (if_neg h)

end Sys2Proof.Machine
end

