-- ==== Sys2Proof/Tests/Slice0.lean ====
section
/-! SUPPORT. Tests: what WellFormed refuses, small facts with values from the manual's own examples, and for every statement
with hypotheses a state and operands that meet them, clause by clause (`witness_<statement>_<clause>`). -/

namespace Sys2Proof
open Machine

set_option Elab.async false

/-! ### Well-formed commands -/

/-- Each of these has one operand just outside its range, and is refused. -/
theorem test_ill_formed_0 : ([
    .mcrDoorbell 0 .manager 131072,
    .ringCiWrite 0 .manager .mcr 131072,
    .nop 0 { tag := 2 ^ 16 },
    .tableWrite 0 { tag := 2 ^ 16 } { tableId := 0, copy := 0, first := 0, count := 0, addr := 0 } (none),
    .tableRead 0 { tag := 2 ^ 16 } { tableId := 0, copy := 0, first := 0, count := 0, addr := 0 },
    .commit 0 { tag := 2 ^ 16 },
    .portAdoptEpoch 0 128,
    .shadowDiscard 0 { tag := 2 ^ 16 },
    .harvest 0 { tag := 2 ^ 16 } { ctx := 0, flags := 0, maxEnt := 0, addr := 0 },
    .powerStateTrim 0 { tag := 2 ^ 16 } 0 0,
    .powerStateTrim 0 {} 256 0,
    .powerStateTrim 0 {} 0 (2 ^ 64),
    .powerStateKeepWarm 0 { tag := 2 ^ 16 } { flags := 0, drainMs := 0, wakeAfter := 0 },
    .powerStateOff 0 { tag := 2 ^ 16 } { flags := 0, drainMs := 0, wakeAfter := 0 },
    .decantArm 0 { tag := 2 ^ 16 } 0,
    .decantArm 0 {} 256,
    .counterDump 0 { tag := 2 ^ 16 } 0 (false),
    .counterDump 0 {} 256 (false),
    .faultAck 0 { tag := 2 ^ 16 } 0 0 0,
    .faultAck 0 {} 0 0 256,
    .unlistedOpcode 0 { tag := 2 ^ 16 } 0,
    .unlistedOpcode 0 {} 256,
    .tlpReceive 0 128 .discard,
    .lookupResume 0 .internal 8,
    .egressSelect 0 128 ([]),
    .egressSendDone 0 128,
    .ctStallTimeout 0 128,
    .ageSweep 0 8,
    .samplingEnable 0 .manager 128 0,
    .fenceMessage 0 32 0 0 { fenceId := 0, group := 0, recordAddr := 0 }] : List Instr).all (fun c => c.wf == false) = true := by decide +kernel

/-- Each of these has one operand just outside its range, and is refused. -/
theorem test_ill_formed_1 : ([
    .fenceMessage 0 0 8 0 { fenceId := 0, group := 0, recordAddr := 0 },
    .flushSend 0 0 4,
    .gapTimeout 0 65536,
    .seqSkip 0 128 0 0 0 0,
    .seqSkip 0 0 4096 0 0 0,
    .seqSkip 0 0 0 4096 0 0,
    .seqSkip 0 0 0 0 8 0,
    .seqSkip 0 0 0 0 0 65536,
    .escape 0 32768,
    .wheelSlot 0 8 0,
    .wheelSlot 0 0 65536,
    .histogramSample 0 8,
    .snapshot 0 .manager (false) 32768,
    .pwfNote 0 128 { cause := 0, dst := 0, src := 0, tc := 0, seq := 0, length := 0, offset := 0, reqId := 0, reporter := 0, pasid := none },
    .lockReq 0 128 0 0,
    .lockReq 0 0 4096 0,
    .lockReq 0 0 0 4096,
    .lockGrant 0 128 0 0 0,
    .lockGrant 0 0 4096 0 0,
    .lockGrant 0 0 0 4096 0,
    .lockGrant 0 0 0 0 65536,
    .lockRelease 0 128 0 0 0,
    .lockRelease 0 0 4096 0 0,
    .lockRelease 0 0 0 4096 0,
    .lockRelease 0 0 0 0 65536,
    .lockBreak 0 128 0 0 0 0,
    .lockBreak 0 0 256 0 0 0,
    .lockBreak 0 0 0 4096 0 0,
    .lockBreak 0 0 0 0 4096 0,
    .lockBreak 0 0 0 0 0 65536] : List Instr).all (fun c => c.wf == false) = true := by decide +kernel

/-- Each of these has one operand just outside its range, and is refused. -/
theorem test_ill_formed_2 : ([
    .lockGrantTimeout 0 32,
    .cfgrqGo 0 .manager 128 { write := false, be := 0, bdf := 0, dw := 0 },
    .cfgrqDone 0 128 0 0,
    .cfgrqDone 0 0 8 0,
    .cfgrqTimeout 0 128,
    .pcieLinkUp 0 128 { rate := 0, lanes := 0, flit := false, ph := 0, pd := 0, nph := 0, npd := 0, ch := 0, cd := 0 },
    .pcieLinkDown 0 128,
    .aspmL1Entry 0 128,
    .l0pNarrow 0 128 0,
    .perstN 0 128 (false),
    .hotReset 0 128,
    .secondaryBusReset 0 128,
    .vsReady 0 32,
    .busMasterClear 0 128,
    .dpcRelease 0 128,
    .slotPerstDeassert 0 128,
    .pcieReplayTimeout 0 128 (false),
    .flitSend 0 128 (false),
    .flitReceive 0 128 (List.replicate 256 0),
    .flitReceive 0 0 [],
    .ack 0 128 (false) 0,
    .ack 0 0 (false) 4096,
    .replayTimer 0 128,
    .credit 0 128 0 0 (List.replicate 6 (0, 0)),
    .credit 0 0 256 0 (List.replicate 6 (0, 0)),
    .credit 0 0 0 256 (List.replicate 6 (0, 0)),
    .credit 0 0 0 0 [],
    .creditInit 0 128 0 0 (List.replicate 6 (0, 0)),
    .creditInit 0 0 256 0 (List.replicate 6 (0, 0)),
    .creditInit 0 0 0 256 (List.replicate 6 (0, 0))] : List Instr).all (fun c => c.wf == false) = true := by decide +kernel

/-- Each of these has one operand just outside its range, and is refused. -/
theorem test_ill_formed_3 : ([
    .creditInit 0 0 0 0 [],
    .linkParam 0 128 0 0,
    .linkParam 0 0 4096 0,
    .linkParam 0 0 0 128,
    .linkInitTimeout 0 128,
    .swapCmd 0 .manager 128 0,
    .swapCmd 0 .manager 0 16,
    .laneSwap 0 128 0,
    .laneSwap 0 0 256,
    .laneSwapAck 0 128 0 0 0,
    .laneSwapAck 0 0 256 0 0,
    .laneSwapAck 0 0 0 256 0,
    .laneSwapAck 0 0 0 0 4096,
    .laneSwapDone 0 128 0,
    .laneSwapDone 0 0 256,
    .laneSwapTimeout 0 128,
    .retrainPattern 0 { port := 128, lanes := 0 },
    .retrainDone 0 128,
    .retrainTimeout 0 128,
    .alignmentLoss 0 128 0 (false),
    .alignmentLoss 0 0 16 (false),
    .bringupRetry 0 128,
    .adminDown 0 .manager 128,
    .adminUp 0 .manager 128,
    .cdrLock 0 32 0,
    .cdrLock 0 0 9,
    .adapted 0 32 0 ([]),
    .adapted 0 0 9 ([]),
    .bitslipTry 0 32 0 { blk := [], skew := 0 },
    .bitslipTry 0 0 9 { blk := [], skew := 0 }] : List Instr).all (fun c => c.wf == false) = true := by decide +kernel

/-- Each of these has one operand just outside its range, and is refused. -/
theorem test_ill_formed_4 : ([
    .bitslipDone 0 .manager 32,
    .txeqRound 0 32 0 .none (false),
    .txeqRound 0 0 9 .none (false),
    .alignDone 0 128 (none),
    .bringupTimeout 0 128,
    .driftCheck 0 32 0 ([]) 0,
    .driftCheck 0 0 9 ([]) 0,
    .freezeEnd 0 32 0,
    .freezeEnd 0 0 9,
    .eyeScanGo 0 .manager 32 { lane := 0, eye := 0, h := 0, v := 0, dwell := 0 } (false),
    .eyePointDone 0 32 0 (false),
    .prbsInject 0 .manager 32 0,
    .prbsInject 0 .manager 0 9,
    .cdrLost 0 32 0,
    .cdrLost 0 0 9,
    .prbsCheckerLock 0 32 0,
    .prbsCheckerLock 0 0 9,
    .prbsCheckerUnlock 0 32 0 0,
    .prbsCheckerUnlock 0 0 9 0,
    .sqDoorbell 0 4096 0,
    .sqDoorbell 0 0 131072,
    .cqDoorbell 0 4096 0,
    .cqDoorbell 0 0 131072,
    .sliceEnable 0 4096,
    .sliceDisable 0 4096,
    .sliceAbort 0 4096,
    .descriptorFetch 0 4096 (List.replicate 64 0) (false),
    .descriptorFetch 0 0 [] (false),
    .descNop 0 4096,
    .descCopy 0 4096] : List Instr).all (fun c => c.wf == false) = true := by decide +kernel

/-- Each of these has one operand just outside its range, and is refused. -/
theorem test_ill_formed_5 : ([
    .descFill 0 4096,
    .descCompare 0 4096,
    .descFence 0 4096,
    .descChecksum 0 4096,
    .dmvReadTimeout 0 4096 0 0,
    .cqEntryWrite 0 4096,
    .dmvFlr 0 32,
    .dmvBusMasterClear 0 32,
    .dmvBusMasterSet 0 32,
    .contextEnable 0 .manager 1024 0,
    .contextReady 0 1024,
    .contextDisable 0 .manager 1024 0,
    .portFlush 0 128,
    .padRelease 0 .manager 2 0,
    .padRelease 0 .manager 0 (2 ^ 64),
    .spcSample 0 32 ({}),
    .fastTrip 0 { ctl := 32, rail := 0, shunt := 0 },
    .fastTrip 0 { ctl := 0, rail := 2, shunt := 0 },
    .fastTrip 0 { ctl := 0, rail := 0, shunt := 65536 },
    .timerTrip 0 32 ({}),
    .rampTmo 0 32 ({}),
    .inputTurnOff 0 32 ({}),
    .presenceLost 0 32 ({}),
    .insertionDelayEnd 0 32 ({}),
    .rearmHoldEnd 0 32 ({}),
    .slotEnable 0 32,
    .slotDisable 0 32,
    .analogLoss { dt := 0, ctls := 0 },
    .analogLoss { dt := 0, ctls := (2 ^ 32) },
    .attentionButtonPressed 0 32] : List Instr).all (fun c => c.wf == false) = true := by decide +kernel

/-- Each of these has one operand just outside its range, and is refused. -/
theorem test_ill_formed_6 : ([
    .faultForce 0 .manager 24 0,
    .faultForce 0 .manager 0 (2 ^ 64),
    .arbitrationPhase 0 4 0 ([]),
    .urgent 0 4 0 0,
    .urgent 0 0 32 0,
    .patrolScrub 0 4 ([]),
    .fillDone 0 4,
    .dieFail 0 4,
    .lifecycleGo 0 .manager 8,
    .flashErase 0 .manager 8192,
    .flashProgram 0 .manager 8192,
    .flashRead 0 .manager 8192,
    .getVersion 0 33,
    .getCapabilities 0 33,
    .negotiateAlgorithms 0 33,
    .getDigests 0 33,
    .getCertificate 0 33 0 0 0,
    .getMeasurements 0 33 0 (false) (List.replicate 32 0),
    .getMeasurements 0 0 256 (false) (List.replicate 32 0),
    .getMeasurements 0 0 0 (false) [],
    .keyExchange 0 33 ([]),
    .query 0 0 256,
    .mpuLock 0 .manager 256,
    .challenge 0 33 0 (List.replicate 32 0),
    .challenge 0 0 0 [],
    .engineWatchdog 0 144,
    .ledgerRead 0 .manager 2048,
    .calendarSet 0 .manager (2 ^ 48),
    .counterClear 0 .manager 2048,
    .ptmCapture 0 128 0] : List Instr).all (fun c => c.wf == false) = true := by decide +kernel

/-- Each of these has one operand just outside its range, and is refused. -/
theorem test_ill_formed_7 : ([
    .ptmCapture 0 0 (2 ^ 64),
    .aspmL1Exit 0 128] : List Instr).all (fun c => c.wf == false) = true := by decide +kernel

/-- Commands with every operand at its least value are well formed. -/
theorem test_well_formed_0 : ([
    .mcrDoorbell 0 .manager 0,
    .ringCiWrite 0 .manager .mcr 0,
    .nop 0 {},
    .tableWrite 0 {} { tableId := 0, copy := 0, first := 0, count := 0, addr := 0 } (none),
    .tableRead 0 {} { tableId := 0, copy := 0, first := 0, count := 0, addr := 0 },
    .commit 0 {},
    .portAdoptEpoch 0 0,
    .shadowDiscard 0 {},
    .harvest 0 {} { ctx := 0, flags := 0, maxEnt := 0, addr := 0 },
    .powerStateTrim 0 {} 0 0,
    .powerStateKeepWarm 0 {} { flags := 0, drainMs := 0, wakeAfter := 0 },
    .powerStateOff 0 {} { flags := 0, drainMs := 0, wakeAfter := 0 },
    .decantArm 0 {} 0,
    .counterDump 0 {} 0 (false),
    .faultAck 0 {} 0 0 0,
    .unlistedOpcode 0 {} 0,
    .tlpReceive 0 0 .discard,
    .lookupResume 0 .internal 0,
    .egressSelect 0 0 ([]),
    .egressSendDone 0 0,
    .ctStallTimeout 0 0,
    .ageSweep 0 0,
    .samplingEnable 0 .manager 0 0,
    .fenceMessage 0 0 0 0 { fenceId := 0, group := 0, recordAddr := 0 },
    .flushSend 0 0 0,
    .gapTimeout 0 0,
    .seqSkip 0 0 0 0 0 0,
    .escape 0 0,
    .wheelSlot 0 0 0,
    .histogramSample 0 0,
    .snapshot 0 .manager (false) 0,
    .pwfNote 0 0 { cause := 0, dst := 0, src := 0, tc := 0, seq := 0, length := 0, offset := 0, reqId := 0, reporter := 0, pasid := none },
    .lockReq 0 0 0 0,
    .lockGrant 0 0 0 0 0,
    .lockRelease 0 0 0 0 0,
    .lockBreak 0 0 0 0 0 0,
    .lockGrantTimeout 0 0,
    .cfgrqGo 0 .manager 0 { write := false, be := 0, bdf := 0, dw := 0 },
    .cfgrqDone 0 0 0 0,
    .cfgrqTimeout 0 0] : List Instr).all (fun c => c.wf == true) = true := by decide +kernel

/-- Commands with every operand at its least value are well formed. -/
theorem test_well_formed_1 : ([
    .pcieLinkUp 0 0 { rate := 0, lanes := 0, flit := false, ph := 0, pd := 0, nph := 0, npd := 0, ch := 0, cd := 0 },
    .pcieLinkDown 0 0,
    .aspmL1Entry 0 0,
    .l0pNarrow 0 0 0,
    .perstN 0 0 (false),
    .hotReset 0 0,
    .secondaryBusReset 0 0,
    .vsReady 0 0,
    .busMasterClear 0 0,
    .dpcRelease 0 0,
    .slotPerstDeassert 0 0,
    .pcieReplayTimeout 0 0 (false),
    .flitSend 0 0 (false),
    .flitReceive 0 0 (List.replicate 256 0),
    .ack 0 0 (false) 0,
    .replayTimer 0 0,
    .credit 0 0 0 0 (List.replicate 6 (0, 0)),
    .creditInit 0 0 0 0 (List.replicate 6 (0, 0)),
    .linkParam 0 0 0 0,
    .linkInitTimeout 0 0,
    .swapCmd 0 .manager 0 0,
    .laneSwap 0 0 0,
    .laneSwapAck 0 0 0 0 0,
    .laneSwapDone 0 0 0,
    .laneSwapTimeout 0 0,
    .retrainPattern 0 { port := 0, lanes := 0 },
    .retrainDone 0 0,
    .retrainTimeout 0 0,
    .alignmentLoss 0 0 0 (false),
    .bringupRetry 0 0,
    .adminDown 0 .manager 0,
    .adminUp 0 .manager 0,
    .cdrLock 0 0 0,
    .adapted 0 0 0 ([]),
    .bitslipTry 0 0 0 { blk := [], skew := 0 },
    .bitslipDone 0 .manager 0,
    .txeqRound 0 0 0 .none (false),
    .alignDone 0 0 (none),
    .bringupTimeout 0 0,
    .driftCheck 0 0 0 ([]) 0] : List Instr).all (fun c => c.wf == true) = true := by decide +kernel

/-- Commands with every operand at its least value are well formed. -/
theorem test_well_formed_2 : ([
    .freezeEnd 0 0 0,
    .eyeScanGo 0 .manager 0 { lane := 0, eye := 0, h := 0, v := 0, dwell := 0 } (false),
    .eyePointDone 0 0 0 (false),
    .prbsInject 0 .manager 0 0,
    .cdrLost 0 0 0,
    .prbsCheckerLock 0 0 0,
    .prbsCheckerUnlock 0 0 0 0,
    .sqDoorbell 0 0 0,
    .cqDoorbell 0 0 0,
    .sliceEnable 0 0,
    .sliceDisable 0 0,
    .sliceAbort 0 0,
    .descriptorFetch 0 0 (List.replicate 64 0) (false),
    .descNop 0 0,
    .descCopy 0 0,
    .descFill 0 0,
    .descCompare 0 0,
    .descFence 0 0,
    .descChecksum 0 0,
    .dmvReadTimeout 0 0 0 0,
    .cqEntryWrite 0 0,
    .dmvFlr 0 0,
    .dmvBusMasterClear 0 0,
    .dmvBusMasterSet 0 0,
    .contextEnable 0 .manager 0 0,
    .contextReady 0 0,
    .contextDisable 0 .manager 0 0,
    .portFlush 0 0,
    .padRelease 0 .manager 0 0,
    .spcSample 0 0 ({}),
    .fastTrip 0 { ctl := 0, rail := 0, shunt := 0 },
    .timerTrip 0 0 ({}),
    .rampTmo 0 0 ({}),
    .inputTurnOff 0 0 ({}),
    .presenceLost 0 0 ({}),
    .insertionDelayEnd 0 0 ({}),
    .rearmHoldEnd 0 0 ({}),
    .slotEnable 0 0,
    .slotDisable 0 0,
    .analogLoss { dt := 0, ctls := 1 }] : List Instr).all (fun c => c.wf == true) = true := by decide +kernel

/-- Commands with every operand at its least value are well formed. -/
theorem test_well_formed_3 : ([
    .attentionButtonPressed 0 0,
    .faultForce 0 .manager 0 0,
    .arbitrationPhase 0 0 0 ([]),
    .urgent 0 0 0 0,
    .patrolScrub 0 0 ([]),
    .fillDone 0 0,
    .dieFail 0 0,
    .lifecycleGo 0 .manager 0,
    .flashErase 0 .manager 0,
    .flashProgram 0 .manager 0,
    .flashRead 0 .manager 0,
    .getVersion 0 0,
    .getCapabilities 0 0,
    .negotiateAlgorithms 0 0,
    .getDigests 0 0,
    .getCertificate 0 0 0 0 0,
    .getMeasurements 0 0 0 (false) (List.replicate 32 0),
    .keyExchange 0 0 ([]),
    .query 0 0 0,
    .mpuLock 0 .manager 0,
    .challenge 0 0 0 (List.replicate 32 0),
    .engineWatchdog 0 0,
    .ledgerRead 0 .manager 0,
    .calendarSet 0 .manager 0,
    .counterClear 0 .manager 0,
    .ptmCapture 0 0 0,
    .aspmL1Exit 0 0] : List Instr).all (fun c => c.wf == true) = true := by decide +kernel

/-! ### Helpers -/

/-- A small part that runs: a PCI Express upstream port 0 of virtual switch 0, downstream ports 4 and 5 of port group 1, the
Scango links 8 and 9, and an enabled MCR with one command, and an enabled EVR. -/
def base : State :=
  ({ State.reset with
    cfg := { State.reset.cfg with
      ports := [(0, { vs := 0, role := 0 }), (4, { group := 1, role := 1 }), (5, { group := 1, inst := 1, role := 2 }),
        (8, { scango := true, group := 2, role := 3 }), (9, { scango := true, group := 2, inst := 1, role := 3 })] }
    pcp := [(0, { up := true, perst := false }), (4, { up := true }), (5, { up := true })]
    sgl := [(8, { st := 3 }), (9, { st := 3 })] } : State)
    |>.setRaw (R.CTL_CFG 0) 0x80100106 |>.setRaw (R.CTL_PI 0) 1 |>.setRaw (R.CTL_CFG 1) 0x80100106

/-- A result that is there, with the two parts of it. -/
theorem took {α β : Type} [Inhabited α] [Inhabited β] {o : Option (α × β)} (h : o.isSome = true) :
    o = some ((o.getD default).1, (o.getD default).2) := by
  cases o with
  | none => cases h
  | some x => rfl

/-- A result that is there. -/
theorem got {α : Type} [Inhabited α] {o : Option α} (h : o.isSome = true) : o = some (o.getD default) := by
  cases o with
  | none => cases h
  | some x => rfl

/-- A part with port 0 alone, whose configuration passes the checks of a commit. -/
def good : State :=
  let s : State := { base with
    cfg := { base.cfg with
      ports := [(0, {})]
      img := []
      onDieSh := ((List.range 8).map fun i => [(0x6000004 + 512 * i, 64#8), (0x600000E + 512 * i, 64#8)]).flatten } }
  (List.range 8).foldl (fun x i => (x.setRaw (R.XBC_AGE_LIMIT_TC i) 10).setRaw (R.RTE_GAP_TMO_TC i) 1) s

/-- A pair is its two parts. -/
theorem parts2 {α β : Type} (x : α × β) : x = (x.1, x.2) := rfl

/-- Three parts. -/
theorem parts3 {α β γ : Type} (x : α × β × γ) : x = (x.1, x.2.1, x.2.2) := rfl

/-- Four parts. -/
theorem parts4 {α β γ δ : Type} (x : α × β × γ × δ) : x = (x.1, x.2.1, x.2.2.1, x.2.2.2) := rfl

/-- A part that owns the function identifier 0, listed as that of virtual switch 3, its table memory with one region. -/
def owner : State :=
  let s : State := { base with
    cfg := { base.cfg with
      onDie := [(0x2000007, 0xC0#8)]
      img := [(R.RTE_SRC_FID 3, F.RTE_SRC_FID_VALID.set 0 1)] } }
  (s.setFld (R.TBM_REGION 0) F.TBM_REGION_VALID 1).setFld (R.TBM_REGION 0) F.TBM_REGION_SIZE 1024

/-- A pair with a known first part. -/
theorem second {α β : Type} {x : α × β} {b : α} (h : x.1 = b) : x = (b, x.2) := by subst h; rfl

/-- A part whose slice 4095 is assigned, enabled and allowed to make requests, with some descriptors. -/
def mover (ds : List SDesc) : State :=
  let s := ({ base with dmv := { slices := [(4095, { st := 1, descs := ds })] } } : State).setCfgDw (.dmv 0) 1 4
  let m := F.DMV_SLICE_MAP_TRK_MAX.set (F.DMV_SLICE_MAP_QUANTUM.set (F.DMV_SLICE_MAP_VALID.set 0 1) 4096) 1
  (s.setRaw (R.DMV_SLICE_MAP 4095) m).setRaw R.XBC_ALPHA 64

/-- A descriptor by its opcode, source, destination and length. -/
def desc (op src dst n : Nat) : SDesc := { bytes := padTo 64 (leBytes 8 op ++ leBytes 8 src ++ leBytes 8 dst ++ leBytes 4 n) }

/-- A result of three parts that is there. -/
theorem took3 {α β γ : Type} (d : α × β × γ) {o : Option (α × β × γ)} (h : o.isSome = true) :
    o = some ((o.getD d).1, (o.getD d).2.1, (o.getD d).2.2) := by
  cases o with
  | none => cases h
  | some x => rfl

/-- A session of a virtual switch whose requests are answered. -/
theorem session_ok {s : State} {id : Nat} (x : Session) (h : s.sec.sessions.find? (fun y => y.id == id) = some x)
    (h1 : x.via ≠ 32 ∧ s.spdmVia x.via = true) (h2 : s.spdmShut false = none) : s.ideSession id = (some x.via, s) := by
  simp [State.ideSession, h, h1, h2]

/-- A fold keeps what its steps keep. -/
theorem foldl_keeps {α β : Type} (P : α → Prop) (f : α → β → α) (h : ∀ a b, P a → P (f a b)) (l : List β) :
    ∀ a, P a → P (l.foldl f a) := by
  induction l with
  | nil => exact fun _ ha => ha
  | cons b l ih => exact fun a ha => ih _ (h a b ha)

/-- The registers that a cupping round writes are not AGE_MARGIN_CFG. -/
theorem cup_keeps (s : State) (l : List (Nat × Int)) (m : List (Nat × Nat)) :
    ((s.cupSlack l).cupRings m).raw R.AGE_MARGIN_CFG = s.raw R.AGE_MARGIN_CFG := by
  apply foldl_keeps (P := fun x : State => x.raw R.AGE_MARGIN_CFG = s.raw R.AGE_MARGIN_CFG)
  · intro a b h
    have hne : R.AGE_MARGIN_CFG ≠ R.AGE_RO b := by simp only [R.AGE_MARGIN_CFG, R.AGE_RO]; omega
    split
    · rw [State.raw_setRaw_ne _ _ hne]; exact h
    · split
      · rw [State.setFld, State.raw_setRaw_ne _ _ hne]; exact h
      · exact h
  · apply foldl_keeps (P := fun x : State => x.raw R.AGE_MARGIN_CFG = s.raw R.AGE_MARGIN_CFG)
    · intro a b h
      have hne : R.AGE_MARGIN_CFG ≠ R.AGE_PDM b := by simp only [R.AGE_MARGIN_CFG, R.AGE_PDM]; omega
      split
      · rw [State.raw_setRaw_ne _ _ hne]; exact h
      · split
        · rw [State.setFld, State.raw_setRaw_ne _ _ hne]; exact h
        · exact h
    · rfl

/-- A part whose slot power controller 31 stands at `x`, with rail 12 V in use, limited at 50 mV and cut at 100 mV,
and a fault time of `flt` samples. -/
def slot31 (x : SpcSt) (flt : Nat) : State :=
  let s := ({ base with now := 2 ^ 40, spc := [(31, x)] } : State).setFld (R.SPC_RAIL_CFG 31 0) F.SPC_RAIL_CFG_EN 1
  let s := (s.setFld (R.SPC_RAIL_CFG 31 0) F.SPC_RAIL_CFG_UV 1000).setFld (R.SPC_RAIL_CFG 31 0) F.SPC_RAIL_CFG_OV 1300
  let s := (s.setFld (R.SPC_RAIL_CFG 31 0) F.SPC_RAIL_CFG_LIM 250).setFld (R.SPC_RAIL_CFG 31 0) F.SPC_RAIL_CFG_FAST 200
  (s.setFld (R.SPC_RAIL_CFG 31 0) F.SPC_RAIL_CFG_PG 1000).setFld (R.SPC_TIMING 31) F.SPC_TIMING_FLT_TMO_US flt

/-- No BRG_WIN_PFDROP register is at address 0. -/
theorem pfdrop_pos (w : Nat) : 0 ≠ R.BRG_WIN_PFDROP w := by simp only [R.BRG_WIN_PFDROP]; omega
/-- Two parts of a fold with the value between them. -/
theorem foldl_two {α β : Type} {f : β → α → β} {x y l : List α} {a b c : β} (h : l = x ++ y) (h1 : x.foldl f a = b)
    (h2 : y.foldl f b = c) : l.foldl f a = c := by subst h; rw [List.foldl_append, h1, h2]

/-- A flit of 256 bytes whose CRC and codewords are good decodes to itself. -/
theorem decodes {f : List Byte} {v : Nat} (hp : padTo 256 f = f) (hc : (f.take 240).foldl crc64Byte (2 ^ 64 - 1) = v)
    (hv : beAt f 240 8 = v ^^^ (2 ^ 64 - 1)) (h0 : rsDecode 3 (codeword 0 0 f) = some (codeword 0 0 f, none))
    (h1 : rsDecode 2 (codeword 1 0 f) = some (codeword 1 0 f, none))
    (h2 : rsDecode 3 (codeword 2 0 f) = some (codeword 2 0 f, none))
    (hi : interleave 256 (codeword 0 0 f) (codeword 1 0 f) (codeword 2 0 f) 0 = f) : decodeFlit f = some (f, []) := by
  simp only [decodeFlit, hp, h0, h1, h2, hi, crc64, hc, hv]
  rfl

/-- A flit without payload: CREMA. -/
def cremaFlit : List Byte := [192, 3, 255, 255] ++ List.replicate 236 0 ++
  [255, 120, 56, 63, 101, 135, 111, 162, 13, 106, 37, 126, 156, 153, 51, 102]

theorem cremaFlit_decodes : decodeFlit cremaFlit = some (cremaFlit, []) :=
  decodes (v := 38218751895179357) (by decide +kernel)
    (foldl_two (x := cremaFlit.take 80) (y := (cremaFlit.drop 80).take 160) (b := 8166206285903979724) (by decide +kernel) (by decide +kernel)
      (foldl_two (x := (cremaFlit.drop 80).take 80) (y := (cremaFlit.drop 160).take 80) (b := 766171285660106466) (by decide +kernel) (by decide +kernel)
        (by decide +kernel)))
    (by decide +kernel) (by decide +kernel) (by decide +kernel) (by decide +kernel) (by decide +kernel)

/-- A flit without payload: DATA. -/
def dataFlit : List Byte := [64, 3, 255, 255] ++ List.replicate 236 0 ++
  [94, 27, 218, 31, 222, 228, 188, 214, 199, 76, 180, 222, 162, 164, 216, 172]

theorem dataFlit_decodes : decodeFlit dataFlit = some (dataFlit, []) :=
  decodes (v := 11665490579354764073) (by decide +kernel)
    (foldl_two (x := dataFlit.take 80) (y := (dataFlit.drop 80).take 160) (b := 15390878079095826616) (by decide +kernel) (by decide +kernel)
      (foldl_two (x := (dataFlit.drop 80).take 80) (y := (dataFlit.drop 160).take 80) (b := 2433104677957846523) (by decide +kernel) (by decide +kernel)
        (by decide +kernel)))
    (by decide +kernel) (by decide +kernel) (by decide +kernel) (by decide +kernel) (by decide +kernel)

/-- A flit without payload: IDLE. -/
def idleFlit : List Byte := [0, 3, 255, 255] ++ List.replicate 236 0 ++
  [14, 170, 43, 15, 131, 85, 85, 108, 137, 202, 56, 10, 180, 126, 2, 213]

theorem idleFlit_decodes : decodeFlit idleFlit = some (idleFlit, []) :=
  decodes (v := 17390039665509837459) (by decide +kernel)
    (foldl_two (x := idleFlit.take 80) (y := (idleFlit.drop 80).take 160) (b := 9797242020523699842) (by decide +kernel) (by decide +kernel)
      (foldl_two (x := (idleFlit.drop 80).take 80) (y := (idleFlit.drop 160).take 80) (b := 10740696507991475006) (by decide +kernel) (by decide +kernel)
        (by decide +kernel)))
    (by decide +kernel) (by decide +kernel) (by decide +kernel) (by decide +kernel) (by decide +kernel)

/-! ### Small facts -/

/-- The nine ASCII digits, the usual input of a CRC's check value. -/
def digits : List Byte := [0x31, 0x32, 0x33, 0x34, 0x35, 0x36, 0x37, 0x38, 0x39]

/-- R134's CRC-32C: the published check value of the Castagnoli polynomial (outside the manual). -/
theorem test_crc32c : crc32c 0 digits = 0xE3069283 := by decide +kernel

/-- R248's CRC-64: the published check value of its polynomial with ones before and after (outside the manual). -/
theorem test_crc64 : crc64 digits = 0x62EC59E3F1A4F00A := by decide +kernel

/-- R428's example: 0xA5 with check bits 0b00011 is a codeword. -/
theorem test_ecc_example : eccOf (0xA5 + 256 * 0b00011) = .ok := by decide +kernel

/-- R428: one flipped bit is corrected, two are not. -/
theorem test_ecc_single : eccOf 4 = .cor 0 := by decide +kernel

theorem test_ecc_double : eccOf 3 = .bad := by decide +kernel

/-- The manual's packet of 528 bytes takes 9 cells (03, A full device under incast). -/
theorem test_cells : ({ kind := .mwr, hlen := 16, len := 128 } : Hdr).cells = 9 := by decide +kernel

/-- The equilibrium of the same example: a host port of TC2 holds 24,576 shared cells with 196,608 free, and no more. -/
def incast (u : Nat) : State :=
  (({ base with xbc := { base.xbc with sharedUsed := 589824, occ := [(2, { shared := u })] } } : State).setRaw R.XBC_ALPHA
    (F.XBC_ALPHA_ALPHA_TC 2 |>.set 0 8)).setFld R.XBC_SHARED F.XBC_SHARED_SIZE 786432

theorem test_incast_last : ((incast 24575).admission 0 2 1 0).1 = 3 := by decide +kernel

theorem test_incast_full : ((incast 24576).admission 0 2 1 0).1 = 0 := by decide +kernel

/-- A field of the state after one command. -/
def after {α : Type} (c : Instr) (s : State) (f : State → α) (d : α) : α :=
  match exec c s with
  | .next t => f t
  | _ => d

/-- R42, R48: NOP moves the consumer index of the MCR and writes one record to the EVR. -/
theorem test_nop_ci : after (.nop 0 {}) base (fun t => t.fld (R.CTL_CI 0) F.CTL_CI_INDEX) 9 = 1 := by decide +kernel

theorem test_nop_pi : after (.nop 0 {}) base (fun t => t.fld (R.CTL_PI 1) F.CTL_PI_INDEX) 9 = 1 := by decide +kernel

/-- R40: a producer index further than the ring's size ahead is BAD_PARAM and is not taken (ring of 64 slots). -/
theorem test_doorbell_bad : after (.mcrDoorbell 0 .manager 65) base (fun t => t.fld (R.CTL_PI 0) F.CTL_PI_INDEX) 9 = 1 := by
  decide +kernel

theorem test_doorbell : after (.mcrDoorbell 0 .manager 64) base (fun t => t.fld (R.CTL_PI 0) F.CTL_PI_INDEX) 9 = 64 := by
  decide +kernel

/-- R567: WAIT_MAX 0 is ignored as a whole. -/
theorem test_commit_cfg : after (.registerWrite 0 .manager .mgmt R.CTL_COMMIT_CFG (leBytes 8 0)) base
    (fun t => t.raw R.CTL_COMMIT_CFG) 0 = base.raw R.CTL_COMMIT_CFG := by decide +kernel

/-- R478: LOCK is set and stays. -/
theorem test_lock : after (.mpuLock 0 .manager 9) base (fun t => t.slotLocked 9) false = true := by decide +kernel

/-- R387: the enable takes a slot power controller from OFF to WAIT. -/
theorem test_slot_sample_count : after (.spcSample 0 31 { present := true }) base (fun t => (t.spcSt 31).samples) 0 = 1 := by
  decide +kernel

/-- R362: while the core is off the timestamp stands and the AON time runs on. -/
theorem test_off_time : after (.refLost 7 100) ({ base with aon := { base.aon with mode := 2 } } : State)
    (fun t => (t.now, t.aon.ns)) (9, 9) = (0, 35) := by decide +kernel

/-- A step takes the command at the front; with none it idles. -/
theorem test_step : (match step { base with pending := [.nop 0 {}, .idcode 0] } with
    | .next t => t.pending | _ => []) = [.idcode 0] := by decide +kernel


/-- R47, R49: the ten opcodes of the descriptors, and one that is not listed. -/
theorem test_descriptor_opcodes : ([
    (0x00, .nop 0 {}), (0x03, .commit 0 {}), (0x04, .shadowDiscard 0 {}), (0x21, .decantArm 0 {} 0),
    (0x30, .counterDump 0 {} 0 false), (0x31, .faultAck 0 {} 0 0 0), (0x02, .tableRead 0 {} (tableOpOf [])),
    (0x10, .harvest 0 {} (harvestOpOf [])), (0x20, .powerStateTrim 0 {} 0 0), (0x05, .unlistedOpcode 0 {} 5),
    (0x01, .tableWrite 0 {} (tableOpOf []) none)] : List (Nat × Instr)).all
    (fun e => mcrCommand 0 (padTo 64 (leBytes 1 e.1)) none == e.2) = true := by decide +kernel

/-- R47, R50: IRQ, TAG and the operands of a TABLE_READ of entry 7 of table 5's shadow copy, to host address 0x1000. -/
theorem test_descriptor_table : mcrCommand 0 (padTo 64 ([0x02, 1, 0x34, 0x12, 0, 0, 0, 0, 5, 1, 0, 0] ++ leBytes 4 7 ++ leBytes 4 2
    ++ List.replicate 4 0 ++ leBytes 8 0x1000)) none
    = .tableRead 0 { irq := true, tag := 0x1234 } { tableId := 5, copy := 1, first := 7, count := 2, addr := 0x1000 } := by
  decide +kernel

/-- R364: POWER_STATE by its TARGET: 2 is keep-warm with its operands, 3 off. -/
theorem test_descriptor_power : mcrCommand 0 (padTo 64 ([0x20, 0, 0, 0, 0, 0, 0, 0, 2, 3] ++ leBytes 2 500 ++ leBytes 4 60)) none
    = .powerStateKeepWarm 0 {} { flags := 3, drainMs := 500, wakeAfter := 60 } := by decide +kernel

/-- R553's example: the balls of LG05_RXP_7 and LG05_RXN_7, of LG26_TXP_8 and LG26_TXN_8, and of SPC13_VOUT3. -/
theorem test_balls : [laneBall 5 7 true false, laneBall 5 7 true true, laneBall 26 8 false false, laneBall 26 8 false true,
    cornerBall 1 5 9] = [(9, 46), (9, 47), (25, 4), (26, 4), (5, 64)] := by decide +kernel

/-- R549, R551: what two of the balls of that example carry. -/
theorem test_ball_map : [ballAt 5 64, ballAt 30 40] = [some (.slot 13 9), some (.supply .vcore)] := by decide +kernel

/-! ### Witnesses of the statements' hypotheses -/

theorem witness_RingTimersAndHeldRecords_0 : ∃ (s t : State) (dt : Nat) (r : RingId), Finds s dt t ∧ t.ringOn r = false ∧
    t.ringBusy r = false :=
  ⟨base, _, 0, .ftr, ⟨rfl, rfl⟩, by decide +kernel⟩

theorem witness_RingTimersAndHeldRecords_1 : ∃ (s t : State) (dt : Nat) (r : RingId), Finds s dt t ∧ (t.ring r).timing = true ∧
    (t.ring r).count > 0 ∧ t.fld r.cfg F.CTL_CFG_IRQ_TIME ≠ 0 ∧ t.now - (t.ring r).first ≥ 1000 * t.fld r.cfg
    F.CTL_CFG_IRQ_TIME ∧ t.fld r.cfg F.CTL_CFG_IRQ_COUNT ≠ 0 :=
  ⟨(({ base with now := 1000000, ctl := { base.ctl with rings := [(RingId.evr.num, { count := 1, timing := true })] } } :
    State).setFld (R.CTL_CFG 1) F.CTL_CFG_IRQ_TIME 1).setFld (R.CTL_CFG 1) F.CTL_CFG_IRQ_COUNT 2, _, 0, .evr, ⟨rfl, rfl⟩, by
    decide +kernel⟩

theorem witness_RingTimersAndHeldRecords_2 : ∃ (s t : State) (dt : Nat) (i : Fin 4096), Finds s dt t ∧ (t.slice i).irq.timing =
    true ∧ (t.slice i).irq.count > 0 ∧ t.fld (R.DMV_CQ_CFG i) F.DMV_CQ_CFG_IRQ_TIME ≠ 0 ∧ t.sliceRuns i = true ∧ t.now -
    (t.slice i).irq.first ≥ 1000 * t.fld (R.DMV_CQ_CFG i) F.DMV_CQ_CFG_IRQ_TIME ∧ t.fld (R.DMV_CQ_CFG i) F.DMV_CQ_CFG_IRQ_COUNT
    ≠ 0 :=
  ⟨({ (((mover []).setFld (R.DMV_CQ_CFG 4095) F.DMV_CQ_CFG_IRQ_TIME 1).setFld (R.DMV_CQ_CFG 4095) F.DMV_CQ_CFG_IRQ_COUNT 2) with now := 1000000, dmv := { (((mover []).setFld (R.DMV_CQ_CFG 4095) F.DMV_CQ_CFG_IRQ_TIME 1).setFld (R.DMV_CQ_CFG 4095) F.DMV_CQ_CFG_IRQ_COUNT 2).dmv with slices := [(4095, { st := 1, irq := { count := 1, timing := true } })] } }
    : State), _, 0, 4095, ⟨rfl, rfl⟩, by decide +kernel⟩

theorem witness_RingTimersAndHeldRecords_3 : ∃ (s t : State) (dt : Nat) (e : Rec) (l : List Rec), Finds s dt t ∧ t.ringRoom
    .evr ≠ 0 ∧ t.ctl.evrOvfFlag = false ∧ t.ctl.held = e :: l :=
  ⟨({ base with ctl := { base.ctl with held := [{}] } } : State), _, 0, {}, [], ⟨rfl, rfl⟩, by decide +kernel⟩

theorem witness_RingTimersAndHeldRecords_4 : ∃ (s t : State) (dt : Nat) (e : Rec) (l : List Rec), Finds s dt t ∧ t.ringRoom
    .evr ≠ 0 ∧ t.ctl.evrOvfFlag = false ∧ t.ctl.held = [] ∧ t.ctl.evq = e :: l :=
  ⟨({ base with ctl := { base.ctl with evq := [{}] } } : State), _, 0, {}, [], ⟨rfl, rfl⟩, by decide +kernel⟩

theorem witness_RingTimersAndHeldRecords_5 : ∃ (s t : State) (dt : Nat), Finds s dt t ∧ t.ringRoom .evr ≠ 0 ∧ t.ctl.evrOvfFlag
    = true :=
  ⟨({ base with ctl := { base.ctl with evrOvfFlag := true } } : State), _, 0, ⟨rfl, rfl⟩, by decide +kernel⟩

theorem witness_RingTimersAndHeldRecords_6 : ∃ (s t : State) (dt : Nat) (b : List Byte) (l : List (List Byte)), Finds s dt t ∧
    t.ringRoom .ftr > 0 ∧ t.fcr.queue = b :: l :=
  ⟨({ base with fcr := { base.fcr with queue := [[]] } } : State).setRaw (RingId.cfg .ftr) 0x80100106, _, 0, [], [], ⟨rfl,
    rfl⟩, by decide +kernel⟩

theorem witness_SimpleManagementCommands_0 : ∃ (s t u : State) (dt k : Nat), Finds s dt t ∧ t.mcrTake = some (k, u) :=
  ⟨base, _, _, 0, 0, ⟨rfl, rfl⟩, took (by decide +kernel)⟩

theorem witness_SimpleManagementCommands_1 : ∃ (s t u : State) (dt k op : Nat), Finds s dt t ∧ t.mcrTake = some (k, u) ∧ op %
    256 ∉ [0x00, 0x01, 0x02, 0x03, 0x04, 0x10, 0x20, 0x21, 0x30, 0x31] :=
  ⟨base, _, _, 0, 0, 5, ⟨rfl, rfl⟩, took (by decide +kernel), by decide +kernel⟩

theorem witness_SimpleManagementCommands_2 : ∃ (s t u : State) (dt k : Nat), Finds s dt t ∧ t.mcrTake = some (k, u) :=
  ⟨base, _, _, 0, 0, ⟨rfl, rfl⟩, took (by decide +kernel)⟩

theorem witness_SimpleManagementCommands_3 : ∃ (s t u : State) (dt k : Nat), Finds s dt t ∧ t.mcrTake = some (k, u) :=
  ⟨base, _, _, 0, 0, ⟨rfl, rfl⟩, took (by decide +kernel)⟩

theorem witness_SimpleManagementCommands_4 : ∃ (s t u : State) (dt k : Nat), Finds s dt t ∧ t.mcrTake = some (k, u) ∧
    u.cfg.faultySh = [] ∧ u.cfg.faulty = [] :=
  ⟨base, _, _, 0, 0, ⟨rfl, rfl⟩, took (by decide +kernel), by decide +kernel⟩

theorem witness_TableCommands_0 : ∃ (s t u : State) (dt k : Nat), Finds s dt t ∧ t.mcrTake = some (k, u) ∧ u.safe = true :=
  ⟨({ base with fcr := { base.fcr with safe := true } } : State), _, _, 0, 0, ⟨rfl, rfl⟩, took (by decide +kernel), by
    decide +kernel⟩

theorem witness_TableCommands_1 : ∃ (s t u : State) (dt k : Nat) (op : TableOp), Finds s dt t ∧ t.mcrTake = some (k, u) ∧
    u.safe = false ∧ (u.tableOk op = false ∨ op.copy ≠ 0) :=
  ⟨base, _, _, 0, 0, { tableId := 0, copy := 0, first := 0, count := 0, addr := 0 }, ⟨rfl, rfl⟩, took (by decide +kernel), by
    decide +kernel⟩

theorem witness_TableCommands_2 : ∃ (s t u : State) (dt k : Nat) (op : TableOp), Finds s dt t ∧ t.mcrTake = some (k, u) ∧
    u.safe = false ∧ u.tableOk op = true ∧ op.copy = 0 ∧ onDieTable op.tableId = true :=
  ⟨base, _, _, 0, 0, { tableId := 2, copy := 0, first := 0, count := 1, addr := 0 }, ⟨rfl, rfl⟩, took (by decide +kernel), by
    decide +kernel⟩

theorem witness_TableCommands_3 : ∃ (s t u : State) (dt k : Nat) (op : TableOp), Finds s dt t ∧ t.mcrTake = some (k, u) ∧
    u.safe = false ∧ u.tableOk op = true ∧ op.copy = 0 ∧ onDieTable op.tableId = true :=
  ⟨base, _, _, 0, 0, { tableId := 2, copy := 0, first := 0, count := 1, addr := 0 }, ⟨rfl, rfl⟩, took (by decide +kernel), by
    decide +kernel⟩

theorem witness_TableCommands_4 : ∃ (s t u : State) (dt k : Nat) (op : TableOp), Finds s dt t ∧ t.mcrTake = some (k, u) ∧
    u.safe = false ∧ u.tableOk op = true ∧ op.copy = 0 ∧ onDieTable op.tableId = false ∧ (u.blocksNeeded op.tableId (entrySize
    op.tableId * op.first) (entrySize op.tableId * op.count)).length > u.shadowFree :=
  ⟨((base.setFld (R.TBM_REGION 1) F.TBM_REGION_VALID 1).setFld (R.TBM_REGION 1) F.TBM_REGION_SIZE 1).setRaw (R.TBM_REGION 0) 0,
    _, _, 0, 0, { tableId := 1, copy := 0, first := 0, count := 1, addr := 0 }, ⟨rfl, rfl⟩, took (by decide +kernel), by
    decide +kernel⟩

theorem witness_TableCommands_5 : ∃ (s t u : State) (dt k : Nat) (op : TableOp), Finds s dt t ∧ t.mcrTake = some (k, u) ∧
    u.safe = false ∧ u.tableOk op = true ∧ op.copy = 0 ∧ onDieTable op.tableId = false ∧ u.blocksNeeded op.tableId (entrySize
    op.tableId * op.first) (entrySize op.tableId * op.count) = [] :=
  ⟨({ ((base.setFld (R.TBM_REGION 1) F.TBM_REGION_VALID 1).setFld (R.TBM_REGION 1) F.TBM_REGION_SIZE 1) with cfg := { ((base.setFld (R.TBM_REGION 1) F.TBM_REGION_VALID 1).setFld (R.TBM_REGION 1) F.TBM_REGION_SIZE 1).cfg with shBlocks := [2 ^ 24] } }
    : State), _, _, 0, 0, { tableId := 1, copy := 0, first := 0, count := 1, addr := 0 }, ⟨rfl, rfl⟩, took (by decide +kernel),
    by decide +kernel⟩

theorem witness_TableCommands_6 : ∃ (s t u : State) (dt k : Nat) (op : TableOp), Finds s dt t ∧ t.mcrTake = some (k, u) ∧
    (u.tableOk op = false ∨ op.copy > 1) :=
  ⟨base, _, _, 0, 0, { tableId := 0, copy := 0, first := 0, count := 0, addr := 0 }, ⟨rfl, rfl⟩, took (by decide +kernel), by
    decide +kernel⟩

theorem witness_TableCommands_7 : ∃ (s t u : State) (dt k : Nat) (op : TableOp) (bs : List Byte) (bad : Bool), Finds s dt t ∧
    t.mcrTake = some (k, u) ∧ u.tableOk op = true ∧ op.copy ≤ 1 ∧ onDieTable op.tableId = true ∧ u.tableBytes op.tableId
    op.copy (entrySize op.tableId * op.first) (entrySize op.tableId * op.count) = (bs, bad) ∧ bs.take (bs.length / entrySize
    op.tableId * entrySize op.tableId) ≠ [] :=
  ⟨base, _, _, 0, 0, { tableId := 2, copy := 0, first := 0, count := 1, addr := 0 }, List.replicate 16 0, false, ⟨rfl, rfl⟩,
    took (by decide +kernel), by decide +kernel⟩

theorem witness_CommitEnds_0 : ∃ (s t u : State) (dt k : Nat), Finds s dt t ∧ t.mcrTake = some (k, u) :=
  ⟨base, _, _, 0, 0, ⟨rfl, rfl⟩, took (by decide +kernel)⟩

theorem witness_CommitEnds_1 : ∃ (s t : State) (dt : Nat) (c : CommitSt), Finds s dt t ∧ t.ctl.commit = some c ∧ c.step = 1 ∧
    t.cfg.prev ≠ none ∧ t.now - c.since ≥ 1000000 * t.fld R.CTL_COMMIT_CFG F.CTL_COMMIT_CFG_WAIT_MAX :=
  ⟨({ base with now := 2 ^ 40, ctl := { base.ctl with commit := some {} }, cfg := { base.cfg with prev := some {} } } : State),
    _, 0, {}, ⟨rfl, rfl⟩, by decide +kernel⟩

theorem witness_CommitEnds_2 : ∃ (s t : State) (dt n i : Nat) (c : CommitSt), Finds s dt t ∧ t.ctl.commit = some c ∧ c.step = 1
    ∧ t.cfg.prev = none ∧ t.safe = false ∧ (t.candidate c.set).commitChecks = some (n, i) :=
  ⟨({ base with ctl := { base.ctl with commit := some {} } } : State), _, 0, 1, 8, {}, ⟨rfl, rfl⟩, by decide +kernel⟩

theorem witness_CommitInstalls_0 : ∃ (s t : State) (dt : Nat) (c : CommitSt), Finds s dt t ∧ t.ctl.commit = some c ∧ c.step = 1
    ∧ t.cfg.prev = none ∧ t.safe = false ∧ (t.candidate c.set).commitChecks = none :=
  ⟨({ good with ctl := { good.ctl with commit := some {} } } : State), _, 0, {}, ⟨rfl, rfl⟩, by decide +kernel⟩

theorem witness_CommitInstalls_1 : ∃ (s t : State) (dt : Nat) (c : CommitSt) (u : State), Finds s dt t ∧ u = t.install c ∧
    t.ctl.commit = some c ∧ c.step = 1 ∧ t.cfg.prev = none ∧ t.safe = false ∧ (t.candidate c.set).commitChecks = none :=
  ⟨({ good with ctl := { good.ctl with commit := some {} } } : State), _, 0, {}, _, ⟨rfl, rfl⟩, rfl, by decide +kernel⟩

theorem witness_CommitInstalls_2 : ∃ (s t : State) (dt : Nat) (c : CommitSt) (u : State) (k : Nat), Finds s dt t ∧ u =
    t.install c ∧ (∀ w : Nat, k ≠ R.BRG_WIN_PFDROP w) ∧ t.ctl.commit = some c ∧ c.step = 1 ∧ t.cfg.prev = none ∧ t.safe = false
    ∧ (t.candidate c.set).commitChecks = none ∧ k ≠ R.XBC_SHARED ∧ k ≠ R.BRG_CNT 12 :=
  ⟨({ good with ctl := { good.ctl with commit := some {} } } : State), _, 0, {}, _, 0, ⟨rfl, rfl⟩, rfl, pfdrop_pos, by
    decide +kernel⟩

theorem witness_CommitInstalls_3 : ∃ (s t u : State) (dt p : Nat), Finds s dt t ∧ u =
    ({ t with ctl := { t.ctl with adopting := t.ctl.adopting.filter (· ≠ p) } } : State).keepQueues p ∧ p ∈ t.ctl.adopting ∧
    t.ctl.adopting.filter (· ≠ p) ≠ [] :=
  ⟨({ base with ctl := { base.ctl with adopting := [4, 5] } } : State), _, _, 0, 4, ⟨rfl, rfl⟩, rfl, by decide +kernel⟩

theorem witness_CommitInstalls_4 : ∃ (s t u : State) (dt p : Nat) (c : CommitSt), Finds s dt t ∧ u =
    ({ t with ctl := { t.ctl with adopting := t.ctl.adopting.filter (· ≠ p) } } : State).keepQueues p ∧ p ∈ t.ctl.adopting ∧
    t.ctl.adopting.filter (· ≠ p) = [] ∧ t.ctl.commit = some c ∧ c.step = 4 ∧ (t.decanting = false ∨ (t.ringRoom .evr ≠ 0 ∧
    t.ctl.held = [])) :=
  ⟨({ base with ctl := { base.ctl with adopting := [4], commit := some { step := 4 } } } : State), _, _, 0, 4, { step := 4 },
    ⟨rfl, rfl⟩, rfl, by decide +kernel⟩

theorem witness_CommitInstalls_5 : ∃ (s t u : State) (dt p : Nat) (c : CommitSt), Finds s dt t ∧ u =
    ({ t with ctl := { t.ctl with adopting := t.ctl.adopting.filter (· ≠ p) } } : State).keepQueues p ∧ p ∈ t.ctl.adopting ∧
    t.ctl.adopting.filter (· ≠ p) = [] ∧ t.ctl.commit = some c ∧ c.step = 4 ∧ t.decanting = true ∧ (t.ringRoom .evr = 0 ∨
    t.ctl.held ≠ []) :=
  ⟨({ base with ctl := { base.ctl with adopting := [4], commit := some { step := 4 }, held := [{}] }, dct := { base.dct with active := true } }
    : State), _, _, 0, 4, { step := 4 }, ⟨rfl, rfl⟩, rfl, by decide +kernel⟩

theorem witness_CommitInstalls_6 : ∃ (s t : State) (dt : Nat) (q : PrevEpoch), Finds s dt t ∧ t.cfg.prev = some q ∧
    t.ctl.adopting = [] ∧ t.ctl.epochDone = true ∧ (∀ e ∈ t.xbc.pkts, e.2.epoch ≠ q.epoch) :=
  ⟨({ base with ctl := { base.ctl with adopting := [] }, cfg := { base.cfg with prev := some {} } } : State), _, 0, {}, ⟨rfl,
    rfl⟩, by decide +kernel⟩

theorem witness_BlockCommands_0 : ∃ (s t u : State) (dt k : Nat) (op : HarvestOp), Finds s dt t ∧ t.mcrTake = some (k, u) ∧
    (op.ctx > 1023 ∨ u.flag (R.WLG_CTX_STAT op.ctx) F.WLG_CTX_STAT_READY = false ∨ op.maxEnt < 2 ∨ bitAt op.flags 0 ≠ u.flag
    (R.WLG_CTX_STAT op.ctx) F.WLG_CTX_STAT_MORE ∨ op.addr % 64 ≠ 0) :=
  ⟨base, _, _, 0, 0, { ctx := 0, flags := 0, maxEnt := 0, addr := 0 }, ⟨rfl, rfl⟩, took (by decide +kernel), by decide +kernel⟩

theorem witness_BlockCommands_1 : ∃ (s t u : State) (dt k : Nat) (op : HarvestOp), Finds s dt t ∧ t.mcrTake = some (k, u) ∧
    op.ctx ≤ 1023 ∧ u.flag (R.WLG_CTX_STAT op.ctx) F.WLG_CTX_STAT_READY = true ∧ op.maxEnt ≥ 2 ∧ op.addr % 64 = 0 ∧ bitAt
    op.flags 0 = true ∧ u.flag (R.WLG_CTX_STAT op.ctx) F.WLG_CTX_STAT_MORE = true :=
  ⟨(base.setFld (R.WLG_CTX_STAT 0) F.WLG_CTX_STAT_READY 1).setFld (R.WLG_CTX_STAT 0) F.WLG_CTX_STAT_MORE 1, _, _, 0, 0,
    { ctx := 0, flags := 1, maxEnt := 2, addr := 0 }, ⟨rfl, rfl⟩, took (by decide +kernel), by decide +kernel⟩

theorem witness_BlockCommands_2 : ∃ (s t u : State) (dt k target onMask : Nat), Finds s dt t ∧ t.mcrTake = some (k, u) ∧ target
    % 256 = 1 ∧ u.safe = false ∧ trimOk (onMask % 2 ^ 64) (u.raw R.PWR_RUN_MASK).toNat = true ∧ ((stopOrder.filter fun x =>
    u.pdOn x && !wantedMask (onMask % 2 ^ 64) x) ≠ []) :=
  ⟨base.setRaw R.PWR_ON (BitVec.allOnes 64), _, _, 0, 0, 1, 2 ^ 64 - 2, ⟨rfl, rfl⟩, took (by decide +kernel), by decide +kernel⟩

theorem witness_BlockCommands_3 : ∃ (s t u : State) (dt k target : Nat), Finds s dt t ∧ t.mcrTake = some (k, u) ∧ target % 256
    ≠ 2 ∧ target % 256 ≠ 3 ∧ u.safe = true :=
  ⟨({ base with fcr := { base.fcr with safe := true } } : State), _, _, 0, 0, 0, ⟨rfl, rfl⟩, took (by decide +kernel), by
    decide +kernel⟩

theorem witness_BlockCommands_4 : ∃ (s t u : State) (dt k target onMask : Nat), Finds s dt t ∧ t.mcrTake = some (k, u) ∧ target
    % 256 ≠ 2 ∧ target % 256 ≠ 3 ∧ u.safe = false ∧ (target % 256 > 3 ∨ (target % 256 = 1 ∧ trimOk (onMask % 2 ^ 64) (u.raw
    R.PWR_RUN_MASK).toNat = false)) :=
  ⟨base, _, _, 0, 0, 255, 0, ⟨rfl, rfl⟩, took (by decide +kernel), by decide +kernel⟩

theorem witness_BlockCommands_5 : ∃ (s t u : State) (dt k : Nat) (op : PowerOp), Finds s dt t ∧ t.mcrTake = some (k, u) ∧
    u.safe = false ∧ 1 ≤ op.drainMs % 65536 ∧ op.drainMs % 65536 ≤ 1000 ∧ u.lcLive = true ∧ u.ctl.busyCmd = none ∧ u.ctl.commit
    = none ∧ (op.wakeAfter % 2 ^ 32 ≠ 0 ∨ u.flag R.PWR_WAKE_CFG F.PWR_WAKE_CFG_WAKE_EN = true) :=
  ⟨({ base with sec := { base.sec with otp := { lc := 2 } } } : State), _, _, 0, 0,
    { flags := 0, drainMs := 1000, wakeAfter := 1 }, ⟨rfl, rfl⟩, took (by decide +kernel), by decide +kernel⟩

theorem witness_BlockCommands_6 : ∃ (s t u : State) (dt k : Nat) (op : PowerOp), Finds s dt t ∧ t.mcrTake = some (k, u) ∧
    u.safe = false ∧ 1 ≤ op.drainMs % 65536 ∧ op.drainMs % 65536 ≤ 1000 ∧ u.lcLive = true ∧ u.ctl.busyCmd = none ∧ u.ctl.commit
    = none :=
  ⟨({ base with sec := { base.sec with otp := { lc := 2 } } } : State), _, _, 0, 0,
    { flags := 0, drainMs := 1, wakeAfter := 0 }, ⟨rfl, rfl⟩, took (by decide +kernel), by decide +kernel⟩

theorem witness_BlockCommands_7 : ∃ (s t u : State) (dt k : Nat), Finds s dt t ∧ t.mcrTake = some (k, u) ∧ u.safe = true :=
  ⟨({ base with fcr := { base.fcr with safe := true } } : State), _, _, 0, 0, ⟨rfl, rfl⟩, took (by decide +kernel), by
    decide +kernel⟩

theorem witness_BlockCommands_8 : ∃ (s t u : State) (dt k : Nat) (op : PowerOp), Finds s dt t ∧ t.mcrTake = some (k, u) ∧
    u.safe = false ∧ (op.drainMs % 65536 = 0 ∨ op.drainMs % 65536 > 1000) :=
  ⟨base, _, _, 0, 0, { flags := 0, drainMs := 1001, wakeAfter := 0 }, ⟨rfl, rfl⟩, took (by decide +kernel), by decide +kernel⟩

theorem witness_BlockCommands_9 : ∃ (s t u : State) (dt k : Nat) (op : PowerOp), Finds s dt t ∧ t.mcrTake = some (k, u) ∧
    u.safe = false ∧ 1 ≤ op.drainMs % 65536 ∧ op.drainMs % 65536 ≤ 1000 ∧ u.lcLive = false :=
  ⟨base, _, _, 0, 0, { flags := 0, drainMs := 1, wakeAfter := 0 }, ⟨rfl, rfl⟩, took (by decide +kernel), by decide +kernel⟩

theorem witness_BlockCommands_10 : ∃ (s t u : State) (dt k sets : Nat), Finds s dt t ∧ t.mcrTake = some (k, u) ∧ sets % 8 = 0 :=
  ⟨base, _, _, 0, 0, 0, ⟨rfl, rfl⟩, took (by decide +kernel), by decide +kernel⟩

theorem witness_BlockCommands_11 : ∃ (s t u : State) (dt k sets : Nat) (clear : Bool) (n seq : Nat) (skip : Bool) (w : State),
    Finds s dt t ∧ t.mcrTake = some (k, u) ∧ u.dump 1 (sets % 8) clear = (skip, n, seq, w) ∧ sets % 8 ≠ 0 :=
  ⟨base, _, _, 0, 0, 1, false, _, _, _, _, ⟨rfl, rfl⟩, took (by decide +kernel), parts4 _, by decide +kernel⟩

theorem witness_BlockCommands_12 : ∃ (s t u : State) (dt k n : Nat), Finds s dt t ∧ t.mcrTake = some (k, u) ∧ u.fcr.inbox = []
    ∧ n > 1024 :=
  ⟨base, _, _, 0, 0, 1025, ⟨rfl, rfl⟩, took (by decide +kernel), by decide +kernel⟩

theorem witness_BlockCommands_13 : ∃ (s t u : State) (dt k n flags : Nat), Finds s dt t ∧ t.mcrTake = some (k, u) ∧ u.fcr.inbox
    = [] ∧ n ≤ 1024 ∧ bitAt flags 0 = true ∧ bitAt flags 1 = false ∧ bitAt flags 2 = false ∧ bitAt flags 3 = false :=
  ⟨base, _, _, 0, 0, 1024, 1, ⟨rfl, rfl⟩, took (by decide +kernel), by decide +kernel⟩

theorem witness_RegisterAccesses_0 : ∃ (s t : State) (dt addr : Nat) (m : Master) (bs : List Byte), Finds s dt t ∧ accessOk m
    addr bs.length = true :=
  ⟨base, _, 0, 0, .manager, [0, 0, 0, 0], ⟨rfl, rfl⟩, by decide +kernel⟩

theorem witness_RegisterAccesses_1 : ∃ (s t u : State) (dt addr len : Nat) (m : Master) (bs : List Byte), Finds s dt t ∧
    t.getBytes 9 addr len = (bs, u) ∧ accessOk m addr len = true ∧ t.mpuRight m (addr / 0x40000) false = true :=
  ⟨base, _, _, 0, 0, 8, .manager, _, ⟨rfl, rfl⟩, parts2 _, by decide +kernel⟩

theorem witness_RegisterAccesses_2 : ∃ (s t : State) (dt addr : Nat) (m : Master) (bs : List Byte), Finds s dt t ∧ accessOk m
    addr bs.length = true ∧ t.mpuRight m (addr / 0x40000) true = false :=
  ⟨base.setRaw (R.MPU_SLOT 0) 0, _, 0, 0, .engine, [0, 0, 0, 0], ⟨rfl, rfl⟩, by decide +kernel⟩

theorem witness_RegisterAccesses_3 : ∃ (s t : State) (dt addr len : Nat) (m : Master), Finds s dt t ∧ accessOk m addr len =
    true ∧ t.mpuRight m (addr / 0x40000) false = false :=
  ⟨base.setRaw (R.MPU_SLOT 0) 0, _, 0, 0, 4, .engine, ⟨rfl, rfl⟩, by decide +kernel⟩

theorem witness_TlpReceiveCompletes_0 : ∃ (s t : State) (dt p : Nat) (h : Hdr) (payload : List Byte) (whole ide : Bool), Finds
    s dt t ∧ t.isPcie p = true ∧ (t.pcpOf p).up = true ∧ (ide = false ∨ h.sel = true ∨ ((t.pcpOf p).insecure = false ∧
    t.ideSecure p = true)) ∧ (t.role p ≠ 1 ∨ h.kind.isCpl = true ∨ t.acsOn (.port p) 0 = false ∨ t.ownsBus (.port p) (h.reqId /
    256) = true) ∧ t.beyondCredits p h = false ∧ t.badForm p h payload whole = false :=
  ⟨(base.setFld (base.pk 0 R.PCP_PORT_CFG) F.PCP_PORT_CFG_TC_EN 255).setFld (base.pk 0 R.PCP_FC_ADV) F.PCP_FC_ADV_PH 1, _, 0,
    0, { tc := 7, fbe := 15 }, [], false, false, ⟨rfl, rfl⟩, by decide +kernel⟩

theorem witness_TlpReceiveCompletes_1 : ∃ (s t : State) (dt p i : Nat), Finds s dt t ∧ t.isPcie p = true ∧ (t.pcpOf p).up =
    true ∧ tfind t.xbc.rxCur p = some i :=
  ⟨({ base with xbc := { base.xbc with rxCur := [(0, 3)] } } : State), _, 0, 0, 3, ⟨rfl, rfl⟩, by decide +kernel⟩

theorem witness_TlpReceiveCompletes_2 : ∃ (s t : State) (dt p : Nat), Finds s dt t ∧ t.isPcie p = true ∧ (t.pcpOf p).up = true
    :=
  ⟨base, _, 0, 0, ⟨rfl, rfl⟩, by decide +kernel⟩

theorem witness_TlpReceiveCompletes_3 : ∃ (s t : State) (dt p : Nat), Finds s dt t ∧ t.isPcie p = true ∧ (t.pcpOf p).up = true
    :=
  ⟨base, _, 0, 0, ⟨rfl, rfl⟩, by decide +kernel⟩

theorem witness_TlpReceiveCompletes_4 : ∃ (s t : State) (dt p : Nat), Finds s dt t ∧ t.isPcie p = true ∧ (t.pcpOf p).up = true
    ∧ t.role p ≠ 0 :=
  ⟨base, _, 0, 4, ⟨rfl, rfl⟩, by decide +kernel⟩

theorem witness_TlpReceiveCompletes_5 : ∃ (s t : State) (dt p : Nat), Finds s dt t ∧ (t.pcpOf p).up = false :=
  ⟨base, _, 0, 1, ⟨rfl, rfl⟩, by decide +kernel⟩

theorem witness_SwitchStepsComplete_0 : ∃ (s t : State) (dt i tc : Nat) (ing : Ingress), Finds s dt t ∧ t.xbc.stalled = [i] ∧
    (t.pkt i).ingress = ing ∧ (t.pkt i).tc = tc ∧ (t.pkt i).stall = some .stamp ∧ (t.pkt i).relD = [] :=
  ⟨({ base with xbc := { base.xbc with pkts := [(1, { stall := some .stamp, ingress := .port 8, tc := 3 })], stalled := [1] } }
    : State), _, 0, 1, 3, .port 8, ⟨rfl, rfl⟩, by decide +kernel⟩

theorem witness_SwitchStepsComplete_1 : ∃ (s t : State) (dt p : Nat) (x : Sending), Finds s dt t ∧ (∀ k : Nat,
    t.upsets.contains (0xE6, 64 * p + k) = false) ∧ (∀ k : Nat, x.chk ≤ k → (t.cellOf (t.pkt x.pkt) k).sideBad = false ∧
    (t.cellOf (t.pkt x.pkt) k).dataBad = false) ∧ t.isScango p = false ∧ (t.xbc.sending.find? (fun y => y.link == p) = some x)
    ∧ (t.pkt x.pkt).whole = true ∧ (t.pkt x.pkt).descPar = 0 :=
  ⟨({ base with xbc := { base.xbc with pkts := [(0, {})], sending := [{}] } } : State), _, 0, 0, {}, ⟨rfl, rfl⟩, fun _ => rfl,
    fun _ _ => ⟨rfl, rfl⟩, by decide +kernel⟩

theorem witness_SwitchStepsComplete_2 : ∃ (s t : State) (dt p : Nat) (x : Sending), Finds s dt t ∧ (t.xbc.sending.find? (fun y
    => y.link == p && !(t.pkt y.pkt).whole) = some x) ∧ t.now - (t.pkt x.pkt).lastWr ≥ 1000 * t.fld R.XBC_CFG
    F.XBC_CFG_CT_STALL_MAX :=
  ⟨(({ base with now := 1000000, xbc := { base.xbc with pkts := [(0, { whole := false })], sending := [{}] } } : State).setFld
    R.XBC_CFG F.XBC_CFG_CT_STALL_MAX 1), _, 0, 0, {}, ⟨rfl, rfl⟩, by decide +kernel⟩

theorem witness_SwitchStepsComplete_3 : ∃ (s t : State) (dt q n i d : Nat) (x : Queue) (u : State), Finds s dt t ∧ (u =
    ((t.cfg.ports.map (·.1)).filter fun p => t.quadrant p == q).foldl State.sweepHold
    ((({ t with xbc := { t.xbc with swept := tput t.xbc.swept q t.now } } : State).unq i d).ageOut i d)) ∧ t.safe = false ∧
    t.xbc.stalled = [] ∧ t.tmg.queues = [(n, x)] ∧ x.mem = [(i, d)] ∧ n < 32768 ∧ n / 256 ∈ t.cfg.ports.map (·.1) ∧ t.quadrant
    (n / 256) = q ∧ t.aged (t.pkt i) = true ∧ t.sweepDue q = true ∧ u.xbc.stalled = [] :=
  ⟨(({ base with now := 10 ^ 9, tmg := { base.tmg with queues := [(0, { mem := [(0, 0)] })] }, xbc := { base.xbc with pkts := [(0, { dests := [{}] })] } }
    : State).setRaw (R.XBC_AGE_LIMIT_TC 0) 10), _, 0, 0, 0, 0, 0, { mem := [(0, 0)] }, _, ⟨rfl, rfl⟩, rfl, by decide +kernel⟩

theorem witness_SwitchStepsComplete_4 : ∃ (s t v u : State) (dt p n i d : Nat) (l : List (Nat × Nat)), Finds s dt t ∧ v =
    (t.dropHeld p (t.pcpOf p).hold.length).offWheel p ∧ v.pickQueue p = some (n, u) ∧ (t.isScango p = true ∨ t.busyPort p =
    false) ∧ (v.isScango p = true ∨ v.sendHeld p = none) ∧ (v.queue n).mem = (i, d) :: l ∧ v.aged (v.pkt i) = false ∧
    v.dctDrops (v.pkt i) = false :=
  ⟨(({ base with tmg := { base.tmg with queues := [(224, { mem := [(0, 0)] })] }, pcp := [(0, { up := true, ph := 1 })], xbc := { base.xbc with pkts := [(0, { dests := [{}] })] } }
    : State).setRaw (R.XBC_AGE_LIMIT_TC 0) 10), _, _, _, 0, 0, _, 0, 0, [], ⟨rfl, rfl⟩, rfl, took (by decide +kernel), by
    decide +kernel⟩

theorem witness_SwitchStepsComplete_5 : ∃ (s t v u : State) (dt p : Nat), Finds s dt t ∧ v = (t.dropHeld p (t.pcpOf
    p).hold.length).offWheel p ∧ v.sendHeld p = some u ∧ (t.isScango p = true ∨ t.busyPort p = false) ∧ v.isScango p = false :=
  ⟨({ base with pcp := [(0, { up := true, nph := 1, hold := [(0, 0)] })] } : State), _, _, _, 0, 0, ⟨rfl, rfl⟩, rfl, got (by
    decide +kernel), by decide +kernel⟩

theorem witness_SwitchStepsComplete_6 : ∃ (s t : State) (dt : Nat), Finds s dt t ∧ t.xbc.reclaim = [] :=
  ⟨base, _, 0, ⟨rfl, rfl⟩, by decide +kernel⟩

theorem witness_SwitchStepsComplete_7 : ∃ (s t u : State) (dt : Nat) (x : Sample) (l : List Sample), Finds s dt t ∧ u =
    (({ t with xbc := { t.xbc with samples := l } } : State).uncharge
    { acct := 130, tc := bitsOf x.metaWord 45 3, chg := x.cells, ncells := 1 }).retryAdmission ∧ t.xbc.samples = x :: l ∧
    u.ringRoom .smr < 2 :=
  ⟨({ base with xbc := { base.xbc with samples := [{}] } } : State), _, _, 0, {}, [], ⟨rfl, rfl⟩, rfl, by decide +kernel⟩

theorem witness_SwitchStepsComplete_8 : ∃ (s t u : State) (dt : Nat) (x : Sample) (l : List Sample), Finds s dt t ∧ u =
    (({ t with xbc := { t.xbc with samples := l } } : State).uncharge
    { acct := 130, tc := bitsOf x.metaWord 45 3, chg := x.cells, ncells := 1 }).retryAdmission ∧ t.xbc.samples = x :: l ∧
    u.ringRoom .smr ≥ 2 :=
  ⟨(({ base with xbc := { base.xbc with samples := [{}] } } : State).setRaw (RingId.cfg .smr) 0x80100106), _, _, 0, {}, [],
    ⟨rfl, rfl⟩, rfl, by decide +kernel⟩

theorem witness_FencesComplete_0 : ∃ (s t : State) (dt lenDw : Nat) (op : FenceOp), Finds s dt t ∧ (t.flag R.CMT_CFG
    F.CMT_CFG_VDM_EN = false ∨ lenDw ≠ 4 ∨ op.recordAddr % 32 ≠ 0) :=
  ⟨base, _, 0, 0, { fenceId := 0, group := 0, recordAddr := 0 }, ⟨rfl, rfl⟩, by decide +kernel⟩

theorem witness_FencesComplete_1 : ∃ (s t : State) (dt : Nat) (op : FenceOp), Finds s dt t ∧ t.flag R.CMT_CFG F.CMT_CFG_VDM_EN
    = true ∧ op.recordAddr % 32 = 0 ∧ op.group > 1023 :=
  ⟨((base.setFld R.CMT_CFG F.CMT_CFG_VDM_EN 1).setRaw (R.CTL_CFG 9) 0), _, 0, { fenceId := 0, group := 1024, recordAddr := 0 },
    ⟨rfl, rfl⟩, by decide +kernel⟩

theorem witness_FencesComplete_2 : ∃ (s t : State) (dt v : Nat) (op : FenceOp) (u : State), Finds s dt t ∧ u = t.groupRead
    (t.upPort v) op.group ∧ t.flag R.CMT_CFG F.CMT_CFG_VDM_EN = true ∧ op.recordAddr % 32 = 0 ∧ op.group ≤ 1023 ∧ (u.group
    u.cfg.epoch op.group).bad = false ∧ (u.group u.cfg.epoch op.group).valid = true ∧ u.fenceSlots < 8192 :=
  ⟨({ ((owner.setFld R.CMT_CFG F.CMT_CFG_VDM_EN 1).setFld (R.TBM_REGION 0) F.TBM_REGION_KIND 1) with cfg := { ((owner.setFld R.CMT_CFG F.CMT_CFG_VDM_EN 1).setFld (R.TBM_REGION 0) F.TBM_REGION_KIND 1).cfg with tm := [(65479, 0x80#8)] } }
    : State), _, 0, 0, { fenceId := 0, group := 1023, recordAddr := 0 }, _, ⟨rfl, rfl⟩, rfl, by decide +kernel⟩

theorem witness_FencesComplete_3 : ∃ (s t : State) (dt n : Nat) (f : Fence), Finds s dt t ∧ tfind t.mce.fences n = some f ∧
    f.st = 1 ∧ t.cmtFrozen = false ∧ t.earlierPending n f = false ∧ (∀ e ∈ t.mce.fences, e.2.saved = false) :=
  ⟨({ base with mce := { base.mce with fences := [(7, { st := 1, reps := [{}] })] } } : State), _, 0, 7,
    { st := 1, reps := [{}] }, ⟨rfl, rfl⟩, by decide +kernel⟩

theorem witness_FencesComplete_4 : ∃ (s t : State) (dt n r : Nat) (f : Fence), Finds s dt t ∧ tfind t.mce.fences n = some f ∧
    f.st = 2 ∧ (f.reps.getD r {}).st = 0 ∧ t.cmtFrozen = false ∧ t.upsets = [] ∧ t.flow? (f.key (f.reps.getD r {})) = none ∧
    t.entryFaulty t.cfg.epoch 2 (f.reps.getD r {}).fid = false :=
  ⟨({ base with mce := { base.mce with fences := [(7, { st := 2, reps := [{ st := 0 }] })] } } : State), _, 0, 7, 0,
    { st := 2, reps := [{ st := 0 }] }, ⟨rfl, rfl⟩, by decide +kernel⟩

theorem witness_FencesComplete_5 : ∃ (s t : State) (dt n r : Nat) (a : Answer), Finds s dt t ∧ t.cmtFrozen = false ∧
    t.answers.find? Answer.ofFence = some a ∧ a.origin = .fence n r :=
  ⟨({ base with answers := [{ origin := .fence 7 3 }] } : State), _, 0, 7, 3, { origin := .fence 7 3 }, ⟨rfl, rfl⟩, by
    decide +kernel⟩

theorem witness_FencesComplete_6 : ∃ (s t : State) (dt n : Nat) (f : Fence), Finds s dt t ∧ tfind t.mce.fences n = some f ∧
    f.st = 3 ∧ t.cmtFrozen = false ∧ (f.saved = false ∨ t.dct.exitDue = false) ∧ (∀ e ∈ t.mce.fences, ¬ (e.1 < n ∧ e.2.src =
    f.src ∧ e.2.tc = f.tc)) :=
  ⟨({ base with mce := { base.mce with fences := [(7, { st := 3 })] } } : State), _, 0, 7, { st := 3 }, ⟨rfl, rfl⟩, by
    decide +kernel⟩

theorem witness_RoutingSteps_0 : ∃ (s t u : State) (dt w x : Nat), Finds s dt t ∧ u = t.checkRsq (t.rsq w).flow ∧ t.decanting =
    false ∧ t.safe = false ∧ (u.rsq w).timer = some x ∧ u.gapNow - x ≥ 1000 * (u.rsq w).tmo :=
  ⟨({ base with now := 1000, rte := { base.rte with rsq := [(2, { timer := some 0, tmo := 1 })] } } : State), _, _, 0, 2, 0,
    ⟨rfl, rfl⟩, rfl, by decide +kernel⟩

theorem witness_RoutingSteps_1 : ∃ (s t u : State) (dt p src dst tc seq : Nat), Finds s dt t ∧ u = t.setSgl p
    { t.sglOf p with ccIn := (t.sglOf p).ccIn + 1 } ∧ t.isScango p = true ∧ (t.sglOf p).phase = 3 ∧ (t.sglOf p).ccIn < 16 ∧ src
    < 4096 ∧ dst < 4096 ∧ tc < 8 ∧ seq < 65536 ∧ u.ownFid dst = true :=
  ⟨owner, _, _, 0, 8, 0, 0, 0, 0, ⟨rfl, rfl⟩, rfl, by decide +kernel⟩

theorem witness_RoutingSteps_2 : ∃ (s t : State) (dt q i d : Nat) (l : List (Nat × Nat)), Finds s dt t ∧ (t.queue q).mem = (i,
    d) :: l ∧ t.isScango (q / 256) = true ∧ t.flag R.RTE_ESC_THR F.RTE_ESC_THR_ESC_EN = true ∧ ((t.pkt i).dest d).hdr.esc =
    false ∧ t.now - max (t.queue q).headAt (t.queue q).creditAt ≥ t.fld R.RTE_ESC_THR F.RTE_ESC_THR_THR_NS ∧ t.headCredit q =
    false :=
  ⟨(((({ base with now := 2000, tmg := { base.tmg with queues := [(2048, { mem := [(0, 0)] })] }, xbc := { base.xbc with pkts := [(0, { whole := false, dests := [{}] })] } }
    : State).setFld R.RTE_ESC_THR F.RTE_ESC_THR_ESC_EN 1).setFld R.RTE_ESC_THR F.RTE_ESC_THR_THR_NS 100).setFld R.XBC_CFG
    F.XBC_CFG_CT_EN 0), _, 0, 2048, 0, 0, [], ⟨rfl, rfl⟩, by decide +kernel⟩

theorem witness_TrafficSteps_0 : ∃ (s t u : State) (dt quad slot n net : Nat) (x : Queue), Finds s dt t ∧ t.quadrant (n / 256)
    = quad ∧ u = ({ t with tmg := { t.tmg with wheelAt := tput t.tmg.wheelAt quad (t.now / 8) } } : State) ∧ t.tmg.queues =
    [(n, x)] ∧ t.now / 8 % 4096 = slot ∧ tfind t.tmg.wheelAt quad ≠ some (t.now / 8) ∧ x.wheel = some (slot, 0, net) :=
  ⟨({ base with now := 24, tmg := { base.tmg with queues := [(5, { wheel := some (3, 0, 9) })] } } : State), _, _, 0, _, 3, 5,
    9, { wheel := some (3, 0, 9) }, ⟨rfl, rfl⟩, rfl, rfl, by decide +kernel⟩

theorem witness_TrafficSteps_1 : ∃ (s t u : State) (dt quad slot n net : Nat) (x : Queue) (r : Nat), Finds s dt t ∧ t.quadrant
    (n / 256) = quad ∧ u = ({ t with tmg := { t.tmg with wheelAt := tput t.tmg.wheelAt quad (t.now / 8) } } : State) ∧
    t.tmg.queues = [(n, x)] ∧ t.now / 8 % 4096 = slot ∧ tfind t.tmg.wheelAt quad ≠ some (t.now / 8) ∧ x.wheel = some (slot, r +
    1, net) :=
  ⟨({ base with now := 24, tmg := { base.tmg with queues := [(5, { wheel := some (3, 1, 9) })] } } : State), _, _, 0, _, 3, 5,
    9, { wheel := some (3, 1, 9) }, 0, ⟨rfl, rfl⟩, rfl, rfl, by decide +kernel⟩

theorem witness_TrafficSteps_2 : ∃ (s t : State) (dt quad slot : Nat), Finds s dt t ∧ (t.now / 8 % 4096 ≠ slot ∨ tfind
    t.tmg.wheelAt quad = some (t.now / 8)) :=
  ⟨({ base with tmg := { base.tmg with queues := [(5, { wheel := some (3, 0, 9) })] } } : State), _, 0, 0, 3, ⟨rfl, rfl⟩, by
    decide +kernel⟩

theorem witness_TrafficSteps_3 : ∃ (s t : State) (dt i : Nat), Finds s dt t ∧ t.hasPkt i = true ∧ (t.pkt i).stall = some
    .posted ∧ t.peakHolds (t.pkt i).epoch (t.pkt i).vh (t.pkt i).tc (t.pkt i).hdr.size = true :=
  ⟨({ base with xbc := { base.xbc with pkts := [(0, { stall := some .posted })] } } : State), _, 0, 0, ⟨rfl, rfl⟩, by
    decide +kernel⟩

theorem witness_TrafficSteps_4 : ∃ (s t : State) (dt quad : Nat), Finds s dt t ∧ t.flag R.TMG_HIST_CFG F.TMG_HIST_CFG_EN = true
    ∧ (∀ y : Nat, tfind t.tmg.histAt quad = some y → y / t.fld R.TMG_HIST_CFG F.TMG_HIST_CFG_INTERVAL_NS ≠ t.now / t.fld
    R.TMG_HIST_CFG F.TMG_HIST_CFG_INTERVAL_NS) :=
  ⟨base.setFld R.TMG_HIST_CFG F.TMG_HIST_CFG_EN 1, _, 0, 0, ⟨rfl, rfl⟩, by decide +kernel⟩

theorem witness_TrafficSteps_5 : ∃ (s t : State) (dt : Nat), Finds s dt t ∧ t.flag R.TMG_HIST_CFG F.TMG_HIST_CFG_EN = false :=
  ⟨base, _, 0, ⟨rfl, rfl⟩, by decide +kernel⟩

theorem witness_BridgeTimers_0 : ∃ (s t u : State) (dt i idx a q : Nat), Finds s dt t ∧ (t.tmRead (1 + t.quadrant q) a
    8).xltFill (t.pkt i).epoch idx = some u ∧ (t.pkt i).stall = some (.xlt idx) ∧ (t.pkt i).ingress = .port q ∧ t.tblAddr 0 (8
    * idx) = some a :=
  ⟨({ owner with xbc := { owner.xbc with pkts := [(0, { stall := some (.xlt 5), ingress := .port 4 })] } } : State), _, _, 0,
    0, 5, 40, 4, ⟨rfl, rfl⟩, got (by decide +kernel), by decide +kernel⟩

theorem witness_BridgeTimers_1 : ∃ (s t u w : State) (dt k at_ i : Nat) (x : Trk) (h : Hdr) (e : Nat), Finds s dt t ∧ (e = (if
    t.isPrev x.epoch then x.epoch else t.cfg.epoch)) ∧ t.stampHdr e x.req = some (h, u) ∧ u.tryMakeAt e
    { internalPkt h none with origin := x.origin, trkOut := some k, vs := x.vs, vh := x.vs } x.data = some (i, w) ∧ tfind
    t.brg.trk k = some x ∧ x.retryAt = some at_ ∧ at_ ≤ t.brgNow ∧ t.brgFrozen = false ∧ (t.checkTrk k).1 = false :=
  ⟨(({ base with now := 1000, brg := { base.brg with trk := [(0, { retryAt := some 1000 })] } } : State).setRaw R.XBC_ALPHA
    64), _, _, _, 0, 0, 1000, _, { retryAt := some 1000 }, _, 0, ⟨rfl, rfl⟩, rfl, took (by decide +kernel), took (by
    decide +kernel), by decide +kernel⟩

theorem witness_BridgeTimers_2 : ∃ (s t : State) (dt k : Nat) (x : Trk), Finds s dt t ∧ tfind t.brg.trk k = some x ∧ x.deadline
    ≤ t.brgNow ∧ t.brgFrozen = false ∧ (∀ e ∈ t.brg.lost, e.1 ≠ k) ∧ (t.checkTrk k).1 = true :=
  ⟨({ base with brg := { base.brg with trk := [(0, {})] }, upsets := [(0xE2, 0), (0xE2, 1)] } : State), _, 0, 0, {}, ⟨rfl,
    rfl⟩, by decide +kernel⟩

theorem witness_BridgeTimers_3 : ∃ (s t : State) (dt k : Nat) (x : Trk), Finds s dt t ∧ tfind t.brg.trk k = some x ∧ x.deadline
    ≤ t.brgNow ∧ t.brgFrozen = false ∧ (∀ e ∈ t.brg.lost, e.1 ≠ k) ∧ (t.checkTrk k).1 = false :=
  ⟨({ base with brg := { base.brg with trk := [(0, {})] } } : State), _, 0, 0, {}, ⟨rfl, rfl⟩, by decide +kernel⟩

theorem witness_BridgeTimers_4 : ∃ (s t : State) (dt k : Nat) (e : Nat × Trk), Finds s dt t ∧ t.brgFrozen = false ∧
    (t.brg.lost.find? (fun e => e.1 == k && decide (e.2.deadline ≤ t.brgNow)) = some e) :=
  ⟨({ base with brg := { base.brg with lost := [(0, {})] } } : State), _, 0, 0, (0, {}), ⟨rfl, rfl⟩, by decide +kernel⟩

theorem witness_BridgeTimers_5 : ∃ (s t : State) (dt : Nat), Finds s dt t ∧ t.decanting = true :=
  ⟨({ base with dct := { base.dct with active := true } } : State), _, 0, ⟨rfl, rfl⟩, by decide +kernel⟩

theorem witness_BridgeTimers_6 : ∃ (s t : State) (dt : Nat), Finds s dt t ∧ t.decanting = false :=
  ⟨base, _, 0, ⟨rfl, rfl⟩, by decide +kernel⟩

theorem witness_BridgeTimers_7 : ∃ (s t : State) (dt : Nat) (v : Fin 32) (b : List Byte) (l : List (List Byte)), Finds s dt t ∧
    tget [] t.dmv.failQ v.val = b :: l ∧ t.ringRoom (.fail v) > 0 :=
  ⟨(({ base with dmv := { base.dmv with failQ := [(31, [[]])] } } : State).setRaw (RingId.cfg (.fail 31)) 0x80100106), _, 0,
    31, [], [], ⟨rfl, rfl⟩, by decide +kernel⟩

theorem witness_PrefetchAndRates_0 : ∃ (s t : State) (dt id j : Nat) (a : Answer) (x : Pf), Finds s dt t ∧ t.answers.find?
    Answer.ofPrefetch = some a ∧ a.origin = .prefetch id ∧ (t.brg.pf.find? (fun e => e.2.id == id) = some (j, x)) ∧ a.status =
    0 ∧ a.lost = false :=
  ⟨({ base with brg := { base.brg with pf := [(2, { id := 6 })] }, answers := [{ origin := .prefetch 6 }] } : State), _, 0, 6,
    2, { origin := .prefetch 6 }, { id := 6 }, ⟨rfl, rfl⟩, by decide +kernel⟩

theorem witness_PrefetchAndRates_1 : ∃ (s t : State) (dt id j : Nat) (a : Answer) (x : Pf), Finds s dt t ∧ t.answers.find?
    Answer.ofPrefetch = some a ∧ a.origin = .prefetch id ∧ (t.brg.pf.find? (fun e => e.2.id == id) = some (j, x)) ∧ (a.status ≠
    0 ∨ a.lost = true) :=
  ⟨({ base with brg := { base.brg with pf := [(2, { id := 6 })] }, answers := [{ origin := .prefetch 6, status := 1 }] } :
    State), _, 0, 6, 2, { origin := .prefetch 6, status := 1 }, { id := 6 }, ⟨rfl, rfl⟩, by decide +kernel⟩

theorem witness_PrefetchAndRates_2 : ∃ (s t : State) (dt j : Nat) (x : Pf), Finds s dt t ∧ tfind t.brg.pf j = some x ∧ x.filled
    = true ∧ t.brgNow - x.last ≥ 50000 ∧ t.decanting = false :=
  ⟨({ base with now := 50000, brg := { base.brg with pf := [(2, { filled := true })] } } : State), _, 0, 2, { filled := true },
    ⟨rfl, rfl⟩, by decide +kernel⟩

theorem witness_PrefetchAndRates_3 : ∃ (s t : State) (dt id w : Nat) (x : SbVal), Finds s dt t ∧ x = tget {} t.brg.sb id ∧ w =
    t.onDieAt t.cfg.epoch 4 (8 * id) 8 ∧ x.pending = true ∧ t.brgNow - x.lastSend ≥ max 1 (bitsOf w 13 12) * 100000 ∧
    t.brgFrozen = false ∧ t.entryFaulty t.cfg.epoch 4 id = false ∧ bitAt w 63 = true ∧ (bitsOf w 61 2 = 1 ∨ bitsOf w 61 2 = 2)
    :=
  ⟨({ base with now := 100000, brg := { base.brg with sb := [(0, { pending := true })] }, cfg := { base.cfg with onDie := [(0x4000007, 0xA0)] } }
    : State), _, 0, 0, _, _, ⟨rfl, rfl⟩, rfl, rfl, by decide +kernel⟩

theorem witness_RoutedMessagesComplete_0 : ∃ (s t u : State) (dt p : Nat) (op : NoteOp) (v : Nat), Finds s dt t ∧ u = t.setSgl
    p { t.sglOf p with ccIn := (t.sglOf p).ccIn + 1 } ∧ u.fidIndex op.src = some v ∧ t.isScango p = true ∧ (t.sglOf p).phase =
    3 ∧ (t.sglOf p).ccIn < 16 ∧ op.cause < 256 ∧ op.dst < 4096 ∧ op.src < 4096 ∧ op.tc < 8 ∧ op.seq < 65536 ∧ op.length < 65536
    ∧ op.offset < 2 ^ 52 ∧ op.reqId < 65536 ∧ op.reporter < 4096 ∧ (∀ x, op.pasid = some x → x < 2 ^ 20) ∧ u.ownFid op.src =
    true ∧ u.dct.quiet = false :=
  ⟨owner, _, _, 0, 8,
    { cause := 0, dst := 0, src := 0, tc := 0, seq := 0, length := 0, offset := 0, reqId := 0, reporter := 0, pasid := none },
    _, ⟨rfl, rfl⟩, rfl, got (by decide +kernel), by decide +kernel⟩

theorem witness_RoutedMessagesComplete_1 : ∃ (s t u : State) (dt p owner target id reason : Nat), Finds s dt t ∧ u = t.setSgl p
    { t.sglOf p with ccIn := (t.sglOf p).ccIn + 1 } ∧ t.isScango p = true ∧ (t.sglOf p).phase = 3 ∧ (t.sglOf p).ccIn < 16 ∧
    owner < 4096 ∧ target < 4096 ∧ id < 65536 ∧ reason < 256 ∧ u.ownFid u.arbFid = true :=
  ⟨owner, _, _, 0, 8, 0, 0, 0, 0, ⟨rfl, rfl⟩, rfl, by decide +kernel⟩

theorem witness_RoutedMessagesComplete_2 : ∃ (s t u : State) (dt p owner target id reason : Nat), Finds s dt t ∧ u = t.setSgl p
    { t.sglOf p with ccIn := (t.sglOf p).ccIn + 1 } ∧ t.isScango p = true ∧ (t.sglOf p).phase = 3 ∧ (t.sglOf p).ccIn < 16 ∧
    owner < 4096 ∧ target < 4096 ∧ id < 65536 ∧ reason < 256 ∧ u.ownFid owner = true :=
  ⟨owner, _, _, 0, 8, 0, 0, 0, 0, ⟨rfl, rfl⟩, rfl, by decide +kernel⟩

theorem witness_RoutedMessagesComplete_3 : ∃ (s t u : State) (dt p owner target id reason : Nat), Finds s dt t ∧ u = t.setSgl p
    { t.sglOf p with ccIn := (t.sglOf p).ccIn + 1 } ∧ t.isScango p = true ∧ (t.sglOf p).phase = 3 ∧ (t.sglOf p).ccIn < 16 ∧
    owner < 4096 ∧ target < 4096 ∧ id < 65536 ∧ reason < 256 :=
  ⟨owner, _, _, 0, 8, 0, 0, 0, 0, ⟨rfl, rfl⟩, rfl, by decide +kernel⟩

theorem witness_LockTimers_0 : ∃ (s t : State) (dt o g id since : Nat), Finds s dt t ∧ t.brg.arb = some (o, g, id, since) ∧
    t.brgNow - since ≥ 10000000 ∧ t.brgFrozen = false :=
  ⟨({ base with now := 10000000, brg := { base.brg with arb := some (1, 2, 3, 0) } } : State), _, 0, 1, 2, 3, 0, ⟨rfl, rfl⟩, by
    decide +kernel⟩

theorem witness_LockTimers_1 : ∃ (s t : State) (dt v : Nat), Finds s dt t ∧ (t.lock v).st = 1 ∧ t.brgNow - (t.lock v).since ≥
    10000000 ∧ t.brgFrozen = false :=
  ⟨({ base with now := 10000000, brg := { base.brg with locks := [(0, { st := 1 })] } } : State), _, 0, 0, ⟨rfl, rfl⟩, by
    decide +kernel⟩

theorem witness_LockTimers_2 : ∃ (s t : State) (dt o g id since : Nat), Finds s dt t ∧ t.brg.arb = some (o, g, id, since) ∧
    t.brgNow - since < 10000000 :=
  ⟨({ base with brg := { base.brg with arb := some (1, 2, 3, 0) } } : State), _, 0, 1, 2, 3, 0, ⟨rfl, rfl⟩, by decide +kernel⟩

theorem witness_PcieLinkStates_0 : ∃ (s t : State) (dt p : Nat) (adv : Word), Finds s dt t ∧ adv = fcAdvert (t.raw (t.pk p
    R.PCP_FC)) (t.hdrmMin p) ∧ t.isPcie p = true ∧ (t.pcpOf p).up = false ∧ t.mayTrain p = true ∧ F.PCP_FC_ADV_NO_FIT.get adv ≠
    1 :=
  ⟨((((({ base with pcp := [(0, { perstIn := false, perst := false })] } : State).setFld (base.pk 0 R.PCP_PORT_CFG)
    F.PCP_PORT_CFG_TC_EN 1).setFld (R.XBC_ACCT 0 0) F.XBC_ACCT_HDRM 23).setRaw (base.pk 0 R.PCP_FC) (F.PCP_FC_PH.set
    (F.PCP_FC_NPH.set (F.PCP_FC_CPLH.set (F.PCP_FC_PD.set (F.PCP_FC_NPD.set (F.PCP_FC_CPLD.set 0 32) 4) 32) 1) 1) 1)).setRaw
    R.PWR_ON 1), _, 0, 0, _, ⟨rfl, rfl⟩, rfl, by decide +kernel⟩

theorem witness_PcieLinkStates_1 : ∃ (s t : State) (dt p : Nat), Finds s dt t ∧ t.isPcie p = true ∧ (t.pcpOf p).up = true ∧
    t.flag (t.pk p R.PCP_SLOT_CFG) F.PCP_SLOT_CFG_SLOT_EN = true :=
  ⟨base.setFld (base.pk 0 R.PCP_SLOT_CFG) F.PCP_SLOT_CFG_SLOT_EN 1, _, 0, 0, ⟨rfl, rfl⟩, by decide +kernel⟩

theorem witness_PcieLinkStates_2 : ∃ (s t : State) (dt p : Nat), Finds s dt t ∧ t.isPcie p = true ∧ (t.pcpOf p).up = true ∧
    t.flag (t.pk p R.PCP_SLOT_CFG) F.PCP_SLOT_CFG_SLOT_EN = false :=
  ⟨base, _, 0, 0, ⟨rfl, rfl⟩, by decide +kernel⟩

theorem witness_PcieLinkStates_3 : ∃ (s t : State) (dt p : Nat), Finds s dt t ∧ t.isPcie p = true ∧ (t.pcpOf p).up = true ∧
    (t.pcpOf p).l1 = false ∧ t.l1Allowed p = true ∧ t.portIdle p = true ∧ t.now - (t.pcpOf p).idleSince ≥ 1000 * t.fld (t.pk p
    R.PCP_PM_CFG) F.PCP_PM_CFG_L1_IDLE ∧ (t.role p ≠ 0 ∨ t.belowIdle (t.vsOf p) = true) :=
  ⟨(({ base with now := 2 ^ 40 } : State).setFld (base.pk 5 R.PCP_PM_CFG) F.PCP_PM_CFG_ASPM_L1 1), _, 0, 5, ⟨rfl, rfl⟩, by
    decide +kernel⟩

theorem witness_PcieLinkStates_4 : ∃ (s t : State) (dt p : Nat), Finds s dt t ∧ t.isPcie p = true ∧ (t.pcpOf p).l1 = true :=
  ⟨({ base with pcp := [(0, { up := true, l1 := true })] } : State), _, 0, 0, ⟨rfl, rfl⟩, by decide +kernel⟩

theorem witness_PcieLinkStates_5 : ∃ (s t : State) (dt p lanes : Nat), Finds s dt t ∧ t.isPcie p = true ∧ (t.pcpOf p).up = true
    ∧ (t.pcpOf p).l1 = false ∧ t.l0pAllowed p = true ∧ 1 ≤ lanes ∧ t.belowHalf p lanes = true ∧ lanes < t.fld (t.pk p
    R.PCP_LINK_STAT) F.PCP_LINK_STAT_WIDTH_NEG :=
  ⟨({ (((base.setFld (base.pk 5 R.PCP_LINK_STAT) F.PCP_LINK_STAT_WIDTH_NEG 8).setFld (base.pk 5 R.PCP_LINK_STAT) F.PCP_LINK_STAT_FLIT 1).setFld (base.pk 5 R.PCP_PM_CFG) F.PCP_PM_CFG_L0P_EN 1).setFld (base.pk 5 R.PCP_LINK_STAT) F.PCP_LINK_STAT_RATE 5 with now := 2 ^ 30 }
    : State), _, 0, 5, 7, ⟨rfl, rfl⟩, by decide +kernel⟩

theorem witness_PcieLinkStates_6 : ∃ (s t : State) (dt p : Nat), Finds s dt t ∧ t.isPcie p = true ∧ (t.pcpOf p).up = true :=
  ⟨base, _, 0, 0, ⟨rfl, rfl⟩, by decide +kernel⟩

theorem witness_PcieResetsAndRequests_0 : ∃ (s t : State) (dt p : Nat), Finds s dt t ∧ t.role p = 0 :=
  ⟨base, _, 0, 0, ⟨rfl, rfl⟩, by decide +kernel⟩

theorem witness_PcieResetsAndRequests_1 : ∃ (s t : State) (dt p : Nat), Finds s dt t ∧ t.role p = 0 ∧ (t.pcpOf p).up = true :=
  ⟨base, _, 0, 0, ⟨rfl, rfl⟩, by decide +kernel⟩

theorem witness_PcieResetsAndRequests_2 : ∃ (s t : State) (dt p : Nat), Finds s dt t ∧ t.isDown (.port p) = true :=
  ⟨base, _, 0, 4, ⟨rfl, rfl⟩, by decide +kernel⟩

theorem witness_PcieResetsAndRequests_3 : ∃ (s t : State) (dt v p : Nat), Finds s dt t ∧ t.upPort v = some p ∧ (t.pcpOf
    p).perstIn = false :=
  ⟨base, _, 0, 0, _, ⟨rfl, rfl⟩, got (by decide +kernel), by decide +kernel⟩

theorem witness_PcieResetsAndRequests_4 : ∃ (s t : State) (dt : Nat), Finds s dt t ∧ t.ctl.busyCmd = none ∧ t.wlg.harvest =
    none :=
  ⟨base, _, 0, ⟨rfl, rfl⟩, by decide +kernel⟩

theorem witness_PcieResetsAndRequests_5 : ∃ (s t : State) (dt p : Nat), Finds s dt t ∧ t.role p < 2 :=
  ⟨base, _, 0, 0, ⟨rfl, rfl⟩, by decide +kernel⟩

theorem witness_PcieResetsAndRequests_6 : ∃ (s t : State) (dt p : Nat) (u : State), Finds s dt t ∧ u = (((t.setPcp p
    { t.pcpOf p with dpc := false }).cfgClear (.port p) 0x96 1).markContained p false).setFld (t.pk p R.PCP_LINK_STAT)
    F.PCP_LINK_STAT_PM 7 ∧ (t.pcpOf p).dpc = true ∧ t.vsContained (t.vsOf p) = false :=
  ⟨({ base with pcp := [(4, { dpc := true })] } : State), _, 0, 4, _, ⟨rfl, rfl⟩, rfl, by decide +kernel⟩

theorem witness_PcieResetsAndRequests_7 : ∃ (s t : State) (dt p x : Nat), Finds s dt t ∧ (t.pcpOf p).pgSince = some x ∧
    t.perstHeld p = false ∧ t.now - x ≥ 1000000 * t.fld (t.pk p R.PCP_SLOT_CFG) F.PCP_SLOT_CFG_PERST_DLY :=
  ⟨({ base with now := 2 ^ 40, pcp := [(5, { pgSince := some 0 })] } : State).setFld (base.pk 5 R.PCP_SLOT_CFG)
    F.PCP_SLOT_CFG_PERST_ASSERT 0, _, 0, 5, 0, ⟨rfl, rfl⟩, by decide +kernel⟩

theorem witness_PcieResetsAndRequests_8 : ∃ (s t : State) (dt p : Nat) (u : State), Finds s dt t ∧ u = (t.setFld (t.pk p
    R.PCP_CFGRQ) F.PCP_CFGRQ_BUSY 0).setFld (t.pk p R.PCP_CFGRQ) F.PCP_CFGRQ_STATUS 0 ∧ t.flag (t.pk p R.PCP_CFGRQ)
    F.PCP_CFGRQ_BUSY = true ∧ t.flag (t.pk p R.PCP_CFGRQ) F.PCP_CFGRQ_WRITE = false :=
  ⟨base.setFld (base.pk 5 R.PCP_CFGRQ) F.PCP_CFGRQ_BUSY 1, _, 0, 5, _, ⟨rfl, rfl⟩, rfl, by decide +kernel⟩

theorem witness_PcieResetsAndRequests_9 : ∃ (s t : State) (dt p st : Nat), Finds s dt t ∧ t.flag (t.pk p R.PCP_CFGRQ)
    F.PCP_CFGRQ_BUSY = true ∧ (st = 1 ∨ st = 2 ∨ st = 4) :=
  ⟨base.setFld (base.pk 5 R.PCP_CFGRQ) F.PCP_CFGRQ_BUSY 1, _, 0, 5, 4, ⟨rfl, rfl⟩, by decide +kernel⟩

theorem witness_PcieResetsAndRequests_10 : ∃ (s t : State) (dt p : Nat), Finds s dt t ∧ t.flag (t.pk p R.PCP_CFGRQ)
    F.PCP_CFGRQ_BUSY = true ∧ t.now - (t.pcpOf p).cfgSince ≥ 50000000 :=
  ⟨({ base with now := 50000000 } : State).setFld (base.pk 5 R.PCP_CFGRQ) F.PCP_CFGRQ_BUSY 1, _, 0, 5, ⟨rfl, rfl⟩, by
    decide +kernel⟩

theorem witness_FlitsComplete_0 : ∃ (s t : State) (dt p : Nat) (x : SglSt) (u : State), Finds s dt t ∧ x = ((t.linkCheck
    p).sglOf p).dropUnsent ∧ u = (t.linkCheck p).setSgl p { x with run := x.run + 1 } ∧ t.isScango p = true ∧ ((t.sglOf p).st =
    2 ∨ (t.sglOf p).st = 3) ∧ x.run + 1 > 1023 :=
  ⟨({ base with sgl := [(8, { st := 3, run := 1023 })] } : State), _, 0, 8, _, _, ⟨rfl, rfl⟩, rfl, rfl, by decide +kernel⟩

theorem witness_FlitsComplete_1 : ∃ (s t : State) (dt p : Nat) (x : SglSt) (u : State), Finds s dt t ∧ x = ((t.linkCheck
    p).sglOf p).dropUnsent ∧ u = (t.linkCheck p).setSgl p { x with run := x.run + 1 } ∧ t.isScango p = true ∧ ((t.sglOf p).st =
    2 ∨ (t.sglOf p).st = 3) ∧ x.run + 1 ≤ 1023 ∧ (u.sglOf p).replay = none ∧ u.cremaReady p = false ∧ ((u.sglOf p).buf.length ≥
    496 ∨ u.sendData p = none) :=
  ⟨({ base with sgl := [(8, { st := 3, run := 1022, buf := List.replicate 496 {} })] } : State), _, 0, 8, _, _, ⟨rfl, rfl⟩,
    rfl, rfl, by decide +kernel⟩

theorem witness_FlitsComplete_2 : ∃ (s t : State) (dt p : Nat) (x : SglSt) (u : State), Finds s dt t ∧ x = ((t.linkCheck
    p).sglOf p).dropUnsent ∧ u = (t.linkCheck p).setSgl p { x with run := x.run + 1 } ∧ t.isScango p = true ∧ ((t.sglOf p).st =
    2 ∨ (t.sglOf p).st = 3) ∧ x.run + 1 ≤ 1023 ∧ (u.sglOf p).replay = none ∧ u.cremaReady p = true ∧ (u.sglOf p).buf.length <
    512 ∧ u.sendData p = none :=
  ⟨({ base with sgl := [(8, { st := 3, run := 1022, linkMsgs := [[1]], buf := List.replicate 511 {} })] } : State), _, 0, 8, _,
    _, ⟨rfl, rfl⟩, rfl, rfl, by decide +kernel⟩

theorem witness_FlitsComplete_3 : ∃ (s t : State) (dt p : Nat) (x : SglSt) (u w : State), Finds s dt t ∧ x = ((t.linkCheck
    p).sglOf p).dropUnsent ∧ u = (t.linkCheck p).setSgl p { x with run := x.run + 1 } ∧ u.sendData p = some w ∧ t.isScango p =
    true ∧ ((t.sglOf p).st = 2 ∨ (t.sglOf p).st = 3) ∧ x.run + 1 ≤ 1023 ∧ (u.sglOf p).replay = none ∧ (u.sglOf p).buf.length <
    496 ∧ (u.cremaReady p = false ∨ (u.sglOf p).cremaRun < 3) :=
  ⟨({ base with sgl := [(8, { st := 3, linkMsgs := [[1]], cremaRun := 2, buf := List.replicate 495 {}, tx := [{ bytes := List.replicate 236 7, more := true }] })] }
    : State), _, 0, 8, _, _, _, ⟨rfl, rfl⟩, rfl, rfl, got (by decide +kernel), by decide +kernel⟩

theorem witness_FlitsComplete_4 : ∃ (s t : State) (dt p : Nat) (x : SglSt) (u : State) (k : Nat) (f : TxFlit), Finds s dt t ∧ x
    = ((t.linkCheck p).sglOf p).dropUnsent ∧ u = (t.linkCheck p).setSgl p { x with run := x.run + 1 } ∧ t.isScango p = true ∧
    ((t.sglOf p).st = 2 ∨ (t.sglOf p).st = 3) ∧ x.run + 1 ≤ 1023 ∧ (u.sglOf p).replay = some k ∧ (u.sglOf p).buf[(u.sglOf
    p).buf.length - k]? = some f ∧ u.flitBad p f.fsn = false :=
  ⟨({ base with sgl := [(8, { st := 2, buf := [{ fsn := 5 }], replay := some 1 })] } : State), _, 0, 8, _, _, 1, { fsn := 5 },
    ⟨rfl, rfl⟩, rfl, rfl, by decide +kernel⟩

theorem witness_FlitsComplete_5 : ∃ (s t : State) (dt p : Nat) (x : SglSt) (u : State) (k : Nat) (f : TxFlit), Finds s dt t ∧ x
    = ((t.linkCheck p).sglOf p).dropUnsent ∧ u = (t.linkCheck p).setSgl p { x with run := x.run + 1 } ∧ t.isScango p = true ∧
    ((t.sglOf p).st = 2 ∨ (t.sglOf p).st = 3) ∧ x.run + 1 ≤ 1023 ∧ (u.sglOf p).replay = some k ∧ (u.sglOf p).buf[(u.sglOf
    p).buf.length - k]? = some f :=
  ⟨({ base with sgl := [(8, { st := 2, buf := [{ fsn := 5 }], replay := some 1 })] } : State), _, 0, 8, _, _, 1, { fsn := 5 },
    ⟨rfl, rfl⟩, rfl, rfl, by decide +kernel⟩

theorem witness_FlitsComplete_6 : ∃ (s t : State) (dt p : Nat) (raw : List Byte), Finds s dt t ∧ t.isScango p = true ∧
    ((t.sglOf p).st = 2 ∨ (t.sglOf p).st = 3) ∧ decodeFlit raw = none :=
  ⟨base, _, 0, 8, [1, 0, 0, 1], ⟨rfl, rfl⟩, by decide +kernel⟩

theorem witness_FlitsComplete_7 : ∃ (s t : State) (dt p : Nat) (raw f : List Byte) (fixed : List Nat) (u : State) (y : SglSt)
    (d ty : Nat), Finds s dt t ∧ decodeFlit raw = some (f, fixed) ∧ u = (((t.ev 5 4 p 0).corrections p fixed).ackIn p (bitsOf
    (beAt f 0 4) 6 12)).2.goodFlit p ∧ y = u.sglOf p ∧ t.isScango p = true ∧ ((t.sglOf p).st = 2 ∨ (t.sglOf p).st = 3) ∧ d =
    (bitsOf (beAt f 0 4) 18 12 + 4096 - y.exp) % 4096 ∧ ty = bitsOf (beAt f 0 4) 30 2 ∧ ty = 3 ∧ d = 0 :=
  ⟨({ base with sgl := [(8, { st := 3, exp := 0 })] } : State), _, 0, 8, cremaFlit, cremaFlit, [], _, _, 0, 3, ⟨rfl, rfl⟩,
    cremaFlit_decodes, rfl, rfl, by decide +kernel⟩

theorem witness_FlitsComplete_8 : ∃ (s t : State) (dt p : Nat) (raw f : List Byte) (fixed : List Nat) (u : State) (y : SglSt)
    (d ty : Nat), Finds s dt t ∧ decodeFlit raw = some (f, fixed) ∧ u = (((t.ev 5 4 p 0).corrections p fixed).ackIn p (bitsOf
    (beAt f 0 4) 6 12)).2.goodFlit p ∧ y = u.sglOf p ∧ t.isScango p = true ∧ ((t.sglOf p).st = 2 ∨ (t.sglOf p).st = 3) ∧ d =
    (bitsOf (beAt f 0 4) 18 12 + 4096 - y.exp) % 4096 ∧ ty = bitsOf (beAt f 0 4) 30 2 ∧ (ty = 1 ∨ ty = 2) ∧ y.phase ≠ 2 ∧ d = 0
    :=
  ⟨({ base with sgl := [(8, { st := 3, exp := 0 })] } : State), _, 0, 8, dataFlit, dataFlit, [], _, _, 0, 1, ⟨rfl, rfl⟩,
    dataFlit_decodes, rfl, rfl, by decide +kernel⟩

theorem witness_FlitsComplete_9 : ∃ (s t : State) (dt p : Nat) (raw f : List Byte) (fixed : List Nat) (u : State) (y : SglSt)
    (d ty : Nat), Finds s dt t ∧ decodeFlit raw = some (f, fixed) ∧ u = (((t.ev 5 4 p 0).corrections p fixed).ackIn p (bitsOf
    (beAt f 0 4) 6 12)).2.goodFlit p ∧ y = u.sglOf p ∧ t.isScango p = true ∧ ((t.sglOf p).st = 2 ∨ (t.sglOf p).st = 3) ∧ d =
    (bitsOf (beAt f 0 4) 18 12 + 4096 - y.exp) % 4096 ∧ ty = bitsOf (beAt f 0 4) 30 2 ∧ ty ≠ 0 ∧ (ty = 3 ∨ y.phase ≠ 2) ∧ 1 ≤ d
    ∧ d < 512 :=
  ⟨({ base with sgl := [(8, { st := 3, exp := 3585 })] } : State), _, 0, 8, dataFlit, dataFlit, [], _, _, 511, 1, ⟨rfl, rfl⟩,
    dataFlit_decodes, rfl, rfl, by decide +kernel⟩

theorem witness_FlitsComplete_10 : ∃ (s t : State) (dt p : Nat) (raw f : List Byte) (fixed : List Nat) (u : State) (y : SglSt)
    (d ty : Nat), Finds s dt t ∧ decodeFlit raw = some (f, fixed) ∧ u = (((t.ev 5 4 p 0).corrections p fixed).ackIn p (bitsOf
    (beAt f 0 4) 6 12)).2.goodFlit p ∧ y = u.sglOf p ∧ t.isScango p = true ∧ ((t.sglOf p).st = 2 ∨ (t.sglOf p).st = 3) ∧ d =
    (bitsOf (beAt f 0 4) 18 12 + 4096 - y.exp) % 4096 ∧ ty = bitsOf (beAt f 0 4) 30 2 ∧ ty ≠ 0 ∧ (ty = 3 ∨ y.phase ≠ 2) ∧ 512 ≤
    d ∧ d < 2048 :=
  ⟨({ base with sgl := [(8, { st := 3, exp := 3584 })] } : State), _, 0, 8, cremaFlit, cremaFlit, [], _, _, 512, 3, ⟨rfl, rfl⟩,
    cremaFlit_decodes, rfl, rfl, by decide +kernel⟩

theorem witness_FlitsComplete_11 : ∃ (s t : State) (dt p : Nat) (raw f : List Byte) (fixed : List Nat) (u : State) (y : SglSt)
    (d ty : Nat), Finds s dt t ∧ decodeFlit raw = some (f, fixed) ∧ u = (((t.ev 5 4 p 0).corrections p fixed).ackIn p (bitsOf
    (beAt f 0 4) 6 12)).2.goodFlit p ∧ y = u.sglOf p ∧ t.isScango p = true ∧ ((t.sglOf p).st = 2 ∨ (t.sglOf p).st = 3) ∧ d =
    (bitsOf (beAt f 0 4) 18 12 + 4096 - y.exp) % 4096 ∧ ty = bitsOf (beAt f 0 4) 30 2 ∧ ty ≠ 0 ∧ (ty = 3 ∨ y.phase ≠ 2) ∧ 2048
    ≤ d ∧ ackMsg false 0 ∉ y.linkMsgs :=
  ⟨({ base with sgl := [(8, { st := 3, exp := 1 })] } : State), _, 0, 8, dataFlit, dataFlit, [], _, _, 4095, 1, ⟨rfl, rfl⟩,
    dataFlit_decodes, rfl, rfl, by decide +kernel⟩

theorem witness_FlitsComplete_12 : ∃ (s t : State) (dt p : Nat) (raw f : List Byte) (fixed : List Nat) (u : State) (y : SglSt)
    (d ty : Nat), Finds s dt t ∧ decodeFlit raw = some (f, fixed) ∧ u = (((t.ev 5 4 p 0).corrections p fixed).ackIn p (bitsOf
    (beAt f 0 4) 6 12)).2.goodFlit p ∧ y = u.sglOf p ∧ t.isScango p = true ∧ ((t.sglOf p).st = 2 ∨ (t.sglOf p).st = 3) ∧ d =
    (bitsOf (beAt f 0 4) 18 12 + 4096 - y.exp) % 4096 ∧ ty = bitsOf (beAt f 0 4) 30 2 ∧ ty = 0 ∧ (d = 0 ∨ 512 ≤ d) :=
  ⟨({ base with sgl := [(8, { st := 3, exp := 0 })] } : State), _, 0, 8, idleFlit, idleFlit, [], _, _, 0, 0, ⟨rfl, rfl⟩,
    idleFlit_decodes, rfl, rfl, by decide +kernel⟩

theorem witness_FlitsComplete_13 : ∃ (s t u : State) (dt p a : Nat), Finds s dt t ∧ t.ackIn p a = (true, u) ∧ t.isScango p =
    true ∧ ((t.sglOf p).st = 2 ∨ (t.sglOf p).st = 3) :=
  ⟨base, _, _, 0, 8, 4095, ⟨rfl, rfl⟩, second (by decide +kernel), by decide +kernel⟩

theorem witness_FlitsComplete_14 : ∃ (s t : State) (dt p : Nat), Finds s dt t ∧ ((t.sglOf p).st = 2 ∨ (t.sglOf p).st = 3) ∧
    (t.sglOf p).buf ≠ [] ∧ t.now - (t.sglOf p).timer ≥ (t.sglOf p).tmo :=
  ⟨({ base with sgl := [(8, { st := 2, buf := [{}] })] } : State), _, 0, 8, ⟨rfl, rfl⟩, by decide +kernel⟩

theorem witness_LinkMessagesComplete_0 : ∃ (s t : State) (dt p first cc : Nat) (vals : List (Nat × Nat)), Finds s dt t ∧
    t.isScango p = true ∧ ((t.sglOf p).st = 2 ∨ (t.sglOf p).st = 3) ∧ first ∈ [0, 6, 12, 18] ∧ (∀ j < 6, ((vals.getD j (0,
    0)).1 + 4096 - (tget {} (t.sglOf p).pools (first + j)).cr) % 4096 ≤ ((tget {} (t.sglOf p).pools (first + j)).cons + 4096 -
    (tget {} (t.sglOf p).pools (first + j)).cr) % 4096 ∧ ((vals.getD j (0, 0)).2 + 65536 - (tget {} (t.sglOf p).pools (first +
    j)).crD) % 65536 ≤ ((tget {} (t.sglOf p).pools (first + j)).consD + 65536 - (tget {} (t.sglOf p).pools (first + j)).crD) %
    65536) ∧ (cc + 256 - (t.sglOf p).ccRet) % 256 ≤ ((t.sglOf p).ccCons + 256 - (t.sglOf p).ccRet) % 256 :=
  ⟨base, _, 0, 8, 18, 0, [], ⟨rfl, rfl⟩, by decide +kernel⟩

theorem witness_LinkMessagesComplete_1 : ∃ (s t : State) (dt p first cc : Nat), Finds s dt t ∧ t.isScango p = true ∧ ((t.sglOf
    p).st = 2 ∨ (t.sglOf p).st = 3) ∧ first ∈ [0, 6, 12, 18] ∧ (cc + 256 - (t.sglOf p).ccRet) % 256 > ((t.sglOf p).ccCons + 256
    - (t.sglOf p).ccRet) % 256 :=
  ⟨base, _, 0, 8, 0, 1, ⟨rfl, rfl⟩, by decide +kernel⟩

theorem witness_LinkMessagesComplete_2 : ∃ (s t : State) (dt p first : Nat) (vals : List (Nat × Nat)), Finds s dt t ∧
    t.isScango p = true ∧ (t.sglOf p).st = 2 ∧ first ∈ [0, 6, 12, 18] ∧ (∀ v ∈ vals, v.1 ≤ 2047 ∧ v.2 ≤ 32767) :=
  ⟨({ base with sgl := [(8, { st := 2 })] } : State), _, 0, 8, 0, [(2047, 32767)], ⟨rfl, rfl⟩, by decide +kernel⟩

theorem witness_LinkMessagesComplete_3 : ∃ (s t : State) (dt p : Nat), Finds s dt t ∧ t.isScango p = true ∧ (t.sglOf p).st = 2
    :=
  ⟨({ base with sgl := [(8, { st := 2 })] } : State), _, 0, 8, ⟨rfl, rfl⟩, by decide +kernel⟩

theorem witness_LinkMessagesComplete_4 : ∃ (s t : State) (dt p : Nat), Finds s dt t ∧ (t.sglOf p).st = 2 ∧ t.now - (t.sglOf
    p).initSince ≥ 10000 :=
  ⟨({ base with now := 10000, sgl := [(8, { st := 2 })] } : State), _, 0, 8, ⟨rfl, rfl⟩, by decide +kernel⟩

theorem witness_LaneSwapsComplete_0 : ∃ (s t : State) (dt p lane : Nat), Finds s dt t ∧ t.isScango p = true ∧ ((t.sglOf p).st =
    2 ∨ (t.sglOf p).st = 3) ∧ lane ≥ t.width p :=
  ⟨base, _, 0, 8, 8, ⟨rfl, rfl⟩, by decide +kernel⟩

theorem witness_LaneSwapsComplete_1 : ∃ (s t : State) (dt p lane : Nat), Finds s dt t ∧ t.isScango p = true ∧ ((t.sglOf p).st =
    2 ∨ (t.sglOf p).st = 3) ∧ lane < t.width p ∧ (t.sglOf p).swap.tx ≠ none :=
  ⟨({ base with sgl := [(8, { st := 3, swap := { tx := some 0 } })] } : State), _, 0, 8, 7, ⟨rfl, rfl⟩, by decide +kernel⟩

theorem witness_LaneSwapsComplete_2 : ∃ (s t : State) (dt p lane : Nat), Finds s dt t ∧ t.isScango p = true ∧ ((t.sglOf p).st =
    2 ∨ (t.sglOf p).st = 3) ∧ lane < t.width p ∧ (t.sglOf p).swap.tx = none ∧ t.ownsSpare p lane = true ∧ t.laneRetired
    (t.spareOf p lane) = false :=
  ⟨base, _, 0, 8, 0, ⟨rfl, rfl⟩, by decide +kernel⟩

theorem witness_LaneSwapsComplete_3 : ∃ (s t : State) (dt p lane why : Nat), Finds s dt t ∧ t.isScango p = true ∧ ((t.sglOf
    p).st = 2 ∨ (t.sglOf p).st = 3) ∧ (t.sglOf p).swap.rxPending = some (lane, why) :=
  ⟨({ base with sgl := [(8, { st := 3, swap := { rxPending := some (2, 1) } })] } : State), _, 0, 8, 2, 1, ⟨rfl, rfl⟩, by
    decide +kernel⟩

theorem witness_LaneSwapsComplete_4 : ∃ (s t : State) (dt p lane result why : Nat), Finds s dt t ∧ t.isScango p = true ∧
    ((t.sglOf p).st = 2 ∨ (t.sglOf p).st = 3) ∧ (t.sglOf p).swap.rxPending = some (lane, why) ∧ result ≠ 0 :=
  ⟨({ base with sgl := [(8, { st := 3, swap := { rxPending := some (2, 1) } })] } : State), _, 0, 8, 2, 1, 1, ⟨rfl, rfl⟩, by
    decide +kernel⟩

theorem witness_LaneSwapsComplete_5 : ∃ (s t : State) (dt p lane : Nat) (u : State), Finds s dt t ∧ (u = (t.modSgl p fun x =>
    { x with swap := { x.swap with txBoth := false } }).laneOut (t.laneOf p lane) "idle") ∧ t.isScango p = true ∧ ((t.sglOf
    p).st = 2 ∨ (t.sglOf p).st = 3) ∧ (t.sglOf p).swap.txBoth = true ∧ (t.sglOf p).swap.tx = some lane :=
  ⟨({ base with sgl := [(8, { st := 3, swap := { tx := some 2, txBoth := true } })] } : State), _, 0, 8, 2, _, ⟨rfl, rfl⟩, rfl,
    by decide +kernel⟩

theorem witness_LaneSwapsComplete_6 : ∃ (s t : State) (dt p l why : Nat), Finds s dt t ∧ (t.sglOf p).swap.rxPending = some (l,
    why) ∧ t.now - (t.sglOf p).swapSince ≥ 50000 :=
  ⟨({ base with now := 50000, sgl := [(8, { swap := { rxPending := some (2, 1) } })] } : State), _, 0, 8, 2, 1, ⟨rfl, rfl⟩, by
    decide +kernel⟩

theorem witness_RetrainsComplete_0 : ∃ (s t : State) (dt p lanes : Nat) (u : State), Finds s dt t ∧ (u = (t.upLanes p ++
    t.upSpares p).foldl (fun w n => w.setLane n
    { w.lane n with adapted := false, locked := false, hit := false, slipAt := (w.lane n).pos }) ((t.swapAbandon p).modSgl p
    fun x =>
    { x with st := 4, back := x.st, retrainSince := t.now, goodRun := 0, retrains := (x.retrains.filter fun y => t.now - y < 1000000000) ++ [t.now] }))
    ∧ t.isScango p = true ∧ (t.sglOf p).st = 3 ∧ t.width p ≤ 2 * lanes :=
  ⟨base, _, 0, 8, 4, _, ⟨rfl, rfl⟩, rfl, by decide +kernel⟩

theorem witness_RetrainsComplete_1 : ∃ (s t u : State) (dt p : Nat), Finds s dt t ∧ (u = (((((t.upLanes p ++ t.upSpares
    p).foldl (fun w n => if w.lgBit F.LG_BRINGUP_FAILED n then w else (w.setLane n
    { w.lane n with adapted := true, locked := true }).laneStat n F.LG_LANE_STAT_ADAPTED 1) t).setStep p 7).trainOut p 2
    16).setStep p 0).loadScr p) ∧ (t.sglOf p).st = 4 ∧ (t.sglOf p).buf = [] :=
  ⟨({ base with sgl := [(8, { st := 4 })] } : State), _, _, 0, 8, ⟨rfl, rfl⟩, rfl, by decide +kernel⟩

theorem witness_RetrainsComplete_2 : ∃ (s t u : State) (dt p : Nat), Finds s dt t ∧ (u = (((((t.upLanes p ++ t.upSpares
    p).foldl (fun w n => if w.lgBit F.LG_BRINGUP_FAILED n then w else (w.setLane n
    { w.lane n with adapted := true, locked := true }).laneStat n F.LG_LANE_STAT_ADAPTED 1) t).setStep p 7).trainOut p 2
    16).setStep p 0).loadScr p) ∧ (t.sglOf p).st = 4 ∧ (t.sglOf p).buf ≠ [] :=
  ⟨({ base with sgl := [(8, { st := 4, buf := [{}] })] } : State), _, _, 0, 8, ⟨rfl, rfl⟩, rfl, by decide +kernel⟩

theorem witness_RetrainsComplete_3 : ∃ (s t : State) (dt p : Nat), Finds s dt t ∧ (((t.sglOf p).st = 4 ∧ t.now - (t.sglOf
    p).retrainSince ≥ 500000) ∨ (((t.sglOf p).st = 3 ∨ (t.sglOf p).st = 4) ∧ ((t.sglOf p).retrains.filter fun y => t.now - y <
    1000000000).length ≥ t.sglCfg p F.SGL_CFG_RETRAIN_MAX)) :=
  ⟨({ base with now := 500000, sgl := [(8, { st := 4 })] } : State), _, 0, 8, ⟨rfl, rfl⟩, by decide +kernel⟩

theorem witness_RetrainsComplete_4 : ∃ (s t : State) (dt p : Nat) (more : Bool), Finds s dt t ∧ ((t.sglOf p).st = 2 ∨ (t.sglOf
    p).st = 3) ∧ more = true :=
  ⟨base, _, 0, 8, true, ⟨rfl, rfl⟩, by decide +kernel⟩

theorem witness_RetrainsComplete_5 : ∃ (s t : State) (dt p lane : Nat) (more : Bool), Finds s dt t ∧ ((t.sglOf p).st = 2 ∨
    (t.sglOf p).st = 3) ∧ more = false ∧ (t.sglOf p).swap.rx = some lane :=
  ⟨({ base with sgl := [(8, { st := 3, swap := { rx := some 7 } })] } : State), _, 0, 8, 7, false, ⟨rfl, rfl⟩, by
    decide +kernel⟩

theorem witness_RetrainsComplete_6 : ∃ (s t : State) (dt p lane : Nat) (more : Bool) (why : Nat), Finds s dt t ∧ ((t.sglOf
    p).st = 2 ∨ (t.sglOf p).st = 3) ∧ more = false ∧ (t.sglOf p).swap.rx ≠ some lane ∧ (t.sglOf p).swap.rxPending = some (lane,
    why) :=
  ⟨({ base with sgl := [(8, { st := 3, swap := { rxPending := some (7, 1) } })] } : State), _, 0, 8, 7, false, 1, ⟨rfl, rfl⟩,
    by decide +kernel⟩

theorem witness_RetrainsComplete_7 : ∃ (s t : State) (dt p lane : Nat) (more : Bool), Finds s dt t ∧ ((t.sglOf p).st = 2 ∨
    (t.sglOf p).st = 3) ∧ more = false ∧ (t.sglOf p).swap.rx ≠ some lane ∧ (∀ l ∈ (t.sglOf p).swap.rxPending, l.1 ≠ lane) :=
  ⟨base, _, 0, 8, 0, false, ⟨rfl, rfl⟩, by decide +kernel⟩

theorem witness_RetrainsComplete_8 : ∃ (s t : State) (dt p : Nat), Finds s dt t ∧ (t.sglOf p).st = 0 ∧ t.mayBringUp p = true ∧
    t.now - (t.sglOf p).downSince ≥ 10000000 ∧ (t.sglOf p).fails < 3 ∧ t.flag R.AGE_CFG F.AGE_CFG_RATE_AUTO = false :=
  ⟨({ base with now := 10000000, sgl := [] } : State), _, 0, 8, ⟨rfl, rfl⟩, by decide +kernel⟩

theorem witness_BringUpSteps_0 : ∃ (s t : State) (dt g l : Nat), Finds s dt t ∧ t.upPortAt g l = none ∧ (t.lane (9 * g +
    l)).lost = true :=
  ⟨({ base with lg := { base.lg with lanes := [(18, { lost := true })] } } : State), _, 0, 2, 0, ⟨rfl, rfl⟩, by decide +kernel⟩

theorem witness_BringUpSteps_1 : ∃ (s t u : State) (dt g l p n : Nat), Finds s dt t ∧ n = 9 * g + l ∧ (u = (if (t.sglOf
    p).bstep = 1 then t.setStep p 2 else t)) ∧ t.upPortAt g l = some p ∧ t.lgBit F.LG_BRINGUP_FAILED n = false ∧ (t.lane
    n).lost = false ∧ (t.sglOf p).st ≠ 4 :=
  ⟨({ base with sgl := [(8, { st := 1 })], lg := { base.lg with lanes := [(18, { cdr := true })] } } : State), _, _, 0, 2, 0,
    8, _, ⟨rfl, rfl⟩, rfl, rfl, by decide +kernel⟩

theorem witness_BringUpSteps_2 : ∃ (s t : State) (dt g l p n : Nat), Finds s dt t ∧ n = 9 * g + l ∧ t.upPortAt g l = some p ∧
    t.lgBit F.LG_BRINGUP_FAILED n = false ∧ (t.lane n).lost = false ∧ (t.lane n).cdr = true :=
  ⟨({ base with sgl := [(8, { st := 1 })], lg := { base.lg with lanes := [(18, { cdr := true })] } } : State), _, 0, 2, 0, 8,
    _, ⟨rfl, rfl⟩, rfl, by decide +kernel⟩

theorem witness_BringUpSteps_3 : ∃ (s t : State) (dt g l p n : Nat) (o : SlipSeen) (b : List Byte) (inv : Bool), Finds s dt t ∧
    n = 9 * g + l ∧ trainIn o.blk = some (b, inv) ∧ t.upPortAt g l = some p ∧ t.lgBit F.LG_BRINGUP_FAILED n = false ∧ (t.lane
    n).lost = false ∧ (t.lane n).adapted = true ∧ (t.lane n).locked = false ∧ (t.sglOf p).manual.contains g = false :=
  ⟨({ base with sgl := [(8, { st := 1 })], lg := { base.lg with lanes := [(18, { adapted := true })] } } : State), _, 0, 2, 0,
    8, _, { blk := trainBlock 0 0 0 0 0 none, skew := 0 }, _, _, ⟨rfl, rfl⟩, rfl, took (by decide +kernel), by decide +kernel⟩

theorem witness_BringUpSteps_4 : ∃ (s t : State) (dt g l p n : Nat) (o : SlipSeen) (pos : Nat), Finds s dt t ∧ n = 9 * g + l ∧
    t.upPortAt g l = some p ∧ t.lgBit F.LG_BRINGUP_FAILED n = false ∧ (t.lane n).lost = false ∧ (t.lane n).adapted = true ∧
    (t.lane n).locked = false ∧ (t.sglOf p).manual.contains g = false ∧ (pos = ((t.lane n).pos + (if (t.sglOf p).rateIdx = 0
    then 1 else 2)) % 128) ∧ trainIn o.blk = none ∧ pos ≠ (t.lane n).slipAt :=
  ⟨({ base with sgl := [(8, { st := 1 })], lg := { base.lg with lanes := [(18, { adapted := true, pos := 126 })] } } : State),
    _, 0, 2, 0, 8, _, { blk := [], skew := 0 }, 127, ⟨rfl, rfl⟩, rfl, by decide +kernel⟩

theorem witness_BringUpSteps_5 : ∃ (s t : State) (dt g l p n : Nat) (o : SlipSeen) (pos : Nat), Finds s dt t ∧ n = 9 * g + l ∧
    t.upPortAt g l = some p ∧ t.lgBit F.LG_BRINGUP_FAILED n = false ∧ (t.lane n).lost = false ∧ (t.lane n).adapted = true ∧
    (t.lane n).locked = false ∧ (t.sglOf p).manual.contains g = false ∧ (pos = ((t.lane n).pos + (if (t.sglOf p).rateIdx = 0
    then 1 else 2)) % 128) ∧ trainIn o.blk = none ∧ pos = (t.lane n).slipAt :=
  ⟨({ base with sgl := [(8, { st := 1, rateIdx := 1 })], lg := { base.lg with lanes := [(18, { adapted := true, pos := 126 })] } }
    : State), _, 0, 2, 0, 8, _, { blk := [], skew := 0 }, 0, ⟨rfl, rfl⟩, rfl, by decide +kernel⟩

theorem witness_BringUpSteps_6 : ∃ (s t : State) (dt g l p n : Nat) (o : SlipSeen), Finds s dt t ∧ n = 9 * g + l ∧ t.upPortAt g
    l = some p ∧ t.lgBit F.LG_BRINGUP_FAILED n = false ∧ (t.lane n).lost = false ∧ (t.lane n).adapted = true ∧ (t.lane
    n).locked = false ∧ (t.sglOf p).manual.contains g = true ∧ trainIn o.blk = none :=
  ⟨({ base with sgl := [(8, { st := 1, manual := [2] })], lg := { base.lg with lanes := [(18, { adapted := true })] } } :
    State), _, 0, 2, 0, 8, _, { blk := [], skew := 0 }, ⟨rfl, rfl⟩, rfl, by decide +kernel⟩

theorem witness_BringUpSteps_7 : ∃ (s t u : State) (dt g l p n : Nat) (req : TxEqReq), Finds s dt t ∧ n = 9 * g + l ∧ u =
    t.eqRequest n req ∧ t.upPortAt g l = some p ∧ (t.sglOf p).bstep = 6 ∧ (t.lane n).eqOk = false ∧ t.now - max (t.lane
    n).roundAt (t.sglOf p).bsince ≥ 10000 :=
  ⟨({ base with now := 10000, sgl := [(8, { st := 1, bstep := 6 })] } : State), _, _, 0, 2, 0, 8, _, .none, ⟨rfl, rfl⟩, rfl,
    rfl, by decide +kernel⟩

theorem witness_BringUpSteps_8 : ∃ (s t : State) (dt p : Nat), Finds s dt t ∧ t.isScango p = true ∧ (t.sglOf p).st = 1 ∧
    (t.sglOf p).bstep = 7 :=
  ⟨({ base with sgl := [(8, { st := 1, bstep := 7 })], lg := { base.lg with lanes := [(18, {  })] } } : State), _, 0, 8, ⟨rfl,
    rfl⟩, by decide +kernel⟩

theorem witness_BringUpSteps_9 : ∃ (s t : State) (dt p : Nat), Finds s dt t ∧ (t.sglOf p).st = 1 ∧ (t.sglOf p).bstep = 7 ∧
    t.now - (t.sglOf p).bsince ≥ 5000 :=
  ⟨({ base with now := 5000, sgl := [(8, { st := 1, bstep := 7 })] } : State), _, 0, 8, ⟨rfl, rfl⟩, by decide +kernel⟩

theorem witness_LaneChecks_0 : ∃ (s t : State) (dt g l : Nat) (coef : List Int) (x : LaneSt) (c : List Int), Finds s dt t ∧
    t.laneUp g l = true ∧ (t.lane (9 * g + l)).snap = none ∧ (t.lane (9 * g + l)).frozenAt = none ∧ (∀ y ∈ (t.lane (9 * g +
    l)).checked, y + 100000000 ≤ t.now) ∧ x = t.lane (9 * g + l) ∧ (c = (if t.laneIdle g l = true then x.coef else coef)) :=
  ⟨base, _, 0, 2, 0, [], {}, [], ⟨rfl, rfl⟩, by decide +kernel⟩

theorem witness_LaneChecks_1 : ∃ (s t : State) (dt g l x : Nat), Finds s dt t ∧ (t.lane (9 * g + l)).frozenAt = some x ∧ t.now
    - x ≥ 10000000 ∧ t.flag (R.LG_LANE_STAT g l) F.LG_LANE_STAT_PINNED = false :=
  ⟨({ base with now := 10000000, lg := { base.lg with lanes := [(18, { frozenAt := some 0 })] } } : State), _, 0, 2, 0, 0,
    ⟨rfl, rfl⟩, by decide +kernel⟩

theorem witness_LaneChecks_2 : ∃ (s t : State) (dt g : Nat), Finds s dt t ∧ t.flag (R.LG_EYE_STAT g) F.LG_EYE_STAT_BUSY = true
    :=
  ⟨base.setFld (R.LG_EYE_STAT 31) F.LG_EYE_STAT_BUSY 1, _, 0, 31, ⟨rfl, rfl⟩, by decide +kernel⟩

theorem witness_LaneChecks_3 : ∃ (s t : State) (dt g l : Nat), Finds s dt t ∧ t.laneUp g l = true ∧ t.flag (R.LG_CFG g)
    F.LG_CFG_MODE = false :=
  ⟨base, _, 0, 2, 0, ⟨rfl, rfl⟩, by decide +kernel⟩

theorem witness_LaneChecks_4 : ∃ (s t : State) (dt g l : Nat), Finds s dt t ∧ t.laneUp g l = true ∧ t.flag (R.LG_CFG g)
    F.LG_CFG_MODE = true :=
  ⟨base.setFld (R.LG_CFG 2) F.LG_CFG_MODE 1, _, 0, 2, 0, ⟨rfl, rfl⟩, by decide +kernel⟩

theorem witness_LaneChecks_5 : ∃ (s t : State) (dt g l : Nat), Finds s dt t ∧ t.prbsOn g l = true :=
  ⟨base.setFld (R.LG_CFG 2) F.LG_CFG_MODE 1, _, 0, 2, 8, ⟨rfl, rfl⟩, by decide +kernel⟩

theorem witness_LaneChecks_6 : ∃ (s t : State) (dt g l : Nat), Finds s dt t ∧ t.flag (R.LG_TEST g l) F.LG_TEST_LOCK = true :=
  ⟨base.setFld (R.LG_TEST 2 8) F.LG_TEST_LOCK 1, _, 0, 2, 8, ⟨rfl, rfl⟩, by decide +kernel⟩

theorem witness_SliceControlsComplete_0 : ∃ (s t : State) (dt n v : Nat), Finds s dt t ∧ t.sliceOn n = true ∧ bitAt (t.raw
    R.PWR_ON).toNat 61 = true ∧ v < 2 * t.sqSize n ∧ (v + 2 * t.sqSize n - (t.slice n).sqCi) % (2 * t.sqSize n) ≤ t.sqSize n :=
  ⟨(mover []), _, 0, 4095, 1, ⟨rfl, rfl⟩, by decide +kernel⟩

theorem witness_SliceControlsComplete_1 : ∃ (s t : State) (dt n v : Nat), Finds s dt t ∧ t.sliceOn n = true ∧ bitAt (t.raw
    R.PWR_ON).toNat 61 = true ∧ v ≥ 2 * t.sqSize n :=
  ⟨(mover []), _, 0, 4095, 128, ⟨rfl, rfl⟩, by decide +kernel⟩

theorem witness_SliceControlsComplete_2 : ∃ (s t : State) (dt : Nat), Finds s dt t ∧ bitAt (t.raw R.PWR_ON).toNat 61 = false :=
  ⟨(mover []).setRaw R.PWR_ON 0, _, 0, ⟨rfl, rfl⟩, by decide +kernel⟩

theorem witness_SliceControlsComplete_3 : ∃ (s t u : State) (dt n v : Nat), Finds s dt t ∧ u = t.setFld (R.DMV_DB_CQ_CI n)
    F.DMV_DB_CQ_CI_INDEX v ∧ t.sliceOn n = true ∧ bitAt (t.raw R.PWR_ON).toNat 61 = true ∧ v < 2 * t.cqSize n ∧ (v + 2 *
    t.cqSize n - t.fld (R.DMV_DB_CQ_CI n) F.DMV_DB_CQ_CI_INDEX % (2 * t.cqSize n)) % (2 * t.cqSize n) ≤ t.cqUsed n ∧ t.fld
    (R.DMV_CQ_CFG n) F.DMV_CQ_CFG_IRQ_COUNT = 0 :=
  ⟨((mover []).setFld (R.DMV_CQ_CFG 4095) F.DMV_CQ_CFG_IRQ_COUNT 0), _, _, 0, 4095, 0, ⟨rfl, rfl⟩, rfl, by decide +kernel⟩

theorem witness_SliceControlsComplete_4 : ∃ (s t : State) (dt n : Nat), Finds s dt t ∧ (t.slice n).st = 0 ∧ t.flag
    (R.DMV_SLICE_CTL n) F.DMV_SLICE_CTL_EN = false ∧ t.domainRuns 61 = true ∧ t.sliceOn n = true ∧ 6 ≤ t.fld (R.DMV_SQ_CFG n)
    F.DMV_SQ_CFG_LOG2_SIZE ∧ t.fld (R.DMV_SQ_CFG n) F.DMV_SQ_CFG_LOG2_SIZE ≤ 16 ∧ 6 ≤ t.fld (R.DMV_CQ_CFG n)
    F.DMV_CQ_CFG_LOG2_SIZE ∧ t.fld (R.DMV_CQ_CFG n) F.DMV_CQ_CFG_LOG2_SIZE ≤ 16 ∧ baseOk (t.raw (R.DMV_SQ_BASE n)).toNat (2 ^
    t.fld (R.DMV_SQ_CFG n) F.DMV_SQ_CFG_LOG2_SIZE) = true ∧ baseOk (t.raw (R.DMV_CQ_BASE n)).toNat (2 ^ t.fld (R.DMV_CQ_CFG n)
    F.DMV_CQ_CFG_LOG2_SIZE) = true :=
  ⟨({ (((mover []).setFld (R.DMV_SQ_CFG 4095) F.DMV_SQ_CFG_LOG2_SIZE 16).setFld (R.DMV_CQ_CFG 4095) F.DMV_CQ_CFG_LOG2_SIZE 16) with dmv := { (((mover []).setFld (R.DMV_SQ_CFG 4095) F.DMV_SQ_CFG_LOG2_SIZE 16).setFld (R.DMV_CQ_CFG 4095) F.DMV_CQ_CFG_LOG2_SIZE 16).dmv with slices := [] } }
    : State), _, 0, 4095, ⟨rfl, rfl⟩, by decide +kernel⟩

theorem witness_SliceControlsComplete_5 : ∃ (s t : State) (dt : Nat), Finds s dt t ∧ t.domainRuns 61 = false :=
  ⟨(mover []).setRaw R.PWR_ON 0, _, 0, ⟨rfl, rfl⟩, by decide +kernel⟩

theorem witness_SliceControlsComplete_6 : ∃ (s t : State) (dt n : Nat), Finds s dt t ∧ (t.slice n).st = 1 :=
  ⟨(mover []), _, 0, 4095, ⟨rfl, rfl⟩, by decide +kernel⟩

theorem witness_SliceControlsComplete_7 : ∃ (s t : State) (dt n : Nat) (d : SDesc), Finds s dt t ∧ t.flag (R.DMV_SLICE_CTL n)
    F.DMV_SLICE_CTL_EN = false ∧ (t.slice n).descs = [d] ∧ d.fin = none :=
  ⟨(mover [{}]), _, 0, 4095, {}, ⟨rfl, rfl⟩, by decide +kernel⟩

theorem witness_SliceControlsComplete_8 : ∃ (s t : State) (dt : Nat), Finds s dt t :=
  ⟨base, _, 0, ⟨rfl, rfl⟩⟩

theorem witness_DescriptorsComplete_0 : ∃ (s t : State) (dt n : Nat) (bytes : List Byte) (d : SDesc) (u : State), Finds s dt t
    ∧ d = { id := (t.slice n).nextId, slot := (t.slice n).sqCi % t.sqSize n, bytes := padTo 64 bytes } ∧ u = (t.hostRead (.dmv
    (t.sliceVs n)) ((t.raw (R.DMV_SQ_BASE n)).toNat + 64 * ((t.slice n).sqCi % t.sqSize n)) 64 (t.slicePasid n) 128).setSlice n
    { t.slice n with sqCi := ((t.slice n).sqCi + 1) % (2 * t.sqSize n), descs := (t.slice n).descs ++ [d], nextId := (t.slice n).nextId + 1 }
    ∧ (t.slice n).st = 1 ∧ t.sliceRuns n = true ∧ t.decanting = false ∧ t.fld (R.DMV_DB_SQ_PI n) F.DMV_DB_SQ_PI_INDEX ≠
    (t.slice n).sqCi ∧ (t.slice n).descs.length < t.sliceDepth n :=
  ⟨((mover []).setRaw (R.DMV_DB_SQ_PI 4095) 1), _, 0, 4095, [], _, _, ⟨rfl, rfl⟩, rfl, rfl, by decide +kernel⟩

theorem witness_DescriptorsComplete_1 : ∃ (s t : State) (dt n : Nat) (d : SDesc), Finds s dt t ∧ t.startable n 0 = some d :=
  ⟨(mover [desc 0 0 4096 0]), _, 0, 4095, (desc 0 0 4096 0), ⟨rfl, rfl⟩, by decide +kernel⟩

theorem witness_DescriptorsComplete_2 : ∃ (s t : State) (dt n : Nat) (d : SDesc) (u : State), Finds s dt t ∧ u = t.setDesc n
    { d with started := true, crc := (d.b % 2 ^ 32) ^^^ 0xFFFFFFFF } ∧ d.length ≠ 0 ∧ t.startable n 1 = some d ∧ overlap d.a
    d.b d.length = false :=
  ⟨(mover [desc 1 0 4096 4096]), _, 0, 4095, (desc 1 0 4096 4096), _, ⟨rfl, rfl⟩, rfl, by decide +kernel⟩

theorem witness_DescriptorsComplete_3 : ∃ (s t : State) (dt n : Nat) (d : SDesc) (u : State), Finds s dt t ∧ u = t.setDesc n
    { d with started := true, crc := (d.b % 2 ^ 32) ^^^ 0xFFFFFFFF } ∧ d.length ≠ 0 ∧ t.startable n 2 = some d :=
  ⟨(mover [desc 2 0 4096 1]), _, 0, 4095, (desc 2 0 4096 1), _, ⟨rfl, rfl⟩, rfl, by decide +kernel⟩

theorem witness_DescriptorsComplete_4 : ∃ (s t : State) (dt n : Nat) (d : SDesc) (u : State), Finds s dt t ∧ u = t.setDesc n
    { d with started := true, crc := (d.b % 2 ^ 32) ^^^ 0xFFFFFFFF } ∧ d.length ≠ 0 ∧ t.startable n 3 = some d ∧ overlap d.a
    d.b d.length = false :=
  ⟨(mover [desc 3 0 4096 1]), _, 0, 4095, (desc 3 0 4096 1), _, ⟨rfl, rfl⟩, rfl, by decide +kernel⟩

theorem witness_DescriptorsComplete_5 : ∃ (s t : State) (dt n : Nat) (d : SDesc) (u : State), Finds s dt t ∧ u = t.setDesc n
    { d with started := true, crc := (d.b % 2 ^ 32) ^^^ 0xFFFFFFFF } ∧ d.length ≠ 0 ∧ t.startable n 5 = some d :=
  ⟨(mover [desc 5 0 4096 1]), _, 0, 4095, (desc 5 0 4096 1), _, ⟨rfl, rfl⟩, rfl, by decide +kernel⟩

theorem witness_DescriptorsComplete_6 : ∃ (s t : State) (dt n : Nat) (d : SDesc) (u : State), Finds s dt t ∧ u = t.finDesc n
    { d with started := true } stBadParam ∧ d.length = 0 ∧ t.startable n 1 = some d :=
  ⟨(mover [desc 1 0 4096 0]), _, 0, 4095, (desc 1 0 4096 0), _, ⟨rfl, rfl⟩, rfl, by decide +kernel⟩

theorem witness_DescriptorsComplete_7 : ∃ (s t : State) (dt n : Nat) (d : SDesc) (u : State), Finds s dt t ∧ u = t.finDesc n
    { d with started := true } stBadParam ∧ d.length = 0 ∧ t.startable n 2 = some d :=
  ⟨(mover [desc 2 0 4096 0]), _, 0, 4095, (desc 2 0 4096 0), _, ⟨rfl, rfl⟩, rfl, by decide +kernel⟩

theorem witness_DescriptorsComplete_8 : ∃ (s t : State) (dt n : Nat) (d : SDesc) (u : State), Finds s dt t ∧ u = t.finDesc n
    { d with started := true } stBadParam ∧ d.length = 0 ∧ t.startable n 3 = some d :=
  ⟨(mover [desc 3 0 4096 0]), _, 0, 4095, (desc 3 0 4096 0), _, ⟨rfl, rfl⟩, rfl, by decide +kernel⟩

theorem witness_DescriptorsComplete_9 : ∃ (s t : State) (dt n : Nat) (d : SDesc) (u : State), Finds s dt t ∧ u = t.finDesc n
    { d with started := true } stBadParam ∧ d.length = 0 ∧ t.startable n 5 = some d :=
  ⟨(mover [desc 5 0 4096 0]), _, 0, 4095, (desc 5 0 4096 0), _, ⟨rfl, rfl⟩, rfl, by decide +kernel⟩

theorem witness_DescriptorsComplete_10 : ∃ (s t : State) (dt n : Nat) (d : SDesc) (l : List SDesc), Finds s dt t ∧ t.startable
    n 4 = some d ∧ (t.slice n).descs = d :: l ∧ t.sliceStalled n = [] ∧ leAt d.bytes 16 8 % 32 = 0 :=
  ⟨(mover [desc 4 0 32 0]), _, 0, 4095, (desc 4 0 32 0), [], ⟨rfl, rfl⟩, by decide +kernel⟩

theorem witness_DescriptorsComplete_11 : ∃ (s t : State) (dt n : Nat) (d : SDesc) (l : List SDesc), Finds s dt t ∧ t.startable
    n 4 = some d ∧ (t.slice n).descs = d :: l ∧ t.sliceStalled n = [] ∧ leAt d.bytes 16 8 % 32 ≠ 0 :=
  ⟨(mover [desc 4 0 33 0]), _, 0, 4095, (desc 4 0 33 0), [], ⟨rfl, rfl⟩, by decide +kernel⟩

theorem witness_SliceTrafficCompletes_0 : ∃ (s t u : State) (dt i : Nat) (r : SReq), Finds s dt t ∧ (t.sliceTurn
    ((t.dmv.slices.map (·.1)).filter fun i => (t.sliceNext i).isSome) (70 * (((t.dmv.slices.map (·.1)).filter fun i =>
    (t.sliceNext i).isSome).length + 2)) = some (i, r, u)) ∧ ((t.dmv.slices.map (·.1)).filter (fun i => (t.sliceNext i).isSome)
    ≠ []) :=
  ⟨(mover [{ (desc 2 0 0 64) with started := true }]), _, _, 0, _, _, ⟨rfl, rfl⟩, took3 (0, .rd {} false 0 0 0, base) (by
    decide +kernel), by decide +kernel⟩

theorem witness_SliceTrafficCompletes_1 : ∃ (s t u : State) (dt i d part : Nat) (a : Answer) (r : SRead), Finds s dt t ∧ u =
    { t with answers := t.answers.erase a } ∧ t.answers.find? Answer.ofSlice = some a ∧ a.origin = .slice i d part ∧ ((t.slice
    i).reads.find? (fun r => r.desc == d && r.part == part) = some r) :=
  ⟨({ (mover []) with answers := [{ origin := .slice 4095 7 2 }], dmv := { (mover []).dmv with slices := [(4095, { reads := [{ desc := 7, part := 2 }] })] } }
    : State), _, _, 0, 4095, 7, 2, { origin := .slice 4095 7 2 }, { desc := 7, part := 2 }, ⟨rfl, rfl⟩, rfl, by decide +kernel⟩

theorem witness_SliceTrafficCompletes_2 : ∃ (s t u : State) (dt i d part : Nat) (a : Answer), Finds s dt t ∧ u =
    { t with answers := t.answers.erase a } ∧ t.answers.find? Answer.ofSlice = some a ∧ a.origin = .slice i d part ∧ ((t.slice
    i).reads.find? (fun r => r.desc == d && r.part == part) = none) :=
  ⟨({ (mover []) with answers := [{ origin := .slice 4095 7 2 }] } : State), _, _, 0, 4095, 7, 2,
    { origin := .slice 4095 7 2 }, ⟨rfl, rfl⟩, rfl, by decide +kernel⟩

theorem witness_SliceTrafficCompletes_3 : ∃ (s t : State) (dt i d part x : Nat) (r : SRead), Finds s dt t ∧ ((t.slice
    i).reads.find? (fun r => r.desc == d && r.part == part) = some r) ∧ r.deadline = some x ∧ x ≤ t.now :=
  ⟨({ (mover []) with now := 5, dmv := { (mover []).dmv with slices := [(4095, { reads := [{ desc := 7, part := 2, deadline := some 5 }] })] } }
    : State), _, 0, 4095, 7, 2, 5, { desc := 7, part := 2, deadline := some 5 }, ⟨rfl, rfl⟩, by decide +kernel⟩

theorem witness_SliceTrafficCompletes_4 : ∃ (s t : State) (dt i st : Nat) (d : SDesc) (l : List SDesc) (h : Hdr) (u : State),
    Finds s dt t ∧ h = spanHdr .mwr ((t.raw (R.DMV_CQ_BASE i)).toNat + 64 * ((t.slice i).cqPi % t.cqSize i)) 64 d.tc (t.dmvId
    (t.sliceVs i)) (t.slicePasid i) ∧ u = (t.addJob (.make
    { ingress := .dmv i, acct := 128, tc := d.tc, hdr := h, orig := h, hoff := t.sliceHoff (t.sliceVs i) ((t.raw (R.DMV_CQ_BASE i)).toNat + 64 * ((t.slice i).cqPi % t.cqSize i)), vs := t.sliceVs i, vh := t.sliceVs i, hostAddr := some ((t.raw (R.DMV_CQ_BASE i)).toNat + 64 * ((t.slice i).cqPi % t.cqSize i)) }
    (d.entry (phaseOf (t.cqSize i) (t.slice i).cqPi)))).count (R.DMV_CNT 0) ∧ (t.slice i).descs = d :: l ∧ d.fin = some st ∧
    t.cqFull i = false ∧ t.sliceRuns i = true ∧ t.decanting = false ∧ (t.slice i).st ≠ 4 ∧ t.fld (R.DMV_CQ_CFG i)
    F.DMV_CQ_CFG_IRQ_COUNT = 0 :=
  ⟨((mover [{ fin := some 3 }]).setFld (R.DMV_CQ_CFG 4095) F.DMV_CQ_CFG_IRQ_COUNT 0), _, 0, 4095, 3, { fin := some 3 }, [], _,
    _, ⟨rfl, rfl⟩, rfl, rfl, by decide +kernel⟩

theorem witness_WriteLoggingSteps_0 : ∃ (s t : State) (dt : Nat), Finds s dt t ∧ t.dct.quiet = false :=
  ⟨base, _, 0, ⟨rfl, rfl⟩, by decide +kernel⟩

theorem witness_WriteLoggingSteps_1 : ∃ (s t : State) (dt c : Nat), Finds s dt t ∧ t.flag (R.WLG_CTX_STAT c)
    F.WLG_CTX_STAT_CLEARING = true :=
  ⟨base.setFld (R.WLG_CTX_STAT 1023) F.WLG_CTX_STAT_CLEARING 1, _, 0, 1023, ⟨rfl, rfl⟩, by decide +kernel⟩

theorem witness_WriteLoggingSteps_2 : ∃ (s t : State) (dt v u tag : Nat) (h : Harvest), Finds s dt t ∧ v = t.fld (R.WLG_CTX_CFG
    h.ctx) F.WLG_CTX_CFG_VS ∧ t.upPort v = some u ∧ t.freeTag true v (t.tagSpace v) = some tag ∧ t.wlg.harvest = some h ∧
    h.step = 3 ∧ t.genOut h.ctx h.gen = false :=
  ⟨({ base with wlg := { base.wlg with harvest := some {} } } : State), _, 0, _, _, _, {}, ⟨rfl, rfl⟩, rfl, got (by
    decide +kernel), got (by decide +kernel), by decide +kernel⟩

theorem witness_WriteLoggingSteps_3 : ∃ (s t : State) (dt : Nat) (a : Answer) (h : Harvest), Finds s dt t ∧ (t.answers.find?
    (fun a => a.origin == .harvest) = some a) ∧ t.wlg.harvest = some h ∧ h.step = 4 :=
  ⟨({ base with wlg := { base.wlg with harvest := some { step := 4 } }, answers := [{ origin := .harvest }] } : State), _, 0,
    { origin := .harvest }, { step := 4 }, ⟨rfl, rfl⟩, by decide +kernel⟩

theorem witness_WriteLoggingSteps_4 : ∃ (s t : State) (dt : Nat) (h : Harvest), Finds s dt t ∧ t.wlg.harvest = some h ∧ h.step
    = 4 ∧ t.now - h.since ≥ 1000000 * h.tmo :=
  ⟨({ base with now := 2 ^ 50, wlg := { base.wlg with harvest := some { step := 4 } } } : State), _, 0, { step := 4 }, ⟨rfl,
    rfl⟩, by decide +kernel⟩

theorem witness_DecantDrains_0 : ∃ (s t : State) (dt : Nat), t = s.elapse dt :=
  ⟨base, _, 0, rfl⟩

theorem witness_DecantDrains_1 : ∃ (s t : State) (dt : Nat), Finds s dt t ∧ t.aon.pwrfail = false ∧ t.aon.confirmed = false ∧
    t.now - t.aon.fellAt ≥ 100 * t.fld R.DCT_CFG F.DCT_CFG_DEGLITCH ∧ t.flag R.DCT_ARM F.DCT_ARM_ARMED = false :=
  ⟨({ base with now := 2 ^ 40, aon := { base.aon with pwrfail := false } } : State), _, 0, ⟨rfl, rfl⟩, by decide +kernel⟩

theorem witness_DecantDrains_2 : ∃ (s t : State) (dt : Nat), Finds s dt t ∧ t.aon.pwrfail = false ∧ t.aon.confirmed = false ∧
    t.now - t.aon.fellAt ≥ 100 * t.fld R.DCT_CFG F.DCT_CFG_DEGLITCH ∧ t.flag R.DCT_ARM F.DCT_ARM_ARMED = true ∧ t.dct.active =
    false ∧ t.fld R.DCT_ARM F.DCT_ARM_MODE = 1 ∧ t.safe = false ∧ t.ctl.commit = none ∧ t.ctl.busyCmd = none :=
  ⟨((({ base with now := 2 ^ 40, aon := { base.aon with pwrfail := false } } : State).setFld R.DCT_ARM F.DCT_ARM_ARMED
    1).setFld R.DCT_ARM F.DCT_ARM_MODE 1), _, 0, ⟨rfl, rfl⟩, by decide +kernel⟩

theorem witness_DecantDrains_3 : ∃ (s t : State) (dt : Nat), Finds s dt t ∧ t.dct.active = true ∧ t.dct.phase = 2 ∧ t.drainable
    = false :=
  ⟨({ base with dct := { base.dct with active := true, phase := 2 } } : State), _, 0, ⟨rfl, rfl⟩, by decide +kernel⟩

theorem witness_DecantDrains_4 : ∃ (s t : State) (dt : Nat), Finds s dt t ∧ t.dct.active = true ∧ t.dct.phase = 2 ∧ t.now -
    t.dct.t0 ≥ t.dct.deadline :=
  ⟨({ base with dct := { base.dct with active := true, phase := 2 } } : State), _, 0, ⟨rfl, rfl⟩, by decide +kernel⟩

theorem witness_DecantDrains_5 : ∃ (s t : State) (dt p : Nat), Finds s dt t ∧ t.dct.active = true ∧ t.dct.phase = 3 ∧
    t.flushPorts.contains p = true ∧ tfind t.dct.flushes p = none ∧ t.portOpen p = false :=
  ⟨({ base with pcp := [], dct := { base.dct with active := true, phase := 3 } } : State).setFld (R.DCT_FLUSH 4) F.DCT_FLUSH_EN
    1, _, 0, 4, ⟨rfl, rfl⟩, by decide +kernel⟩

theorem witness_DecantDrains_6 : ∃ (s t : State) (dt p tag v : Nat), Finds s dt t ∧ v = t.vsOf p ∧ t.freeTag true v (t.tagSpace
    v) = some tag ∧ t.dct.active = true ∧ t.dct.phase = 3 ∧ t.flushPorts.contains p = true ∧ tfind t.dct.flushes p = none ∧
    t.portOpen p = true ∧ t.role p ≠ 2 :=
  ⟨({ base with dct := { base.dct with active := true, phase := 3 } } : State).setFld (R.DCT_FLUSH 4) F.DCT_FLUSH_EN 1, _, 0,
    4, _, _, ⟨rfl, rfl⟩, rfl, got (by decide +kernel), by decide +kernel⟩

theorem witness_DecantDrains_7 : ∃ (s t : State) (dt p : Nat) (a : Answer), Finds s dt t ∧ t.answers.find? Answer.ofDecant =
    some a ∧ a.origin = .decant p ∧ t.dct.active = true ∧ tfind t.dct.flushes p = some 0 ∧ a.status = 0 ∧ a.lost = false ∧
    t.now - t.dct.t0 < t.dct.budget :=
  ⟨({ base with answers := [{ origin := .decant 4 }], dct := { base.dct with active := true, phase := 3, budget := 1, flushes := [(4, 0)] } }
    : State), _, 0, 4, { origin := .decant 4 }, ⟨rfl, rfl⟩, by decide +kernel⟩

theorem witness_DecantDrains_8 : ∃ (s t : State) (dt : Nat), Finds s dt t ∧ t.dct.active = true ∧ t.dct.phase = 3 ∧ t.safe =
    false ∧ t.now - t.dct.t0 ≥ t.dct.budget ∧ t.dct.cmd = none :=
  ⟨({ base with dct := { base.dct with active := true, phase := 3 } } : State), _, 0, ⟨rfl, rfl⟩, by decide +kernel⟩

theorem witness_KeepWarmSteps_0 : ∃ (s t : State) (dt : Nat), Finds s dt t ∧ t.dct.active = true ∧ t.dct.phase = 4 :=
  ⟨({ base with dct := { base.dct with active := true, phase := 4 } } : State), _, 0, ⟨rfl, rfl⟩, by decide +kernel⟩

theorem witness_KeepWarmSteps_1 : ∃ (s t : State) (dt : Nat), Finds s dt t ∧ t.dct.active = true ∧ t.dct.phase = 5 :=
  ⟨({ base with dct := { base.dct with active := true, phase := 5 } } : State), _, 0, ⟨rfl, rfl⟩, by decide +kernel⟩

theorem witness_KeepWarmSteps_2 : ∃ (s t : State) (dt : Nat), t = s.elapse dt ∧ t.aon.mode = 1 ∧ t.aon.keepMax ≠ 0 ∧ t.aon.ns -
    t.aon.entered ≥ t.aon.keepMax * 3600000000000 :=
  ⟨({ base with aon := { base.aon with mode := 1, keepMax := 1, ns := 3600000000000 } } : State), _, 0, rfl, by decide +kernel⟩

theorem witness_KeepWarmSteps_3 : ∃ (s t : State) (dt : Nat), t = s.elapse dt ∧ (t.aon.byCmd = true → t.aon.wake = true) ∧
    t.aon.mode = 1 ∧ t.aon.pwrfail = true :=
  ⟨({ base with aon := { base.aon with mode := 1, byCmd := true, wake := true } } : State), _, 0, rfl, fun _ => by
    decide +kernel, by decide +kernel⟩

theorem witness_KeepWarmSteps_4 : ∃ (s t : State) (dt : Nat) (x : BootIn) (mac : Bool) (u : State), t = s.elapse dt ∧ u =
    ({ t with aon := { t.aon with main := true, carafe := t.aon.carafe.map (·.upset x.kept) } } : State).mainEn t.aon.wakeCfg
    true ∧ t.aon.mode = 1 ∧ t.aon.pwrfail = true ∧ (t.aon.byCmd = true → t.aon.wake = true) ∧ u.exitCheck (u.sec.otp.bootChain
    x) (mac && sramGood x.sram) ≠ 1 :=
  ⟨({ base with aon := { base.aon with mode := 1, byCmd := false } } : State), _, 0, {}, true, _, rfl, rfl, by decide +kernel⟩

theorem witness_KeepWarmSteps_5 : ∃ (s t : State) (dt : Nat) (x : BootIn) (mac : Bool) (c : Carafe) (u w : State) (r : Booted)
    (ts : Nat) (v : State), t = s.elapse dt ∧ u =
    ({ t with aon := { t.aon with main := true, carafe := t.aon.carafe.map (·.upset x.kept) } } : State).mainEn t.aon.wakeCfg
    true ∧ r = u.sec.otp.bootChain x ∧ ts = u.resumeTime ∧ u.aon.carafe = some c ∧ w =
    (((({ u.coreOff with spc := u.spcAfter ts (ts - u.now) false } : State).coreStart x r u.aon.cause false ts).restoreCarafe
    c).setFld R.DCT_STAT F.DCT_STAT_LAST_EXIT 1).setFld R.DCT_STAT F.DCT_STAT_TM_LOST c.lostDies ∧ v = w.setRaw (R.DCT_CNT 7)
    (BitVec.ofNat 64 (min w.aon.fallbacks (2 ^ 48 - 1))) ∧ t.aon.mode = 1 ∧ t.aon.pwrfail = true ∧ u.exitCheck r (mac &&
    sramGood x.sram) = 1 ∧ (u.wakes x).1 = true ∧ t.aon.byCmd = false :=
  ⟨({ base with aon := { base.aon with mode := 1, byCmd := false, carafe := some { sealed := true, format := 1 } } } : State),
    _, 0, {}, true, _, _, _, _, _, _, rfl, rfl, rfl, rfl, got (by decide +kernel), rfl, rfl, by decide +kernel⟩

theorem witness_KeepWarmSteps_6 : ∃ (s t : State) (dt : Nat) (x : BootIn) (mac : Bool) (c : Carafe) (u w : State) (r : Booted)
    (ts : Nat) (v : State), t = s.elapse dt ∧ u =
    ({ t with aon := { t.aon with main := true, carafe := t.aon.carafe.map (·.upset x.kept) } } : State).mainEn t.aon.wakeCfg
    true ∧ r = u.sec.otp.bootChain x ∧ ts = u.resumeTime ∧ u.aon.carafe = some c ∧ w =
    (((({ u.coreOff with spc := u.spcAfter ts (ts - u.now) false } : State).coreStart x r u.aon.cause false ts).restoreCarafe
    c).setFld R.DCT_STAT F.DCT_STAT_LAST_EXIT 1).setFld R.DCT_STAT F.DCT_STAT_TM_LOST c.lostDies ∧ v = w.setRaw (R.DCT_CNT 7)
    (BitVec.ofNat 64 (min w.aon.fallbacks (2 ^ 48 - 1))) ∧ t.aon.mode = 1 ∧ t.aon.pwrfail = true ∧ u.exitCheck r (mac &&
    sramGood x.sram) = 1 ∧ (u.wakes x).1 = true ∧ t.aon.byCmd = true ∧ t.aon.wake = true :=
  ⟨({ base with aon := { base.aon with mode := 1, byCmd := true, wake := true, carafe := some { sealed := true, format := 1 } } }
    : State), _, 0, {}, true, _, _, _, _, _, _, rfl, rfl, rfl, rfl, got (by decide +kernel), rfl, rfl, by decide +kernel⟩

theorem witness_KeepWarmSteps_7 : ∃ (s t : State) (dt : Nat) (e : Nat × List Byte) (l : List (Nat × List Byte)), Finds s dt t ∧
    t.decanting = false ∧ t.ringRoom .evr ≠ 0 ∧ t.ctl.held = [] ∧ t.dct.list = e :: l :=
  ⟨({ base with dct := { base.dct with list := [(0, [])] } } : State), _, 0, (0, []), [], ⟨rfl, rfl⟩, by decide +kernel⟩

theorem witness_KeepWarmSteps_8 : ∃ (s t : State) (dt : Nat), Finds s dt t ∧ t.decanting = false ∧ t.ringRoom .evr ≠ 0 ∧
    t.ctl.held = [] ∧ t.dct.list = [] ∧ t.dct.summ = [] ∧ t.dct.exitDue = true :=
  ⟨({ base with dct := { base.dct with exitDue := true } } : State), _, 0, ⟨rfl, rfl⟩, by decide +kernel⟩

theorem witness_KeepWarmSteps_9 : ∃ (s t : State) (dt : Nat) (x : BootIn) (mac : Bool) (c : Carafe) (u : State), t = s.elapse
    dt ∧ u = ({ t with aon := { t.aon with main := true, carafe := t.aon.carafe.map (·.upset x.kept) } } : State).mainEn
    t.aon.wakeCfg true ∧ u.aon.carafe = some c ∧ t.aon.mode = 1 ∧ t.aon.pwrfail = true ∧ (t.aon.byCmd = true → t.aon.wake =
    true) ∧ u.exitCheck (u.sec.otp.bootChain x) (mac && sramGood x.sram) = 1 ∧ (u.wakes x).1 = false :=
  ⟨({ base with aon := { base.aon with mode := 1, byCmd := false, carafe := some { sealed := true, format := 1 } } } : State),
    _, 0, { fail1 := some 0, fail2 := some 0 }, true, _, _, rfl, rfl, got (by decide +kernel), by decide +kernel⟩

theorem witness_DomainSteps_0 : ∃ (s t : State) (dt d : Nat) (c : PwrCmd) (rest : List Nat) (late : Bool), Finds s dt t ∧ late
    = decide (t.now - c.since > 1000 * t.fld R.PWR_CFG F.PWR_CFG_STOP_TMO_US) ∧ late = true ∧ t.pwr.cmd = some c ∧ c.stops = d
    :: rest :=
  ⟨({ base with pwr := { base.pwr with cmd := some { stops := [31] } }, now := 2 ^ 40 } : State), _, 0, 31, { stops := [31] },
    [], _, ⟨rfl, rfl⟩, rfl, rfl, by decide +kernel⟩

theorem witness_DomainSteps_1 : ∃ (s t : State) (dt d : Nat) (c : PwrCmd) (rest : List Nat) (late : Bool) (r : Nat), Finds s dt
    t ∧ late = decide (t.now - c.since > 1000 * t.fld R.PWR_CFG F.PWR_CFG_STOP_TMO_US) ∧ late = false ∧ t.refusal d = some r ∧
    t.pwr.cmd = some c ∧ c.stops = d :: rest :=
  ⟨({ base with pwr := { base.pwr with cmd := some { stops := [0] } } } : State), _, 0, 0, { stops := [0] }, [], _, _, ⟨rfl,
    rfl⟩, rfl, rfl, got (by decide +kernel), by decide +kernel⟩

theorem witness_DomainSteps_2 : ∃ (s t : State) (dt d : Nat) (c : PwrCmd) (rest : List Nat) (late : Bool), Finds s dt t ∧ late
    = decide (t.now - c.since > 1000 * t.fld R.PWR_CFG F.PWR_CFG_STOP_TMO_US) ∧ late = false ∧ t.pwr.cmd = some c ∧ c.stops = d
    :: rest ∧ t.refusal d = none ∧ rest ≠ [] :=
  ⟨({ base with pwr := { base.pwr with cmd := some { stops := [31, 7] } } } : State), _, 0, 31, { stops := [31, 7] }, [7], _,
    ⟨rfl, rfl⟩, rfl, rfl, by decide +kernel⟩

theorem witness_DomainSteps_3 : ∃ (s t : State) (dt d : Nat) (c : PwrCmd) (rest : List Nat) (late : Bool), Finds s dt t ∧ late
    = decide (t.now - c.since > 1000 * t.fld R.PWR_CFG F.PWR_CFG_STOP_TMO_US) ∧ late = false ∧ t.pwr.cmd = some c ∧ c.stops = d
    :: rest ∧ t.refusal d = none ∧ rest = [] ∧ c.wakes = [] :=
  ⟨({ base with pwr := { base.pwr with cmd := some { stops := [31] } } } : State), _, 0, 31, { stops := [31] }, [], _, ⟨rfl,
    rfl⟩, rfl, rfl, by decide +kernel⟩

theorem witness_DomainSteps_4 : ∃ (s t : State) (dt d : Nat) (c : PwrCmd) (rest : List Nat) (late : Bool), Finds s dt t ∧ late
    = decide (t.now - c.since > 1000 * t.fld R.PWR_CFG F.PWR_CFG_STOP_TMO_US) ∧ t.pwr.cmd = some c ∧ c.stops = d :: rest ∧
    t.now - c.since ≥ 1000 * t.fld R.PWR_CFG F.PWR_CFG_STOP_TMO_US :=
  ⟨({ base with pwr := { base.pwr with cmd := some { stops := [31] } }, now := 2 ^ 40 } : State), _, 0, 31, { stops := [31] },
    [], _, ⟨rfl, rfl⟩, rfl, by decide +kernel⟩

theorem witness_DomainSteps_5 : ∃ (s t : State) (dt d : Nat) (c : PwrCmd) (rest : List Nat), Finds s dt t ∧ t.pwr.cmd = some c
    ∧ c.stops = [] ∧ c.wakes = d :: rest ∧ t.now - c.since ≤ 1000 * wakeBound d c.stage ∧ ¬ (56 ≤ d ∧ d ≤ 59) ∧ c.stage < 3 :=
  ⟨({ base with pwr := { base.pwr with cmd := some { wakes := [63] } } } : State), _, 0, 63, { wakes := [63] }, [], ⟨rfl, rfl⟩,
    by decide +kernel⟩

theorem witness_DomainSteps_6 : ∃ (s t : State) (dt d : Nat) (c : PwrCmd) (rest : List Nat), Finds s dt t ∧ t.pwr.cmd = some c
    ∧ c.stops = [] ∧ c.wakes = d :: rest ∧ t.now - c.since ≤ 1000 * wakeBound d c.stage ∧ ¬ (56 ≤ d ∧ d ≤ 59) ∧ c.stage ≥ 3 ∧
    rest = [] :=
  ⟨({ base with pwr := { base.pwr with cmd := some { wakes := [63], stage := 3 } } } : State), _, 0, 63,
    { wakes := [63], stage := 3 }, [], ⟨rfl, rfl⟩, by decide +kernel⟩

theorem witness_DomainSteps_7 : ∃ (s t : State) (dt d : Nat) (c : PwrCmd) (rest : List Nat), Finds s dt t ∧ t.pwr.cmd = some c
    ∧ c.stops = [] ∧ c.wakes = d :: rest ∧ t.now - c.since > 1000 * wakeBound d c.stage :=
  ⟨({ base with pwr := { base.pwr with cmd := some { wakes := [63] } }, now := 2 ^ 40 } : State), _, 0, 63, { wakes := [63] },
    [], ⟨rfl, rfl⟩, by decide +kernel⟩

theorem witness_DomainSteps_8 : ∃ (s t : State) (dt : Nat), t = s.elapse dt ∧ (t.aon.mode = 1 ∨ t.aon.mode = 2) ∧
    F.PWR_WAKE_CFG_WAKE_EN.get t.aon.wakeCfg = 1 :=
  ⟨({ base with aon := { base.aon with mode := 1, wakeCfg := F.PWR_WAKE_CFG_WAKE_EN.set 0 1 } } : State), _, 0, rfl, by
    decide +kernel⟩

theorem witness_DomainSteps_9 : ∃ (s t : State) (dt : Nat), t = s.elapse dt ∧ (t.aon.mode = 1 ∨ t.aon.mode = 2) ∧ t.aon.mode =
    1 ∧ t.aon.byCmd = true ∧ t.aon.wakeAfter ≠ 0 ∧ t.aon.ns - t.aon.entered ≥ t.aon.wakeAfter * 1000000000 :=
  ⟨({ base with aon := { base.aon with mode := 1, byCmd := true, wakeAfter := 1, ns := 1000000000 } } : State), _, 0, rfl, by
    decide +kernel⟩

theorem witness_DomainSteps_10 : ∃ (s t : State) (dt : Nat), t = s.elapse dt ∧ (t.aon.mode = 1 ∨ t.aon.mode = 2) ∧
    t.aon.pwrfail = false :=
  ⟨({ base with aon := { base.aon with mode := 1, pwrfail := false } } : State), _, 0, rfl, by decide +kernel⟩

theorem witness_SlotSamples_0 : ∃ (s t : State) (dt n : Nat) (x : SpcIn) (c d : SpcSt) (in12 in3 inWin lim fast pg : Bool),
    Finds s dt t ∧ d = { c with samples := c.samples + 1, inWindow := inWin, inLimit := lim } ∧ c = t.spcSt n ∧ x.avg = none ∧
    in12 = t.railIn n 0 x.r12 ∧ in3 = t.railIn n 1 x.r3 ∧ inWin = (in12 && in3) ∧ lim = (t.railLim n 0 x.r12 || t.railLim n 1
    x.r3) ∧ fast = (t.railFast n 0 x.r12.shunt || t.railFast n 1 x.r3.shunt) ∧ pg = (t.railPg n 0 x.r12 && t.railPg n 1 x.r3) ∧
    x.present = true ∧ c.present = true ∧ c.highs = 0 ∧ (c.st = 2 ∨ c.st = 3) ∧ inWin = true ∧ fast = true :=
  ⟨(slot31 { present := true, st := 2 } 1), _, 0, 31, { present := true, r12 := { vin := 12000, shunt := 20000 } },
    { present := true, st := 2 }, _, true, true, true, true, true, false, ⟨rfl, rfl⟩, rfl, by decide +kernel⟩

theorem witness_SlotSamples_1 : ∃ (s t : State) (dt n : Nat) (x : SpcIn) (c d : SpcSt) (in12 in3 inWin lim fast pg : Bool),
    Finds s dt t ∧ d = { c with samples := c.samples + 1, inWindow := inWin, inLimit := lim } ∧ c = t.spcSt n ∧ x.avg = none ∧
    in12 = t.railIn n 0 x.r12 ∧ in3 = t.railIn n 1 x.r3 ∧ inWin = (in12 && in3) ∧ lim = (t.railLim n 0 x.r12 || t.railLim n 1
    x.r3) ∧ fast = (t.railFast n 0 x.r12.shunt || t.railFast n 1 x.r3.shunt) ∧ pg = (t.railPg n 0 x.r12 && t.railPg n 1 x.r3) ∧
    x.present = true ∧ c.present = true ∧ c.highs = 0 ∧ (c.st = 2 ∨ c.st = 3) ∧ inWin = true ∧ fast = false ∧ lim = true ∧
    c.count + 1 ≥ t.fld (R.SPC_TIMING n) F.SPC_TIMING_FLT_TMO_US :=
  ⟨(slot31 { present := true, st := 2 } 1), _, 0, 31, { present := true, r12 := { vin := 12000, shunt := 5100 } },
    { present := true, st := 2 }, _, true, true, true, true, false, false, ⟨rfl, rfl⟩, rfl, by decide +kernel⟩

theorem witness_SlotSamples_2 : ∃ (s t : State) (dt n : Nat) (x : SpcIn) (c d : SpcSt) (in12 in3 inWin lim fast pg : Bool),
    Finds s dt t ∧ d = { c with samples := c.samples + 1, inWindow := inWin, inLimit := lim } ∧ c = t.spcSt n ∧ x.avg = none ∧
    in12 = t.railIn n 0 x.r12 ∧ in3 = t.railIn n 1 x.r3 ∧ inWin = (in12 && in3) ∧ lim = (t.railLim n 0 x.r12 || t.railLim n 1
    x.r3) ∧ fast = (t.railFast n 0 x.r12.shunt || t.railFast n 1 x.r3.shunt) ∧ pg = (t.railPg n 0 x.r12 && t.railPg n 1 x.r3) ∧
    x.present = true ∧ c.present = true ∧ c.highs = 0 ∧ (c.st = 2 ∨ c.st = 3) ∧ inWin = true ∧ fast = false ∧ lim = true ∧
    c.count + 1 < t.fld (R.SPC_TIMING n) F.SPC_TIMING_FLT_TMO_US ∧ c.st = 3 :=
  ⟨(slot31 { present := true, st := 3 } 2), _, 0, 31, { present := true, r12 := { vin := 12000, shunt := 5100 } },
    { present := true, st := 3 }, _, true, true, true, true, false, false, ⟨rfl, rfl⟩, rfl, by decide +kernel⟩

theorem witness_SlotSamples_3 : ∃ (s t : State) (dt n : Nat) (x : SpcIn) (c d : SpcSt) (in12 in3 inWin lim fast pg : Bool),
    Finds s dt t ∧ d = { c with samples := c.samples + 1, inWindow := inWin, inLimit := lim } ∧ c = t.spcSt n ∧ x.avg = none ∧
    in12 = t.railIn n 0 x.r12 ∧ in3 = t.railIn n 1 x.r3 ∧ inWin = (in12 && in3) ∧ lim = (t.railLim n 0 x.r12 || t.railLim n 1
    x.r3) ∧ fast = (t.railFast n 0 x.r12.shunt || t.railFast n 1 x.r3.shunt) ∧ pg = (t.railPg n 0 x.r12 && t.railPg n 1 x.r3) ∧
    x.present = true ∧ c.present = true ∧ c.highs = 0 ∧ (c.st = 2 ∨ c.st = 3) ∧ ((in12 = false ∧ c.outs.1 ≥ 3) ∨ (in3 = false ∧
    c.outs.2 ≥ 3)) :=
  ⟨(slot31 { present := true, st := 3, outs := (3, 0) } 1), _, 0, 31, { present := true },
    { present := true, st := 3, outs := (3, 0) }, _, false, true, false, false, false, false, ⟨rfl, rfl⟩, rfl, by
    decide +kernel⟩

theorem witness_SlotSamples_4 : ∃ (s t : State) (dt n : Nat) (x : SpcIn) (c d : SpcSt) (in12 in3 inWin lim fast pg : Bool) (k :
    Nat), Finds s dt t ∧ d = { c with samples := c.samples + 1, inWindow := inWin, inLimit := lim } ∧ c = t.spcSt n ∧ x.avg =
    none ∧ in12 = t.railIn n 0 x.r12 ∧ in3 = t.railIn n 1 x.r3 ∧ inWin = (in12 && in3) ∧ lim = (t.railLim n 0 x.r12 ||
    t.railLim n 1 x.r3) ∧ fast = (t.railFast n 0 x.r12.shunt || t.railFast n 1 x.r3.shunt) ∧ pg = (t.railPg n 0 x.r12 &&
    t.railPg n 1 x.r3) ∧ x.present = true ∧ c.present = true ∧ c.highs = 0 ∧ c.st = 2 ∧ inWin = true ∧ fast = false ∧ lim =
    false ∧ pg = false ∧ (k = (if (c.samples + 1) % 8 = 0 then c.count - 1 else c.count)) ∧ k < t.fld (R.SPC_TIMING n)
    F.SPC_TIMING_FLT_TMO_US ∧ t.now - c.rampAt ≥ 1000000 * t.fld (R.SPC_TIMING n) F.SPC_TIMING_PG_TMO_MS :=
  ⟨(slot31 { present := true, st := 2 } 1), _, 0, 31, { present := true, r12 := { vin := 12000 } },
    { present := true, st := 2 }, _, true, true, true, false, false, false, 0, ⟨rfl, rfl⟩, rfl, by decide +kernel⟩

theorem witness_SlotSamples_5 : ∃ (s t : State) (dt n : Nat) (x : SpcIn) (c d : SpcSt) (in12 in3 inWin lim fast pg : Bool),
    Finds s dt t ∧ d = { c with samples := c.samples + 1, inWindow := inWin, inLimit := lim } ∧ c = t.spcSt n ∧ x.avg = none ∧
    in12 = t.railIn n 0 x.r12 ∧ in3 = t.railIn n 1 x.r3 ∧ inWin = (in12 && in3) ∧ lim = (t.railLim n 0 x.r12 || t.railLim n 1
    x.r3) ∧ fast = (t.railFast n 0 x.r12.shunt || t.railFast n 1 x.r3.shunt) ∧ pg = (t.railPg n 0 x.r12 && t.railPg n 1 x.r3) ∧
    x.present = true ∧ c.present = true ∧ c.highs = 0 ∧ c.st = 1 ∧ c.en = true ∧ inWin = true ∧ t.now - c.gained ≥ 1000000 *
    t.fld (R.SPC_TIMING n) F.SPC_TIMING_INS_DLY_MS ∧ c.offAt = none :=
  ⟨(slot31 { present := true, st := 1, en := true } 1), _, 0, 31, { present := true, r12 := { vin := 12000 } },
    { present := true, st := 1, en := true }, _, true, true, true, false, false, false, ⟨rfl, rfl⟩, rfl, by decide +kernel⟩

theorem witness_SlotSamples_6 : ∃ (s t : State) (dt n : Nat) (x : SpcIn) (c d : SpcSt) (in12 in3 inWin lim fast pg : Bool) (o :
    Int), Finds s dt t ∧ d = { c with samples := c.samples + 1, inWindow := inWin, inLimit := lim } ∧ c = t.spcSt n ∧ x.avg =
    none ∧ in12 = t.railIn n 0 x.r12 ∧ in3 = t.railIn n 1 x.r3 ∧ inWin = (in12 && in3) ∧ lim = (t.railLim n 0 x.r12 ||
    t.railLim n 1 x.r3) ∧ fast = (t.railFast n 0 x.r12.shunt || t.railFast n 1 x.r3.shunt) ∧ pg = (t.railPg n 0 x.r12 &&
    t.railPg n 1 x.r3) ∧ x.present = true ∧ c.present = true ∧ c.highs = 0 ∧ c.st = 5 ∧ c.offAt = some o ∧ (t.now : Int) - o ≥
    1000000 * (t.fld (R.SPC_TIMING n) F.SPC_TIMING_REARM_MS : Int) :=
  ⟨(slot31 { present := true, st := 5, offAt := some 0 } 1), _, 0, 31, { present := true, r12 := { vin := 12000 } },
    { present := true, st := 5, offAt := some 0 }, _, true, true, true, false, false, false, 0, ⟨rfl, rfl⟩, rfl, by
    decide +kernel⟩

theorem witness_SlotSamples_7 : ∃ (s t : State) (dt n : Nat) (x : SpcIn) (c d : SpcSt) (in12 in3 inWin lim fast pg : Bool),
    Finds s dt t ∧ d = { c with samples := c.samples + 1, inWindow := inWin, inLimit := lim } ∧ c = t.spcSt n ∧ x.avg = none ∧
    in12 = t.railIn n 0 x.r12 ∧ in3 = t.railIn n 1 x.r3 ∧ inWin = (in12 && in3) ∧ lim = (t.railLim n 0 x.r12 || t.railLim n 1
    x.r3) ∧ fast = (t.railFast n 0 x.r12.shunt || t.railFast n 1 x.r3.shunt) ∧ pg = (t.railPg n 0 x.r12 && t.railPg n 1 x.r3) ∧
    x.present = false ∧ c.present = true ∧ c.highs ≥ 7 ∧ (c.st = 0 ∨ c.st = 4) :=
  ⟨(slot31 { present := true, highs := 7, st := 4 } 1), _, 0, 31, { r12 := { vin := 12000 } },
    { present := true, highs := 7, st := 4 }, _, true, true, true, false, false, false, ⟨rfl, rfl⟩, rfl, by decide +kernel⟩

theorem witness_SlotControls_0 : ∃ (s t : State) (dt n : Nat) (c : SpcSt), Finds s dt t ∧ c = t.spcSt n ∧ t.spcWanted n = true
    ∧ c.en = false ∧ c.st ≠ 0 :=
  ⟨(({ base with spc := [(31, { st := 1 })] } : State).setRaw (base.pk 5 R.PCP_SLOT_CFG) (F.PCP_SLOT_CFG_PWR_CTL.set
    (F.PCP_SLOT_CFG_SPC_IDX.set (F.PCP_SLOT_CFG_SLOT_EN.set 0 1) 31) 1)).setFld (R.SPC_ENABLE 31) F.SPC_ENABLE_PORT 5, _, 0,
    31, _, ⟨rfl, rfl⟩, rfl, by decide +kernel⟩

theorem witness_SlotControls_1 : ∃ (s t : State) (dt n : Nat) (c : SpcSt), Finds s dt t ∧ c = t.spcSt n ∧ t.spcWanted n = true
    ∧ c.en = false ∧ c.st = 0 :=
  ⟨(({ base with spc := [] } : State).setRaw (base.pk 5 R.PCP_SLOT_CFG) (F.PCP_SLOT_CFG_PWR_CTL.set (F.PCP_SLOT_CFG_SPC_IDX.set
    (F.PCP_SLOT_CFG_SLOT_EN.set 0 1) 31) 1)).setFld (R.SPC_ENABLE 31) F.SPC_ENABLE_PORT 5, _, 0, 31, _, ⟨rfl, rfl⟩, rfl, by
    decide +kernel⟩

theorem witness_SlotControls_2 : ∃ (s t : State) (dt n : Nat) (c : SpcSt), Finds s dt t ∧ c = t.spcSt n ∧ t.spcWanted n = false
    ∧ c.en = true ∧ (c.st = 1 ∨ c.st = 4) :=
  ⟨({ base with spc := [(31, { en := true, st := 4 })] } : State), _, 0, 31, _, ⟨rfl, rfl⟩, rfl, by decide +kernel⟩

theorem witness_SlotControls_3 : ∃ (s t : State) (dt n : Nat) (c : SpcSt), Finds s dt t ∧ c = t.spcSt n ∧ t.spcWanted n = false
    ∧ c.en = true ∧ (c.st = 2 ∨ c.st = 3) :=
  ⟨({ base with spc := [(31, { en := true, st := 3 })] } : State), _, 0, 31, _, ⟨rfl, rfl⟩, rfl, by decide +kernel⟩

theorem witness_SlotControls_4 : ∃ (s t : State) (dt n : Nat) (c : SpcSt) (rail shunt : Nat), Finds s dt t ∧ c = t.spcSt n ∧
    t.railFast n rail shunt = true ∧ (c.st = 2 ∨ c.st = 3) :=
  ⟨slot31 { st := 2 } 1, _, 0, 31, _, 0, 20000, ⟨rfl, rfl⟩, rfl, by decide +kernel⟩

theorem witness_SlotControls_5 : ∃ (s t : State) (dt n : Nat) (c : SpcSt) (rail shunt : Nat) (o : Int), Finds s dt t ∧ c =
    t.spcSt n ∧ t.railFast n rail shunt = true ∧ c.st = 4 ∧ c.cause = 2 ∧ c.offAt = some o ∧ (t.now : Int) - o < 1000 :=
  ⟨slot31 { st := 4, cause := 2, offAt := some (2 ^ 40 - 999) } 1, _, 0, 31, _, 0, 20000, 2 ^ 40 - 999, ⟨rfl, rfl⟩, rfl, by
    decide +kernel⟩

theorem witness_SlotControls_6 : ∃ (s t : State) (dt n : Nat) (c : SpcSt) (rail shunt : Nat), Finds s dt t ∧ c = t.spcSt n ∧
    t.railFast n rail shunt = false :=
  ⟨(({ base with spc := [(31, { st := 1 })] } : State).setRaw (base.pk 5 R.PCP_SLOT_CFG) (F.PCP_SLOT_CFG_PWR_CTL.set
    (F.PCP_SLOT_CFG_SPC_IDX.set (F.PCP_SLOT_CFG_SLOT_EN.set 0 1) 31) 1)).setFld (R.SPC_ENABLE 31) F.SPC_ENABLE_PORT 5, _, 0,
    31, _, 0, 0, ⟨rfl, rfl⟩, rfl, by decide +kernel⟩

theorem witness_SlotControls_7 : ∃ (s t : State) (dt k : Nat), Finds s dt t ∧ k < 32 ∧ ((t.spcSt k).st = 2 ∨ (t.spcSt k).st =
    3) :=
  ⟨({ base with spc := [(31, { st := 3 })] } : State), _, 0, 31, ⟨rfl, rfl⟩, by decide +kernel⟩

theorem witness_SlotControls_8 : ∃ (s t : State) (dt k : Nat), Finds s dt t ∧ k < 32 ∧ (t.spcSt k).st ≠ 2 ∧ (t.spcSt k).st ≠ 3
    :=
  ⟨({ base with spc := [(31, { st := 3 })] } : State), _, 0, 0, ⟨rfl, rfl⟩, by decide +kernel⟩

theorem witness_SlotControls_9 : ∃ (s t : State) (dt : Nat), Finds s dt t :=
  ⟨({ base with spc := [(31, { st := 2 })] } : State), _, 0, ⟨rfl, rfl⟩⟩

theorem witness_SlotControls_10 : ∃ (s t : State) (dt n p : Nat), Finds s dt t ∧ t.spcPort n = some p ∧ (t.role p = 2 ∨
    (t.isDown (.port p) = true ∧ t.buttonOf p ≠ 0)) :=
  ⟨(base.setRaw (base.pk 5 R.PCP_SLOT_CFG) (F.PCP_SLOT_CFG_PWR_CTL.set (F.PCP_SLOT_CFG_SPC_IDX.set (F.PCP_SLOT_CFG_SLOT_EN.set
    0 1) 31) 1)).setFld (R.SPC_ENABLE 31) F.SPC_ENABLE_PORT 5, _, 0, 31, 5, ⟨rfl, rfl⟩, by decide +kernel⟩

theorem witness_FaultMessagesComplete_0 : ∃ (s t : State) (dt source kind block info : Nat) (m x : FaultIn) (rest : List
    FaultIn) (u : State), Finds s dt t ∧ m =
    { word := faultWord source kind block info, time := t.now, epoch := t.cfg.epoch, quiet := t.dct.quiet } ∧ u = t.faultEffect
    source kind info ∧ nextFault (u.fcr.inbox ++ [m]) = some (x, rest) ∧ faultKnown source kind = true :=
  ⟨base, _, 0, 0, 0, 0, 0, _, _, _, _, ⟨rfl, rfl⟩, rfl, rfl, took (by decide +kernel), by decide +kernel⟩

theorem witness_FaultMessagesComplete_1 : ∃ (s t : State) (dt : Nat), Finds s dt t ∧ t.fcr.inbox = [] :=
  ⟨base, _, 0, ⟨rfl, rfl⟩, by decide +kernel⟩

theorem witness_FaultMessagesComplete_2 : ∃ (s t : State) (dt : Nat) (x : FaultIn) (rest : List FaultIn), Finds s dt t ∧
    nextFault t.fcr.inbox = some (x, rest) :=
  ⟨({ base with fcr := { base.fcr with inbox := [{}] } } : State), _, 0, {}, [], ⟨rfl, rfl⟩, by decide +kernel⟩

theorem witness_FaultMessagesComplete_3 : ∃ (s t : State) (dt c i : Nat), Finds s dt t ∧ (c = 2 ∨ c = 4 ∨ c = 5 ∨ c = 6) ∧
    t.cfg.faulty.contains (c, i) = false :=
  ⟨base, _, 0, 6, 32767, ⟨rfl, rfl⟩, by decide +kernel⟩

theorem witness_FaultMessagesComplete_4 : ∃ (s t : State) (dt : Nat), Finds s dt t :=
  ⟨base, _, 0, ⟨rfl, rfl⟩⟩

theorem witness_TableMemorySteps_0 : ∃ (s t v : State) (dt d cycles : Nat) (asks : List TmAsk) (y x : TmDie) (e : List TmReq)
    (l : Nat), Finds s dt t ∧ (v = (if asks ≠ [] ∨ (heads y.waiting).any (fun r => r.backoff == 0 || r.urgent.isSome) = true
    then (t.setDie d y).adoptArb d else t.setDie d y)) ∧ x = v.join d asks (v.die d) ∧ (e = (heads x.waiting).filter (fun r =>
    r.backoff == 0 || r.urgent.isSome)) ∧ l = lfsrStep (v.fld (R.TM_LFSR d) F.TM_LFSR_STATE) ∧ e = [] ∧ y = (t.die d).pass
    cycles ∧ y.up = true ∧ y.filling = false ∧ (y.owner = none ∨ y.left = 0) :=
  ⟨base, _, _, 0, 3, 0, [], {}, _, _, _, ⟨rfl, rfl⟩, rfl, rfl, rfl, rfl, rfl, by decide +kernel⟩

theorem witness_TableMemorySteps_1 : ∃ (s t v : State) (dt d cycles : Nat) (asks : List TmAsk) (y x : TmDie) (e : List TmReq)
    (l : Nat) (w : TmReq), Finds s dt t ∧ (v = (if asks ≠ [] ∨ (heads y.waiting).any (fun r => r.backoff == 0 ||
    r.urgent.isSome) = true then (t.setDie d y).adoptArb d else t.setDie d y)) ∧ x = v.join d asks (v.die d) ∧ (e = (heads
    x.waiting).filter (fun r => r.backoff == 0 || r.urgent.isSome)) ∧ l = lfsrStep (v.fld (R.TM_LFSR d) F.TM_LFSR_STATE) ∧
    v.arbWin d l e = some w ∧ y = (t.die d).pass cycles ∧ y.up = true ∧ y.filling = false ∧ (y.owner = none ∨ y.left = 0) ∧ e ≠
    [] :=
  ⟨base.setFld (R.TM_ARB_REQ 3 0) F.TM_ARB_REQ_TICKETS 1, _, _, 0, 3, 0, [{}], {}, _, _, _, _, ⟨rfl, rfl⟩, rfl, rfl, rfl, rfl,
    got (by decide +kernel), by decide +kernel⟩

theorem witness_TableMemorySteps_2 : ∃ (s t v : State) (dt d cycles : Nat) (asks : List TmAsk) (y x : TmDie) (e : List TmReq)
    (l : Nat) (o w : TmReq), Finds s dt t ∧ y = (t.die d).pass cycles ∧ (v = (if asks ≠ [] ∨ (heads y.waiting).any (fun r =>
    r.backoff == 0 || r.urgent.isSome) = true then (t.setDie d y).adoptArb d else t.setDie d y)) ∧ x = v.join d asks (v.die d)
    ∧ (e = (heads x.waiting).filter (fun r => r.backoff == 0 || r.urgent.isSome)) ∧ l = lfsrStep (v.fld (R.TM_LFSR d)
    F.TM_LFSR_STATE) ∧ y.owner = some o ∧ (e.find? (fun r => r.num == 31) = some w) ∧ y.up = true ∧ y.filling = false ∧
    t.decanting = true ∧ y.left ≠ 0 ∧ x.yields o e = true :=
  ⟨({ base with dct := { base.dct with active := true }, tbm := { base.tbm with dies := [(3, { owner := some { num := 4 }, left := 2 })] } }
    : State), _, _, 0, 3, 0, [{ num := 31 }], _, _, _, _, _, _, ⟨rfl, rfl⟩, rfl, rfl, rfl, rfl, rfl, got (by decide +kernel),
    got (by decide +kernel), by decide +kernel⟩

theorem witness_TableMemorySteps_3 : ∃ (s t : State) (dt d r cycles : Nat) (x : TmDie) (q : TmReq), Finds s dt t ∧ x = (t.die
    d).pass cycles ∧ ((heads x.waiting).find? (fun q => q.num == r) = some q) ∧ q.urgent = none ∧ x.cycle - q.since ≥ t.fld
    (R.TM_ARB_CFG d) F.TM_ARB_CFG_STARVE :=
  ⟨({ base with tbm := { base.tbm with dies := [(3, { cycle := 2 ^ 20, waiting := [{ num := 4 }] })] } } : State), _, 0, 3, 4,
    0, _, { num := 4 }, ⟨rfl, rfl⟩, rfl, by decide +kernel⟩

theorem witness_TableMemorySteps_4 : ∃ (s t : State) (dt a : Nat), Finds s dt t ∧ t.dieServes a = true ∧ a < 2 ^ 29 ∧ t.wordBad
    (32 * (a / 32)) = true :=
  ⟨({ base with tbm := { base.tbm with poison := [2 ^ 24 - 1] } } : State), _, 0, 2 ^ 29 - 1, ⟨rfl, rfl⟩, by decide +kernel⟩

theorem witness_TableMemorySteps_5 : ∃ (s t : State) (dt a : Nat), Finds s dt t ∧ t.dieServes a = true ∧ a < 2 ^ 29 ∧ t.wordBad
    (32 * (a / 32)) = false ∧ (t.tbm.flips.filter (fun e => e.1 / 32 == a / 32 && (eccOf e.2).fixes) = []) :=
  ⟨base, _, 0, 2 ^ 29 - 1, ⟨rfl, rfl⟩, by decide +kernel⟩

theorem witness_TableMemorySteps_6 : ∃ (s t : State) (dt a : Nat) (u : State), Finds s dt t ∧ u = t.count (R.TM_CNT (t.phys (32
    * (a / 32)) / 2 ^ 27 % 4) 5) ∧ t.dieServes a = true ∧ a < 2 ^ 29 ∧ t.wordBad (32 * (a / 32)) = false ∧ ((t.tbm.flips.filter
    fun e => e.1 / 32 == a / 32 && (eccOf e.2).fixes).length = 1) ∧ t.tbm.revisit.contains (a / 32) = false ∧
    t.tbm.revisit.length < 64 :=
  ⟨({ base with tbm := { base.tbm with flips := [(2 ^ 29 - 32, 1)] } } : State), _, 0, 2 ^ 29 - 1, _, ⟨rfl, rfl⟩, rfl, by
    decide +kernel⟩

theorem witness_TableMemorySteps_7 : ∃ (s t : State) (dt d : Nat), Finds s dt t ∧ t.flag R.TBM_CFG F.TBM_CFG_SCRUB_EN = true ∧
    t.decanting = false ∧ t.pdOn (56 + d) = true ∧ (t.die d).up = true ∧ (t.die d).filling = false ∧ t.tbm.out = none ∧
    t.tbm.flips = [] ∧ t.tbm.poison = [] ∧ t.tbm.revisit = [] ∧ t.patrolDue d = true :=
  ⟨((base.setFld R.TBM_CFG F.TBM_CFG_SCRUB_EN 1).setRaw R.PWR_ON (BitVec.allOnes 64)), _, 0, 3, ⟨rfl, rfl⟩, by decide +kernel⟩

theorem witness_TableMemorySteps_8 : ∃ (s t : State) (dt d : Nat), Finds s dt t ∧ t.flag R.TBM_CFG F.TBM_CFG_SCRUB_EN = true ∧
    t.decanting = false ∧ t.pdOn (56 + d) = true ∧ (t.die d).up = true ∧ (t.die d).filling = false ∧ t.tbm.out = none ∧
    t.tbm.flips = [] ∧ t.tbm.poison = [] ∧ t.tbm.revisit = [] ∧ t.patrolDue d = false :=
  ⟨({ (((base.setFld R.TBM_CFG F.TBM_CFG_SCRUB_EN 1).setRaw R.PWR_ON (BitVec.allOnes 64))) with tbm := { (((base.setFld R.TBM_CFG F.TBM_CFG_SCRUB_EN 1).setRaw R.PWR_ON (BitVec.allOnes 64))).tbm with dies := [(3, { patrolAt := some 0 })] } }
    : State), _, 0, 3, ⟨rfl, rfl⟩, by decide +kernel⟩

theorem witness_TableMemorySteps_9 : ∃ (s t : State) (dt : Nat), Finds s dt t ∧ t.ondieDue = false :=
  ⟨({ base with tbm := { base.tbm with ondieAt := some 0 } } : State), _, 0, ⟨rfl, rfl⟩, by decide +kernel⟩

theorem witness_TableMemorySteps_10 : ∃ (s t u : State) (dt : Nat) (e : Nat × Nat) (n a : Nat), Finds s dt t ∧ u =
    { t with tbm := { t.tbm with ondieAt := some t.now } } ∧ n = entrySize e.1 ∧ a = onDieBase e.1 + n * e.2 ∧ t.cfg.faulty =
    [e] ∧ t.ondieDue = true ∧ t.shadowClean e.1 e.2 = true ∧ t.cfg.faultySh.contains e = false :=
  ⟨({ base with cfg := { base.cfg with faulty := [(6, 32767)] } } : State), _, _, 0, (6, 32767), _, _, ⟨rfl, rfl⟩, rfl, rfl,
    rfl, by decide +kernel⟩

theorem witness_TableMemorySteps_11 : ∃ (s t u : State) (dt : Nat) (e : Nat × Nat), Finds s dt t ∧ u =
    { t with tbm := { t.tbm with ondieAt := some t.now } } ∧ t.cfg.faulty = [e] ∧ t.ondieDue = true ∧ (t.shadowClean e.1 e.2 =
    false ∨ t.cfg.faultySh.contains e = true) :=
  ⟨({ base with cfg := { base.cfg with faulty := [(6, 32767)], faultySh := [(6, 32767)] } } : State), _, _, 0, (6, 32767),
    ⟨rfl, rfl⟩, rfl, by decide +kernel⟩

theorem witness_TableMemorySteps_12 : ∃ (s t : State) (dt d : Nat), Finds s dt t ∧ (t.die d).filling = true :=
  ⟨({ base with tbm := { base.tbm with dies := [(3, { filling := true })] } } : State), _, 0, 3, ⟨rfl, rfl⟩, by decide +kernel⟩

theorem witness_TableMemorySteps_13 : ∃ (s t : State) (dt d : Nat), Finds s dt t ∧ t.pdOn (56 + d) = true ∧ t.tbm.gone.contains
    d = false :=
  ⟨base.setRaw R.PWR_ON (BitVec.allOnes 64), _, 0, 3, ⟨rfl, rfl⟩, by decide +kernel⟩

theorem witness_TableMemorySteps_14 : ∃ (s t : State) (dt d : Nat), Finds s dt t ∧ t.tbm.out = some d ∧ t.decanting = false ∧
    t.tbm.flips = [] ∧ t.tbm.poison = [] ∧ t.tbm.revisit = [] ∧ t.tbm.gone.contains d = false ∧ t.tbm.copied + 1 <
    t.relocBlocks :=
  ⟨({ ((((base.setFld (R.TBM_REGION 0) F.TBM_REGION_VALID 1).setFld (R.TBM_REGION 0) F.TBM_REGION_SIZE 128).setFld (R.TBM_REGION 0) F.TBM_REGION_BASE (3 * 2 ^ 21))) with tbm := { ((((base.setFld (R.TBM_REGION 0) F.TBM_REGION_VALID 1).setFld (R.TBM_REGION 0) F.TBM_REGION_SIZE 128).setFld (R.TBM_REGION 0) F.TBM_REGION_BASE (3 * 2 ^ 21))).tbm with out := some 3 } }
    : State), _, 0, 3, ⟨rfl, rfl⟩, by decide +kernel⟩

theorem witness_AgeingSteps_0 : ∃ (s t u : State) (dt : Nat) (c : Cup) (e : Nat × Int) (es : List (Nat × Int)) (w : Int), Finds
    s dt t ∧ (u = ((t.onAge fun a => { a with roundAt := t.now }).cupSlack c.slack).cupRings c.rings) ∧ w ≥ (u.fld
    R.AGE_MARGIN_CFG F.AGE_MARGIN_CFG_SLACK_MIN : Int) ∧ t.flag R.AGE_CFG F.AGE_CFG_CUP_EN = true ∧ t.dct.quiet = false ∧ t.now
    - t.age.roundAt ≥ 60000000000 * t.fld R.AGE_CFG F.AGE_CFG_PERIOD_MIN ∧ c.eyes = [] ∧ c.slack = e :: es ∧ (w = es.foldl (fun
    m x => min m x.2) e.2) ∧ t.age.clr = false :=
  ⟨({ (base.setFld R.AGE_CFG F.AGE_CFG_CUP_EN 1) with now := 2 ^ 60 } : State), _, _, 0, { slack := [(0, 900)] }, (0, 900), [],
    900, ⟨rfl, rfl⟩, rfl, by rw [State.fld, cup_keeps]; decide +kernel, by decide +kernel⟩

theorem witness_AgeingSteps_1 : ∃ (s t : State) (dt : Nat) (worst : Int), Finds s dt t ∧ worst ≥ (t.fld R.AGE_MARGIN_CFG
    F.AGE_MARGIN_CFG_SLACK_CRIT : Int) :=
  ⟨base, _, 0, 900, ⟨rfl, rfl⟩, by decide +kernel⟩

theorem witness_AgeingSteps_2 : ∃ (s t : State) (dt : Nat) (worst : Int), Finds s dt t ∧ worst < (t.fld R.AGE_MARGIN_CFG
    F.AGE_MARGIN_CFG_SLACK_CRIT : Int) ∧ t.age.lastFast = none ∧ t.age.gb + 5 ≤ t.fld R.AGE_MARGIN_CFG F.AGE_MARGIN_CFG_GB_MAX
    ∧ t.vcore (t.age.gb + 5) ≤ 800 :=
  ⟨base.setFld R.AGE_MARGIN_CFG F.AGE_MARGIN_CFG_GB_MAX 5, _, 0, -1, ⟨rfl, rfl⟩, by decide +kernel⟩

theorem witness_AgeingSteps_3 : ∃ (s t : State) (dt : Nat) (worst : Int), Finds s dt t ∧ worst < (t.fld R.AGE_MARGIN_CFG
    F.AGE_MARGIN_CFG_SLACK_CRIT : Int) ∧ t.age.lastFast = none ∧ t.age.gb + 5 > t.fld R.AGE_MARGIN_CFG F.AGE_MARGIN_CFG_GB_MAX
    :=
  ⟨({ base with age := { base.age with gb := 2 ^ 20 } } : State), _, 0, -1, ⟨rfl, rfl⟩, by decide +kernel⟩

theorem witness_AgeingSteps_4 : ∃ (s t : State) (dt e : Nat), Finds s dt t ∧ t.engRetired e = false ∧ t.age.stopped.contains e
    = false :=
  ⟨base, _, 0, 143, ⟨rfl, rfl⟩, by decide +kernel⟩

theorem witness_AgeingSteps_5 : ∃ (s t : State) (dt e : Nat), Finds s dt t ∧ (List.range 144).find? t.age.stopped.contains =
    some e :=
  ⟨({ base with age := { base.age with stopped := [143] } } : State).setFld R.AGE_MARGIN_CFG F.AGE_MARGIN_CFG_ROW_COR_MAX 1, _,
    0, 143, ⟨rfl, rfl⟩, by decide +kernel⟩

theorem witness_AgeingSteps_6 : ∃ (s t : State) (dt row f d n : Nat) (rest : List (Nat × Nat)), Finds s dt t ∧ d = row / 65536
    ∧ n = t.rowsUsed d ∧ t.age.rowDue = (row, f) :: rest ∧ t.decanting = false ∧ t.tbm.out = none ∧ n < 128 ∧ t.tbm.flips = []
    ∧ t.tbm.poison = [] :=
  ⟨({ base with age := { base.age with rowDue := [(65536 * 3 + 5, 9)] } } : State), _, 0, 65536 * 3 + 5, 9, _, _, [], ⟨rfl,
    rfl⟩, rfl, rfl, by decide +kernel⟩

theorem witness_AgeingSteps_7 : ∃ (s t : State) (dt : Nat), Finds s dt t ∧ t.age.onNs - t.age.lastSum ≥ 86400000000000 :=
  ⟨({ base with age := { base.age with onNs := 86400000000000 } } : State), _, 0, ⟨rfl, rfl⟩, by decide +kernel⟩

theorem witness_CounterSteps_0 : ∃ (s t : State) (dt : Nat), Finds s dt t ∧ t.flag R.PMC_DUMP_CFG F.PMC_DUMP_CFG_EN = true ∧
    t.dct.quiet = false ∧ t.now - t.pmc.lastDump ≥ 1000 * t.fld R.PMC_DUMP_CFG F.PMC_DUMP_CFG_PERIOD_US :=
  ⟨({ (base.setFld R.PMC_DUMP_CFG F.PMC_DUMP_CFG_EN 1) with now := 2 ^ 60 } : State), _, 0, ⟨rfl, rfl⟩, by decide +kernel⟩

theorem witness_CounterSteps_1 : ∃ (s t : State) (dt k e c r per : Nat), Finds s dt t ∧ k = t.fld R.PMC_SMP_CFG
    F.PMC_SMP_CFG_COUNTER ∧ e = t.fld (R.PMC_SEL k) F.PMC_SEL_UNIT ∧ per = t.fld R.PMC_SMP_CFG F.PMC_SMP_CFG_PERIOD ∧ t.engRole
    e = some (c, r) ∧ t.flag R.PMC_SMP_CFG F.PMC_SMP_CFG_EN = true ∧ t.dct.quiet = false ∧ t.pmc.smpDue ≥ per ∧ t.engRetired e
    = false ∧ t.pmc.samples.length < 64 :=
  ⟨({ (base.setFld R.PMC_SMP_CFG F.PMC_SMP_CFG_EN 1) with pmc := { (base.setFld R.PMC_SMP_CFG F.PMC_SMP_CFG_EN 1).pmc with smpDue := 2 ^ 50, samples := [] } }
    : State), _, 0, _, _, _, _, _, ⟨rfl, rfl⟩, rfl, rfl, rfl, took (by decide +kernel), by decide +kernel⟩

theorem witness_CounterSteps_2 : ∃ (s t : State) (dt k e c r per : Nat), Finds s dt t ∧ k = t.fld R.PMC_SMP_CFG
    F.PMC_SMP_CFG_COUNTER ∧ e = t.fld (R.PMC_SEL k) F.PMC_SEL_UNIT ∧ per = t.fld R.PMC_SMP_CFG F.PMC_SMP_CFG_PERIOD ∧ t.engRole
    e = some (c, r) ∧ t.flag R.PMC_SMP_CFG F.PMC_SMP_CFG_EN = true ∧ t.dct.quiet = false ∧ t.pmc.smpDue ≥ per ∧ t.engRetired e
    = false ∧ t.pmc.samples.length ≥ 64 :=
  ⟨({ (base.setFld R.PMC_SMP_CFG F.PMC_SMP_CFG_EN 1) with pmc := { (base.setFld R.PMC_SMP_CFG F.PMC_SMP_CFG_EN 1).pmc with smpDue := 2 ^ 50, samples := List.replicate 64 [] } }
    : State), _, 0, _, _, _, _, _, ⟨rfl, rfl⟩, rfl, rfl, rfl, took (by decide +kernel), by decide +kernel⟩

theorem witness_ClockAndSupplySteps_0 : ∃ (s t : State) (dt low : Nat), t = s.elapse dt ∧ low ≥ 200 ∧ t.aon.mode = 0 ∧
    t.dct.active = false :=
  ⟨base, _, 0, 200, rfl, by decide +kernel⟩

theorem witness_ClockAndSupplySteps_1 : ∃ (s t : State) (dt low : Nat), t = s.elapse dt ∧ low ≥ 200 ∧ t.aon.mode = 1 :=
  ⟨({ base with aon := { base.aon with mode := 1 } } : State), _, 0, 200, rfl, by decide +kernel⟩

theorem witness_ClockAndSupplySteps_2 : ∃ (s t : State) (dt : Nat), t = s.elapse dt ∧ t.aon.mode = 2 :=
  ⟨({ base with aon := { base.aon with mode := 2 } } : State), _, 0, rfl, by decide +kernel⟩

theorem witness_ClockAndSupplySteps_3 : ∃ (s t : State) (dt : Nat) (u : State), t = s.elapse dt ∧ u =
    ({ t with aon := { t.aon with main := true, vaux := true } } : State).mainEn t.aon.wakeCfg true ∧ t.aon.mode = 2 ∧
    (t.aon.main = false ∨ t.aon.wake = true) :=
  ⟨({ base with aon := { base.aon with mode := 2, main := false } } : State), _, 0, _, rfl, rfl, by decide +kernel⟩

theorem witness_ClockAndSupplySteps_4 : ∃ (s t : State) (dt : Nat) (u : State), t = s.elapse dt ∧ u =
    ({ t with aon := { t.aon with main := true, vaux := true } } : State).mainEn t.aon.wakeCfg true ∧ t.aon.mode = 3 ∧
    t.aon.cause ≠ 4 :=
  ⟨({ base with aon := { base.aon with mode := 3, cause := 3 } } : State), _, 0, _, rfl, rfl, by decide +kernel⟩

theorem witness_ClockAndSupplySteps_5 : ∃ (s t : State) (dt : Nat), t = s.elapse dt ∧ t.aon.mode = 0 ∧ t.aon.xtal = true :=
  ⟨base, _, 0, rfl, by decide +kernel⟩

theorem witness_ClockAndSupplySteps_6 : ∃ (s t : State) (dt : Nat), t = s.elapse dt ∧ t.aon.mode = 0 :=
  ⟨base, _, 0, rfl, by decide +kernel⟩

theorem witness_ClockAndSupplySteps_7 : ∃ (s t : State) (dt : Nat), t = s.elapse dt ∧ t.aon.mode ≠ 0 :=
  ⟨({ base with aon := { base.aon with mode := 1 } } : State), _, 0, rfl, by decide +kernel⟩

theorem witness_ClockAndSupplySteps_8 : ∃ (s t : State) (dt : Nat), t = s.elapse dt ∧ t.aon.mode = 0 ∧ t.dct.active = false ∧
    t.aon.ignored = false :=
  ⟨base, _, 0, rfl, by decide +kernel⟩

theorem witness_ClockAndSupplySteps_9 : ∃ (s t : State) (dt : Nat), t = s.elapse dt ∧ t.aon.mode = 1 :=
  ⟨({ base with aon := { base.aon with mode := 1 } } : State), _, 0, rfl, by decide +kernel⟩

theorem witness_ClockAndSupplySteps_10 : ∃ (s t : State) (dt : Nat), t = s.elapse dt ∧ t.aon.mode = 0 :=
  ⟨base, _, 0, rfl, by decide +kernel⟩

theorem witness_ClockAndSupplySteps_11 : ∃ (s t : State) (dt : Nat), t = s.elapse dt ∧ t.aon.mode = 3 ∧ t.aon.cause = 4 :=
  ⟨({ base with aon := { base.aon with mode := 3, cause := 4 } } : State), _, 0, rfl, by decide +kernel⟩

theorem witness_ClockAndSupplySteps_12 : ∃ (s t : State) (dt : Nat), Finds s dt t ∧ t.clk.holdover = none :=
  ⟨base, _, 0, ⟨rfl, rfl⟩, by decide +kernel⟩

theorem witness_ClockAndSupplySteps_13 : ∃ (s t : State) (dt b : Nat), Finds s dt t ∧ t.clk.holdover = some b ∧ t.now - b ≥
    1000000 :=
  ⟨({ base with now := 1000000, clk := { base.clk with holdover := some 0 } } : State), _, 0, 0, ⟨rfl, rfl⟩, by decide +kernel⟩

theorem witness_SensorSteps_0 : ∃ (s t : State) (dt p : Nat), Finds s dt t ∧ t.fld R.CLK_PTM_CFG F.CLK_PTM_CFG_PORT = p ∧
    t.flag R.CLK_PTM_CFG F.CLK_PTM_CFG_EN = true ∧ t.isPcie p = true ∧ t.role p = 0 ∧ t.linkUp p = true :=
  ⟨base.setFld R.CLK_PTM_CFG F.CLK_PTM_CFG_EN 1, _, 0, _, ⟨rfl, rfl⟩, rfl, by decide +kernel⟩

theorem witness_SensorSteps_1 : ∃ (s t u : State) (dt n : Nat) (l : List Int) (j peak w y : Int), Finds s dt t ∧ hottest l =
    (j, n) ∧ peak = (match t.clk.peak with | some q => max q j | none => j) ∧ u = ((t.setFld R.DEV_TEMP F.DEV_TEMP_TJ_MAX
    (BitVec.ofInt 16 j).toNat).setFld R.DEV_TEMP F.DEV_TEMP_SENSOR n).setFld R.DEV_TEMP F.DEV_TEMP_TJ_PEAK (BitVec.ofInt 16
    peak).toNat ∧ w = signed8 (u.fld R.DEV_THERM_CFG F.DEV_THERM_CFG_WARN_C) * 16 ∧ y = (u.fld R.DEV_THERM_CFG
    F.DEV_THERM_CFG_HYST_C : Int) * 16 ∧ j < w ∧ j < u.critTemp :=
  ⟨base, _, _, 0, _, [-5], _, _, _, _, ⟨rfl, rfl⟩, rfl, rfl, rfl, rfl, rfl, by decide +kernel⟩

theorem witness_SensorSteps_2 : ∃ (s t u : State) (dt n : Nat) (l : List Int) (j peak w y : Int) (v : State), Finds s dt t ∧
    hottest l = (j, n) ∧ peak = (match t.clk.peak with | some q => max q j | none => j) ∧ u = ((t.setFld R.DEV_TEMP
    F.DEV_TEMP_TJ_MAX (BitVec.ofInt 16 j).toNat).setFld R.DEV_TEMP F.DEV_TEMP_SENSOR n).setFld R.DEV_TEMP F.DEV_TEMP_TJ_PEAK
    (BitVec.ofInt 16 peak).toNat ∧ w = signed8 (u.fld R.DEV_THERM_CFG F.DEV_THERM_CFG_WARN_C) * 16 ∧ y = (u.fld R.DEV_THERM_CFG
    F.DEV_THERM_CFG_HYST_C : Int) * 16 ∧ v = u.raise Flt.DEV_THERM_WARN 0 (thermInfo j n) ∧ j ≥ w ∧ u.flag R.DEV_THERM_CFG
    F.DEV_THERM_CFG_WARN_EN = true ∧ u.clk.warn = false ∧ j < u.critTemp :=
  ⟨base.setFld R.DEV_THERM_CFG F.DEV_THERM_CFG_WARN_C 80, _, _, 0, _, [90 * 16], _, _, _, _, _, ⟨rfl, rfl⟩, rfl, rfl, rfl, rfl,
    rfl, rfl, by decide +kernel⟩

theorem witness_SensorSteps_3 : ∃ (s t u : State) (dt n : Nat) (l : List Int) (j peak w y : Int) (v : State), Finds s dt t ∧
    hottest l = (j, n) ∧ peak = (match t.clk.peak with | some q => max q j | none => j) ∧ u = ((t.setFld R.DEV_TEMP
    F.DEV_TEMP_TJ_MAX (BitVec.ofInt 16 j).toNat).setFld R.DEV_TEMP F.DEV_TEMP_SENSOR n).setFld R.DEV_TEMP F.DEV_TEMP_TJ_PEAK
    (BitVec.ofInt 16 peak).toNat ∧ w = signed8 (u.fld R.DEV_THERM_CFG F.DEV_THERM_CFG_WARN_C) * 16 ∧ y = (u.fld R.DEV_THERM_CFG
    F.DEV_THERM_CFG_HYST_C : Int) * 16 ∧ v = u.raise Flt.DEV_THERM_CRIT 0 (thermInfo j n) ∧ j < w ∧ j ≥ u.critTemp ∧ u.clk.crit
    = false :=
  ⟨base.setFld R.DEV_THERM_CFG F.DEV_THERM_CFG_WARN_C 127, _, _, 0, _, [126 * 16], _, _, _, _, _, ⟨rfl, rfl⟩, rfl, rfl, rfl,
    rfl, rfl, rfl, by decide +kernel⟩

theorem witness_AuthorisationAndFlash_0 : ∃ (s t : State) (dt : Nat) (b : List Byte) (ok : Bool) (r : Nat), Finds s dt t ∧ r =
    t.lcResult (authObj b) ok ∧ t.flag R.SEC_LC_CMD F.SEC_LC_CMD_BUSY = true ∧ r ≠ 1 :=
  ⟨base.setFld R.SEC_LC_CMD F.SEC_LC_CMD_BUSY 1, _, 0, [], false, _, ⟨rfl, rfl⟩, rfl, by decide +kernel⟩

theorem witness_AuthorisationAndFlash_1 : ∃ (s t : State) (dt : Nat) (b : List Byte) (ok : Bool) (r : Nat), Finds s dt t ∧
    t.flag R.SEC_LC_CMD F.SEC_LC_CMD_BUSY = true ∧ r = t.lcResult (authObj b) ok ∧ r = 1 ∧ (authObj b).typ ≠ 1 :=
  ⟨({ (base.setFld R.SEC_LC_CMD F.SEC_LC_CMD_BUSY 1) with sec := { (base.setFld R.SEC_LC_CMD F.SEC_LC_CMD_BUSY 1).sec with nonce := some 0 } }
    : State), _, 0, [3, 0, 0, 255], false, 1, ⟨rfl, rfl⟩, by decide +kernel⟩

theorem witness_AuthorisationAndFlash_2 : ∃ (s t : State) (dt : Nat), Finds s dt t ∧ t.flag R.SEC_LC_CMD F.SEC_LC_CMD_BUSY =
    true :=
  ⟨base.setFld R.SEC_LC_CMD F.SEC_LC_CMD_BUSY 1, _, 0, ⟨rfl, rfl⟩, by decide +kernel⟩

theorem witness_AuthorisationAndFlash_3 : ∃ (s t : State) (dt n : Nat), Finds s dt t ∧ t.sec.flashOp = some (0, n) :=
  ⟨({ base with sec := { base.sec with flashOp := some (0, 8191) } } : State), _, 0, 8191, ⟨rfl, rfl⟩, by decide +kernel⟩

theorem witness_AuthorisationAndFlash_4 : ∃ (s t : State) (dt n : Nat), Finds s dt t ∧ t.sec.flashOp = some (1, n) :=
  ⟨({ base with sec := { base.sec with flashOp := some (1, 8191) } } : State), _, 0, 8191, ⟨rfl, rfl⟩, by decide +kernel⟩

theorem witness_AuthorisationAndFlash_5 : ∃ (s t : State) (dt n : Nat), Finds s dt t ∧ t.sec.flashOp = some (2, n) :=
  ⟨({ base with sec := { base.sec with flashOp := some (2, 8191) } } : State), _, 0, 8191, ⟨rfl, rfl⟩, by decide +kernel⟩

theorem witness_SpdmAnswers_0 : ∃ (s t : State) (dt via : Nat), Finds s dt t ∧ t.spdmVia via = true :=
  ⟨base, _, 0, 0, ⟨rfl, rfl⟩, by decide +kernel⟩

theorem witness_SpdmAnswers_1 : ∃ (s t : State) (dt via : Nat), Finds s dt t ∧ t.spdmVia via = true :=
  ⟨base, _, 0, 0, ⟨rfl, rfl⟩, by decide +kernel⟩

theorem witness_SpdmAnswers_2 : ∃ (s t : State) (dt via index : Nat), Finds s dt t ∧ t.spdmVia via = true ∧ 1 ≤ index ∧ index ≤
    7 :=
  ⟨base, _, 0, 0, 7, ⟨rfl, rfl⟩, by decide +kernel⟩

theorem witness_SpdmAnswers_3 : ∃ (s t : State) (dt via e : Nat), Finds s dt t ∧ t.spdmShut true = some e ∧ t.spdmVia via =
    true :=
  ⟨base.setFld R.SEC_STAT F.SEC_STAT_CORE_DEBUG_USED 1, _, 0, 0, _, ⟨rfl, rfl⟩, got (by decide +kernel), by decide +kernel⟩

theorem witness_SpdmAnswers_4 : ∃ (s t : State) (dt via : Nat) (r : List Byte) (u : State), Finds s dt t ∧ t.freshBytes 4 = (r,
    u) ∧ t.spdmVia via = true ∧ t.spdmShut true = none :=
  ⟨base, _, 0, 0, _, _, ⟨rfl, rfl⟩, parts2 _, by decide +kernel⟩

theorem witness_SpdmAnswers_5 : ∃ (s t : State) (dt via : Nat) (r : List Byte) (u : State), Finds s dt t ∧ t.freshBytes 4 = (r,
    u) ∧ t.spdmVia via = true ∧ t.spdmShut true = none ∧ t.sec.sessions.length < 8 :=
  ⟨base, _, 0, 0, _, _, ⟨rfl, rfl⟩, parts2 _, by decide +kernel⟩

theorem witness_SpdmAnswers_6 : ∃ (s t : State) (dt : Nat) (x : Session) (u : State), Finds s dt t ∧ (u = (t.onSec fun y =>
    { y with sessions := y.sessions.filter fun z => z.id != x.id }).showSessions) ∧ (t.sec.sessions.find? (fun y => y.id ==
    x.id) = some x) :=
  ⟨({ base with sec := { base.sec with sessions := [{ id := 1, via := 3 }] } } : State), _, 0, { id := 1, via := 3 }, _, ⟨rfl,
    rfl⟩, rfl, by decide +kernel⟩

theorem witness_LinkKeys_0 : ∃ (s t : State) (dt id v i : Nat) (op : IdeOp), Finds s dt t ∧ t.ideSession id = (some v, t) ∧
    op.session = id ∧ op.index = i ∧ t.idePort v i = none :=
  ⟨({ base with sec := { base.sec with sessions := [{ id := 1, via := 0 }] } } : State), _, 0, 1, 0, 255,
    { session := 1, index := 255, set := 0, sub := 0, dir := 0 }, ⟨rfl, rfl⟩, session_ok { id := 1, via := 0 } (by
    decide +kernel) (by decide +kernel) (by decide +kernel), by decide +kernel⟩

theorem witness_LinkKeys_1 : ∃ (s t : State) (dt id v i : Nat) (op : IdeOp), Finds s dt t ∧ t.ideSession id = (some v, t) ∧
    op.session = id ∧ op.index = i ∧ t.idePort v i = none :=
  ⟨({ base with sec := { base.sec with sessions := [{ id := 1, via := 0 }] } } : State), _, 0, 1, 0, 255,
    { session := 1, index := 255, set := 0, sub := 0, dir := 0 }, ⟨rfl, rfl⟩, session_ok { id := 1, via := 0 } (by
    decide +kernel) (by decide +kernel) (by decide +kernel), by decide +kernel⟩

theorem witness_LinkKeys_2 : ∃ (s t : State) (dt id v i p : Nat) (op : IdeOp) (k : IdeKeys), Finds s dt t ∧ t.ideSession id =
    (some v, t) ∧ t.idePort v i = some p ∧ k = tget {} t.sec.keys p ∧ op.session = id ∧ op.index = i :=
  ⟨({ base with sec := { base.sec with sessions := [{ id := 1, via := 0 }] } } : State), _, 0, 1, 0, 0, _,
    { session := 1, index := 0, set := 0, sub := 0, dir := 0 }, _, ⟨rfl, rfl⟩, session_ok { id := 1, via := 0 } (by
    decide +kernel) (by decide +kernel) (by decide +kernel), got (by decide +kernel), rfl, by decide +kernel⟩

theorem witness_LinkKeys_3 : ∃ (s t : State) (dt id v i p : Nat) (op : IdeOp) (k : IdeKeys), Finds s dt t ∧ t.ideSession id =
    (some v, t) ∧ t.idePort v i = some p ∧ k = tget {} t.sec.keys p ∧ op.session = id ∧ op.index = i ∧ (t.pcpOf p).up = false :=
  ⟨({ base with sec := { base.sec with sessions := [{ id := 1, via := 0 }] }, pcp := [(0, { up := true, perst := false })] } :
    State), _, 0, 1, 0, 1, _, { session := 1, index := 1, set := 0, sub := 0, dir := 0 }, _, ⟨rfl, rfl⟩, session_ok
    { id := 1, via := 0 } (by decide +kernel) (by decide +kernel) (by decide +kernel), got (by decide +kernel), rfl, by
    decide +kernel⟩

theorem witness_LinkKeys_4 : ∃ (s t : State) (dt id v i p : Nat) (op : IdeOp) (k : IdeKeys), Finds s dt t ∧ t.ideSession id =
    (some v, t) ∧ t.idePort v i = some p ∧ k = tget {} t.sec.keys p ∧ op.session = id ∧ op.index = i ∧ (t.pcpOf p).up = true ∧
    t.portContained p = false :=
  ⟨({ base with sec := { base.sec with sessions := [{ id := 1, via := 0 }] } } : State), _, 0, 1, 0, 0, _,
    { session := 1, index := 0, set := 0, sub := 0, dir := 0 }, _, ⟨rfl, rfl⟩, session_ok { id := 1, via := 0 } (by
    decide +kernel) (by decide +kernel) (by decide +kernel), got (by decide +kernel), rfl, by decide +kernel⟩

theorem witness_LinkKeys_5 : ∃ (s t : State) (dt id v i p : Nat) (op : IdeOp) (k : IdeKeys), Finds s dt t ∧ t.ideSession id =
    (some v, t) ∧ t.idePort v i = some p ∧ k = tget {} t.sec.keys p ∧ op.session = id ∧ op.index = i ∧ ((k.keys.any fun x =>
    x.1 == op.set % 2 && x.2.1 == op.sub % 3 && x.2.2.1 == op.dir % 2) = true) :=
  ⟨({ base with sec := { base.sec with sessions := [{ id := 1, via := 0 }], keys := [(0, { keys := [(0, 0, 0, [])] })] } } :
    State), _, 0, 1, 0, 0, _, { session := 1, index := 0, set := 0, sub := 0, dir := 0 }, _, ⟨rfl, rfl⟩, session_ok
    { id := 1, via := 0 } (by decide +kernel) (by decide +kernel) (by decide +kernel), got (by decide +kernel), rfl, by
    decide +kernel⟩

theorem witness_LinkKeys_6 : ∃ (s t : State) (dt id v i p : Nat) (op : IdeOp) (k : IdeKeys), Finds s dt t ∧ t.ideSession id =
    (some v, t) ∧ t.idePort v i = some p ∧ k = tget {} t.sec.keys p ∧ op.session = id ∧ op.index = i ∧ ((k.keys.any fun x =>
    x.1 == op.set % 2 && x.2.1 == op.sub % 3 && x.2.2.1 == op.dir % 2) = false) :=
  ⟨({ base with sec := { base.sec with sessions := [{ id := 1, via := 0 }] } } : State), _, 0, 1, 0, 0, _,
    { session := 1, index := 0, set := 0, sub := 0, dir := 0 }, _, ⟨rfl, rfl⟩, session_ok { id := 1, via := 0 } (by
    decide +kernel) (by decide +kernel) (by decide +kernel), got (by decide +kernel), rfl, by decide +kernel⟩

theorem witness_LinkKeys_7 : ∃ (s t : State) (dt id v i p : Nat) (op : IdeOp) (k : IdeKeys), Finds s dt t ∧ t.ideSession id =
    (some v, t) ∧ t.idePort v i = some p ∧ k = tget {} t.sec.keys p ∧ op.session = id ∧ op.index = i ∧ (tfind t.sec.keys
    p).isSome = true :=
  ⟨({ base with sec := { base.sec with sessions := [{ id := 1, via := 0 }], keys := [(0, {})] } } : State), _, 0, 1, 0, 0, _,
    { session := 1, index := 0, set := 0, sub := 0, dir := 0 }, _, ⟨rfl, rfl⟩, session_ok { id := 1, via := 0 } (by
    decide +kernel) (by decide +kernel) (by decide +kernel), got (by decide +kernel), rfl, by decide +kernel⟩

theorem witness_DebugPort_0 : ∃ (s t : State) (dt c : Nat), Finds s dt t ∧ t.sec.extest = false ∧ c ≠ 0 :=
  ⟨base, _, 0, 1, ⟨rfl, rfl⟩, by decide +kernel⟩

theorem witness_DebugPort_1 : ∃ (s t : State) (dt : Nat), Finds s dt t ∧ t.sec.extest = false :=
  ⟨base, _, 0, ⟨rfl, rfl⟩, by decide +kernel⟩

theorem witness_DebugPort_2 : ∃ (s t : State) (dt : Nat), Finds s dt t ∧ t.sec.extest = false ∧ t.jtagOk 0 = true :=
  ⟨base, _, 0, ⟨rfl, rfl⟩, by decide +kernel⟩

theorem witness_DebugPort_3 : ∃ (s t : State) (dt off len : Nat) (l words : List Nat) (ok : Bool) (u v : State), Finds s dt t ∧
    (v = (t.onSec fun x => { x with ir := 0x10, extest := false })) ∧ v.burst false words (min 128 len) (off / 4 * 4) [] = (l,
    ok, u) ∧ t.sec.extest = false ∧ t.jtagOk 0x10 = true :=
  ⟨base, _, 0, 0, 4, _, [], _, _, _, ⟨rfl, rfl⟩, rfl, parts3 _, by decide +kernel⟩

theorem witness_DebugPort_4 : ∃ (s t : State) (dt off len : Nat) (l words : List Nat) (ok : Bool) (u v : State), Finds s dt t ∧
    (v = (t.onSec fun x => { x with ir := 0x10, extest := false })) ∧ v.burst true words (min 128 len) (off / 4 * 4) [] = (l,
    ok, u) ∧ t.sec.extest = false ∧ t.jtagOk 0x10 = true :=
  ⟨base, _, 0, 0, 4, _, [], _, _, _, ⟨rfl, rfl⟩, rfl, parts3 _, by decide +kernel⟩

theorem witness_DebugPort_5 : ∃ (s t : State) (dt : Nat) (w : Word) (u : State), Finds s dt t ∧ (t.jtagIr 0x11).fresh = (w, u)
    ∧ t.sec.extest = false ∧ t.jtagOk 0x11 = true :=
  ⟨base, _, 0, _, _, ⟨rfl, rfl⟩, parts2 _, by decide +kernel⟩

theorem witness_DebugPort_6 : ∃ (s t : State) (dt : Nat) (obj : List Byte) (a : AuthObj), Finds s dt t ∧ a = authObj obj ∧
    t.sec.extest = false ∧ t.jtagOk 0x12 = true ∧ t.sec.otp.lc = 3 ∧ a.typ = 2 ∧ a.serial = t.sec.otp.serial ∧ t.sec.jtagNonce
    = some (BitVec.ofNat 64 a.nonce) ∧ a.key = 0x21 :=
  ⟨({ base with sec := { base.sec with otp := { lc := 3 }, jtagNonce := some 0 } } : State), _, 0, [2, 0, 0, 33], _, ⟨rfl,
    rfl⟩, rfl, by decide +kernel⟩

theorem witness_DebugPort_7 : ∃ (s t : State) (dt : Nat) (obj : List Byte) (a : AuthObj), Finds s dt t ∧ a = authObj obj ∧
    t.sec.extest = false ∧ t.jtagOk 0x12 = true ∧ t.sec.otp.lc = 3 ∧ a.typ = 2 :=
  ⟨({ base with sec := { base.sec with otp := { lc := 3 }, jtagNonce := some 0 } } : State), _, 0, [2, 0, 0, 33], _, ⟨rfl,
    rfl⟩, rfl, by decide +kernel⟩

theorem witness_DebugPort_8 : ∃ (s t : State) (dt : Nat), Finds s dt t ∧ t.sec.extest = false ∧ t.jtagOk 0x13 = true ∧ t.flag
    R.SEC_STAT F.SEC_STAT_CORE_DEBUG_USED = false :=
  ⟨({ (base.setFld R.SEC_STAT F.SEC_STAT_DEBUG_OPEN 1) with sec := { (base.setFld R.SEC_STAT F.SEC_STAT_DEBUG_OPEN 1).sec with otp := { lc := 1 } } }
    : State), _, 0, ⟨rfl, rfl⟩, by decide +kernel⟩

theorem witness_RingRegisterRows_0 : ∃ (s t : State) (dt : Nat) (m : Master) (index : Nat), Finds s dt t ∧ t.mpuRight m 1 true
    = true ∧ t.mcrIndexOk (index % 2 ^ 17) = true :=
  ⟨base, _, 0, .manager, 64, ⟨rfl, rfl⟩, by decide +kernel⟩

theorem witness_RingRegisterRows_1 : ∃ (s t : State) (dt : Nat) (m : Master) (index : Nat), Finds s dt t ∧ t.mpuRight m 1 true
    = true ∧ t.mcrIndexOk (index % 2 ^ 17) = false :=
  ⟨base, _, 0, .manager, 65, ⟨rfl, rfl⟩, by decide +kernel⟩

theorem witness_RingRegisterRows_2 : ∃ (s t : State) (dt : Nat) (m : Master), Finds s dt t ∧ t.mpuRight m 1 true = true :=
  ⟨base, _, 0, .manager, ⟨rfl, rfl⟩, by decide +kernel⟩

theorem witness_RingRegisterRows_3 : ∃ (s t : State) (dt : Nat) (m : Master) (r : RingId) (index : Nat), Finds s dt t ∧ ((∀ v,
    r ≠ .fail v) → t.mpuRight m 1 true = true) ∧ r ≠ .mcr ∧ t.ciOk r (index % 2 ^ 17) = true :=
  ⟨base.setRaw (R.CTL_PI 1) 1, _, 0, .manager, .evr, 1, ⟨rfl, rfl⟩, fun _ => rfl, nofun, by decide +kernel⟩

theorem witness_RingRegisterRows_4 : ∃ (s t : State) (dt : Nat) (m : Master) (r : RingId) (index : Nat), Finds s dt t ∧ ((∀ v,
    r ≠ .fail v) → t.mpuRight m 1 true = true) ∧ r ≠ .mcr ∧ t.ciOk r (index % 2 ^ 17) = false :=
  ⟨base.setRaw (R.CTL_PI 1) 1, _, 0, .manager, .evr, 2, ⟨rfl, rfl⟩, fun _ => rfl, nofun, by decide +kernel⟩

theorem witness_RingRegisterRows_5 : ∃ (s t : State) (dt : Nat) (m : Master) (r : RingId) (v : Word) (k live : Nat) (u :
    State), Finds s dt t ∧ ((∀ v, r ≠ .fail v) → t.mpuRight m 1 true = true) ∧ k = r.cfg ∧ (live = (if r = .mcr then 0x80000000
    else 0x8FFFFF00)) ∧ u = t.put k (mixBits (t.raw k) (F.CTL_CFG_EN.set v 1) (live ||| 0x1F)) ∧ t.ringOn r = false ∧
    u.ringReady r = true :=
  ⟨base, _, 0, .manager, .smr, 0x106, _, _, _, ⟨rfl, rfl⟩, fun _ => rfl, rfl, rfl, rfl, by decide +kernel⟩

theorem witness_RingRegisterRows_6 : ∃ (s t : State) (dt : Nat) (m : Master) (r : RingId) (v : Word) (k live : Nat) (u :
    State), Finds s dt t ∧ ((∀ v, r ≠ .fail v) → t.mpuRight m 1 true = true) ∧ k = r.cfg ∧ (live = (if r = .mcr then 0x80000000
    else 0x8FFFFF00)) ∧ u = t.put k (mixBits (t.raw k) (F.CTL_CFG_EN.set v 1) (live ||| 0x1F)) ∧ t.ringOn r = false ∧
    u.ringReady r = false :=
  ⟨base.setFld (R.CTL_CFG 0) F.CTL_CFG_EN 0, _, 0, .manager, .mcr, 0x105, _, _, _, ⟨rfl, rfl⟩, fun _ => rfl, rfl, rfl, rfl, by
    decide +kernel⟩

theorem witness_RingRegisterRows_7 : ∃ (s t : State) (dt : Nat) (m : Master) (r : RingId) (k live : Nat), Finds s dt t ∧ ((∀ v,
    r ≠ .fail v) → t.mpuRight m 1 true = true) ∧ k = r.cfg ∧ (live = (if r = .mcr then 0x80000000 else 0x8FFFFF00)) ∧ t.ringOn
    r = false :=
  ⟨base, _, 0, .manager, .smr, _, _, ⟨rfl, rfl⟩, fun _ => rfl, rfl, rfl, by decide +kernel⟩

theorem witness_RingRegisterRows_8 : ∃ (s t : State) (dt : Nat) (m : Master) (r : RingId) (v : Word) (k live : Nat) (e : State)
    (w : Word), Finds s dt t ∧ ((∀ v, r ≠ .fail v) → t.mpuRight m 1 true = true) ∧ k = r.cfg ∧ (live = (if r = .mcr then
    0x80000000 else 0x8FFFFF00)) ∧ e = t.regErr stCfgBusy k ∧ w = mixBits (t.raw k) (F.CTL_CFG_EN.set v 1) live ∧ t.ringOn r =
    true :=
  ⟨base, _, 0, .manager, .evr, 0x106, _, _, _, _, ⟨rfl, rfl⟩, fun _ => rfl, rfl, rfl, rfl, rfl, by decide +kernel⟩

theorem witness_RingRegisterRows_9 : ∃ (s t : State) (dt : Nat) (m : Master) (r : RingId) (k live : Nat) (e : State), Finds s
    dt t ∧ ((∀ v, r ≠ .fail v) → t.mpuRight m 1 true = true) ∧ k = r.cfg ∧ (live = (if r = .mcr then 0x80000000 else
    0x8FFFFF00)) ∧ e = t.regErr stCfgBusy k ∧ t.ringOn r = true :=
  ⟨base, _, 0, .manager, .evr, _, _, _, ⟨rfl, rfl⟩, fun _ => rfl, rfl, rfl, rfl, by decide +kernel⟩

theorem witness_RingRegisterRows_10 : ∃ (s t : State) (dt : Nat) (m : Master) (r : RingId), Finds s dt t ∧ ((∀ v, r ≠ .fail v)
    → t.mpuRight m 1 true = true) :=
  ⟨base, _, 0, .manager, .fail 31, ⟨rfl, rfl⟩, fun _ => rfl⟩

theorem witness_RingRegisterRows_11 : ∃ (s t : State) (dt : Nat) (m : Master) (r : RingId), Finds s dt t ∧ (∀ v, r ≠ .fail v) ∧
    t.mpuRight m 1 true = false :=
  ⟨(base).setRaw (R.MPU_SLOT (1)) 0, _, 0, .engine, .cdr, ⟨rfl, rfl⟩, nofun, by decide +kernel⟩

theorem witness_RingRegisterRows_12 : ∃ (s t : State) (dt : Nat) (m : Master) (r : RingId), Finds s dt t ∧ (∀ v, r ≠ .fail v) ∧
    t.mpuRight m 1 true = false :=
  ⟨(base).setRaw (R.MPU_SLOT (1)) 0, _, 0, .engine, .cdr, ⟨rfl, rfl⟩, nofun, by decide +kernel⟩

theorem witness_RingRegisterRows_13 : ∃ (s t : State) (dt : Nat) (m : Master) (r : RingId), Finds s dt t ∧ (∀ v, r ≠ .fail v) ∧
    t.mpuRight m 1 true = false :=
  ⟨(base).setRaw (R.MPU_SLOT (1)) 0, _, 0, .engine, .cdr, ⟨rfl, rfl⟩, nofun, by decide +kernel⟩

theorem witness_PortRegisterRows_0 : ∃ (s t : State) (dt p : Nat) (m : Master) (w x : Word), Finds s dt t ∧ x = mixBits (t.raw
    (R.XBC_SMP_CFG p)) (F.XBC_SMP_CFG_EN.set w 1) 0xC000FFFF ∧ p < 128 ∧ t.mpuRight m 10 true = true ∧ t.slotLocked 10 = false
    ∧ F.XBC_SMP_CFG_N.get x = 0 :=
  ⟨base, _, 0, 127, .manager, 0, _, ⟨rfl, rfl⟩, rfl, by decide +kernel⟩

theorem witness_PortRegisterRows_1 : ∃ (s t : State) (dt p : Nat) (m : Master) (w x : Word) (u : State), Finds s dt t ∧ x =
    mixBits (t.raw (R.XBC_SMP_CFG p)) (F.XBC_SMP_CFG_EN.set w 1) 0xC000FFFF ∧ u = t.put (R.XBC_SMP_CFG p) x ∧ p < 128 ∧
    t.mpuRight m 10 true = true ∧ t.slotLocked 10 = false ∧ F.XBC_SMP_CFG_N.get x ≠ 0 ∧ t.flag (R.XBC_SMP_CFG p)
    F.XBC_SMP_CFG_EN = true :=
  ⟨base.setFld (R.XBC_SMP_CFG 127) F.XBC_SMP_CFG_EN 1, _, 0, 127, .manager, 5, _, _, ⟨rfl, rfl⟩, rfl, rfl, by decide +kernel⟩

theorem witness_PortRegisterRows_2 : ∃ (s t : State) (dt p : Nat) (m : Master) (w x : Word) (u : State) (n : Nat) (v : State),
    Finds s dt t ∧ x = mixBits (t.raw (R.XBC_SMP_CFG p)) (F.XBC_SMP_CFG_EN.set w 1) 0xC000FFFF ∧ u = t.put (R.XBC_SMP_CFG p) x
    ∧ u.smpReload p = (n, v) ∧ p < 128 ∧ t.mpuRight m 10 true = true ∧ t.slotLocked 10 = false ∧ F.XBC_SMP_CFG_N.get x ≠ 0 ∧
    t.flag (R.XBC_SMP_CFG p) F.XBC_SMP_CFG_EN = false :=
  ⟨base, _, 0, 127, .manager, 5, _, _, _, _, ⟨rfl, rfl⟩, rfl, rfl, rfl, by decide +kernel⟩

theorem witness_PortRegisterRows_3 : ∃ (s t : State) (dt p : Nat) (m : Master) (w x : Word), Finds s dt t ∧ x = mixBits (t.raw
    (R.XBC_SMP_CFG p)) (F.XBC_SMP_CFG_EN.set w 1) 0xC000FFFF ∧ p < 128 ∧ t.mpuRight m 10 true = true ∧ t.slotLocked 10 = true :=
  ⟨(base).setFld (R.MPU_SLOT (10)) F.MPU_SLOT_LOCK 1, _, 0, 127, .manager, 5, _, ⟨rfl, rfl⟩, rfl, by decide +kernel⟩

theorem witness_PortRegisterRows_4 : ∃ (s t : State) (dt p : Nat) (m : Master) (w x : Word), Finds s dt t ∧ x = mixBits (t.raw
    (R.XBC_SMP_CFG p)) (F.XBC_SMP_CFG_EN.set w 1) 0xC000FFFF ∧ p < 128 ∧ t.mpuRight m 10 true = false :=
  ⟨(base).setRaw (R.MPU_SLOT (10)) 0, _, 0, 127, .engine, 5, _, ⟨rfl, rfl⟩, rfl, by decide +kernel⟩

theorem witness_PortRegisterRows_5 : ∃ (s t : State) (dt : Nat) (m : Master), Finds s dt t ∧ t.mpuRight m 13 true = true :=
  ⟨base, _, 0, .manager, ⟨rfl, rfl⟩, by decide +kernel⟩

theorem witness_PortRegisterRows_6 : ∃ (s t : State) (dt : Nat) (m : Master), Finds s dt t ∧ t.mpuRight m 13 true = false :=
  ⟨(base).setRaw (R.MPU_SLOT (13)) 0, _, 0, .engine, ⟨rfl, rfl⟩, by decide +kernel⟩

theorem witness_PortRegisterRows_7 : ∃ (s t : State) (dt p : Nat), Finds s dt t ∧ t.role p ≠ 2 :=
  ⟨base, _, 0, 0, ⟨rfl, rfl⟩, by decide +kernel⟩

theorem witness_PortRegisterRows_8 : ∃ (s t : State) (dt p k : Nat) (m : Master) (i : PortInfo), Finds s dt t ∧ t.port p = some
    i ∧ t.role p = 2 ∧ i.group < 32 ∧ i.inst < 4 ∧ k = R.PCP_CFGRQ i.group i.inst ∧ t.pagePort k = some p ∧ t.mpuRight m (k /
    0x40000) true = true ∧ t.slotLocked (k / 0x40000) = false ∧ t.flag k F.PCP_CFGRQ_BUSY = false :=
  ⟨base, _, 0, 5, (R.PCP_CFGRQ 1 1), .manager, { group := 1, inst := 1, role := 2 }, ⟨rfl, rfl⟩, rfl, by decide +kernel⟩

theorem witness_PortRegisterRows_9 : ∃ (s t : State) (dt p k : Nat) (m : Master) (i : PortInfo), Finds s dt t ∧ t.port p = some
    i ∧ t.role p = 2 ∧ i.group < 32 ∧ i.inst < 4 ∧ k = R.PCP_CFGRQ i.group i.inst ∧ t.pagePort k = some p ∧ t.mpuRight m (k /
    0x40000) true = true ∧ t.slotLocked (k / 0x40000) = false ∧ t.flag k F.PCP_CFGRQ_BUSY = true :=
  ⟨base.setFld (R.PCP_CFGRQ 1 1) F.PCP_CFGRQ_BUSY 1, _, 0, 5, (R.PCP_CFGRQ 1 1), .manager,
    { group := 1, inst := 1, role := 2 }, ⟨rfl, rfl⟩, rfl, by decide +kernel⟩

theorem witness_PortRegisterRows_10 : ∃ (s t : State) (dt p k : Nat) (m : Master) (i : PortInfo), Finds s dt t ∧ t.port p =
    some i ∧ t.role p = 2 ∧ i.group < 32 ∧ i.inst < 4 ∧ k = R.PCP_CFGRQ i.group i.inst ∧ t.pagePort k = some p ∧ t.mpuRight m
    (k / 0x40000) true = true ∧ t.slotLocked (k / 0x40000) = true ∧ t.flag k F.PCP_CFGRQ_BUSY = false :=
  ⟨(base).setFld (R.MPU_SLOT ((R.PCP_CFGRQ 1 1 / 0x40000))) F.MPU_SLOT_LOCK 1, _, 0, 5, (R.PCP_CFGRQ 1 1), .manager,
    { group := 1, inst := 1, role := 2 }, ⟨rfl, rfl⟩, rfl, by decide +kernel⟩

theorem witness_PortRegisterRows_11 : ∃ (s t : State) (dt p k : Nat) (m : Master) (i : PortInfo), Finds s dt t ∧ t.port p =
    some i ∧ t.role p = 2 ∧ i.group < 32 ∧ i.inst < 4 ∧ k = R.PCP_CFGRQ i.group i.inst ∧ t.pagePort k = some p ∧ t.mpuRight m
    (k / 0x40000) true = false :=
  ⟨(base).setRaw (R.MPU_SLOT ((R.PCP_CFGRQ 1 1 / 0x40000))) 0, _, 0, 5, (R.PCP_CFGRQ 1 1), .engine,
    { group := 1, inst := 1, role := 2 }, ⟨rfl, rfl⟩, rfl, by decide +kernel⟩

theorem witness_PortRegisterRows_12 : ∃ (s t : State) (dt p : Nat), Finds s dt t ∧ t.isScango p = false :=
  ⟨base, _, 0, 0, ⟨rfl, rfl⟩, by decide +kernel⟩

theorem witness_PortRegisterRows_13 : ∃ (s t : State) (dt p l k : Nat) (m : Master) (i : PortInfo), Finds s dt t ∧ t.port p =
    some i ∧ i.scango = true ∧ i.group < 32 ∧ i.inst < 4 ∧ k = R.SGL_SWAP_CMD i.group i.inst ∧ t.pagePort k = some p ∧
    t.mpuRight m (k / 0x40000) true = true ∧ t.slotLocked (k / 0x40000) = false ∧ l % 16 < t.width p :=
  ⟨base, _, 0, 9, 7, (R.SGL_SWAP_CMD 2 1), .manager, { scango := true, group := 2, inst := 1, role := 3 }, ⟨rfl, rfl⟩, rfl, by
    decide +kernel⟩

theorem witness_PortRegisterRows_14 : ∃ (s t : State) (dt p l k : Nat) (m : Master) (i : PortInfo), Finds s dt t ∧ t.port p =
    some i ∧ i.scango = true ∧ i.group < 32 ∧ i.inst < 4 ∧ k = R.SGL_SWAP_CMD i.group i.inst ∧ t.pagePort k = some p ∧
    t.mpuRight m (k / 0x40000) true = true ∧ t.slotLocked (k / 0x40000) = false ∧ l % 16 ≥ t.width p :=
  ⟨base, _, 0, 9, 8, (R.SGL_SWAP_CMD 2 1), .manager, { scango := true, group := 2, inst := 1, role := 3 }, ⟨rfl, rfl⟩, rfl, by
    decide +kernel⟩

theorem witness_PortRegisterRows_15 : ∃ (s t : State) (dt p k : Nat) (m : Master) (i : PortInfo), Finds s dt t ∧ t.port p =
    some i ∧ i.scango = true ∧ i.group < 32 ∧ i.inst < 4 ∧ k = R.SGL_SWAP_CMD i.group i.inst ∧ t.pagePort k = some p ∧
    t.mpuRight m (k / 0x40000) true = true ∧ t.slotLocked (k / 0x40000) = true ∧ F.SGL_SWAP_CMD_LANE.get (t.raw k) < t.width p
    :=
  ⟨(base).setFld (R.MPU_SLOT ((R.SGL_SWAP_CMD 2 1 / 0x40000))) F.MPU_SLOT_LOCK 1, _, 0, 9, (R.SGL_SWAP_CMD 2 1), .manager,
    { scango := true, group := 2, inst := 1, role := 3 }, ⟨rfl, rfl⟩, rfl, by decide +kernel⟩

theorem witness_PortRegisterRows_16 : ∃ (s t : State) (dt p k : Nat) (m : Master) (i : PortInfo), Finds s dt t ∧ t.port p =
    some i ∧ i.scango = true ∧ i.group < 32 ∧ i.inst < 4 ∧ k = R.SGL_SWAP_CMD i.group i.inst ∧ t.pagePort k = some p ∧
    t.mpuRight m (k / 0x40000) true = false :=
  ⟨(base).setRaw (R.MPU_SLOT ((R.SGL_SWAP_CMD 2 1 / 0x40000))) 0, _, 0, 9, (R.SGL_SWAP_CMD 2 1), .engine,
    { scango := true, group := 2, inst := 1, role := 3 }, ⟨rfl, rfl⟩, rfl, by decide +kernel⟩

theorem witness_PortRegisterRows_17 : ∃ (s t : State) (dt p : Nat), Finds s dt t ∧ t.isScango p = false :=
  ⟨base, _, 0, 0, ⟨rfl, rfl⟩, by decide +kernel⟩

theorem witness_PortRegisterRows_18 : ∃ (s t : State) (dt p k : Nat) (m : Master) (i : PortInfo) (e : State), Finds s dt t ∧
    t.port p = some i ∧ (e = (if t.portRuns p = true then t.regErr stCfgBusy k else t)) ∧ i.scango = true ∧ i.group < 32 ∧
    i.inst < 4 ∧ k = R.SGL_CFG i.group i.inst ∧ t.pagePort k = some p ∧ t.mpuRight m (k / 0x40000) true = true ∧ t.slotLocked
    (k / 0x40000) = false ∧ t.badPort k (t.raw k) = false ∧ t.adminUp p = true :=
  ⟨base.setFld (R.SGL_CFG 2 1) F.SGL_CFG_ADMIN_UP 1, _, 0, 9, (R.SGL_CFG 2 1), .manager,
    { scango := true, group := 2, inst := 1, role := 3 }, _, ⟨rfl, rfl⟩, rfl, rfl, by decide +kernel⟩

theorem witness_PortRegisterRows_19 : ∃ (s t : State) (dt p k : Nat) (m : Master) (i : PortInfo) (e : State), Finds s dt t ∧
    t.port p = some i ∧ (e = (if t.portRuns p = true then t.regErr stCfgBusy k else t)) ∧ i.scango = true ∧ i.group < 32 ∧
    i.inst < 4 ∧ k = R.SGL_CFG i.group i.inst ∧ t.pagePort k = some p ∧ t.mpuRight m (k / 0x40000) true = true ∧ t.slotLocked
    (k / 0x40000) = false ∧ t.badPort k (t.raw k) = false ∧ t.adminUp p = false :=
  ⟨base.setFld (R.SGL_CFG 2 1) F.SGL_CFG_ADMIN_UP 0, _, 0, 9, (R.SGL_CFG 2 1), .manager,
    { scango := true, group := 2, inst := 1, role := 3 }, _, ⟨rfl, rfl⟩, rfl, rfl, by decide +kernel⟩

theorem witness_PortRegisterRows_20 : ∃ (s t : State) (dt p k : Nat) (m : Master) (i : PortInfo), Finds s dt t ∧ t.port p =
    some i ∧ i.scango = true ∧ i.group < 32 ∧ i.inst < 4 ∧ k = R.SGL_CFG i.group i.inst ∧ t.pagePort k = some p ∧ t.mpuRight m
    (k / 0x40000) true = true ∧ t.slotLocked (k / 0x40000) = true :=
  ⟨(base).setFld (R.MPU_SLOT ((R.SGL_SWAP_CMD 2 1 / 0x40000))) F.MPU_SLOT_LOCK 1, _, 0, 9, (R.SGL_CFG 2 1), .manager,
    { scango := true, group := 2, inst := 1, role := 3 }, ⟨rfl, rfl⟩, rfl, by decide +kernel⟩

theorem witness_PortRegisterRows_21 : ∃ (s t : State) (dt p k : Nat) (m : Master) (i : PortInfo), Finds s dt t ∧ t.port p =
    some i ∧ i.scango = true ∧ i.group < 32 ∧ i.inst < 4 ∧ k = R.SGL_CFG i.group i.inst ∧ t.pagePort k = some p ∧ t.mpuRight m
    (k / 0x40000) true = false :=
  ⟨(base).setRaw (R.MPU_SLOT ((R.SGL_SWAP_CMD 2 1 / 0x40000))) 0, _, 0, 9, (R.SGL_CFG 2 1), .engine,
    { scango := true, group := 2, inst := 1, role := 3 }, ⟨rfl, rfl⟩, rfl, by decide +kernel⟩

theorem witness_LaneRegisterRows_0 : ∃ (s t : State) (dt g k : Nat) (m : Master) (w : Word), Finds s dt t ∧ k = R.LG_BITSLIP g
    ∧ w = F.LG_BITSLIP_POS.set (t.raw k) (t.lane (9 * g + t.fld k F.LG_BITSLIP_LANE)).pos ∧ g < 32 ∧ t.mpuRight m (18 + g) true
    = true ∧ t.badLane k w = false ∧ t.flag (R.LG_BRINGUP g) F.LG_BRINGUP_MANUAL = true ∧ t.slotLocked (18 + g) = false :=
  ⟨base.setFld (R.LG_BRINGUP 31) F.LG_BRINGUP_MANUAL 1, _, 0, 31, _, .manager, _, ⟨rfl, rfl⟩, rfl, rfl, by decide +kernel⟩

theorem witness_LaneRegisterRows_1 : ∃ (s t : State) (dt g k : Nat) (m : Master) (w : Word), Finds s dt t ∧ k = R.LG_BITSLIP g
    ∧ w = F.LG_BITSLIP_POS.set (t.raw k) (t.lane (9 * g + t.fld k F.LG_BITSLIP_LANE)).pos ∧ g < 32 ∧ t.mpuRight m (18 + g) true
    = true ∧ t.badLane k w = false ∧ t.flag (R.LG_BRINGUP g) F.LG_BRINGUP_MANUAL = true ∧ t.slotLocked (18 + g) = true :=
  ⟨(base.setFld (R.LG_BRINGUP 31) F.LG_BRINGUP_MANUAL 1).setFld (R.MPU_SLOT (18 + 31)) F.MPU_SLOT_LOCK 1, _, 0, 31, _,
    .manager, _, ⟨rfl, rfl⟩, rfl, rfl, by decide +kernel⟩

theorem witness_LaneRegisterRows_2 : ∃ (s t : State) (dt g k : Nat) (m : Master) (w : Word), Finds s dt t ∧ k = R.LG_BITSLIP g
    ∧ w = F.LG_BITSLIP_POS.set (t.raw k) (t.lane (9 * g + t.fld k F.LG_BITSLIP_LANE)).pos ∧ g < 32 ∧ t.mpuRight m (18 + g) true
    = true ∧ t.badLane k w = false ∧ t.flag (R.LG_BRINGUP g) F.LG_BRINGUP_MANUAL = false ∧ t.slotLocked (18 + g) = false :=
  ⟨base, _, 0, 31, _, .manager, _, ⟨rfl, rfl⟩, rfl, rfl, by decide +kernel⟩

theorem witness_LaneRegisterRows_3 : ∃ (s t : State) (dt g k : Nat) (m : Master) (w : Word), Finds s dt t ∧ k = R.LG_BITSLIP g
    ∧ w = F.LG_BITSLIP_POS.set (t.raw k) (t.lane (9 * g + t.fld k F.LG_BITSLIP_LANE)).pos ∧ g < 32 ∧ t.mpuRight m (18 + g) true
    = true ∧ t.badLane k w = true ∧ t.slotLocked (18 + g) = false :=
  ⟨base.setFld (R.LG_BITSLIP 31) F.LG_BITSLIP_LANE 9, _, 0, 31, _, .manager, _, ⟨rfl, rfl⟩, rfl, rfl, by decide +kernel⟩

theorem witness_LaneRegisterRows_4 : ∃ (s t : State) (dt g k : Nat) (m : Master) (w : Word), Finds s dt t ∧ k = R.LG_BITSLIP g
    ∧ w = F.LG_BITSLIP_POS.set (t.raw k) (t.lane (9 * g + t.fld k F.LG_BITSLIP_LANE)).pos ∧ g < 32 ∧ t.mpuRight m (18 + g) true
    = false :=
  ⟨(base).setRaw (R.MPU_SLOT (18 + 31)) 0, _, 0, 31, _, .engine, _, ⟨rfl, rfl⟩, rfl, rfl, by decide +kernel⟩

theorem witness_LaneRegisterRows_5 : ∃ (s t : State) (dt g k : Nat) (m : Master) (op : EyeOp) (x : Word), Finds s dt t ∧ k =
    R.LG_EYE_CFG g ∧ x = mixBits (t.raw k) (putFields 0 [(F.LG_EYE_CFG_LANE, op.lane), (F.LG_EYE_CFG_EYE, op.eye),
    (F.LG_EYE_CFG_H, op.h), (F.LG_EYE_CFG_V, op.v), (F.LG_EYE_CFG_DWELL, op.dwell)]) 0x7FFFFFC000000000 ∧ g < 32 ∧ t.mpuRight m
    (18 + g) true = true ∧ t.slotLocked (18 + g) = false ∧ op.lane ≤ 8 ∧ op.eye ≤ 2 ∧ (op.eye = 0 ∨ t.pam4 g op.lane = true) ∧
    10 ≤ op.dwell ∧ op.dwell ≤ 40 ∧ t.flag (R.LG_EYE_STAT g) F.LG_EYE_STAT_BUSY = false :=
  ⟨base, _, 0, 31, _, .manager, { lane := 8, eye := 0, h := 0, v := 0, dwell := 40 }, _, ⟨rfl, rfl⟩, rfl, rfl, by
    decide +kernel⟩

theorem witness_LaneRegisterRows_6 : ∃ (s t : State) (dt g k : Nat) (m : Master) (op : EyeOp) (x : Word), Finds s dt t ∧ k =
    R.LG_EYE_CFG g ∧ x = mixBits (t.raw k) (putFields 0 [(F.LG_EYE_CFG_LANE, op.lane), (F.LG_EYE_CFG_EYE, op.eye),
    (F.LG_EYE_CFG_H, op.h), (F.LG_EYE_CFG_V, op.v), (F.LG_EYE_CFG_DWELL, op.dwell)]) 0x7FFFFFC000000000 ∧ g < 32 ∧ t.mpuRight m
    (18 + g) true = true ∧ t.slotLocked (18 + g) = false ∧ t.badLane k (F.LG_EYE_CFG_GO.set x 1) = true :=
  ⟨base, _, 0, 31, _, .manager, { lane := 9, eye := 0, h := 0, v := 0, dwell := 10 }, _, ⟨rfl, rfl⟩, rfl, rfl, by
    decide +kernel⟩

theorem witness_LaneRegisterRows_7 : ∃ (s t : State) (dt g k : Nat) (m : Master) (op : EyeOp) (x : Word), Finds s dt t ∧ k =
    R.LG_EYE_CFG g ∧ x = mixBits (t.raw k) (putFields 0 [(F.LG_EYE_CFG_LANE, op.lane), (F.LG_EYE_CFG_EYE, op.eye),
    (F.LG_EYE_CFG_H, op.h), (F.LG_EYE_CFG_V, op.v), (F.LG_EYE_CFG_DWELL, op.dwell)]) 0x7FFFFFC000000000 ∧ g < 32 ∧ t.mpuRight m
    (18 + g) true = true ∧ t.slotLocked (18 + g) = true ∧ t.badLane k (F.LG_EYE_CFG_GO.set (t.raw k) 1) = false :=
  ⟨(base.setFld (R.LG_EYE_CFG 31) F.LG_EYE_CFG_DWELL 10).setFld (R.MPU_SLOT (18 + 31)) F.MPU_SLOT_LOCK 1, _, 0, 31, _,
    .manager, { lane := 0, eye := 0, h := 0, v := 0, dwell := 0 }, _, ⟨rfl, rfl⟩, rfl, rfl, by decide +kernel⟩

theorem witness_LaneRegisterRows_8 : ∃ (s t : State) (dt g k : Nat) (m : Master) (op : EyeOp) (x : Word), Finds s dt t ∧ k =
    R.LG_EYE_CFG g ∧ x = mixBits (t.raw k) (putFields 0 [(F.LG_EYE_CFG_LANE, op.lane), (F.LG_EYE_CFG_EYE, op.eye),
    (F.LG_EYE_CFG_H, op.h), (F.LG_EYE_CFG_V, op.v), (F.LG_EYE_CFG_DWELL, op.dwell)]) 0x7FFFFFC000000000 ∧ g < 32 ∧ t.mpuRight m
    (18 + g) true = false :=
  ⟨(base).setRaw (R.MPU_SLOT (18 + 31)) 0, _, 0, 31, _, .engine, { lane := 0, eye := 0, h := 0, v := 0, dwell := 0 }, _, ⟨rfl,
    rfl⟩, rfl, rfl, by decide +kernel⟩

theorem witness_LaneRegisterRows_9 : ∃ (s t : State) (dt g k : Nat) (m : Master) (l : Nat), Finds s dt t ∧ k = R.LG_TEST g l ∧
    g < 32 ∧ l < 9 ∧ t.fld k F.LG_TEST_MODE ≤ 6 ∧ t.mpuRight m (18 + g) true = true ∧ t.slotLocked (18 + g) = false ∧
    t.laneThere g l = false :=
  ⟨base, _, 0, 1, _, .manager, 8, ⟨rfl, rfl⟩, rfl, by decide +kernel⟩

theorem witness_LaneRegisterRows_10 : ∃ (s t : State) (dt g k : Nat) (m : Master) (l : Nat), Finds s dt t ∧ k = R.LG_TEST g l ∧
    g < 32 ∧ l < 9 ∧ t.fld k F.LG_TEST_MODE ≤ 6 ∧ t.mpuRight m (18 + g) true = true ∧ t.slotLocked (18 + g) = false ∧
    t.laneThere g l = true ∧ t.laneBusy g l = false :=
  ⟨base.setFld (R.LG_CFG 3) F.LG_CFG_MODE 1, _, 0, 3, _, .manager, 8, ⟨rfl, rfl⟩, rfl, by decide +kernel⟩

theorem witness_LaneRegisterRows_11 : ∃ (s t : State) (dt g k : Nat) (m : Master) (l : Nat), Finds s dt t ∧ k = R.LG_TEST g l ∧
    g < 32 ∧ l < 9 ∧ t.fld k F.LG_TEST_MODE ≤ 6 ∧ t.mpuRight m (18 + g) true = true ∧ t.slotLocked (18 + g) = false ∧
    t.laneThere g l = true ∧ t.laneBusy g l = true :=
  ⟨base.setFld (R.LG_CFG 2) F.LG_CFG_MODE 1, _, 0, 2, _, .manager, 8, ⟨rfl, rfl⟩, rfl, by decide +kernel⟩

theorem witness_LaneRegisterRows_12 : ∃ (s t : State) (dt g k : Nat) (m : Master) (l : Nat), Finds s dt t ∧ k = R.LG_TEST g l ∧
    g < 32 ∧ l < 9 ∧ t.fld k F.LG_TEST_MODE ≤ 6 ∧ t.mpuRight m (18 + g) true = true ∧ t.slotLocked (18 + g) = true ∧
    t.laneThere g l = true :=
  ⟨(base.setFld (R.LG_CFG 2) F.LG_CFG_MODE 1).setFld (R.MPU_SLOT (18 + 2)) F.MPU_SLOT_LOCK 1, _, 0, 2, _, .manager, 8, ⟨rfl,
    rfl⟩, rfl, by decide +kernel⟩

theorem witness_LaneRegisterRows_13 : ∃ (s t : State) (dt g k : Nat) (m : Master) (l : Nat), Finds s dt t ∧ k = R.LG_TEST g l ∧
    g < 32 ∧ l < 9 ∧ t.fld k F.LG_TEST_MODE ≤ 6 ∧ t.mpuRight m (18 + g) true = false :=
  ⟨(base).setRaw (R.MPU_SLOT (18 + 2)) 0, _, 0, 2, _, .engine, 8, ⟨rfl, rfl⟩, rfl, by decide +kernel⟩

theorem witness_BlockRegisterRows_0 : ∃ (s t : State) (dt c k : Nat) (m : Master), Finds s dt t ∧ k = R.WLG_CTX_CFG c ∧ c <
    1024 ∧ t.mpuRight m 16 true = true ∧ t.slotLocked 16 = false ∧ t.flag k F.WLG_CTX_CFG_EN = false ∧ t.ctxOk c = true :=
  ⟨((((base.setFld (R.TBM_REGION 1) F.TBM_REGION_VALID 1).setFld (R.TBM_REGION 1) F.TBM_REGION_KIND 2).setFld (R.TBM_REGION 1)
    F.TBM_REGION_SIZE 16384).setFld (R.WLG_CTX_BMP 1023) F.WLG_CTX_BMP_PAGES 1), _, 0, 1023, _, .manager, ⟨rfl, rfl⟩, rfl, by
    decide +kernel⟩

theorem witness_BlockRegisterRows_1 : ∃ (s t : State) (dt c k : Nat) (m : Master), Finds s dt t ∧ k = R.WLG_CTX_CFG c ∧ c <
    1024 ∧ t.mpuRight m 16 true = true ∧ t.slotLocked 16 = false ∧ t.flag k F.WLG_CTX_CFG_EN = false ∧ t.ctxOk c = false :=
  ⟨base, _, 0, 1023, _, .manager, ⟨rfl, rfl⟩, rfl, by decide +kernel⟩

theorem witness_BlockRegisterRows_2 : ∃ (s t : State) (dt c k : Nat) (m : Master), Finds s dt t ∧ k = R.WLG_CTX_CFG c ∧ c <
    1024 ∧ t.mpuRight m 16 true = true ∧ t.slotLocked 16 = false ∧ t.flag k F.WLG_CTX_CFG_EN = false :=
  ⟨base, _, 0, 1023, _, .manager, ⟨rfl, rfl⟩, rfl, by decide +kernel⟩

theorem witness_BlockRegisterRows_3 : ∃ (s t : State) (dt c k : Nat) (m : Master), Finds s dt t ∧ k = R.WLG_CTX_CFG c ∧ c <
    1024 ∧ t.mpuRight m 16 true = true ∧ t.slotLocked 16 = false ∧ t.flag k F.WLG_CTX_CFG_EN = true :=
  ⟨base.setFld (R.WLG_CTX_CFG 1023) F.WLG_CTX_CFG_EN 1, _, 0, 1023, _, .manager, ⟨rfl, rfl⟩, rfl, by decide +kernel⟩

theorem witness_BlockRegisterRows_4 : ∃ (s t : State) (dt c k : Nat) (m : Master) (u : State), Finds s dt t ∧ k = R.WLG_CTX_CFG
    c ∧ u = (t.violate m k 8 true true).settle ∧ c < 1024 ∧ t.mpuRight m 16 true = true ∧ t.slotLocked 16 = true :=
  ⟨(base).setFld (R.MPU_SLOT (16)) F.MPU_SLOT_LOCK 1, _, 0, 1023, _, .manager, _, ⟨rfl, rfl⟩, rfl, rfl, by decide +kernel⟩

theorem witness_BlockRegisterRows_5 : ∃ (s t : State) (dt c k : Nat) (m : Master) (u : State), Finds s dt t ∧ k = R.WLG_CTX_CFG
    c ∧ u = (t.violate m k 8 true false).settle ∧ c < 1024 ∧ t.mpuRight m 16 true = false :=
  ⟨(base).setRaw (R.MPU_SLOT (16)) 0, _, 0, 1023, _, .engine, _, ⟨rfl, rfl⟩, rfl, rfl, by decide +kernel⟩

theorem witness_BlockRegisterRows_6 : ∃ (s t : State) (dt j bits : Nat) (m : Master), Finds s dt t ∧ j < 2 ∧ bits < 2 ^ 64 ∧
    t.mpuRight m 4 true = true :=
  ⟨base, _, 0, 1, 2 ^ 63, .manager, ⟨rfl, rfl⟩, by decide +kernel⟩

theorem witness_BlockRegisterRows_7 : ∃ (s t : State) (dt j bits : Nat) (m : Master), Finds s dt t ∧ j < 2 ∧ bits < 2 ^ 64 ∧
    t.mpuRight m 4 true = false :=
  ⟨(base).setRaw (R.MPU_SLOT (4)) 0, _, 0, 1, 2 ^ 63, .engine, ⟨rfl, rfl⟩, by decide +kernel⟩

theorem witness_BlockRegisterRows_8 : ∃ (s t : State) (dt j bits : Nat) (m : Master), Finds s dt t ∧ j < 24 ∧ bits < 2 ^ 64 ∧
    t.mpuRight m 2 true = true :=
  ⟨base, _, 0, 23, 2 ^ 64 - 1, .manager, ⟨rfl, rfl⟩, by decide +kernel⟩

theorem witness_BlockRegisterRows_9 : ∃ (s t : State) (dt j bits : Nat) (m : Master), Finds s dt t ∧ j < 24 ∧ bits < 2 ^ 64 ∧
    t.mpuRight m 2 true = false :=
  ⟨(base).setRaw (R.MPU_SLOT (2)) 0, _, 0, 23, 2 ^ 64 - 1, .engine, ⟨rfl, rfl⟩, by decide +kernel⟩

theorem witness_BlockRegisterRows_10 : ∃ (s t : State) (dt : Nat) (m : Master), Finds s dt t ∧ t.mpuRight m 2 true = true ∧
    t.slotLocked 2 = false :=
  ⟨base, _, 0, .manager, ⟨rfl, rfl⟩, by decide +kernel⟩

theorem witness_BlockRegisterRows_11 : ∃ (s t : State) (dt : Nat) (m : Master), Finds s dt t ∧ t.mpuRight m 2 true = true ∧
    t.slotLocked 2 = true :=
  ⟨(base).setFld (R.MPU_SLOT (2)) F.MPU_SLOT_LOCK 1, _, 0, .manager, ⟨rfl, rfl⟩, by decide +kernel⟩

theorem witness_BlockRegisterRows_12 : ∃ (s t : State) (dt : Nat) (m : Master), Finds s dt t ∧ t.mpuRight m 2 true = false :=
  ⟨(base).setRaw (R.MPU_SLOT (2)) 0, _, 0, .engine, ⟨rfl, rfl⟩, by decide +kernel⟩

theorem witness_SecurityRegisterRows_0 : ∃ (s t : State) (dt : Nat) (m : Master) (w : Word) (u : State), Finds s dt t ∧ t.fresh
    = (w, u) ∧ t.mpuRight m 6 false = true :=
  ⟨base, _, 0, .manager, _, _, ⟨rfl, rfl⟩, rfl, by decide +kernel⟩

theorem witness_SecurityRegisterRows_1 : ∃ (s t : State) (dt : Nat) (m : Master), Finds s dt t ∧ t.mpuRight m 6 false = false :=
  ⟨(base).setRaw (R.MPU_SLOT (6)) 0, _, 0, .engine, ⟨rfl, rfl⟩, by decide +kernel⟩

theorem witness_SecurityRegisterRows_2 : ∃ (s t : State) (dt : Nat) (m : Master) (target : Nat), Finds s dt t ∧ t.mpuRight m 6
    true = true ∧ t.slotLocked 6 = false ∧ target % 8 ≤ 4 ∧ t.flag R.SEC_LC_CMD F.SEC_LC_CMD_BUSY = false :=
  ⟨base, _, 0, .manager, 12, ⟨rfl, rfl⟩, by decide +kernel⟩

theorem witness_SecurityRegisterRows_3 : ∃ (s t : State) (dt : Nat) (m : Master) (target : Nat), Finds s dt t ∧ t.mpuRight m 6
    true = true ∧ t.slotLocked 6 = false ∧ (target % 8 > 4 ∨ t.flag R.SEC_LC_CMD F.SEC_LC_CMD_BUSY = true) :=
  ⟨base, _, 0, .manager, 5, ⟨rfl, rfl⟩, by decide +kernel⟩

theorem witness_SecurityRegisterRows_4 : ∃ (s t : State) (dt : Nat) (m : Master) (sector : Nat) (x : Word), Finds s dt t ∧ x =
    F.SEC_FLASH_CMD_SECTOR.set (t.raw R.SEC_FLASH_CMD) sector ∧ t.mpuRight m 6 true = true ∧ t.slotLocked 6 = false ∧ t.flag
    R.SEC_FLASH_CMD F.SEC_FLASH_CMD_BUSY = false :=
  ⟨base, _, 0, .manager, 0, _, ⟨rfl, rfl⟩, rfl, by decide +kernel⟩

theorem witness_SecurityRegisterRows_5 : ∃ (s t : State) (dt : Nat) (m : Master) (sector : Nat) (x : Word) (u : State), Finds s
    dt t ∧ x = F.SEC_FLASH_CMD_SECTOR.set (t.raw R.SEC_FLASH_CMD) sector ∧ u = (t.regErr stBadParam R.SEC_FLASH_CMD).settle ∧
    t.mpuRight m 6 true = true ∧ t.slotLocked 6 = false ∧ t.flag R.SEC_FLASH_CMD F.SEC_FLASH_CMD_BUSY = true :=
  ⟨base.setFld R.SEC_FLASH_CMD F.SEC_FLASH_CMD_BUSY 1, _, 0, .manager, 0, _, _, ⟨rfl, rfl⟩, rfl, rfl, by decide +kernel⟩

theorem witness_SecurityRegisterRows_6 : ∃ (s t : State) (dt : Nat) (m : Master) (lk : Bool) (u v : State), Finds s dt t ∧ u =
    (t.violate m R.SEC_LC_CMD 4 true lk).settle ∧ v = (t.violate m R.SEC_FLASH_CMD 4 true lk).settle ∧ (lk = false ∧ t.mpuRight
    m 6 true = false ∨ lk = true ∧ t.mpuRight m 6 true = true ∧ t.slotLocked 6 = true) :=
  ⟨(base).setFld (R.MPU_SLOT (6)) F.MPU_SLOT_LOCK 1, _, 0, .manager, true, _, _, ⟨rfl, rfl⟩, rfl, rfl, by decide +kernel⟩

theorem witness_SecurityRegisterRows_7 : ∃ (s t : State) (dt : Nat) (m : Master) (n : Nat), Finds s dt t ∧ t.mpuRight m 3 true
    = true ∧ n < 256 ∧ t.slotLocked 3 = false ∧ t.slotLocked n = false :=
  ⟨base, _, 0, .manager, 255, ⟨rfl, rfl⟩, by decide +kernel⟩

theorem witness_SecurityRegisterRows_8 : ∃ (s t : State) (dt : Nat) (m : Master) (n : Nat), Finds s dt t ∧ t.mpuRight m 3 true
    = true ∧ n < 256 ∧ t.slotLocked 3 = true ∧ t.slotLocked n = false :=
  ⟨(base).setFld (R.MPU_SLOT (3)) F.MPU_SLOT_LOCK 1, _, 0, .manager, 255, ⟨rfl, rfl⟩, by decide +kernel⟩

theorem witness_SecurityRegisterRows_9 : ∃ (s t : State) (dt : Nat) (m : Master) (n : Nat), Finds s dt t ∧ t.mpuRight m 3 true
    = true ∧ n < 256 ∧ t.slotLocked n = true :=
  ⟨(base).setFld (R.MPU_SLOT (255)) F.MPU_SLOT_LOCK 1, _, 0, .manager, 255, ⟨rfl, rfl⟩, by decide +kernel⟩

theorem witness_SecurityRegisterRows_10 : ∃ (s t : State) (dt : Nat) (m : Master), Finds s dt t ∧ t.mpuRight m 3 true = true :=
  ⟨base, _, 0, .manager, ⟨rfl, rfl⟩, by decide +kernel⟩

theorem witness_SecurityRegisterRows_11 : ∃ (s t : State) (dt : Nat) (m : Master) (n : Nat), Finds s dt t ∧ t.mpuRight m 3 true
    = false ∧ n < 256 :=
  ⟨(base).setRaw (R.MPU_SLOT (3)) 0, _, 0, .engine, 255, ⟨rfl, rfl⟩, by decide +kernel⟩

theorem witness_SecurityRegisterRows_12 : ∃ (s t : State) (dt : Nat) (m : Master), Finds s dt t ∧ t.mpuRight m 3 true = false :=
  ⟨(base).setRaw (R.MPU_SLOT (3)) 0, _, 0, .engine, ⟨rfl, rfl⟩, by decide +kernel⟩

theorem witness_AgeingRegisterRows_0 : ∃ (s t : State) (dt : Nat) (m : Master) (u : State), Finds s dt t ∧ (u = (t.onAge fun a
    => { a with clr := true })) ∧ t.mpuRight m 7 true = true ∧ 1 ≤ t.fld R.AGE_CFG F.AGE_CFG_PERIOD_MIN ∧ t.fld R.AGE_CFG
    F.AGE_CFG_PERIOD_MIN ≤ 1440 ∧ t.slotLocked 7 = false :=
  ⟨base, _, 0, .manager, _, ⟨rfl, rfl⟩, rfl, by decide +kernel⟩

theorem witness_AgeingRegisterRows_1 : ∃ (s t : State) (dt : Nat) (m : Master) (u : State), Finds s dt t ∧ (u = (t.onAge fun a
    => { a with clr := true })) ∧ t.mpuRight m 7 true = true ∧ 1 ≤ t.fld R.AGE_CFG F.AGE_CFG_PERIOD_MIN ∧ t.fld R.AGE_CFG
    F.AGE_CFG_PERIOD_MIN ≤ 1440 ∧ t.slotLocked 7 = true :=
  ⟨(base).setFld (R.MPU_SLOT (7)) F.MPU_SLOT_LOCK 1, _, 0, .manager, _, ⟨rfl, rfl⟩, rfl, by decide +kernel⟩

theorem witness_AgeingRegisterRows_2 : ∃ (s t : State) (dt : Nat) (m : Master), Finds s dt t ∧ t.mpuRight m 7 true = true :=
  ⟨base, _, 0, .manager, ⟨rfl, rfl⟩, by decide +kernel⟩

theorem witness_AgeingRegisterRows_3 : ∃ (s t : State) (dt : Nat) (m : Master) (n : Nat) (u : State), Finds s dt t ∧ (u = (if n
    = t.calendar then t else t.setRaw R.AGE_CAL_SEC (BitVec.ofNat 64 n))) ∧ t.mpuRight m 7 true = true ∧ n < 2 ^ 48 ∧
    t.slotLocked 7 = false :=
  ⟨base, _, 0, .manager, 2 ^ 48 - 1, _, ⟨rfl, rfl⟩, rfl, by decide +kernel⟩

theorem witness_AgeingRegisterRows_4 : ∃ (s t : State) (dt : Nat) (m : Master) (n : Nat), Finds s dt t ∧ t.mpuRight m 7 true =
    true ∧ n < 2 ^ 48 ∧ t.slotLocked 7 = true :=
  ⟨(base).setFld (R.MPU_SLOT (7)) F.MPU_SLOT_LOCK 1, _, 0, .manager, 2 ^ 48 - 1, ⟨rfl, rfl⟩, by decide +kernel⟩

theorem witness_AgeingRegisterRows_5 : ∃ (s t : State) (dt : Nat) (m : Master), Finds s dt t ∧ t.mpuRight m 7 true = false :=
  ⟨(base).setRaw (R.MPU_SLOT (7)) 0, _, 0, .engine, ⟨rfl, rfl⟩, by decide +kernel⟩

theorem witness_AgeingRegisterRows_6 : ∃ (s t : State) (dt : Nat) (m : Master), Finds s dt t ∧ t.mpuRight m 7 true = false :=
  ⟨(base).setRaw (R.MPU_SLOT (7)) 0, _, 0, .engine, ⟨rfl, rfl⟩, by decide +kernel⟩

theorem witness_AgeingRegisterRows_7 : ∃ (s t : State) (dt : Nat) (m : Master), Finds s dt t ∧ t.mpuRight m 7 true = false :=
  ⟨(base).setRaw (R.MPU_SLOT (7)) 0, _, 0, .engine, ⟨rfl, rfl⟩, by decide +kernel⟩

theorem witness_AgeingRegisterRows_8 : ∃ (s t : State) (dt k : Nat) (m : Master) (u : State), Finds s dt t ∧ u =
    { t with pmc := { t.pmc with cnt := tdel t.pmc.cnt k } } ∧ k < 2048 ∧ t.mpuRight m 8 true = true ∧ t.fld (R.PMC_SEL k)
    F.PMC_SEL_MODE ≠ 3 ∧ t.slotLocked 8 = false :=
  ⟨base, _, 0, 2047, .manager, _, ⟨rfl, rfl⟩, rfl, by decide +kernel⟩

theorem witness_AgeingRegisterRows_9 : ∃ (s t : State) (dt k : Nat) (m : Master) (u : State), Finds s dt t ∧ u =
    { t with pmc := { t.pmc with cnt := tdel t.pmc.cnt k } } ∧ k < 2048 ∧ t.mpuRight m 8 true = true ∧ t.fld (R.PMC_SEL k)
    F.PMC_SEL_MODE ≠ 3 ∧ t.slotLocked 8 = true :=
  ⟨(base).setFld (R.MPU_SLOT (8)) F.MPU_SLOT_LOCK 1, _, 0, 2047, .manager, _, ⟨rfl, rfl⟩, rfl, by decide +kernel⟩

theorem witness_AgeingRegisterRows_10 : ∃ (s t : State) (dt k : Nat) (m : Master), Finds s dt t ∧ k < 2048 ∧ t.mpuRight m 8
    true = false :=
  ⟨(base).setRaw (R.MPU_SLOT (8)) 0, _, 0, 2047, .engine, ⟨rfl, rfl⟩, by decide +kernel⟩

theorem witness_AgeingRegisterRows_11 : ∃ (s t : State) (dt : Nat) (m : Master), Finds s dt t ∧ t.mpuRight m 5 true = true :=
  ⟨base, _, 0, .manager, ⟨rfl, rfl⟩, by decide +kernel⟩

theorem witness_AgeingRegisterRows_12 : ∃ (s t : State) (dt : Nat) (m : Master), Finds s dt t ∧ t.mpuRight m 5 true = false :=
  ⟨(base).setRaw (R.MPU_SLOT (5)) 0, _, 0, .engine, ⟨rfl, rfl⟩, by decide +kernel⟩

theorem witness_StepRunsFront_0 : ∃ s : State, s.pending = [] :=
  ⟨base, by decide +kernel⟩

theorem witness_TimePasses_0 : ∃ s : State, s.aon.mode ≠ 0 :=
  ⟨({ base with aon := { base.aon with mode := 2 } } : State), by decide +kernel⟩

theorem witness_OffCoreOnlyWaits_0 : ∃ (c : Instr) (s : State), s.aon.mode ≠ 0 ∧ onAon c = false :=
  ⟨.pcieLinkDown 0 0, ({ base with aon := { base.aon with mode := 2 } } : State), by decide +kernel⟩

theorem witness_WorkIsFinished_0 : ∃ s t : State, NoWorkLeft s ∧ step s = .next t :=
  ⟨State.reset, _, fun _ => by decide +kernel, rfl⟩

theorem witness_ResetValues_0 : ∃ p : Nat, p < 128 :=
  ⟨127, by decide +kernel⟩

theorem witness_ResetValues_0a : ∃ p : Nat, p < 128 :=
  ⟨0, by decide +kernel⟩

theorem witness_ResetValues_1 : ∃ n : Nat, n < 32 :=
  ⟨31, by decide +kernel⟩

theorem witness_ViolationsAreCaptured_0 : ∃ (s u : State) (m : Master) (addr size : Nat) (write lk : Bool), u = s.violate m
    addr size write lk ∧ addr < 0x4000000 ∧ s.flag R.MPU_VIOL F.MPU_VIOL_VALID = false :=
  ⟨base, _, .manager, 0x3FFFFFF, 0, false, false, rfl, by decide +kernel⟩

theorem witness_ViolationsAreCaptured_1 : ∃ (s u : State) (m : Master) (addr size : Nat) (write lk : Bool) (k : Nat), u =
    s.violate m addr size write lk ∧ addr < 0x4000000 ∧ s.flag R.MPU_VIOL F.MPU_VIOL_VALID = false ∧ k ≠ R.MPU_VIOL ∧ k ≠
    R.MPU_VIOL_TIME ∧ k ≠ R.MPU_CNT :=
  ⟨base, _, .manager, 0x3FFFFFF, 0, false, false, 0, rfl, by decide +kernel⟩

theorem witness_ViolationsAreCaptured_2 : ∃ (s u : State) (m : Master) (addr size : Nat) (write lk : Bool), u = s.violate m
    addr size write lk ∧ addr < 0x4000000 ∧ s.flag R.MPU_VIOL F.MPU_VIOL_VALID = true ∧ s.raw R.MPU_VIOL_TIME ≠ BitVec.ofNat 64
    s.now :=
  ⟨({ (base.setFld R.MPU_VIOL F.MPU_VIOL_VALID 1) with now := 5 } : State), _, .manager, 0x3FFFFFF, 0, false, false, rfl, by
    decide +kernel⟩

theorem witness_MemoryHoldsWhatIsWritten_0 : ∃ (d : Byte) (l : Mem), Mem.wf d l = true :=
  ⟨0, [(3, 1), (7, 2)], by decide +kernel⟩

theorem witness_MemoryHoldsWhatIsWritten_1 : ∃ (d : Byte) (l : Mem) (a : Nat) (bs : List Byte) (i : Nat), Mem.wf d l = true ∧
    (i < a ∨ a + bs.length ≤ i) :=
  ⟨0, [(3, 1), (7, 2)], 3, [9, 0], 5, by decide +kernel⟩

theorem witness_RegisterOnlyFrames_0 : ∃ (s t : State) (dt n : Nat) (m : Master) (r : RingId) (c : Instr) (k : Nat), Finds s dt
    t ∧ t.calm = true ∧ (∀ j, j < 8 → t.mpuRight m j true = true) ∧ (∀ j, j < 256 → t.slotLocked j = false) ∧ n < 256 ∧ ((c =
    .latchRearm dt m ∧ k = R.FCR_CFG) ∨ (c = .violationRearm dt m ∧ k = R.MPU_VIOL) ∨ (c = .mpuLock dt m n ∧ k = R.MPU_SLOT n)
    ∨ (c = .ringOvfClear dt m r ∧ k = r.stat)) :=
  ⟨base, _, 0, 255, .manager, .mcr, .mpuLock 0 .manager 255, R.MPU_SLOT 255, ⟨rfl, rfl⟩, by decide +kernel⟩

theorem witness_RegisterOnlyFrames_0a : ∃ (s t : State) (dt n : Nat) (m : Master) (r : RingId) (c : Instr) (k : Nat), Finds s
    dt t ∧ t.calm = true ∧ (∀ j, j < 8 → t.mpuRight m j true = true) ∧ (∀ j, j < 256 → t.slotLocked j = false) ∧ n < 256 ∧ ((c
    = .latchRearm dt m ∧ k = R.FCR_CFG) ∨ (c = .violationRearm dt m ∧ k = R.MPU_VIOL) ∨ (c = .mpuLock dt m n ∧ k = R.MPU_SLOT
    n) ∨ (c = .ringOvfClear dt m r ∧ k = r.stat)) :=
  ⟨base, _, 0, 255, .manager, .mcr, .latchRearm 0 .manager, R.FCR_CFG, ⟨rfl, rfl⟩, by decide +kernel⟩

theorem witness_RegisterOnlyFrames_0b : ∃ (s t : State) (dt n : Nat) (m : Master) (r : RingId) (c : Instr) (k : Nat), Finds s
    dt t ∧ t.calm = true ∧ (∀ j, j < 8 → t.mpuRight m j true = true) ∧ (∀ j, j < 256 → t.slotLocked j = false) ∧ n < 256 ∧ ((c
    = .latchRearm dt m ∧ k = R.FCR_CFG) ∨ (c = .violationRearm dt m ∧ k = R.MPU_VIOL) ∨ (c = .mpuLock dt m n ∧ k = R.MPU_SLOT
    n) ∨ (c = .ringOvfClear dt m r ∧ k = r.stat)) :=
  ⟨base, _, 0, 255, .manager, .mcr, .violationRearm 0 .manager, R.MPU_VIOL, ⟨rfl, rfl⟩, by decide +kernel⟩

theorem witness_RegisterOnlyFrames_0c : ∃ (s t : State) (dt n : Nat) (m : Master) (r : RingId) (c : Instr) (k : Nat), Finds s
    dt t ∧ t.calm = true ∧ (∀ j, j < 8 → t.mpuRight m j true = true) ∧ (∀ j, j < 256 → t.slotLocked j = false) ∧ n < 256 ∧ ((c
    = .latchRearm dt m ∧ k = R.FCR_CFG) ∨ (c = .violationRearm dt m ∧ k = R.MPU_VIOL) ∨ (c = .mpuLock dt m n ∧ k = R.MPU_SLOT
    n) ∨ (c = .ringOvfClear dt m r ∧ k = r.stat)) :=
  ⟨base, _, 0, 255, .manager, .fail 31, .ringOvfClear 0 .manager (.fail 31), (RingId.fail 31).stat, ⟨rfl, rfl⟩, by
    decide +kernel⟩

theorem witness_BadValuesAreIgnored_0 : ∃ (s t : State) (dt k p : Nat) (m : Master) (bs : List Byte) (v : Word), Finds s dt t ∧
    v = BitVec.ofNat 64 (ofLe bs) ∧ (bs.length = 4 ∨ bs.length = 8) ∧ accessOk m k bs.length = true ∧ t.mpuRight m (k /
    0x40000) true = true ∧ t.slotLocked (k / 0x40000) = false ∧ p < 128 ∧ ((k = R.XBC_CFG ∧ (F.XBC_CFG_CT_STALL_MAX.get v = 0 ∨
    F.XBC_CFG_SWEEP_US.get v = 0 ∨ 1000 < F.XBC_CFG_SWEEP_US.get v)) ∨ (k = R.XBC_SMP_CFG p ∧ F.XBC_SMP_CFG_EN.get v = 1 ∧
    F.XBC_SMP_CFG_N.get v = 0) ∨ (k = R.RTE_CFG ∧ F.RTE_CFG_TTL_INIT.get v = 0) ∨ (k = R.RTE_ESC_THR ∧
    (F.RTE_ESC_THR_THR_NS.get v < 100 ∨ 1000000 < F.RTE_ESC_THR_THR_NS.get v)) ∨ (k = R.RTE_FLOW_CFG ∧
    (F.RTE_FLOW_CFG_IDLE_MS.get v < 1 ∨ 1000 < F.RTE_FLOW_CFG_IDLE_MS.get v)) ∨ (k = R.PWR_CFG ∧ F.PWR_CFG_STOP_TMO_US.get v <
    10) ∨ (k = R.PWR_WAKE_CFG ∧ F.PWR_WAKE_CFG_WAKE_EN.get v = 1 ∧ F.PWR_WAKE_CFG_MAIN_EN_EN.get v = 1 ∧
    F.PWR_WAKE_CFG_WAKE_GPIO.get v = F.PWR_WAKE_CFG_MAIN_EN_GPIO.get v) ∨ (k = R.CTL_COMMIT_CFG ∧ F.CTL_COMMIT_CFG_WAIT_MAX.get
    v = 0)) :=
  ⟨base, _, 0, R.XBC_CFG, 127, .manager, leBytes 8 0, _, ⟨rfl, rfl⟩, rfl, by decide +kernel⟩

theorem witness_BadValuesAreIgnored_0a : ∃ (s t : State) (dt k p : Nat) (m : Master) (bs : List Byte) (v : Word), Finds s dt t
    ∧ v = BitVec.ofNat 64 (ofLe bs) ∧ (bs.length = 4 ∨ bs.length = 8) ∧ accessOk m k bs.length = true ∧ t.mpuRight m (k /
    0x40000) true = true ∧ t.slotLocked (k / 0x40000) = false ∧ p < 128 ∧ ((k = R.XBC_CFG ∧ (F.XBC_CFG_CT_STALL_MAX.get v = 0 ∨
    F.XBC_CFG_SWEEP_US.get v = 0 ∨ 1000 < F.XBC_CFG_SWEEP_US.get v)) ∨ (k = R.XBC_SMP_CFG p ∧ F.XBC_SMP_CFG_EN.get v = 1 ∧
    F.XBC_SMP_CFG_N.get v = 0) ∨ (k = R.RTE_CFG ∧ F.RTE_CFG_TTL_INIT.get v = 0) ∨ (k = R.RTE_ESC_THR ∧
    (F.RTE_ESC_THR_THR_NS.get v < 100 ∨ 1000000 < F.RTE_ESC_THR_THR_NS.get v)) ∨ (k = R.RTE_FLOW_CFG ∧
    (F.RTE_FLOW_CFG_IDLE_MS.get v < 1 ∨ 1000 < F.RTE_FLOW_CFG_IDLE_MS.get v)) ∨ (k = R.PWR_CFG ∧ F.PWR_CFG_STOP_TMO_US.get v <
    10) ∨ (k = R.PWR_WAKE_CFG ∧ F.PWR_WAKE_CFG_WAKE_EN.get v = 1 ∧ F.PWR_WAKE_CFG_MAIN_EN_EN.get v = 1 ∧
    F.PWR_WAKE_CFG_WAKE_GPIO.get v = F.PWR_WAKE_CFG_MAIN_EN_GPIO.get v) ∨ (k = R.CTL_COMMIT_CFG ∧ F.CTL_COMMIT_CFG_WAIT_MAX.get
    v = 0)) :=
  ⟨base, _, 0, R.XBC_SMP_CFG 127, 127, .manager, leBytes 8 ((F.XBC_SMP_CFG_EN.set 0 1).toNat), _, ⟨rfl, rfl⟩, rfl, by
    decide +kernel⟩

theorem witness_BadValuesAreIgnored_0b : ∃ (s t : State) (dt k p : Nat) (m : Master) (bs : List Byte) (v : Word), Finds s dt t
    ∧ v = BitVec.ofNat 64 (ofLe bs) ∧ (bs.length = 4 ∨ bs.length = 8) ∧ accessOk m k bs.length = true ∧ t.mpuRight m (k /
    0x40000) true = true ∧ t.slotLocked (k / 0x40000) = false ∧ p < 128 ∧ ((k = R.XBC_CFG ∧ (F.XBC_CFG_CT_STALL_MAX.get v = 0 ∨
    F.XBC_CFG_SWEEP_US.get v = 0 ∨ 1000 < F.XBC_CFG_SWEEP_US.get v)) ∨ (k = R.XBC_SMP_CFG p ∧ F.XBC_SMP_CFG_EN.get v = 1 ∧
    F.XBC_SMP_CFG_N.get v = 0) ∨ (k = R.RTE_CFG ∧ F.RTE_CFG_TTL_INIT.get v = 0) ∨ (k = R.RTE_ESC_THR ∧
    (F.RTE_ESC_THR_THR_NS.get v < 100 ∨ 1000000 < F.RTE_ESC_THR_THR_NS.get v)) ∨ (k = R.RTE_FLOW_CFG ∧
    (F.RTE_FLOW_CFG_IDLE_MS.get v < 1 ∨ 1000 < F.RTE_FLOW_CFG_IDLE_MS.get v)) ∨ (k = R.PWR_CFG ∧ F.PWR_CFG_STOP_TMO_US.get v <
    10) ∨ (k = R.PWR_WAKE_CFG ∧ F.PWR_WAKE_CFG_WAKE_EN.get v = 1 ∧ F.PWR_WAKE_CFG_MAIN_EN_EN.get v = 1 ∧
    F.PWR_WAKE_CFG_WAKE_GPIO.get v = F.PWR_WAKE_CFG_MAIN_EN_GPIO.get v) ∨ (k = R.CTL_COMMIT_CFG ∧ F.CTL_COMMIT_CFG_WAIT_MAX.get
    v = 0)) :=
  ⟨base, _, 0, R.RTE_CFG, 127, .manager, leBytes 8 (0), _, ⟨rfl, rfl⟩, rfl, by decide +kernel⟩

theorem witness_BadValuesAreIgnored_0c : ∃ (s t : State) (dt k p : Nat) (m : Master) (bs : List Byte) (v : Word), Finds s dt t
    ∧ v = BitVec.ofNat 64 (ofLe bs) ∧ (bs.length = 4 ∨ bs.length = 8) ∧ accessOk m k bs.length = true ∧ t.mpuRight m (k /
    0x40000) true = true ∧ t.slotLocked (k / 0x40000) = false ∧ p < 128 ∧ ((k = R.XBC_CFG ∧ (F.XBC_CFG_CT_STALL_MAX.get v = 0 ∨
    F.XBC_CFG_SWEEP_US.get v = 0 ∨ 1000 < F.XBC_CFG_SWEEP_US.get v)) ∨ (k = R.XBC_SMP_CFG p ∧ F.XBC_SMP_CFG_EN.get v = 1 ∧
    F.XBC_SMP_CFG_N.get v = 0) ∨ (k = R.RTE_CFG ∧ F.RTE_CFG_TTL_INIT.get v = 0) ∨ (k = R.RTE_ESC_THR ∧
    (F.RTE_ESC_THR_THR_NS.get v < 100 ∨ 1000000 < F.RTE_ESC_THR_THR_NS.get v)) ∨ (k = R.RTE_FLOW_CFG ∧
    (F.RTE_FLOW_CFG_IDLE_MS.get v < 1 ∨ 1000 < F.RTE_FLOW_CFG_IDLE_MS.get v)) ∨ (k = R.PWR_CFG ∧ F.PWR_CFG_STOP_TMO_US.get v <
    10) ∨ (k = R.PWR_WAKE_CFG ∧ F.PWR_WAKE_CFG_WAKE_EN.get v = 1 ∧ F.PWR_WAKE_CFG_MAIN_EN_EN.get v = 1 ∧
    F.PWR_WAKE_CFG_WAKE_GPIO.get v = F.PWR_WAKE_CFG_MAIN_EN_GPIO.get v) ∨ (k = R.CTL_COMMIT_CFG ∧ F.CTL_COMMIT_CFG_WAIT_MAX.get
    v = 0)) :=
  ⟨base, _, 0, R.RTE_ESC_THR, 127, .manager, leBytes 8 ((F.RTE_ESC_THR_THR_NS.set 0 1000001).toNat), _, ⟨rfl, rfl⟩, rfl, by
    decide +kernel⟩

theorem witness_BadValuesAreIgnored_0d : ∃ (s t : State) (dt k p : Nat) (m : Master) (bs : List Byte) (v : Word), Finds s dt t
    ∧ v = BitVec.ofNat 64 (ofLe bs) ∧ (bs.length = 4 ∨ bs.length = 8) ∧ accessOk m k bs.length = true ∧ t.mpuRight m (k /
    0x40000) true = true ∧ t.slotLocked (k / 0x40000) = false ∧ p < 128 ∧ ((k = R.XBC_CFG ∧ (F.XBC_CFG_CT_STALL_MAX.get v = 0 ∨
    F.XBC_CFG_SWEEP_US.get v = 0 ∨ 1000 < F.XBC_CFG_SWEEP_US.get v)) ∨ (k = R.XBC_SMP_CFG p ∧ F.XBC_SMP_CFG_EN.get v = 1 ∧
    F.XBC_SMP_CFG_N.get v = 0) ∨ (k = R.RTE_CFG ∧ F.RTE_CFG_TTL_INIT.get v = 0) ∨ (k = R.RTE_ESC_THR ∧
    (F.RTE_ESC_THR_THR_NS.get v < 100 ∨ 1000000 < F.RTE_ESC_THR_THR_NS.get v)) ∨ (k = R.RTE_FLOW_CFG ∧
    (F.RTE_FLOW_CFG_IDLE_MS.get v < 1 ∨ 1000 < F.RTE_FLOW_CFG_IDLE_MS.get v)) ∨ (k = R.PWR_CFG ∧ F.PWR_CFG_STOP_TMO_US.get v <
    10) ∨ (k = R.PWR_WAKE_CFG ∧ F.PWR_WAKE_CFG_WAKE_EN.get v = 1 ∧ F.PWR_WAKE_CFG_MAIN_EN_EN.get v = 1 ∧
    F.PWR_WAKE_CFG_WAKE_GPIO.get v = F.PWR_WAKE_CFG_MAIN_EN_GPIO.get v) ∨ (k = R.CTL_COMMIT_CFG ∧ F.CTL_COMMIT_CFG_WAIT_MAX.get
    v = 0)) :=
  ⟨base, _, 0, R.RTE_FLOW_CFG, 127, .manager, leBytes 8 ((F.RTE_FLOW_CFG_IDLE_MS.set 0 1001).toNat), _, ⟨rfl, rfl⟩, rfl, by
    decide +kernel⟩

theorem witness_BadValuesAreIgnored_0e : ∃ (s t : State) (dt k p : Nat) (m : Master) (bs : List Byte) (v : Word), Finds s dt t
    ∧ v = BitVec.ofNat 64 (ofLe bs) ∧ (bs.length = 4 ∨ bs.length = 8) ∧ accessOk m k bs.length = true ∧ t.mpuRight m (k /
    0x40000) true = true ∧ t.slotLocked (k / 0x40000) = false ∧ p < 128 ∧ ((k = R.XBC_CFG ∧ (F.XBC_CFG_CT_STALL_MAX.get v = 0 ∨
    F.XBC_CFG_SWEEP_US.get v = 0 ∨ 1000 < F.XBC_CFG_SWEEP_US.get v)) ∨ (k = R.XBC_SMP_CFG p ∧ F.XBC_SMP_CFG_EN.get v = 1 ∧
    F.XBC_SMP_CFG_N.get v = 0) ∨ (k = R.RTE_CFG ∧ F.RTE_CFG_TTL_INIT.get v = 0) ∨ (k = R.RTE_ESC_THR ∧
    (F.RTE_ESC_THR_THR_NS.get v < 100 ∨ 1000000 < F.RTE_ESC_THR_THR_NS.get v)) ∨ (k = R.RTE_FLOW_CFG ∧
    (F.RTE_FLOW_CFG_IDLE_MS.get v < 1 ∨ 1000 < F.RTE_FLOW_CFG_IDLE_MS.get v)) ∨ (k = R.PWR_CFG ∧ F.PWR_CFG_STOP_TMO_US.get v <
    10) ∨ (k = R.PWR_WAKE_CFG ∧ F.PWR_WAKE_CFG_WAKE_EN.get v = 1 ∧ F.PWR_WAKE_CFG_MAIN_EN_EN.get v = 1 ∧
    F.PWR_WAKE_CFG_WAKE_GPIO.get v = F.PWR_WAKE_CFG_MAIN_EN_GPIO.get v) ∨ (k = R.CTL_COMMIT_CFG ∧ F.CTL_COMMIT_CFG_WAIT_MAX.get
    v = 0)) :=
  ⟨base, _, 0, R.PWR_CFG, 127, .manager, leBytes 8 ((F.PWR_CFG_STOP_TMO_US.set 0 9).toNat), _, ⟨rfl, rfl⟩, rfl, by
    decide +kernel⟩

theorem witness_BadValuesAreIgnored_0f : ∃ (s t : State) (dt k p : Nat) (m : Master) (bs : List Byte) (v : Word), Finds s dt t
    ∧ v = BitVec.ofNat 64 (ofLe bs) ∧ (bs.length = 4 ∨ bs.length = 8) ∧ accessOk m k bs.length = true ∧ t.mpuRight m (k /
    0x40000) true = true ∧ t.slotLocked (k / 0x40000) = false ∧ p < 128 ∧ ((k = R.XBC_CFG ∧ (F.XBC_CFG_CT_STALL_MAX.get v = 0 ∨
    F.XBC_CFG_SWEEP_US.get v = 0 ∨ 1000 < F.XBC_CFG_SWEEP_US.get v)) ∨ (k = R.XBC_SMP_CFG p ∧ F.XBC_SMP_CFG_EN.get v = 1 ∧
    F.XBC_SMP_CFG_N.get v = 0) ∨ (k = R.RTE_CFG ∧ F.RTE_CFG_TTL_INIT.get v = 0) ∨ (k = R.RTE_ESC_THR ∧
    (F.RTE_ESC_THR_THR_NS.get v < 100 ∨ 1000000 < F.RTE_ESC_THR_THR_NS.get v)) ∨ (k = R.RTE_FLOW_CFG ∧
    (F.RTE_FLOW_CFG_IDLE_MS.get v < 1 ∨ 1000 < F.RTE_FLOW_CFG_IDLE_MS.get v)) ∨ (k = R.PWR_CFG ∧ F.PWR_CFG_STOP_TMO_US.get v <
    10) ∨ (k = R.PWR_WAKE_CFG ∧ F.PWR_WAKE_CFG_WAKE_EN.get v = 1 ∧ F.PWR_WAKE_CFG_MAIN_EN_EN.get v = 1 ∧
    F.PWR_WAKE_CFG_WAKE_GPIO.get v = F.PWR_WAKE_CFG_MAIN_EN_GPIO.get v) ∨ (k = R.CTL_COMMIT_CFG ∧ F.CTL_COMMIT_CFG_WAIT_MAX.get
    v = 0)) :=
  ⟨base, _, 0, R.PWR_WAKE_CFG, 127, .manager, leBytes 8 ((F.PWR_WAKE_CFG_MAIN_EN_EN.set (F.PWR_WAKE_CFG_WAKE_EN.set 0 1)
    1).toNat), _, ⟨rfl, rfl⟩, rfl, by decide +kernel⟩

theorem witness_BadValuesAreIgnored_0g : ∃ (s t : State) (dt k p : Nat) (m : Master) (bs : List Byte) (v : Word), Finds s dt t
    ∧ v = BitVec.ofNat 64 (ofLe bs) ∧ (bs.length = 4 ∨ bs.length = 8) ∧ accessOk m k bs.length = true ∧ t.mpuRight m (k /
    0x40000) true = true ∧ t.slotLocked (k / 0x40000) = false ∧ p < 128 ∧ ((k = R.XBC_CFG ∧ (F.XBC_CFG_CT_STALL_MAX.get v = 0 ∨
    F.XBC_CFG_SWEEP_US.get v = 0 ∨ 1000 < F.XBC_CFG_SWEEP_US.get v)) ∨ (k = R.XBC_SMP_CFG p ∧ F.XBC_SMP_CFG_EN.get v = 1 ∧
    F.XBC_SMP_CFG_N.get v = 0) ∨ (k = R.RTE_CFG ∧ F.RTE_CFG_TTL_INIT.get v = 0) ∨ (k = R.RTE_ESC_THR ∧
    (F.RTE_ESC_THR_THR_NS.get v < 100 ∨ 1000000 < F.RTE_ESC_THR_THR_NS.get v)) ∨ (k = R.RTE_FLOW_CFG ∧
    (F.RTE_FLOW_CFG_IDLE_MS.get v < 1 ∨ 1000 < F.RTE_FLOW_CFG_IDLE_MS.get v)) ∨ (k = R.PWR_CFG ∧ F.PWR_CFG_STOP_TMO_US.get v <
    10) ∨ (k = R.PWR_WAKE_CFG ∧ F.PWR_WAKE_CFG_WAKE_EN.get v = 1 ∧ F.PWR_WAKE_CFG_MAIN_EN_EN.get v = 1 ∧
    F.PWR_WAKE_CFG_WAKE_GPIO.get v = F.PWR_WAKE_CFG_MAIN_EN_GPIO.get v) ∨ (k = R.CTL_COMMIT_CFG ∧ F.CTL_COMMIT_CFG_WAIT_MAX.get
    v = 0)) :=
  ⟨base, _, 0, R.CTL_COMMIT_CFG, 127, .manager, leBytes 8 (0), _, ⟨rfl, rfl⟩, rfl, by decide +kernel⟩

theorem witness_ForcedMessagesAreRaised_0 : ∃ (s t : State) (dt j bits kind : Nat) (m : Master), Finds s dt t ∧ kind = t.fld
    R.FCR_FORCE_CFG F.FCR_FORCE_CFG_KIND ∧ j < 24 ∧ t.mpuRight m 2 true = true ∧ bits < 2 ^ 64 :=
  ⟨base, _, 0, 23, 2 ^ 64 - 1, _, .manager, ⟨rfl, rfl⟩, rfl, by decide +kernel⟩

end Sys2Proof
end

namespace Sys2Proof.Machine

/-! ### Bits of words: the bits that a field covers, and what a write mixes of two words -/

theorem Fld.testBit_mask (f : Fld) (i : Nat) : f.mask.testBit i = decide (f.lo ≤ i ∧ i ≤ f.hi) := by
  rw [Fld.mask, Nat.testBit_shiftLeft, Nat.testBit_two_pow_sub_one, ← Bool.decide_and]
  exact decide_eq_decide.mpr (by omega)

theorem Fld.testBit_get (f : Fld) (w : Word) (i : Nat) :
    (f.get w).testBit i = (decide (f.lo + i ≤ f.hi) && w.getLsbD (f.lo + i)) := by
  rw [Fld.get, bitsOf, Nat.testBit_mod_two_pow, Nat.testBit_shiftRight, BitVec.testBit_toNat]
  congr 1
  exact decide_eq_decide.mpr (by omega)

theorem getLsbD_ofNat_word (n i : Nat) :
    (BitVec.ofNat 64 n).getLsbD i = (decide (i < 64) && n.testBit i) := BitVec.getLsbD_ofNat ..

theorem getLsbD_mixBits (x y : Word) (k i : Nat) :
    (mixBits x y k).getLsbD i = if k.testBit i then y.getLsbD i else x.getLsbD i := by
  by_cases h : i < 64
  · simp only [mixBits, BitVec.getLsbD_or, BitVec.getLsbD_and, BitVec.getLsbD_not, getLsbD_ofNat_word, h, decide_true,
      Bool.true_and]
    cases k.testBit i <;> simp
  · simp [BitVec.getLsbD_of_ge _ _ (Nat.le_of_not_lt h)]

theorem Fld.getLsbD_set (f : Fld) (w : Word) (v i : Nat) (h : f.hi < 64) :
    (f.set w v).getLsbD i = if f.lo ≤ i ∧ i ≤ f.hi then v.testBit (i - f.lo) else w.getLsbD i := by
  by_cases hi : i < 64
  · simp only [Fld.set, atBits, BitVec.getLsbD_or, BitVec.getLsbD_and, BitVec.getLsbD_not, BitVec.getLsbD_ofNat, f.testBit_mask,
      Nat.testBit_shiftLeft, Nat.testBit_mod_two_pow, hi]
    split
    · rename_i hf
      simp [hf]; omega
    · rename_i hf
      have : ¬ (f.lo ≤ i ∧ i - f.lo < f.hi + 1 - f.lo) := by omega
      simp [hf]; intro _; omega
  · rw [if_neg (by omega)]; simp [BitVec.getLsbD_of_ge _ _ (Nat.le_of_not_lt hi)]


/-- Fields agree where their bits do. -/
theorem Fld.get_congr {f : Fld} {x y : Word} (h : ∀ i, f.lo ≤ i → i ≤ f.hi → x.getLsbD i = y.getLsbD i) : f.get x = f.get y := by
  refine Nat.eq_of_testBit_eq fun i => ?_
  rw [f.testBit_get, f.testBit_get]
  by_cases hi : f.lo + i ≤ f.hi
  · rw [h _ (by omega) hi]
  · simp [hi]

theorem Fld.testBit_of_subset {f : Fld} {k i : Nat} (h : f.mask &&& k = f.mask) (hl : f.lo ≤ i) (hh : i ≤ f.hi) :
    k.testBit i = true := by
  have := congrArg (Nat.testBit · i) h
  simpa [f.testBit_mask, hl, hh] using this

theorem Fld.testBit_of_disjoint {f : Fld} {k i : Nat} (h : f.mask &&& k = 0) (hl : f.lo ≤ i) (hh : i ≤ f.hi) :
    k.testBit i = false := by
  have := congrArg (Nat.testBit · i) h
  simpa [f.testBit_mask, hl, hh] using this

theorem Fld.get_mixBits_in (f : Fld) (x y : Word) {k : Nat} (h : f.mask &&& k = f.mask) : f.get (mixBits x y k) = f.get y :=
  Fld.get_congr fun i hl hh => by rw [getLsbD_mixBits, Fld.testBit_of_subset h hl hh, if_pos rfl]

theorem Fld.get_set_self (f : Fld) (w : Word) (v : Nat) (h : f.hi < 64) : f.get (f.set w v) = v % 2 ^ (f.hi + 1 - f.lo) := by
  refine Nat.eq_of_testBit_eq fun i => ?_
  rw [f.testBit_get, f.getLsbD_set _ _ _ h, Nat.testBit_mod_two_pow]
  by_cases hi : f.lo + i ≤ f.hi
  · simp [hi]; omega
  · simp [hi]; omega

theorem Fld.get_set_other (g f : Fld) (w : Word) (v : Nat) (h : f.hi < 64) (d : g.mask &&& f.mask = 0) :
    g.get (f.set w v) = g.get w :=
  Fld.get_congr fun i hl hh => by
    rw [f.getLsbD_set _ _ _ h, if_neg]
    have := Fld.testBit_of_disjoint d hl hh
    rw [f.testBit_mask] at this
    simpa using this

theorem Fld.get_lt (f : Fld) (w : Word) : f.get w < 2 ^ (f.hi + 1 - f.lo) := Nat.mod_lt _ (Nat.two_pow_pos _)

/-- The bits of a field, taken from another word, are that word's field. -/
theorem mixBits_mask (f : Fld) (x y : Word) (h : f.hi < 64) : mixBits x y f.mask = f.set x (f.get y) := by
  refine BitVec.eq_of_getLsbD_eq fun i _ => ?_
  rw [getLsbD_mixBits, f.getLsbD_set _ _ _ h, f.testBit_mask, f.testBit_get]
  simp only [decide_eq_true_eq]
  split
  · rename_i hi
    rw [Nat.add_sub_of_le hi.1]; simp [hi.2]
  · rfl

/-- Two sets of bits are taken one after the other. -/
theorem mixBits_or (x y : Word) (j k : Nat) : mixBits x y (j ||| k) = mixBits (mixBits x y j) y k := by
  refine BitVec.eq_of_getLsbD_eq fun i _ => ?_
  simp only [getLsbD_mixBits, Nat.testBit_or]
  cases j.testBit i <;> cases k.testBit i <;> rfl

/-- A field outside the bits that are taken does not matter. -/
theorem mixBits_set_out (f : Fld) (x y : Word) {k : Nat} (v : Nat) (h : f.hi < 64) (d : f.mask &&& k = 0) :
    mixBits x (f.set y v) k = mixBits x y k := by
  refine BitVec.eq_of_getLsbD_eq fun i _ => ?_
  rw [getLsbD_mixBits, getLsbD_mixBits, f.getLsbD_set _ _ _ h]
  by_cases hi : f.lo ≤ i ∧ i ≤ f.hi
  · rw [Fld.testBit_of_disjoint d hi.1 hi.2]; rfl
  · rw [if_neg hi]

/-- A field within the bits that are taken is taken. -/
theorem mixBits_set_in (f : Fld) (x y : Word) {k : Nat} (v : Nat) (h : f.hi < 64) (d : f.mask &&& k = f.mask) :
    mixBits x (f.set y v) k = f.set (mixBits x y k) v := by
  refine BitVec.eq_of_getLsbD_eq fun i _ => ?_
  rw [getLsbD_mixBits, f.getLsbD_set _ _ _ h, f.getLsbD_set _ _ _ h, getLsbD_mixBits]
  by_cases hi : f.lo ≤ i ∧ i ≤ f.hi
  · rw [Fld.testBit_of_subset d hi.1 hi.2, if_pos rfl, if_pos hi, if_pos hi]
  · rw [if_neg hi, if_neg hi]

/-- A field set to the value that it has. -/
theorem Fld.set_get (f : Fld) (w : Word) (h : f.hi < 64) : f.set w (f.get w) = w := by
  rw [← mixBits_mask f w w h, mixBits_self]

/-- A field takes as much of a number as it holds. -/
theorem Fld.set_mod (f : Fld) (w : Word) (v : Nat) : f.set w (v % 2 ^ (f.hi + 1 - f.lo)) = f.set w v := by
  simp only [Fld.set, atBits, Nat.mod_mod]

/-- A field that is written, taken alone. -/
theorem mixBits_set_mask (f : Fld) (x y : Word) (v : Nat) (h : f.hi < 64) : mixBits x (f.set y v) f.mask = f.set x v := by
  rw [mixBits_mask f _ _ h, f.get_set_self _ _ h, f.set_mod]

/-- A one-bit field that takes a written one. -/
theorem or_mixBits_mask (f : Fld) (x v : Word) (h : f.hi < 64) (hb : f.lo = f.hi) (hv : f.get v = 1) :
    x ||| mixBits 0 v f.mask = f.set x 1 := by
  rw [mixBits_mask f 0 v h, hv]
  refine BitVec.eq_of_getLsbD_eq fun i _ => ?_
  rw [BitVec.getLsbD_or, f.getLsbD_set _ _ _ h, f.getLsbD_set _ _ _ h]
  by_cases hi : f.lo ≤ i ∧ i ≤ f.hi
  · obtain rfl : i = f.lo := by omega
    simp [hi.2]
  · simp [hi]

/-- A one-bit field that a written one clears. -/
theorem andNot_mixBits_mask (f : Fld) (x v : Word) (h : f.hi < 64) (hb : f.lo = f.hi) (hv : f.get v = 1) :
    x &&& ~~~mixBits 0 v f.mask = f.set x 0 := by
  rw [mixBits_mask f 0 v h, hv]
  refine BitVec.eq_of_getLsbD_eq fun i hi64 => ?_
  rw [BitVec.getLsbD_and, BitVec.getLsbD_not, f.getLsbD_set _ _ _ h, f.getLsbD_set _ _ _ h]
  by_cases hi : f.lo ≤ i ∧ i ≤ f.hi
  · obtain rfl : i = f.lo := by omega
    simp [hi.2]
  · simp [hi, hi64]

/-- A one in a field alone. -/
def Fld.one (f : Fld) : Word := f.set 0 1

theorem Fld.one_ne_zero {f : Fld} (hf : f.hi < 64) (hb : f.lo = f.hi) : f.one ≠ 0 := by
  intro h
  have := f.get_set_self 0 1 hf
  rw [show f.set 0 1 = 0 from h, show f.hi + 1 - f.lo = 1 by omega] at this
  simp [Fld.get, bitsOf] at this

theorem Fld.andNot_one {f : Fld} (hf : f.hi < 64) (hb : f.lo = f.hi) (x : Word) : x &&& ~~~f.one = f.set x 0 := by
  have get : f.get f.one = 1 := by rw [Fld.one, f.get_set_self 0 1 hf, show f.hi + 1 - f.lo = 1 by omega]; rfl
  rw [← andNot_mixBits_mask f x f.one hf hb get, mixBits_mask f 0 _ hf, get, Fld.one]

/-- The candidate of a write: ones that the write sets, put over a word. -/
theorem mixBits_ones (c o : Word) : mixBits c o o.toNat = c ||| o := by
  refine BitVec.eq_of_getLsbD_eq fun i _ => ?_
  rw [getLsbD_mixBits, BitVec.getLsbD_or, BitVec.testBit_toNat]
  cases o.getLsbD i <;> simp

end Sys2Proof.Machine

namespace Sys2Proof.Machine

/-! ### Words that a write takes -/

/-- The bits of a word under a mask, mixed into zeros. -/
theorem and_eq_mixBits (v : Word) (k : Nat) : v &&& BitVec.ofNat 64 k = mixBits 0 v k := by
  simp [mixBits]

theorem or_none (x : Word) : x ||| 0 = x := BitVec.or_zero

theorem andNot_none (x : Word) : x &&& ~~~(0 : Word) = x := BitVec.and_allOnes

/-- What a whole register of at most 64 bits takes of a word is not cut. -/
theorem mixBits_cut (x v : Word) {k n : Nat} (hn : n = 32 ∨ n = 64) (hk : k < 2 ^ n) :
    mixBits x (BitVec.ofNat 64 (v.toNat % 2 ^ n)) k = mixBits x v k := by
  rcases hn with rfl | rfl
  · exact mixBits_low32 x v k hk
  · exact congrArg (mixBits x · k) (mixBits_full v)

/-! ### A write of a whole register that reaches it -/

/-- The bits that a whole write of a register may change: those under LK only while its slot is unlocked. -/
def RegInfo.free (x : RegInfo) (L : Bool) : Nat := freeBits x (2 ^ x.width - 1) 0 L

/-- The bits that take the written value. -/
def RegInfo.vals (x : RegInfo) (L : Bool) : Nat := (x.quiesce &&& x.free L) ||| (x.rw &&& x.free L)

/-- The written ones that start or set something. -/
def RegInfo.starts (x : RegInfo) (L : Bool) (v : Word) : Word := mixBits 0 v (x.ones &&& x.free L)

/-- The written ones that clear their bits. -/
def RegInfo.drops (x : RegInfo) (L : Bool) (v : Word) : Word := mixBits 0 v (x.clears &&& x.free L)

/-- The value that decides whether the write is ignored as a whole. -/
def RegInfo.cand (x : RegInfo) (L : Bool) (old v : Word) : Word :=
  mixBits (mixBits old v (x.vals L)) (x.starts L v) (x.starts L v).toNat

/-- The value that the write leaves; `runs` says that the block holds its QUIESCE fields. -/
def RegInfo.left (x : RegInfo) (L runs : Bool) (old v : Word) : Word :=
  let w := mixBits old v ((x.rw &&& x.free L) ||| (if runs then 0 else x.quiesce &&& x.free L)) &&& ~~~x.drops L v
  if x.base == R.MPU_SLOT 0 || x.base == R.SGL_SWAP_CMD 0 0 then w ||| x.starts L v else w

theorem RegInfo.cand_eq (x : RegInfo) (L : Bool) (old v : Word) :
    x.cand L old v = mixBits old v (x.vals L) ||| x.starts L v :=
  mixBits_ones _ _

/-- A register of which no written one stays set takes the written values, and loses what a written one clears. -/
theorem RegInfo.left_eq {x : RegInfo} (L : Bool) (old v : Word)
    (h : (x.base == R.MPU_SLOT 0 || x.base == R.SGL_SWAP_CMD 0 0) = false) :
    x.left L false old v = mixBits old v (x.vals L) &&& ~~~x.drops L v := by
  simp [RegInfo.left, RegInfo.vals, h, Nat.or_comm]

/-- And the values alone where nothing is cleared. -/
theorem RegInfo.left_vals {x : RegInfo} (L runs : Bool) (old v : Word)
    (h : (x.base == R.MPU_SLOT 0 || x.base == R.SGL_SWAP_CMD 0 0) = false) (hc : x.clears = 0) :
    x.left L runs old v = mixBits old v ((x.rw &&& x.free L) ||| (if runs then 0 else x.quiesce &&& x.free L)) := by
  simp only [RegInfo.left, RegInfo.drops, h, hc, Nat.zero_and, mixBits_zero, andNot_none, Bool.false_eq_true, if_false]

/-- The others keep what a written one sets. -/
theorem RegInfo.left_keeps {x : RegInfo} (L : Bool) (old v : Word)
    (h : (x.base == R.MPU_SLOT 0 || x.base == R.SGL_SWAP_CMD 0 0) = true) :
    x.left L false old v = mixBits old v (x.vals L) &&& ~~~x.drops L v ||| x.starts L v := by
  simp only [RegInfo.left, RegInfo.vals, h, Nat.or_comm, if_true, Bool.false_eq_true, if_false]

/-- Nothing is started where no bit of the register does so. -/
theorem RegInfo.starts_none {x : RegInfo} {L : Bool} (v : Word) (h : x.ones &&& x.free L = 0) : x.starts L v = 0 := by
  rw [RegInfo.starts, h, mixBits_zero]

/-- Nothing is cleared where no bit of the register is. -/
theorem RegInfo.drops_none {x : RegInfo} {L : Bool} (v : Word) (h : x.clears &&& x.free L = 0) : x.drops L v = 0 := by
  rw [RegInfo.drops, h, mixBits_zero]

/-- Whether a register is an ordinary one of BAR0: no shadow fields, its fields within its width, and not LGgg_BITSLIP, whose POS
is looked at where it is not written. -/
def RegInfo.ordinary (x : RegInfo) : Bool :=
  !x.sh && (x.width == 32 || x.width == 64) && x.base != R.LG_BITSLIP 0 && decide (x.base < 0x4000000)
    && decide (x.quiesce < 2 ^ x.width) && decide (x.rw < 2 ^ x.width) && decide (x.ones < 2 ^ x.width)
    && decide (x.clears < 2 ^ x.width)
    && x.lk &&& (2 ^ x.width - 1) == x.lk

/-- A write by a class with the right reaches an ordinary register that is there, none of whose fields is read-only at this
key; `L` says that its LK fields are held. -/
structure State.Reached (s : State) (m : Master) (key : Nat) (x : RegInfo) (L : Bool) : Prop where
  info : regInfo key = some x
  ordinary : x.ordinary = true
  aligned : key % 8 = 0
  right : s.mpuRight m (key / 0x40000) true = true
  present : s.absent key = false
  held : s.lkHeld key = L
  writable : s.roBits key = 0

/-- A write that covers a held LK field is a violation as well (R477). -/
def State.noted (s : State) (m : Master) (key : Nat) (x : RegInfo) (L : Bool) : State :=
  if L = true ∧ x.lk ≠ 0 then s.violate m key (x.width / 8) true true else s

/-- Whether a write reaches QUIESCE fields of a block that runs (R58). -/
def State.quiesceHeld (s : State) (key : Nat) (x : RegInfo) (L : Bool) : Bool := (x.quiesce &&& x.free L) ≠ 0 && s.quiesceRuns key

/-- A register after a write that has been let in, before what follows it in its block. -/
def State.regLeft (s : State) (key : Nat) (x : RegInfo) (L : Bool) (w : Word) : State :=
  let s0 := if s.quiesceHeld key x L then s.regErr stCfgBusy key else s
  if w = s.held key then s0 else s0.setRaw key w

theorem and_lt_of_lt {a b n : Nat} (h : a < n) : a &&& b < n := lt_of_le_of_lt Nat.and_le_left h

/-- A whole write that reaches its register, in full. -/
theorem State.regSet_reached {s : State} {m : Master} {key : Nat} {x : RegInfo} {L : Bool} (r : s.Reached m key x L) (v : Word)
    (env : Option Bool) :
    s.regSet m key v env = State.noted (
      if x.vals L = 0 ∧ x.starts L v = 0 ∧ x.drops L v = 0 then s
      else if s.regBad key (x.cand L (s.held key) v) then s.regErr stBadParam key
      else
        let w := x.left L (s.quiesceHeld key x L) (s.held key) v
        (s.regLeft key x L w).afterWrite key (s.held key) w (x.starts L v) (x.free L) env) m key x L := by
  obtain ⟨info, ord, aligned, right, present, held, writable⟩ := r
  simp only [RegInfo.ordinary, Bool.and_eq_true, Bool.not_eq_true', Bool.or_eq_true, beq_iff_eq, bne_iff_ne, decide_eq_true_eq]
    at ord
  obtain ⟨⟨⟨⟨⟨⟨⟨⟨sh, width⟩, slip⟩, base⟩, hq⟩, hr⟩, ho⟩, hc⟩, hl⟩ := ord
  have direct : ∀ v m, s.sliceWrite key v m = none := State.sliceWrite_low (regBase_info info) base
  have hv : x.vals L < 2 ^ x.width := Nat.or_lt_two_pow (and_lt_of_lt hq) (and_lt_of_lt hr)
  have hw : ∀ c : Bool, (x.rw &&& x.free L) ||| (if c then 0 else x.quiesce &&& x.free L) < 2 ^ x.width := fun c =>
    Nat.or_lt_two_pow (and_lt_of_lt hr) (by cases c; exacts [and_lt_of_lt hq, Nat.two_pow_pos _])
  have slip' : (x.base == R.LG_BITSLIP 0) = false := by simpa using slip
  have hlk : ((if L = true then x.lk else 0) &&& (2 ^ x.width - 1) ≠ 0) = (L = true ∧ x.lk ≠ 0) := by
    cases L <;> simp [hl]
  rw [State.regSet_take info sh width aligned right present direct held writable]
  simp only [State.regTake, slip', and_eq_mixBits, hlk, State.noted, State.regLeft, State.quiesceHeld, RegInfo.cand, RegInfo.left,
    RegInfo.starts, RegInfo.drops, ← RegInfo.free.eq_def, Bool.false_eq_true, if_false, false_and, Bool.not_false, and_true]
  rw [mixBits_cut _ _ width (and_lt_of_lt ho), mixBits_cut _ _ width (and_lt_of_lt hc)]
  rw [← RegInfo.vals.eq_def, mixBits_cut _ _ width hv, mixBits_cut _ _ width (hw _)]
  rfl

/-- One all of whose writable bits are held changes nothing. -/
theorem State.regSet_nothing {s : State} {m : Master} {key : Nat} {x : RegInfo} {L : Bool} (r : s.Reached m key x L) (v : Word)
    (env : Option Bool) (h : x.vals L = 0 ∧ x.starts L v = 0 ∧ x.drops L v = 0) : s.regSet m key v env = s.noted m key x L := by
  rw [State.regSet_reached r, if_pos h]

/-- One that would leave a value which the block refuses is ignored as a whole. -/
theorem State.regSet_refused {s : State} {m : Master} {key : Nat} {x : RegInfo} {L : Bool} (r : s.Reached m key x L) {v : Word}
    {env : Option Bool} (h : x.vals L ≠ 0 ∨ x.starts L v ≠ 0 ∨ x.drops L v ≠ 0)
    (hb : s.regBad key (x.cand L (s.held key) v) = true) :
    s.regSet m key v env = (s.regErr stBadParam key).noted m key x L := by
  rw [State.regSet_reached r, if_neg (by tauto), if_pos hb]

/-- One that is let in. -/
theorem State.regSet_let {s : State} {m : Master} {key : Nat} {x : RegInfo} {L : Bool} (r : s.Reached m key x L) {v w ones : Word}
    {env : Option Bool} (h : x.vals L ≠ 0 ∨ x.starts L v ≠ 0 ∨ x.drops L v ≠ 0)
    (hb : s.regBad key (x.cand L (s.held key) v) = false)
    (hw : x.left L (s.quiesceHeld key x L) (s.held key) v = w) (ho : x.starts L v = ones) :
    s.regSet m key v env = ((s.regLeft key x L w).afterWrite key (s.held key) w ones (x.free L) env).noted m key x L := by
  subst hw ho
  rw [State.regSet_reached r, if_neg (by tauto), if_neg (by simp [hb])]

/-- A register other than the calendar is held where it is written. -/
theorem State.Reached.held_raw {s : State} {m : Master} {key : Nat} {x : RegInfo} {L : Bool} (r : s.Reached m key x L)
    (hk : x.base ≠ R.AGE_CAL_SEC) : s.held key = s.raw key := by
  refine State.held_ne ?_
  rintro rfl
  exact hk ((regBase_info r.info).symm.trans (regBase_info regInfo_AGE_CAL_SEC))

/-- One that is let in while no block holds the register. -/
theorem State.regSet_put {s : State} {m : Master} {key : Nat} {x : RegInfo} {L : Bool} (r : s.Reached m key x L) {v w ones : Word}
    {env : Option Bool} (h : x.vals L ≠ 0 ∨ x.starts L v ≠ 0 ∨ x.drops L v ≠ 0) (hk : x.base ≠ R.AGE_CAL_SEC)
    (hb : s.regBad key (x.cand L (s.raw key) v) = false) (hq : s.quiesceHeld key x L = false)
    (hw : x.left L false (s.raw key) v = w) (ho : x.starts L v = ones) :
    s.regSet m key v env = ((s.put key w).afterWrite key (s.raw key) w ones (x.free L) env).noted m key x L := by
  have e := r.held_raw hk
  rw [State.regSet_let r (env := env) h (w := w) (by rwa [e]) (by rw [hq, e]; exact hw) ho]
  simp only [State.regLeft, hq, e, State.put, Bool.false_eq_true, if_false]

/-- One of a register that takes values alone. -/
theorem State.regSet_vals {s : State} {m : Master} {key : Nat} {x : RegInfo} {L : Bool} (r : s.Reached m key x L) {v w : Word}
    {env : Option Bool} (hx : (x.ones = 0 ∧ x.clears = 0) ∧ (x.base == R.MPU_SLOT 0 || x.base == R.SGL_SWAP_CMD 0 0) = false)
    (h : x.vals L ≠ 0) (hk : x.base ≠ R.AGE_CAL_SEC) (hw : mixBits (s.raw key) v (x.vals L) = w) (hb : s.regBad key w = false)
    (hq : s.quiesceHeld key x L = false) :
    s.regSet m key v env = ((s.put key w).afterWrite key (s.raw key) w 0 (x.free L) env).noted m key x L := by
  have starts : x.starts L v = 0 := x.starts_none v (by rw [hx.1.1, Nat.zero_and])
  have drops : x.drops L v = 0 := x.drops_none v (by rw [hx.1.2, Nat.zero_and])
  refine State.regSet_put r (.inl h) hk ?_ hq ?_ starts
  · rw [x.cand_eq, starts, hw, or_none, hb]
  · rw [x.left_eq L _ _ hx.2, drops, hw, andNot_none]

/-- One of a register that takes values alone, with a value that its block refuses. -/
theorem State.regSet_vals_refused {s : State} {m : Master} {key : Nat} {x : RegInfo} {L : Bool} (r : s.Reached m key x L) {v : Word}
    {env : Option Bool} (hx : x.ones = 0) (h : x.vals L ≠ 0) (hk : x.base ≠ R.AGE_CAL_SEC)
    (hb : s.regBad key (mixBits (s.raw key) v (x.vals L)) = true) :
    s.regSet m key v env = (s.regErr stBadParam key).noted m key x L := by
  have starts : x.starts L v = 0 := x.starts_none v (by rw [hx, Nat.zero_and])
  refine State.regSet_refused r (.inl h) ?_
  rw [x.cand_eq, starts, or_none, r.held_raw hk, hb]

end Sys2Proof.Machine

namespace Sys2Proof.Machine

/-! ### Which registers the rules of chapters speak of, and what follows a write -/

/-- The registers that are looked at by their key: each is the first of its definition. -/
def fixedKeys : List Nat := [R.XBC_CFG, R.CMT_CFG, R.RTE_CFG, R.RTE_ESC_THR, R.RTE_FLOW_CFG, R.TMG_HIST_CFG, R.BRG_CFG,
  R.BRG_TRK_CFG, R.WLG_CFG, R.TBM_CFG, R.CTL_COMMIT_CFG, R.TMG_SNAP_SEL, R.SEC_LC_CMD, R.SEC_FLASH_CMD, R.AGE_CFG, R.AGE_MARGIN_CFG,
  R.PMC_DUMP_CFG, R.PMC_SMP_CFG, R.DCT_CFG, R.PWR_CFG, R.PWR_WAKE_CFG, R.CLK_PTM_CFG, R.DEV_THERM_CFG, R.AGE_CAL_SEC,
  R.AGE_LEDGER_SEL, R.DEV_GPIO_CFG, R.DEV_GPIO_DATA, R.CLK_RESET, R.TMG_CAL_CFG, R.CTL_CI 0, R.CTL_PI 0, R.CTL_CFG 0]

/-- A register of another definition is none of these. -/
theorem key_ne_fixed {key b k : Nat} (h : regBase key = b) (hk : k ∈ fixedKeys) (hb : b ≠ k) : key ≠ k := by
  rintro rfl
  have := List.all_eq_true.mp regBase_fixed key hk
  exact hb (h ▸ beq_iff_eq.mp this)

theorem ne_fixedKeys {key b : Nat} (h : regBase key = b) : ∀ k ∈ fixedKeys, b ≠ k → key ≠ k :=
  fun _ hk => key_ne_fixed h hk

theorem keys_ne_fixed {key b : Nat} (h : regBase key = b) {l : List Nat} (hl : ∀ k ∈ l, k ∈ fixedKeys ∧ b ≠ k) :
    ∀ k ∈ l, key ≠ k :=
  fun k hk => key_ne_fixed h (hl k hk).1 (hl k hk).2

/-- What the ports' and links' rules look at. -/
def badPortBases : List Nat := [R.PCP_PORT_CFG 0 0, R.PCP_PM_CFG 0 0, R.PCP_SLOT_CFG 0 0, R.PCP_FC 0 0, R.PCP_CFGRQ 0 0,
  R.SGL_CFG 0 0, R.SGL_CRED 0 0 0, R.SGL_SWAP_CMD 0 0]

/-- What the lanes' rules look at. -/
def badLaneBases : List Nat := [R.LG_CFG 0, R.LG_BITSLIP 0, R.LG_ADAPT_CFG 0, R.LG_EYE_CFG 0, R.LG_TXEQ 0 0, R.LG_TEST 0 0]

/-- What the switching blocks' rules look at. -/
def badSwitchBases : List Nat := [R.XBC_CFG, R.XBC_SMP_CFG 0, R.CMT_CFG, R.RTE_CFG, R.RTE_ESC_THR, R.RTE_FLOW_CFG, R.TMG_HIST_CFG,
  R.BRG_CFG, R.BRG_TRK_CFG, R.DMV_SLICE_MAP 0, R.WLG_CFG, R.TBM_CFG, R.TM_ARB_CFG 0, R.TM_ARB_REQ 0 0]

/-- What the rules of supplies, slots and clocks look at. -/
def badPowerBases : List Nat := [R.DCT_CFG, R.PWR_CFG, R.PWR_WAKE_CFG, R.SPC_TIMING 0, R.SPC_RAIL_CFG 0 0, R.CLK_PTM_CFG,
  R.DEV_THERM_CFG]

/-- What the management blocks' rules look at. -/
def badMgmtBases : List Nat := [R.CTL_PI 0, R.CTL_CI 0, R.DMV_FAIL_CI 0, R.CTL_COMMIT_CFG, R.TMG_SNAP_SEL, R.FCR_RXN 0,
  R.SEC_LC_CMD, R.SEC_FLASH_CMD, R.AGE_CFG, R.AGE_MARGIN_CFG, R.PMC_SEL 0, R.PMC_DUMP_CFG, R.PMC_SMP_CFG, R.PMC_UWIN 0]

/-- What writes that follow in the rings, the switch core and write logging look at. -/
def afterSwitchBases : List Nat := [R.CTL_CFG 0, R.DMV_FAIL_CFG 0, R.CTL_PI 0, R.CTL_CI 0, R.DMV_FAIL_CI 0, R.XBC_ACCT 0 0,
  R.XBC_SMP_CFG 0, R.TMG_CAL_CFG, R.TMG_SNAP_SEL, R.WLG_CTX_CFG 0]

/-- What writes that follow at ports, links and lane groups look at. -/
def afterPortBases : List Nat := [R.PCP_SLOT_CFG 0 0, R.PCP_CFGRQ 0 0, R.SGL_CFG 0 0, R.SGL_SWAP_CMD 0 0, R.LG_BITSLIP 0,
  R.LG_EYE_CFG 0, R.LG_TEST 0 0]

/-- What writes that follow in the management blocks look at. -/
def afterMgmtBases : List Nat := [R.PWR_WAKE_CFG, R.PWR_PAD_HOLD 0, R.FCR_FORCE 0, R.SEC_LC_CMD, R.SEC_FLASH_CMD, R.AGE_CFG,
  R.AGE_CAL_SEC, R.AGE_LEDGER_SEL, R.AGE_RATE_PLAN 0, R.PMC_SEL 0, R.PMC_SMP_CFG, R.PMC_DUMP_CFG, R.DEV_GPIO_CFG, R.DEV_GPIO_DATA,
  R.CLK_RESET]

/-- Registers with fields that are read-only in some copies. -/
def partlyRoBases : List Nat := [R.CTL_CFG 0, R.XBC_ACCT 0 0, R.PCP_PORT_CFG 0 0, R.CTL_PI 0, R.CTL_CI 0, R.DMV_FAIL_PI 0,
  R.PCP_SLOT_CFG 0 0, R.PCP_PM_CFG 0 0, R.LG_BITSLIP 0, R.LG_TEST 0 0, R.DEV_GPIO_CFG, R.DEV_GPIO_DATA]

section
variable {s : State} {key b : Nat} (hb : regBase key = b)
include hb

theorem State.badPort_other (w : Word) (h : b ∉ badPortBases) : s.badPort key w = false := by
  simp only [badPortBases, List.mem_cons, List.not_mem_nil, or_false, not_or] at h
  simp [State.badPort, hb, h]

theorem State.badLane_other (w : Word) (h : b ∉ badLaneBases) : s.badLane key w = false := by
  simp only [badLaneBases, List.mem_cons, List.not_mem_nil, or_false, not_or] at h
  simp [State.badLane, hb, h]

theorem badSwitch_other (w : Word) (h : b ∉ badSwitchBases) : badSwitch key w = false := by
  have fixed := ne_fixedKeys hb
  simp only [fixedKeys, List.forall_mem_cons] at fixed
  simp only [badSwitchBases, List.mem_cons, List.not_mem_nil, or_false, not_or] at h
  simp [badSwitch, hb, h, fixed]

theorem State.badPower_other (w : Word) (h : b ∉ badPowerBases) : s.badPower key w = false := by
  have fixed := ne_fixedKeys hb
  simp only [fixedKeys, List.forall_mem_cons] at fixed
  simp only [badPowerBases, List.mem_cons, List.not_mem_nil, or_false, not_or] at h
  simp [State.badPower, hb, h, fixed]

theorem State.badMgmt_other (w : Word) (h : b ∉ badMgmtBases) : s.badMgmt key w = false := by
  have fixed := ne_fixedKeys hb
  simp only [fixedKeys, List.forall_mem_cons] at fixed
  simp only [badMgmtBases, List.mem_cons, List.not_mem_nil, or_false, not_or] at h
  simp [State.badMgmt, hb, h, fixed]

theorem State.afterSwitch_other (old w : Word) (h : b ∉ afterSwitchBases) : s.afterSwitch key old w = s := by
  have fixed := ne_fixedKeys hb
  simp only [fixedKeys, List.forall_mem_cons] at fixed
  simp only [afterSwitchBases, List.mem_cons, List.not_mem_nil, or_false, not_or] at h
  simp [State.afterSwitch, hb, h, fixed]

theorem State.afterPort_other (old w ones : Word) (m : Nat) (env : Option Bool) (h : b ∉ afterPortBases) :
    s.afterPort key old w ones m env = s := by
  simp only [afterPortBases, List.mem_cons, List.not_mem_nil, or_false, not_or] at h
  simp [State.afterPort, hb, h]

theorem State.afterMgmt_other (old w ones : Word) (env : Option Bool) (h : b ∉ afterMgmtBases) :
    s.afterMgmt key old w ones env = s := by
  have fixed := ne_fixedKeys hb
  simp only [fixedKeys, List.forall_mem_cons] at fixed
  simp only [afterMgmtBases, List.mem_cons, List.not_mem_nil, or_false, not_or] at h
  simp [State.afterMgmt, hb, h, fixed]

theorem State.roBits_other (h : b ∉ partlyRoBases) : s.roBits key = 0 := by
  have fixed := ne_fixedKeys hb
  simp only [fixedKeys, List.forall_mem_cons] at fixed
  simp only [partlyRoBases, List.mem_cons, List.not_mem_nil, or_false, not_or] at h
  simp [State.roBits, State.rsvBits, hb, h, fixed]

/-- A register that no block's rules speak of takes every value. -/
theorem State.regBad_other (w : Word)
    (h : b ∉ badPortBases ++ badLaneBases ++ badSwitchBases ++ badPowerBases ++ badMgmtBases ++ [R.WLG_CTX_CFG 0]) :
    s.regBad key w = false := by
  simp only [List.mem_append, List.mem_singleton, not_or, and_assoc] at h
  obtain ⟨hp, hl, hs, hw, hm, hc⟩ := h
  simp [State.regBad, isReg, s.badPort_other hb w hp, s.badLane_other hb w hl, badSwitch_other hb w hs, s.badPower_other hb w hw,
    s.badMgmt_other hb w hm, hb, hc]

/-- One that the ports' rules alone speak of. -/
theorem State.regBad_port (w : Word)
    (h : b ∉ badLaneBases ++ badSwitchBases ++ badPowerBases ++ badMgmtBases ++ [R.WLG_CTX_CFG 0]) :
    s.regBad key w = s.badPort key w := by
  simp only [List.mem_append, List.mem_singleton, not_or, and_assoc] at h
  obtain ⟨hl, hs, hw, hm, hc⟩ := h
  simp [State.regBad, isReg, s.badLane_other hb w hl, badSwitch_other hb w hs, s.badPower_other hb w hw, s.badMgmt_other hb w hm,
    hb, hc]

/-- One that the switching blocks' rules alone speak of. -/
theorem State.regBad_switch (w : Word)
    (h : b ∉ badPortBases ++ badLaneBases ++ badPowerBases ++ badMgmtBases ++ [R.WLG_CTX_CFG 0]) :
    s.regBad key w = badSwitch key w := by
  simp only [List.mem_append, List.mem_singleton, not_or, and_assoc] at h
  obtain ⟨hp, hl, hw, hm, hc⟩ := h
  simp [State.regBad, isReg, s.badPort_other hb w hp, s.badLane_other hb w hl, s.badPower_other hb w hw, s.badMgmt_other hb w hm,
    hb, hc]

/-- One that the management blocks' rules alone speak of. -/
theorem State.regBad_mgmt (w : Word)
    (h : b ∉ badPortBases ++ badLaneBases ++ badSwitchBases ++ badPowerBases ++ [R.WLG_CTX_CFG 0]) :
    s.regBad key w = s.badMgmt key w := by
  simp only [List.mem_append, List.mem_singleton, not_or, and_assoc] at h
  obtain ⟨hp, hl, hs, hw, hc⟩ := h
  simp [State.regBad, isReg, s.badPort_other hb w hp, s.badLane_other hb w hl, badSwitch_other hb w hs, s.badPower_other hb w hw,
    hb, hc]

/-- Nothing follows a write of a register that no block looks at. -/
theorem State.afterWrite_other (old w ones : Word) (m : Nat) (env : Option Bool)
    (h : b ∉ afterSwitchBases ++ afterPortBases ++ afterMgmtBases) : s.afterWrite key old w ones m env = s := by
  simp only [List.mem_append, not_or, and_assoc] at h
  obtain ⟨hs, hp, hm⟩ := h
  rw [State.afterWrite, State.afterSwitch_other hb _ _ hs, State.afterPort_other hb _ _ _ _ _ hp,
    State.afterMgmt_other hb _ _ _ _ hm]

/-- What follows in the rings, the switch core or write logging alone. -/
theorem State.afterWrite_switch (old w ones : Word) (m : Nat) (env : Option Bool) (h : b ∉ afterPortBases ++ afterMgmtBases) :
    s.afterWrite key old w ones m env = s.afterSwitch key old w := by
  simp only [List.mem_append, not_or] at h
  obtain ⟨hp, hm⟩ := h
  rw [State.afterWrite, State.afterPort_other hb _ _ _ _ _ hp, State.afterMgmt_other hb _ _ _ _ hm]

/-- What follows at a port, a link or a lane group alone. -/
theorem State.afterWrite_port (old w ones : Word) (m : Nat) (env : Option Bool) (h : b ∉ afterSwitchBases ++ afterMgmtBases) :
    s.afterWrite key old w ones m env = s.afterPort key old w ones m env := by
  simp only [List.mem_append, not_or] at h
  obtain ⟨hs, hm⟩ := h
  rw [State.afterWrite, State.afterSwitch_other hb _ _ hs, State.afterMgmt_other hb _ _ _ _ hm]

/-- What follows in a management block alone. -/
theorem State.afterWrite_mgmt (old w ones : Word) (m : Nat) (env : Option Bool) (h : b ∉ afterSwitchBases ++ afterPortBases) :
    s.afterWrite key old w ones m env = s.afterMgmt key old w ones env := by
  simp only [List.mem_append, not_or] at h
  obtain ⟨hs, hp⟩ := h
  rw [State.afterWrite, State.afterSwitch_other hb _ _ hs, State.afterPort_other hb _ _ _ _ _ hp]

end

end Sys2Proof.Machine

namespace Sys2Proof.Machine

/-! ### Rows: what their writes have in common -/

section
variable {s : State} {m : Master}

/-- A write by a class with the right reaches an ordinary register of a slot below the port pages. -/
theorem State.reached_low {key n : Nat} {x : RegInfo} (h : regInfo key = some x) (ord : x.ordinary = true) (hk : key % 8 = 0)
    (slot : key / 0x40000 = n) (hn : n < 50) (hro : x.base ∉ partlyRoBases) (hm : (x.base == R.MPU_SLOT 0) = false)
    (hr : s.mpuRight m n true = true) : s.Reached m key x (s.slotLocked n) := by
  subst slot
  have low : key < R.PCP_PORT_CFG 0 0 := by simp only [R.PCP_PORT_CFG]; omega
  exact ⟨h, ord, hk, hr, State.absent_low low, State.lkHeld_info h hm (by omega), State.roBits_other (regBase_info h) hro⟩

/-- And one of a port or link that is there. -/
theorem State.reached_page {key p : Nat} {x : RegInfo} (h : regInfo key = some x) (ord : x.ordinary = true) (hk : key % 8 = 0)
    (hb : key < 0x4000000) (hro : x.base ∉ partlyRoBases) (hm : (x.base == R.MPU_SLOT 0) = false) (hp : s.pagePort key = some p)
    (hr : s.mpuRight m (key / 0x40000) true = true) : s.Reached m key x (s.slotLocked (key / 0x40000)) :=
  ⟨h, ord, hk, hr, State.absent_has hp, State.lkHeld_info h hm hb, State.roBits_other (regBase_info h) hro⟩

/-- Where LK fields are not held, nothing but the write takes place. -/
@[simp] theorem State.noted_false (key : Nat) (x : RegInfo) : s.noted m key x false = s := by
  simp [State.noted]

theorem State.noted_true {key : Nat} {x : RegInfo} (h : x.lk ≠ 0) :
    s.noted m key x true = s.violate m key (x.width / 8) true true := by
  simp [State.noted, h]

/-- A write of a register all of whose fields are under LK, in a locked slot. -/
theorem State.regSet_locked {key n : Nat} {x : RegInfo} (r : s.Reached m key x true) (v : Word) (env : Option Bool)
    (h : x.vals true = 0 ∧ x.ones &&& x.free true = 0 ∧ x.clears &&& x.free true = 0) (lk : x.lk ≠ 0) (size : x.width / 8 = n) :
    s.regSet m key v env = s.violate m key n true true := by
  rw [State.regSet_nothing r v env ⟨h.1, x.starts_none v h.2.1, x.drops_none v h.2.2⟩, State.noted_true lk, size]

/-- A write by a class that has no right to the slot. -/
theorem State.regSet_noRight {key slot n : Nat} {x : RegInfo} (h : regInfo key = some x) (hs : key / 0x40000 = slot)
    (hr : s.mpuRight m slot true = false) (v : Word) (env : Option Bool) (size : x.width / 8 = n) :
    s.regSet m key v env = s.violate m key n true false := by
  rw [State.regSet_denied h (by rwa [hs]), size]

/-- A register without LK fields holds none of them. -/
theorem State.noted_no_lk {key : Nat} {x : RegInfo} {L : Bool} (h : x.lk = 0) : s.noted m key x L = s := by
  simp [State.noted, h]

/-- A register without QUIESCE fields is held by no block. -/
theorem State.quiesceHeld_none {key : Nat} {x : RegInfo} {L : Bool} (h : x.quiesce = 0) : s.quiesceHeld key x L = false := by
  simp [State.quiesceHeld, h]

/-- A field that is 1 is set. -/
theorem State.flag_eq_true {k : Nat} {f : Fld} : s.flag k f = true ↔ f.get (s.raw k) = 1 := by
  simp [State.flag, State.fld]

/-- A one-bit field is 0 or 1. -/
theorem Fld.get_ne_one {f : Fld} {w : Word} (h : f.lo = f.hi) : f.get w ≠ 1 ↔ f.get w = 0 := by
  have lt := f.get_lt w
  rw [show f.hi + 1 - f.lo = 1 by omega] at lt
  omega

/-- A one-bit field that is not set is 0. -/
theorem State.flag_eq_false {k : Nat} {f : Fld} (h : f.lo = f.hi) : s.flag k f = false ↔ f.get (s.raw k) = 0 := by
  simp [State.flag, State.fld, Fld.get_ne_one h]

/-- A register given the value that it has. -/
@[simp] theorem State.put_self (k : Nat) : s.put k (s.raw k) = s := if_pos rfl

@[simp] theorem State.put_ports (k : Nat) (w : Word) : (s.put k w).cfg.ports = s.cfg.ports := by
  unfold State.put; split <;> rfl

@[simp] theorem State.setRaw_ports (k : Nat) (w : Word) : (s.setRaw k w).cfg.ports = s.cfg.ports := rfl

/-- The ports stay as they are, whatever register-write error is reported. -/
@[simp] theorem State.regErr_ports (c k : Nat) : (s.regErr c k).cfg.ports = s.cfg.ports := by
  have fire : ∀ (u : State) r, (u.fire r).cfg.ports = u.cfg.ports := fun u r => by unfold State.fire; dsimp only; split <;> rfl
  have moderate : ∀ (u : State) r b, (u.moderate r b).cfg.ports = u.cfg.ports := fun u r b => by
    unfold State.moderate; dsimp only; split
    · rw [fire]; rfl
    · rfl
  have event : ∀ (u : State) e, (u.event e).cfg.ports = u.cfg.ports := fun u e => by
    unfold State.event; split
    · unfold State.putEvr State.writeRecord; dsimp only; rw [moderate]; rfl
    · split
      · rfl
      · dsimp only [State.loseRecord]; split <;> rfl
  have cfgErr : ∀ (u : State) c k, (u.cfgErr c k).cfg.ports = u.cfg.ports := fun u c k => by
    unfold State.cfgErr; dsimp only; rw [event]; split <;> rfl
  unfold State.regErr
  split
  · exact cfgErr _ _ _
  · exact cfgErr _ _ _

/-- What a page's port is depends on the ports alone. -/
theorem State.pagePort_of_ports {u : State} (h : u.cfg.ports = s.cfg.ports) (k : Nat) : u.pagePort k = s.pagePort k := by
  unfold State.pagePort; rw [h]

theorem State.role_of_ports {u : State} (h : u.cfg.ports = s.cfg.ports) (p : Nat) : u.role p = s.role p := by
  unfold State.role State.port; rw [h]

end

/-! ### Writes that start something -/

theorem RegInfo.starts_one {x : RegInfo} {L : Bool} {f : Fld} {v : Word} (hf : f.hi < 64) (ho : x.ones &&& x.free L = f.mask)
    (hv : f.get v = 1) : x.starts L v = f.one := by
  rw [RegInfo.starts, ho, mixBits_mask f _ _ hf, hv]; rfl

theorem RegInfo.cand_one {x : RegInfo} {L : Bool} {f : Fld} {v : Word} (hf : f.hi < 64) (hb : f.lo = f.hi)
    (ho : x.ones &&& x.free L = f.mask) (hv : f.get v = 1) (old : Word) : x.cand L old v = f.set (mixBits old v (x.vals L)) 1 := by
  rw [x.cand_eq, RegInfo.starts, ho, or_mixBits_mask f _ _ hf hb hv]

section
variable {s : State} {m : Master} {key : Nat} {x : RegInfo} {L : Bool} (r : s.Reached m key x L) {f : Fld} {v : Word}
  {env : Option Bool} (hf : f.hi < 64 ∧ f.lo = f.hi) (ho : x.ones &&& x.free L = f.mask) (hv : f.get v = 1)
  (hc : x.clears = 0) (hq : x.quiesce &&& x.free L = 0) (hk : x.base ≠ R.AGE_CAL_SEC)
include r hf ho hv hk

/-- A write with a one that starts something, and that the block refuses. -/
theorem State.regSet_go_refused (hb : s.regBad key (f.set (mixBits (s.raw key) v (x.vals L)) 1) = true) :
    s.regSet m key v env = (s.regErr stBadParam key).noted m key x L := by
  refine State.regSet_refused r (.inr (.inl ?_)) ?_
  · rw [x.starts_one hf.1 ho hv]; exact Fld.one_ne_zero hf.1 hf.2
  · rwa [r.held_raw hk, x.cand_one hf.1 hf.2 ho hv]

include hc hq

/-- A write with a one that starts something: the values are taken, and the block finds the one. -/
theorem State.regSet_go {w : Word} (hw : mixBits (s.raw key) v (x.vals L) = w)
    (keeps : (x.base == R.MPU_SLOT 0 || x.base == R.SGL_SWAP_CMD 0 0) = false) (hb : s.regBad key (f.set w 1) = false) :
    s.regSet m key v env = ((s.put key w).afterWrite key (s.raw key) w f.one (x.free L) env).noted m key x L := by
  subst hw
  have starts := x.starts_one hf.1 ho hv
  refine State.regSet_put r (.inr (.inl ?_)) hk ?_ (by simp [State.quiesceHeld, hq]) ?_ starts
  · rw [starts]; exact Fld.one_ne_zero hf.1 hf.2
  · rwa [x.cand_one hf.1 hf.2 ho hv]
  · rw [x.left_eq L _ _ keeps, x.drops_none v (by rw [hc, Nat.zero_and]), andNot_none]

/-- A write with a one that stays set. -/
theorem State.regSet_go_kept {w : Word} (hw : f.set (mixBits (s.raw key) v (x.vals L)) 1 = w)
    (keeps : (x.base == R.MPU_SLOT 0 || x.base == R.SGL_SWAP_CMD 0 0) = true) (hb : s.regBad key w = false) :
    s.regSet m key v env = ((s.put key w).afterWrite key (s.raw key) w f.one (x.free L) env).noted m key x L := by
  subst hw
  have starts := x.starts_one hf.1 ho hv
  refine State.regSet_put r (.inr (.inl ?_)) hk ?_ (by simp [State.quiesceHeld, hq]) ?_ starts
  · rw [starts]; exact Fld.one_ne_zero hf.1 hf.2
  · rwa [x.cand_one hf.1 hf.2 ho hv]
  · rw [x.left_keeps L _ _ keeps, x.drops_none v (by rw [hc, Nat.zero_and]), andNot_none, RegInfo.starts, ho,
      or_mixBits_mask f _ _ hf.1 hf.2 hv]

end

/-- A write with a one that clears a field, the others as they stand. -/
theorem State.regSet_clear {s : State} {m : Master} {key : Nat} {x : RegInfo} {L : Bool} (r : s.Reached m key x L) {f : Fld}
    {v : Word} {env : Option Bool} (hf : f.hi < 64 ∧ f.lo = f.hi) (hd : x.drops L v = f.one) (ho : x.ones = 0) (hq : x.quiesce = 0)
    (hk : x.base ≠ R.AGE_CAL_SEC) (keeps : (x.base == R.MPU_SLOT 0 || x.base == R.SGL_SWAP_CMD 0 0) = false)
    (hv : mixBits (s.raw key) v (x.vals L) = s.raw key) (hb : s.regBad key (s.raw key) = false) :
    s.regSet m key v env =
      ((s.put key (f.set (s.raw key) 0)).afterWrite key (s.raw key) (f.set (s.raw key) 0) 0 (x.free L) env).noted m key x L := by
  have starts : x.starts L v = 0 := x.starts_none v (by rw [ho, Nat.zero_and])
  refine State.regSet_put r (.inr (.inr ?_)) hk ?_ (by simp [State.quiesceHeld, hq]) ?_ starts
  · rw [hd]; exact Fld.one_ne_zero hf.1 hf.2
  · rw [x.cand_eq, starts, or_none, hv, hb]
  · rw [x.left_eq L _ _ keeps, hd, hv, Fld.andNot_one hf.1 hf.2]

/-- A write of a register of 64 bits that only takes ones, in a block for which no ones are nothing to do. -/
theorem State.regSet_bits {s : State} {m : Master} {key : Nat} {x : RegInfo} {L : Bool} (r : s.Reached m key x L) (v : Word)
    (env : Option Bool) (hx : x.clears = 0 ∧ x.quiesce = 0 ∧ x.lk = 0) (vals : x.vals L = 0)
    (ho : x.ones &&& x.free L = 2 ^ 64 - 1) (hk : x.base ≠ R.AGE_CAL_SEC)
    (keeps : (x.base == R.MPU_SLOT 0 || x.base == R.SGL_SWAP_CMD 0 0) = false) (hb : s.regBad key (s.raw key ||| v) = false)
    (idle : s.afterWrite key (s.raw key) (s.raw key) 0 (x.free L) env = s) :
    s.regSet m key v env = s.afterWrite key (s.raw key) (s.raw key) v (x.free L) env := by
  obtain ⟨clears, quiesce, lk⟩ := hx
  have starts : x.starts L v = v := by rw [RegInfo.starts, ho]; exact (and_eq_mixBits v _).symm.trans (and_ones v)
  have drops : x.drops L v = 0 := x.drops_none v (by rw [clears, Nat.zero_and])
  by_cases hv : v = 0
  · rw [State.regSet_nothing r v env ⟨vals, starts.trans hv, drops⟩, State.noted_no_lk lk, hv, idle]
  · rw [State.regSet_put r (w := s.raw key) (.inr (.inl (by rwa [starts]))) hk ?_ ?_ ?_ starts, State.noted_no_lk lk,
      State.put_self]
    · rw [x.cand_eq, starts, vals, mixBits_zero, hb]
    · exact State.quiesceHeld_none quiesce
    · rw [x.left_eq L _ _ keeps, drops, vals, mixBits_zero, andNot_none]

end Sys2Proof.Machine

namespace Sys2Proof.Machine
section
variable {s : State} {m : Master}

/-! ### XBC_SMP_CFG_p (R91, R96) -/

theorem slot_XBC_SMP_CFG {p : Nat} (hp : p < 128) : R.XBC_SMP_CFG p / 0x40000 = 10 := by simp only [R.XBC_SMP_CFG]; omega

theorem State.reached_XBC_SMP_CFG {p : Nat} (hp : p < 128) (hr : s.mpuRight m 10 true = true) :
    s.Reached m (R.XBC_SMP_CFG p) { base := 0x280800, width := 0x20, lk := 0xC000FFFF, rw := 0xC000FFFF } (s.slotLocked 10) :=
  State.reached_low (regInfo_XBC_SMP_CFG p hp) rfl (by simp only [R.XBC_SMP_CFG]; omega) (slot_XBC_SMP_CFG hp) (by norm_num)
    (by decide) rfl hr

theorem State.regBad_XBC_SMP_CFG {p : Nat} (hp : p < 128) (w : Word) :
    s.regBad (R.XBC_SMP_CFG p) w = (F.XBC_SMP_CFG_EN.get w == 1 && F.XBC_SMP_CFG_N.get w == 0) := by
  have hb := regBase_info (regInfo_XBC_SMP_CFG p hp)
  have not_cfg : R.XBC_SMP_CFG p ≠ R.XBC_CFG := key_ne_fixed hb (by decide) (by decide)
  rw [State.regBad_switch hb w (by decide), badSwitch, hb, if_neg not_cfg]
  rfl

/-- The sampling counter of a port is loaded with its interval. -/
def State.smpLoad (s : State) (p : Nat) : State :=
  { (s.smpReload p).2 with xbc := { (s.smpReload p).2.xbc with smpCnt := tput (s.smpReload p).2.xbc.smpCnt p (s.smpReload p).1 } }

theorem State.afterWrite_XBC_SMP_CFG {p : Nat} (hp : p < 128) (old w ones : Word) (k : Nat) (env : Option Bool) :
    s.afterWrite (R.XBC_SMP_CFG p) old w ones k env =
      if F.XBC_SMP_CFG_EN.get old = 0 ∧ F.XBC_SMP_CFG_EN.get w = 1 then s.smpLoad p else s := by
  have hb := regBase_info (regInfo_XBC_SMP_CFG p hp)
  have port : (R.XBC_SMP_CFG p - 0x280800) / 8 = p := by simp only [R.XBC_SMP_CFG]; omega
  have not_pi : R.XBC_SMP_CFG p ≠ R.CTL_PI 0 := key_ne_fixed hb (by decide) (by decide)
  rw [State.afterWrite_switch hb _ _ _ _ _ (by decide)]
  simp only [State.afterSwitch, hb, not_pi, port]
  rfl

section
variable {p : Nat} {w x : Word} (hp : p < 128) (hr : s.mpuRight m 10 true = true)
  (hx : x = mixBits (s.raw (R.XBC_SMP_CFG p)) (F.XBC_SMP_CFG_EN.set w 1) 0xC000FFFF)
include hx

/-- SAMPLING_ENABLE writes EN = 1. -/
theorem samplingEnable_en : F.XBC_SMP_CFG_EN.get x = 1 := by
  rw [hx, Fld.get_mixBits_in _ _ _ (by decide), Fld.get_set_self _ _ _ (by decide)]; rfl

include hp hr

theorem State.samplingEnable_refused (hl : s.slotLocked 10 = false) (hN : F.XBC_SMP_CFG_N.get x = 0) :
    s.samplingEnable m p w = s.regErr stBadParam (R.XBC_SMP_CFG p) := by
  have r := hl ▸ State.reached_XBC_SMP_CFG hp hr
  have bad : s.regBad (R.XBC_SMP_CFG p) x = true := by rw [State.regBad_XBC_SMP_CFG hp, samplingEnable_en hx, hN]; rfl
  subst hx
  rw [State.samplingEnable, State.regSet_vals_refused r rfl (by decide) (by decide) bad, State.noted_false]

theorem State.samplingEnable_put (hl : s.slotLocked 10 = false) (hN : F.XBC_SMP_CFG_N.get x ≠ 0) :
    s.samplingEnable m p w = if s.flag (R.XBC_SMP_CFG p) F.XBC_SMP_CFG_EN then s.put (R.XBC_SMP_CFG p) x
      else (s.put (R.XBC_SMP_CFG p) x).smpLoad p := by
  have r := hl ▸ State.reached_XBC_SMP_CFG hp hr
  have good : s.regBad (R.XBC_SMP_CFG p) x = false := by
    rw [State.regBad_XBC_SMP_CFG hp, beq_eq_false_iff_ne.mpr hN, Bool.and_false]
  rw [State.samplingEnable, State.regSet_vals r (by decide) (by decide) (by decide) hx.symm good (State.quiesceHeld_none rfl),
    State.noted_false, State.afterWrite_XBC_SMP_CFG hp]
  cases en : s.flag (R.XBC_SMP_CFG p) F.XBC_SMP_CFG_EN
  · rw [if_pos ⟨(State.flag_eq_false rfl).mp en, samplingEnable_en hx⟩]; rfl
  · rw [if_neg (by simp [State.flag_eq_true.mp en])]; rfl

end

theorem State.samplingEnable_locked {p : Nat} (hp : p < 128) (hr : s.mpuRight m 10 true = true) (hl : s.slotLocked 10 = true)
    (w : Word) : s.samplingEnable m p w = s.violate m (R.XBC_SMP_CFG p) 4 true true := by
  have r := hl ▸ State.reached_XBC_SMP_CFG hp hr
  exact State.regSet_locked r _ _ (by decide) (by decide) rfl

theorem State.samplingEnable_denied {p : Nat} (hp : p < 128) (hr : s.mpuRight m 10 true = false) (w : Word) :
    s.samplingEnable m p w = s.violate m (R.XBC_SMP_CFG p) 4 true false :=
  State.regSet_noRight (regInfo_XBC_SMP_CFG p hp) (slot_XBC_SMP_CFG hp) hr _ _ rfl

/-! ### TMG_SNAP_SEL (R172, R178) -/

theorem State.regBad_TMG_SNAP_SEL (w : Word) : s.regBad R.TMG_SNAP_SEL w = false := by
  have hb := regBase_info regInfo_TMG_SNAP_SEL
  have lt : F.TMG_SNAP_SEL_QUEUE.get w < 32768 := Fld.get_lt _ w
  rw [State.regBad_mgmt hb w (by decide), State.badMgmt, hb]
  change decide (F.TMG_SNAP_SEL_QUEUE.get w > 32767) = false
  simp; omega

theorem State.afterWrite_TMG_SNAP_SEL (old w ones : Word) (k : Nat) (env : Option Bool) :
    s.afterWrite R.TMG_SNAP_SEL old w ones k env = s.doSnapshot (F.TMG_SNAP_SEL_CLR.get w == 1) (F.TMG_SNAP_SEL_QUEUE.get w) := by
  have hb := regBase_info regInfo_TMG_SNAP_SEL
  rw [State.afterWrite_switch hb _ _ _ _ _ (by decide), State.afterSwitch, hb]
  rfl

theorem State.snapshotWrite_put (hr : s.mpuRight m 13 true = true) (clr : Bool) (q : Nat) :
    s.snapshotWrite m clr q = (s.put R.TMG_SNAP_SEL (mixBits (s.raw R.TMG_SNAP_SEL)
      (putFields 0 [(F.TMG_SNAP_SEL_CLR, b2n clr), (F.TMG_SNAP_SEL_QUEUE, q)]) 0x80007FFF)).doSnapshot clr (q % 2 ^ 15) := by
  obtain ⟨L, r⟩ : ∃ L, s.Reached m R.TMG_SNAP_SEL _ L :=
    ⟨_, State.reached_low regInfo_TMG_SNAP_SEL rfl (by decide) (by decide) (by decide) (by decide) rfl hr⟩
  have vals : RegInfo.vals { base := 0x340018, width := 0x20, rw := 0x80007FFF } L = 0x80007FFF := by cases L <;> rfl
  rw [State.snapshotWrite, State.regSet_vals r (by decide) (by rw [vals]; decide) (by decide) rfl (State.regBad_TMG_SNAP_SEL _)
    (State.quiesceHeld_none rfl), State.noted_no_lk rfl, State.afterWrite_TMG_SNAP_SEL, vals]
  rw [Fld.get_mixBits_in _ _ _ (by decide), Fld.get_mixBits_in _ _ _ (by decide)]
  simp (disch := decide) only [putFields, List.foldl_cons, List.foldl_nil, Fld.get_set_self, Fld.get_set_other]
  cases clr <;> rfl

end
end Sys2Proof.Machine

namespace Sys2Proof.Machine
section
variable {s : State} {m : Master}

/-! ### PCP_CFGRQ (R225) -/

theorem State.regBad_PCP_CFGRQ {g i : Nat} (hg : g < 32) (hi : i < 4) (w : Word) :
    s.regBad (R.PCP_CFGRQ g i) w = (F.PCP_CFGRQ_GO.get w == 1 && s.flag (R.PCP_CFGRQ g i) F.PCP_CFGRQ_BUSY) := by
  have hb := regBase_info (regInfo_PCP_CFGRQ g hg i hi)
  rw [State.regBad_port hb w (by decide), State.badPort, hb]
  rfl

theorem State.afterWrite_PCP_CFGRQ {g i p : Nat} (hg : g < 32) (hi : i < 4) (hp : s.pagePort (R.PCP_CFGRQ g i) = some p)
    (old w ones : Word) (k : Nat) (env : Option Bool) :
    s.afterWrite (R.PCP_CFGRQ g i) old w ones k env = if s.role p = 2 ∧ F.PCP_CFGRQ_GO.get ones = 1 then s.cfgrqGo p else s := by
  have hb := regBase_info (regInfo_PCP_CFGRQ g hg i hi)
  rw [State.afterWrite_port hb _ _ _ _ _ (by decide)]
  simp only [State.afterPort, hb, hp]
  rfl

/-- The fields of a configuration request. -/
def CfgrqOp.fields (o : CfgrqOp) : Word :=
  putFields 0 [(F.PCP_CFGRQ_WRITE, b2n o.write), (F.PCP_CFGRQ_BE, o.be), (F.PCP_CFGRQ_BDF, o.bdf), (F.PCP_CFGRQ_DW, o.dw)]

/-- What CFGRQ_GO writes: these, and GO. -/
def CfgrqOp.value (o : CfgrqOp) : Word :=
  putFields 0 [(F.PCP_CFGRQ_GO, 1), (F.PCP_CFGRQ_WRITE, b2n o.write), (F.PCP_CFGRQ_BE, o.be), (F.PCP_CFGRQ_BDF, o.bdf),
    (F.PCP_CFGRQ_DW, o.dw)]

theorem CfgrqOp.value_go (o : CfgrqOp) : F.PCP_CFGRQ_GO.get o.value = 1 := by
  simp (disch := decide) only [CfgrqOp.value, putFields, List.foldl_cons, List.foldl_nil, Fld.get_set_self, Fld.get_set_other]
  rfl

theorem CfgrqOp.mixBits_value (o : CfgrqOp) (x : Word) :
    mixBits x o.value 0x7C00FFFF0000FFC = mixBits x o.fields 0x7C00FFFF0000FFC := by
  simp (disch := decide) only [CfgrqOp.value, CfgrqOp.fields, putFields, List.foldl_cons, List.foldl_nil, mixBits_set_in,
    mixBits_set_out]

section
variable {g i p : Nat} (hg : g < 32) (hi : i < 4)
include hg hi

theorem State.reached_PCP_CFGRQ (hp : s.pagePort (R.PCP_CFGRQ g i) = some p)
    (hr : s.mpuRight m (R.PCP_CFGRQ g i / 0x40000) true = true) :
    s.Reached m (R.PCP_CFGRQ g i)
      { base := 0xC80040, width := 0x40, lk := 0x7C00FFFF0000FFC, rw := 0x7C00FFFF0000FFC, ones := 0x8000000000000000 }
      (s.slotLocked (R.PCP_CFGRQ g i / 0x40000)) :=
  State.reached_page (regInfo_PCP_CFGRQ g hg i hi) rfl (by simp only [R.PCP_CFGRQ]; omega) (by simp only [R.PCP_CFGRQ]; omega)
    (by decide) rfl hp hr

variable (hp : s.pagePort (R.PCP_CFGRQ g i) = some p) (hr : s.mpuRight m (R.PCP_CFGRQ g i / 0x40000) true = true)
  (role : s.role p = 2)
include hp hr role

/-- GO starts the request, with its fields as the write leaves them; while one is under way the write is refused. -/
theorem State.regSet_PCP_CFGRQ (op : CfgrqOp) (hl : s.slotLocked (R.PCP_CFGRQ g i / 0x40000) = false) :
    s.regSet m (R.PCP_CFGRQ g i) op.value = if s.flag (R.PCP_CFGRQ g i) F.PCP_CFGRQ_BUSY then s.regErr stBadParam (R.PCP_CFGRQ g i)
      else (s.put (R.PCP_CFGRQ g i) (mixBits (s.raw (R.PCP_CFGRQ g i)) op.fields 0x7C00FFFF0000FFC)).cfgrqGo p := by
  have r := hl ▸ State.reached_PCP_CFGRQ hg hi hp hr
  have bad : ∀ w, s.regBad (R.PCP_CFGRQ g i) (F.PCP_CFGRQ_GO.set w 1) = s.flag (R.PCP_CFGRQ g i) F.PCP_CFGRQ_BUSY := fun w => by
    rw [State.regBad_PCP_CFGRQ hg hi, Fld.get_set_self _ _ _ (by decide)]; rfl
  cases busy : s.flag (R.PCP_CFGRQ g i) F.PCP_CFGRQ_BUSY
  · have page := (State.pagePort_of_ports (s.put_ports (R.PCP_CFGRQ g i)
      (mixBits (s.raw (R.PCP_CFGRQ g i)) op.fields 0x7C00FFFF0000FFC)) (R.PCP_CFGRQ g i)).trans hp
    rw [State.regSet_go r ⟨by decide, rfl⟩ (by decide) op.value_go rfl rfl (by decide) (op.mixBits_value _) rfl
      ((bad _).trans busy), State.noted_false, State.afterWrite_PCP_CFGRQ hg hi page, State.role_of_ports (s.put_ports _ _), role]
    rfl
  · rw [State.regSet_go_refused r ⟨by decide, rfl⟩ (by decide) op.value_go (by decide) ((bad _).trans busy), State.noted_false]
    rfl

/-- In a locked slot GO starts the request with the fields as they stand. -/
theorem State.regSet_PCP_CFGRQ_locked (op : CfgrqOp) (hl : s.slotLocked (R.PCP_CFGRQ g i / 0x40000) = true)
    (busy : s.flag (R.PCP_CFGRQ g i) F.PCP_CFGRQ_BUSY = false) :
    s.regSet m (R.PCP_CFGRQ g i) op.value = (s.cfgrqGo p).violate m (R.PCP_CFGRQ g i) 8 true true := by
  have r := hl ▸ State.reached_PCP_CFGRQ hg hi hp hr
  have good : s.regBad (R.PCP_CFGRQ g i) (F.PCP_CFGRQ_GO.set (s.raw (R.PCP_CFGRQ g i)) 1) = false := by
    rw [State.regBad_PCP_CFGRQ hg hi, busy, Bool.and_false]
  rw [State.regSet_go r ⟨by decide, rfl⟩ (by decide) op.value_go rfl rfl (by decide) (mixBits_zero _ _) rfl good, State.put_self,
    State.afterWrite_PCP_CFGRQ hg hi hp, role, State.noted_true (by decide)]
  rfl

end

/-- CFGRQ_GO writes the register of a fabric endpoint port. -/
theorem State.cfgrqWrite_eq {p : Nat} {i : PortInfo} (hp : s.port p = some i) (role : s.role p = 2) (op : CfgrqOp) :
    s.cfgrqWrite m p op = s.regSet m (R.PCP_CFGRQ i.group i.inst) op.value := by
  have pcie : i.scango = false := by
    cases h : i.scango
    · rfl
    · simp [State.role, hp, h] at role
  simp only [State.cfgrqWrite, role, State.pk, hp, pcie]
  rfl

/-! ### SGL_SWAP_CMD (R267, R277) -/

/-- What SWAP_CMD writes. -/
def swapValue (l : Nat) : Word := putFields 0 [(F.SGL_SWAP_CMD_GO, 1), (F.SGL_SWAP_CMD_LANE, l)]

theorem swapValue_go (l : Nat) : F.SGL_SWAP_CMD_GO.get (swapValue l) = 1 := by
  simp (disch := decide) only [swapValue, putFields, List.foldl_cons, List.foldl_nil, Fld.get_set_self, Fld.get_set_other]
  rfl

theorem mixBits_swapValue (x : Word) (l : Nat) : mixBits x (swapValue l) 0xF = F.SGL_SWAP_CMD_LANE.set x l :=
  mixBits_set_mask F.SGL_SWAP_CMD_LANE x _ l (by decide)

theorem State.regBad_SGL_SWAP_CMD {g i p : Nat} (hg : g < 32) (hi : i < 4) (hp : s.pagePort (R.SGL_SWAP_CMD g i) = some p)
    (w : Word) :
    s.regBad (R.SGL_SWAP_CMD g i) w = (F.SGL_SWAP_CMD_GO.get w == 1 && decide (F.SGL_SWAP_CMD_LANE.get w ≥ s.width p)) := by
  have hb := regBase_info (regInfo_SGL_SWAP_CMD g hg i hi)
  rw [State.regBad_port hb w (by decide)]
  simp only [State.badPort, hb, hp]
  rfl

theorem State.afterWrite_SGL_SWAP_CMD {g i p : Nat} (hg : g < 32) (hi : i < 4) (hp : s.pagePort (R.SGL_SWAP_CMD g i) = some p)
    (old w ones : Word) (k : Nat) (env : Option Bool) :
    s.afterWrite (R.SGL_SWAP_CMD g i) old w ones k env = if F.SGL_SWAP_CMD_GO.get ones = 1 then s.swapGo p else s := by
  have hb := regBase_info (regInfo_SGL_SWAP_CMD g hg i hi)
  rw [State.afterWrite_port hb _ _ _ _ _ (by decide)]
  simp only [State.afterPort, hb, hp]
  rfl

section
variable {g i p : Nat} (hg : g < 32) (hi : i < 4) (hp : s.pagePort (R.SGL_SWAP_CMD g i) = some p)
  (hr : s.mpuRight m (R.SGL_SWAP_CMD g i / 0x40000) true = true)
include hg hi hp hr

theorem State.reached_SGL_SWAP_CMD :
    s.Reached m (R.SGL_SWAP_CMD g i) { base := 0xC88010, width := 0x20, lk := 0xF, rw := 0xF, ones := 0x80000000 }
      (s.slotLocked (R.SGL_SWAP_CMD g i / 0x40000)) :=
  State.reached_page (regInfo_SGL_SWAP_CMD g hg i hi) rfl (by simp only [R.SGL_SWAP_CMD]; omega)
    (by simp only [R.SGL_SWAP_CMD]; omega)
    (by decide) rfl hp hr

/-- GO is held and starts the swap, of a lane that the link has. -/
theorem State.regSet_SGL_SWAP_CMD (l : Nat) (hl : s.slotLocked (R.SGL_SWAP_CMD g i / 0x40000) = false) :
    s.regSet m (R.SGL_SWAP_CMD g i) (swapValue l) = if s.width p ≤ l % 16 then s.regErr stBadParam (R.SGL_SWAP_CMD g i)
      else (s.put (R.SGL_SWAP_CMD g i) (F.SGL_SWAP_CMD_GO.set (F.SGL_SWAP_CMD_LANE.set (s.raw (R.SGL_SWAP_CMD g i)) l) 1)).swapGo p := by
  have r := hl ▸ State.reached_SGL_SWAP_CMD hg hi hp hr
  have bad : ∀ x, s.regBad (R.SGL_SWAP_CMD g i) (F.SGL_SWAP_CMD_GO.set (F.SGL_SWAP_CMD_LANE.set x l) 1) =
    decide (s.width p ≤ l % 16) := fun x => by
    rw [State.regBad_SGL_SWAP_CMD hg hi hp]
    simp (disch := decide) only [Fld.get_set_self, Fld.get_set_other]
    rfl
  split
  · rename_i h
    refine (State.regSet_go_refused r ⟨by decide, rfl⟩ (by decide) (swapValue_go l) (by decide) ?_).trans (State.noted_false _ _)
    exact (congrArg (fun c => s.regBad _ (F.SGL_SWAP_CMD_GO.set c 1)) (mixBits_swapValue _ l)).trans
      ((bad _).trans (decide_eq_true h))
  · rename_i h
    rw [State.regSet_go_kept r ⟨by decide, rfl⟩ (by decide) (swapValue_go l) rfl rfl (by decide)
      (congrArg (F.SGL_SWAP_CMD_GO.set · 1) (mixBits_swapValue _ l)) rfl ((bad _).trans (decide_eq_false h)), State.noted_false,
      State.afterWrite_SGL_SWAP_CMD hg hi ((State.pagePort_of_ports (s.put_ports _ _) _).trans hp)]
    rfl

/-- In a locked slot GO is held and starts the swap of the lane that the register names. -/
theorem State.regSet_SGL_SWAP_CMD_locked (l : Nat) (hl : s.slotLocked (R.SGL_SWAP_CMD g i / 0x40000) = true)
    (lane : F.SGL_SWAP_CMD_LANE.get (s.raw (R.SGL_SWAP_CMD g i)) < s.width p) :
    s.regSet m (R.SGL_SWAP_CMD g i) (swapValue l) =
      ((s.put (R.SGL_SWAP_CMD g i) (F.SGL_SWAP_CMD_GO.set (s.raw (R.SGL_SWAP_CMD g i)) 1)).swapGo p).violate m (R.SGL_SWAP_CMD g i)
        4 true true := by
  have r := hl ▸ State.reached_SGL_SWAP_CMD hg hi hp hr
  have good : s.regBad (R.SGL_SWAP_CMD g i) (F.SGL_SWAP_CMD_GO.set (s.raw (R.SGL_SWAP_CMD g i)) 1) = false := by
    rw [State.regBad_SGL_SWAP_CMD hg hi hp, F.SGL_SWAP_CMD_LANE.get_set_other _ _ _ (by decide) (by decide),
      decide_eq_false (Nat.not_le.mpr lane), Bool.and_false]
  rw [State.regSet_go_kept r ⟨by decide, rfl⟩ (by decide) (swapValue_go l) rfl rfl (by decide)
    (congrArg (F.SGL_SWAP_CMD_GO.set · 1) (mixBits_zero _ _)) rfl good, State.noted_true (by decide),
    State.afterWrite_SGL_SWAP_CMD hg hi ((State.pagePort_of_ports (s.put_ports _ _) _).trans hp)]
  rfl

end

/-- SWAP_CMD writes the register of a Scango link. -/
theorem State.swapWrite_eq {p : Nat} {i : PortInfo} (hp : s.port p = some i) (link : i.scango = true) (l : Nat) :
    s.swapWrite m p l = s.regSet m (R.SGL_SWAP_CMD i.group i.inst) (swapValue l) := by
  simp only [State.swapWrite, State.isScango, State.sk, hp, link]
  rfl

/-! ### SGL_CFG (R272, R273, R277) -/

theorem State.busy_ports {e : State} {b : Bool} {k : Nat} (he : e = if b = true then s.regErr stCfgBusy k else s) :
    e.cfg.ports = s.cfg.ports := by
  rw [he]; split
  · exact State.regErr_ports _ _
  · rfl

/-- What the register map says of SGLgg_CFG_s. -/
def sglCfgInfo : RegInfo :=
  { base := 0xC88000, width := 0x40, lk := 0x3EFF00FFFFFFFF, quiesce := 0x30000000000000, rw := 0xEFF00FFFFFFFF }

theorem State.regBad_SGL_CFG {g i : Nat} (hg : g < 32) (hi : i < 4) (w : Word) :
    s.regBad (R.SGL_CFG g i) w = s.badPort (R.SGL_CFG g i) w :=
  State.regBad_port (regBase_info (regInfo_SGL_CFG g hg i hi)) w (by decide)

theorem State.badPort_SGL_CFG {g i : Nat} (hg : g < 32) (hi : i < 4) (w : Word) :
    s.badPort (R.SGL_CFG g i) w = (F.SGL_CFG_RATE.get w == 3 || F.SGL_CFG_REPLAY_MAX.get w == 0 || F.SGL_CFG_RETRAIN_MAX.get w == 0
      || decide (F.SGL_CFG_REPLAY_TMR.get w < 200) || F.SGL_CFG_SWAP_THR.get w == 0) := by
  rw [State.badPort, regBase_info (regInfo_SGL_CFG g hg i hi)]
  rfl

/-- ADMIN_UP is no field that the links' rules look at. -/
theorem State.badPort_adminUp {g i : Nat} (hg : g < 32) (hi : i < 4) (w : Word) (n : Nat) :
    s.badPort (R.SGL_CFG g i) (F.SGL_CFG_ADMIN_UP.set w n) = s.badPort (R.SGL_CFG g i) w := by
  simp (disch := decide) only [State.badPort_SGL_CFG hg hi, Fld.get_set_other]

theorem State.afterWrite_SGL_CFG {g i p : Nat} (hg : g < 32) (hi : i < 4) (hp : s.pagePort (R.SGL_CFG g i) = some p)
    (old w ones : Word) (k : Nat) (env : Option Bool) :
    s.afterWrite (R.SGL_CFG g i) old w ones k env =
      if F.SGL_CFG_ADMIN_UP.get old = 1 ∧ F.SGL_CFG_ADMIN_UP.get w = 0 then s.sglDown p
      else if F.SGL_CFG_ADMIN_UP.get old = 0 ∧ F.SGL_CFG_ADMIN_UP.get w = 1 then s.sglStart p else s := by
  have hb := regBase_info (regInfo_SGL_CFG g hg i hi)
  rw [State.afterWrite_port hb _ _ _ _ _ (by decide)]
  simp only [State.afterPort, hb, hp]
  rfl

theorem State.quiesceRuns_SGL_CFG {g i p : Nat} (hg : g < 32) (hi : i < 4) (hp : s.pagePort (R.SGL_CFG g i) = some p) :
    s.quiesceRuns (R.SGL_CFG g i) = s.portRuns p := by
  have hb := regBase_info (regInfo_SGL_CFG g hg i hi)
  simp only [State.quiesceRuns, hb, hp]
  rfl

section
variable {g i p : Nat} (hg : g < 32) (hi : i < 4) (hp : s.pagePort (R.SGL_CFG g i) = some p)
  (hr : s.mpuRight m (R.SGL_CFG g i / 0x40000) true = true)
include hg hi hp hr

theorem State.reached_SGL_CFG :
    s.Reached m (R.SGL_CFG g i) sglCfgInfo (s.slotLocked (R.SGL_CFG g i / 0x40000)) :=
  State.reached_page (regInfo_SGL_CFG g hg i hi) rfl (by simp only [R.SGL_CFG]; omega) (by simp only [R.SGL_CFG]; omega) (by decide)
    rfl hp hr

/-- ADMIN_UP written with the other fields as they stand: it is taken, and of a link that is not down the QUIESCE fields are
reported (R58). -/
theorem State.regSet_SGL_CFG (n : Nat) (hl : s.slotLocked (R.SGL_CFG g i / 0x40000) = false)
    (good : s.badPort (R.SGL_CFG g i) (s.raw (R.SGL_CFG g i)) = false) {e : State}
    (he : e = if s.portRuns p = true then s.regErr stCfgBusy (R.SGL_CFG g i) else s) {w : Word}
    (hw : F.SGL_CFG_ADMIN_UP.set (s.raw (R.SGL_CFG g i)) n = w) :
    s.regSet m (R.SGL_CFG g i) w = State.afterWrite (if w = s.raw (R.SGL_CFG g i) then e else e.setRaw (R.SGL_CFG g i) w)
      (R.SGL_CFG g i) (s.raw (R.SGL_CFG g i)) w 0 (2 ^ 64 - 1) none := by
  have r := hl ▸ State.reached_SGL_CFG hg hi hp hr
  have cal := r.held_raw (by decide)
  have mix : ∀ k, F.SGL_CFG_ADMIN_UP.mask &&& k = F.SGL_CFG_ADMIN_UP.mask → mixBits (s.raw (R.SGL_CFG g i)) w k = w :=
    fun k hk => by rw [← hw, mixBits_set_in _ _ _ _ (by decide) hk, mixBits_self]
  have starts := RegInfo.starts_none (L := false) w (x := sglCfgInfo) rfl
  have runs : s.quiesceHeld (R.SGL_CFG g i) sglCfgInfo false = s.portRuns p := s.quiesceRuns_SGL_CFG hg hi hp
  rw [State.regSet_let r (w := w) (.inl (by decide)) ?_ ?_ starts, State.noted_false, State.regLeft, runs, cal, he]
  · rfl
  · rw [RegInfo.cand_eq, starts, or_none, cal, mix _ (by decide), State.regBad_SGL_CFG hg hi, ← hw, State.badPort_adminUp hg hi,
      good]
  · rw [cal, runs]
    rw [RegInfo.left_vals _ _ _ _ rfl rfl]
    cases s.portRuns p
    · exact mix _ (by decide)
    · exact mix _ (by decide)

end

section
variable {g i p : Nat} (hg : g < 32) (hi : i < 4) (hp : s.pagePort (R.SGL_CFG g i) = some p)
  (hr : s.mpuRight m (R.SGL_CFG g i / 0x40000) true = true) (hl : s.slotLocked (R.SGL_CFG g i / 0x40000) = false)
  (good : s.badPort (R.SGL_CFG g i) (s.raw (R.SGL_CFG g i)) = false) {e : State}
  (he : e = if s.portRuns p = true then s.regErr stCfgBusy (R.SGL_CFG g i) else s)
include hg hi hp hr hl good he

/-- ADMIN_UP written as it stands. -/
theorem State.regSet_SGL_CFG_same {n : Nat} (h : F.SGL_CFG_ADMIN_UP.get (s.raw (R.SGL_CFG g i)) = n) :
    s.regSet m (R.SGL_CFG g i) (F.SGL_CFG_ADMIN_UP.set (s.raw (R.SGL_CFG g i)) n) = e := by
  have page : e.pagePort (R.SGL_CFG g i) = some p := by
    rw [← hp]; exact State.pagePort_of_ports (State.busy_ports he) _
  have keep : F.SGL_CFG_ADMIN_UP.set (s.raw (R.SGL_CFG g i)) n = s.raw (R.SGL_CFG g i) := by rw [← h, Fld.set_get _ _ (by decide)]
  rw [State.regSet_SGL_CFG hg hi hp hr n hl good he rfl, if_pos keep, State.afterWrite_SGL_CFG hg hi page, keep,
    if_neg (by omega), if_neg (by omega)]

/-- ADMIN_UP turned over takes the link down or starts its bring-up. -/
theorem State.regSet_SGL_CFG_change {n : Nat} (hn : n < 2) (h : F.SGL_CFG_ADMIN_UP.get (s.raw (R.SGL_CFG g i)) = 1 - n) :
    s.regSet m (R.SGL_CFG g i) (F.SGL_CFG_ADMIN_UP.set (s.raw (R.SGL_CFG g i)) n) =
      if n = 0 then (e.setRaw (R.SGL_CFG g i) (F.SGL_CFG_ADMIN_UP.set (s.raw (R.SGL_CFG g i)) 0)).sglDown p
      else (e.setRaw (R.SGL_CFG g i) (F.SGL_CFG_ADMIN_UP.set (s.raw (R.SGL_CFG g i)) 1)).sglStart p := by
  have page : ∀ w, (e.setRaw (R.SGL_CFG g i) w).pagePort (R.SGL_CFG g i) = some p := fun w => by
    rw [← hp]; exact State.pagePort_of_ports ((State.setRaw_ports _ _).trans (State.busy_ports he)) _
  have new : F.SGL_CFG_ADMIN_UP.get (F.SGL_CFG_ADMIN_UP.set (s.raw (R.SGL_CFG g i)) n) = n := by
    rw [Fld.get_set_self _ _ _ (by decide)]; exact Nat.mod_eq_of_lt hn
  have ne : F.SGL_CFG_ADMIN_UP.set (s.raw (R.SGL_CFG g i)) n ≠ s.raw (R.SGL_CFG g i) := fun eq => by
    rw [eq] at new; omega
  rw [State.regSet_SGL_CFG hg hi hp hr n hl good he rfl, if_neg ne, State.afterWrite_SGL_CFG hg hi (page _), new, h]
  obtain rfl | rfl : n = 0 ∨ n = 1 := by omega
  · rw [if_pos ⟨rfl, rfl⟩, if_pos rfl]
  · rw [if_neg (by decide), if_pos ⟨rfl, rfl⟩, if_neg (by decide)]

end

theorem State.regSet_SGL_CFG_locked {g i p : Nat} (hg : g < 32) (hi : i < 4) (hp : s.pagePort (R.SGL_CFG g i) = some p)
    (hr : s.mpuRight m (R.SGL_CFG g i / 0x40000) true = true) (hl : s.slotLocked (R.SGL_CFG g i / 0x40000) = true) (v : Word) :
    s.regSet m (R.SGL_CFG g i) v = s.violate m (R.SGL_CFG g i) 8 true true := by
  have r := hl ▸ State.reached_SGL_CFG hg hi hp hr
  exact State.regSet_locked r _ _ (by decide) (by decide) rfl

/-- ADMIN_DOWN and ADMIN_UP write the register of a Scango link. -/
theorem State.adminWrite_eq {p : Nat} {i : PortInfo} (hp : s.port p = some i) (link : i.scango = true) {up : Bool} {n : Nat}
    (hn : b2n up = n) :
    s.adminWrite m p up = s.regSet m (R.SGL_CFG i.group i.inst) (F.SGL_CFG_ADMIN_UP.set (s.raw (R.SGL_CFG i.group i.inst)) n) := by
  subst hn
  simp only [State.adminWrite, State.isScango, State.sk, hp, link]
  rfl

/-- ADMIN_UP of a Scango link, in its register. -/
theorem State.adminUp_eq {p : Nat} {i : PortInfo} (hp : s.port p = some i) (link : i.scango = true) :
    s.adminUp p = (F.SGL_CFG_ADMIN_UP.get (s.raw (R.SGL_CFG i.group i.inst)) == 1) := by
  simp only [State.adminUp, State.sglCfg, State.fld, State.sk, hp, link]
  rfl

end
end Sys2Proof.Machine

namespace Sys2Proof
open Machine

/-- Settles O45: the row of each register is what a write of it comes to, for a class with the right in an open and in a locked
slot, and for one without. -/
theorem portRegisterRows : Obligations.PortRegisterRows := by
  unfold Obligations.PortRegisterRows
  refine ⟨fun s t dt p m w x hf hp hx => ?_, fun s t dt q clr m hf => ?_, fun s t dt p k m op hf => ?_, fun s t dt p l k m hf => ?_,
    fun s t dt p k m hf => ?_⟩
  · refine ⟨fun hr hl => ⟨fun hN => ?_, fun hN u hu => ⟨fun en => ?_, fun en n v hv => ?_⟩⟩, fun hr hl => ?_, fun hr => ?_⟩
    · rw [exec_samplingEnable hf, State.samplingEnable_refused hp hr hx hl hN]
    · rw [exec_samplingEnable hf, State.samplingEnable_put hp hr hx hl hN, if_pos en, hu]
    · rw [exec_samplingEnable hf, State.samplingEnable_put hp hr hx hl hN, if_neg (by simp [en]), ← hu, State.smpLoad, hv]
    · rw [exec_samplingEnable hf, State.samplingEnable_locked hp hr hl]
    · rw [exec_samplingEnable hf, State.samplingEnable_denied hp hr]
  · refine ⟨fun hr => ?_, fun hr => ?_⟩
    · rw [exec_snapshot hf, State.snapshotWrite_put hr]
    · rw [exec_snapshot hf, State.snapshotWrite, State.regSet_noRight (n := 4) regInfo_TMG_SNAP_SEL rfl hr _ _ rfl]
  · refine ⟨fun role => ?_, fun i hi role hg hj hk page => ?_⟩
    · rw [exec_cfgrqGo hf, State.cfgrqWrite, if_pos role]
    · subst hk
      rw [exec_cfgrqGo hf, State.cfgrqWrite_eq hi role]
      refine ⟨fun hr hl busy => ?_, fun hr hl busy => ?_, fun hr hl busy => ?_, fun hr => ?_⟩
      · rw [State.regSet_PCP_CFGRQ hg hj page hr role op hl, if_neg (by simp [busy])]; rfl
      · rw [State.regSet_PCP_CFGRQ hg hj page hr role op hl, if_pos busy]
      · rw [State.regSet_PCP_CFGRQ_locked hg hj page hr role op hl busy]
      · rw [State.regSet_noRight (n := 8) (regInfo_PCP_CFGRQ _ hg _ hj) rfl hr _ _ rfl]
  · refine ⟨fun link => ?_, fun i hi link hg hj hk page => ?_⟩
    · rw [exec_swapCmd hf, State.swapWrite, link]; rfl
    · subst hk
      rw [exec_swapCmd hf, State.swapWrite_eq hi link]
      refine ⟨fun hr hl => ⟨fun lane => ?_, fun lane => ?_⟩, fun hr hl lane => ?_, fun hr => ?_⟩
      · rw [State.regSet_SGL_SWAP_CMD hg hj page hr l hl, if_neg (by omega)]
      · rw [State.regSet_SGL_SWAP_CMD hg hj page hr l hl, if_pos lane]
      · rw [State.regSet_SGL_SWAP_CMD_locked hg hj page hr l hl lane]
      · rw [State.regSet_noRight (n := 4) (regInfo_SGL_SWAP_CMD _ hg _ hj) rfl hr _ _ rfl]
  · refine ⟨fun link => ?_, fun i hi link hg hj hk page => ?_⟩
    · rw [exec_adminDown hf, exec_adminUp hf, State.adminWrite, State.adminWrite, link]; exact ⟨rfl, rfl⟩
    · subst hk
      rw [exec_adminDown hf, exec_adminUp hf, State.adminWrite_eq hi link (n := 0) rfl, State.adminWrite_eq hi link (n := 1) rfl,
        State.adminUp_eq hi link]
      refine ⟨fun hr hl good e he => ⟨fun up => ?_, fun up => ?_⟩, fun hr hl => ?_, fun hr => ?_⟩
      · have up := beq_iff_eq.mp up
        rw [State.regSet_SGL_CFG_change hg hj page hr hl good he (n := 0) (by decide) up,
          State.regSet_SGL_CFG_same hg hj page hr hl good he (n := 1) up]
        exact ⟨rfl, rfl⟩
      · have up := (Fld.get_ne_one rfl).mp (beq_eq_false_iff_ne.mp up)
        rw [State.regSet_SGL_CFG_change hg hj page hr hl good he (n := 1) (by decide) up,
          State.regSet_SGL_CFG_same hg hj page hr hl good he (n := 0) up]
        exact ⟨rfl, rfl⟩
      · rw [State.regSet_SGL_CFG_locked hg hj page hr hl, State.regSet_SGL_CFG_locked hg hj page hr hl]; exact ⟨rfl, rfl⟩
      · rw [State.regSet_noRight (n := 8) (regInfo_SGL_CFG _ hg _ hj) rfl hr _ _ rfl,
          State.regSet_noRight (n := 8) (regInfo_SGL_CFG _ hg _ hj) rfl hr _ _ rfl]
        exact ⟨rfl, rfl⟩

end Sys2Proof

namespace Sys2Proof.Machine

section
variable {s : State} {m : Master}

/-! ### WLG_CTX_CFG_c (R325) -/

/-- What the register map says of WLG_CTX_CFG_c. -/
def ctxCfgInfo : RegInfo :=
  { base := 0x410000, width := 0x40, lk := 0xFE0FFFFF000FFFFF, quiesce := 0x7E0FFFFF000FFFFF, rw := 0x8000000000000000 }

theorem slot_WLG_CTX_CFG {c : Nat} (hc : c < 1024) : R.WLG_CTX_CFG c / 0x40000 = 16 := by simp only [R.WLG_CTX_CFG]; omega

theorem State.reached_WLG_CTX_CFG {c : Nat} (hc : c < 1024) (hr : s.mpuRight m 16 true = true) :
    s.Reached m (R.WLG_CTX_CFG c) ctxCfgInfo (s.slotLocked 16) :=
  State.reached_low (regInfo_WLG_CTX_CFG c hc) rfl (by simp only [R.WLG_CTX_CFG]; omega) (slot_WLG_CTX_CFG hc) (by norm_num)
    (by decide) rfl hr

/-- The number of a context, from its register's key. -/
theorem ctx_of_key (c : Nat) : (R.WLG_CTX_CFG c - 0x410000) / 0x20 = c := by simp only [R.WLG_CTX_CFG]; omega

theorem State.regBad_WLG_CTX_CFG {c : Nat} (hc : c < 1024) (w : Word) :
    s.regBad (R.WLG_CTX_CFG c) w = (F.WLG_CTX_CFG_EN.get w == 1 && !s.flag (R.WLG_CTX_CFG c) F.WLG_CTX_CFG_EN && !s.ctxOk c) := by
  have h := regInfo_WLG_CTX_CFG c hc
  have hb := regBase_info h
  rw [State.regBad, s.badPort_other hb w (by decide), s.badLane_other hb w (by decide), badSwitch_other hb w (by decide),
    s.badPower_other hb w (by decide), s.badMgmt_other hb w (by decide), isReg_info h,
    show R.WLG_CTX_CFG 0 = 0x410000 from rfl, ctx_of_key]
  rfl

theorem State.afterWrite_WLG_CTX_CFG {c : Nat} (hc : c < 1024) (old w ones : Word) (k : Nat) (env : Option Bool) :
    s.afterWrite (R.WLG_CTX_CFG c) old w ones k env =
      if F.WLG_CTX_CFG_EN.get w = 1 ∧ F.WLG_CTX_CFG_EN.get old ≠ 1 then s.ctxEnabled c
      else if F.WLG_CTX_CFG_EN.get old = 1 ∧ F.WLG_CTX_CFG_EN.get w ≠ 1 then s.ctxDisabled c else s := by
  have hb := regBase_info (regInfo_WLG_CTX_CFG c hc)
  have not_pi : R.WLG_CTX_CFG c ≠ R.CTL_PI 0 := key_ne_fixed hb (by decide) (by decide)
  have not_cal : R.WLG_CTX_CFG c ≠ R.TMG_CAL_CFG := key_ne_fixed hb (by decide) (by decide)
  have not_snap : R.WLG_CTX_CFG c ≠ R.TMG_SNAP_SEL := key_ne_fixed hb (by decide) (by decide)
  rw [State.afterWrite_switch hb _ _ _ _ _ (by decide)]
  simp only [State.afterSwitch, hb, not_pi, not_cal, not_snap, ctx_of_key, beq_iff_eq, Bool.not_eq_true', beq_eq_false_iff_ne]
  rfl

theorem State.quiesceRuns_WLG_CTX_CFG {c : Nat} (hc : c < 1024) :
    s.quiesceRuns (R.WLG_CTX_CFG c) = s.flag (R.WLG_CTX_CFG c) F.WLG_CTX_CFG_EN := by
  have hb := regBase_info (regInfo_WLG_CTX_CFG c hc)
  simp only [State.quiesceRuns, hb, ctx_of_key]
  rfl

section
variable {c : Nat} (hc : c < 1024) (hr : s.mpuRight m 16 true = true)
include hc hr

section
variable (hl : s.slotLocked 16 = false) (off : s.flag (R.WLG_CTX_CFG c) F.WLG_CTX_CFG_EN = false)
include hl off

/-- A context that is off takes its fields; EN = 1 enables it. -/
theorem State.regSet_WLG_CTX_CFG_off {v x : Word} (hx : mixBits (s.raw (R.WLG_CTX_CFG c)) v 0xFE0FFFFF000FFFFF = x)
    (ok : F.WLG_CTX_CFG_EN.get x = 1 → s.ctxOk c = true) :
    s.regSet m (R.WLG_CTX_CFG c) v =
      if F.WLG_CTX_CFG_EN.get x = 1 then (s.put (R.WLG_CTX_CFG c) x).ctxEnabled c else s.put (R.WLG_CTX_CFG c) x := by
  have r := hl ▸ State.reached_WLG_CTX_CFG hc hr
  have was : F.WLG_CTX_CFG_EN.get (s.raw (R.WLG_CTX_CFG c)) ≠ 1 := by rw [(State.flag_eq_false rfl).mp off]; decide
  have good : s.regBad (R.WLG_CTX_CFG c) x = false := by
    rw [State.regBad_WLG_CTX_CFG hc, off]
    by_cases en : F.WLG_CTX_CFG_EN.get x = 1
    · simp [ok en]
    · simp [en]
  have idle : s.quiesceHeld (R.WLG_CTX_CFG c) ctxCfgInfo false = false := (s.quiesceRuns_WLG_CTX_CFG hc).trans off
  rw [State.regSet_vals r (by decide) (by decide) (by decide) hx good idle, State.noted_false, State.afterWrite_WLG_CTX_CFG hc]
  simp [was]

/-- EN = 1 is refused while the context's bitmaps lie out of the region. -/
theorem State.contextEnable_refused (v : Word) (ok : s.ctxOk c = false) :
    s.contextEnable m c v = s.regErr stBadParam (R.WLG_CTX_CFG c) := by
  have r := hl ▸ State.reached_WLG_CTX_CFG hc hr
  have bad : s.regBad (R.WLG_CTX_CFG c) (mixBits (s.raw (R.WLG_CTX_CFG c)) (F.WLG_CTX_CFG_EN.set v 1) 0xFE0FFFFF000FFFFF) = true := by
    rw [State.regBad_WLG_CTX_CFG hc, off, ok, Fld.get_mixBits_in _ _ _ (by decide), Fld.get_set_self _ _ _ (by decide)]; rfl
  rw [State.contextEnable, State.regSet_vals_refused r rfl (by decide) (by decide) bad, State.noted_false]

end

/-- A context that is on takes EN alone, and its other fields are reported (R58). -/
theorem State.regSet_WLG_CTX_CFG_on (hl : s.slotLocked 16 = false) (on : s.flag (R.WLG_CTX_CFG c) F.WLG_CTX_CFG_EN = true)
    (v : Word) {n : Nat} (hn : n < 2) :
    s.regSet m (R.WLG_CTX_CFG c) (F.WLG_CTX_CFG_EN.set v n) = if n = 1 then s.regErr stCfgBusy (R.WLG_CTX_CFG c)
      else ((s.regErr stCfgBusy (R.WLG_CTX_CFG c)).setRaw (R.WLG_CTX_CFG c)
        (F.WLG_CTX_CFG_EN.set (s.raw (R.WLG_CTX_CFG c)) 0)).ctxDisabled c := by
  have r := hl ▸ State.reached_WLG_CTX_CFG hc hr
  have cal := r.held_raw (by decide)
  have was := State.flag_eq_true.mp on
  have new : F.WLG_CTX_CFG_EN.get (F.WLG_CTX_CFG_EN.set (s.raw (R.WLG_CTX_CFG c)) n) = n := by
    rw [Fld.get_set_self _ _ _ (by decide)]; exact Nat.mod_eq_of_lt hn
  have runs : s.quiesceHeld (R.WLG_CTX_CFG c) ctxCfgInfo false = true := (s.quiesceRuns_WLG_CTX_CFG hc).trans on
  have starts := RegInfo.starts_none (x := ctxCfgInfo) (L := false) (F.WLG_CTX_CFG_EN.set v n) rfl
  rw [State.regSet_let r (w := F.WLG_CTX_CFG_EN.set (s.raw (R.WLG_CTX_CFG c)) n) (.inl (by decide)) ?_ ?_ starts, State.noted_false,
    State.regLeft, runs, cal, State.afterWrite_WLG_CTX_CFG hc, new, was]
  · obtain rfl | rfl : n = 0 ∨ n = 1 := by omega
    · have ne : F.WLG_CTX_CFG_EN.set (s.raw (R.WLG_CTX_CFG c)) 0 ≠ s.raw (R.WLG_CTX_CFG c) := fun eq => by
        rw [eq, was] at new; cases new
      simp [ne]
    · have same : F.WLG_CTX_CFG_EN.set (s.raw (R.WLG_CTX_CFG c)) 1 = s.raw (R.WLG_CTX_CFG c) := by
        rw [← was, Fld.set_get _ _ (by decide)]
      simp [same]
  · rw [State.regBad_WLG_CTX_CFG hc, on, Bool.not_true, Bool.and_false, Bool.false_and]
  · rw [cal, runs, RegInfo.left_vals _ _ _ _ rfl rfl]
    exact mixBits_set_mask _ _ _ _ (by decide)

theorem State.regSet_WLG_CTX_CFG_locked (hl : s.slotLocked 16 = true) (v : Word) :
    s.regSet m (R.WLG_CTX_CFG c) v = s.violate m (R.WLG_CTX_CFG c) 8 true true := by
  have r := hl ▸ State.reached_WLG_CTX_CFG hc hr
  exact State.regSet_locked r _ _ (by decide) (by decide) rfl

end

/-! ### PWR_PAD_HOLD_k (R374) -/

theorem State.afterWrite_PWR_PAD_HOLD {j : Nat} (hj : j < 2) (old w ones : Word) (k : Nat) (env : Option Bool) :
    s.afterWrite (R.PWR_PAD_HOLD j) old w ones k env =
      ((List.range 64).filter (bitAt ones.toNat)).foldl (fun u b => u.bankRelease (64 * j + b)) s := by
  have hb := regBase_info (regInfo_PWR_PAD_HOLD j hj)
  have not_wake : R.PWR_PAD_HOLD j ≠ R.PWR_WAKE_CFG := key_ne_fixed hb (by decide) (by decide)
  have index : (R.PWR_PAD_HOLD j - 0x100040) / 8 = j := by simp only [R.PWR_PAD_HOLD]; omega
  rw [State.afterWrite_mgmt hb _ _ _ _ _ (by decide)]
  simp only [State.afterMgmt, hb, not_wake, index]
  rfl

theorem slot_PWR_PAD_HOLD {j : Nat} (hj : j < 2) : R.PWR_PAD_HOLD j / 0x40000 = 4 := by simp only [R.PWR_PAD_HOLD]; omega

/-- No bank is released by zeros. -/
theorem filter_bitAt_zero (n : Nat) : (List.range n).filter (bitAt 0) = [] := by
  rw [List.filter_eq_nil_iff]; intro b _; simp [bitAt]

theorem State.padRelease_eq {j bits : Nat} (hj : j < 2) (hbits : bits < 2 ^ 64) (hr : s.mpuRight m 4 true = true) :
    s.padRelease m j bits = ((List.range 64).filter (bitAt bits)).foldl (fun u b => u.bankRelease (64 * j + b)) s := by
  obtain ⟨L, r⟩ : ∃ L, s.Reached m (R.PWR_PAD_HOLD j) _ L :=
    ⟨_, State.reached_low (regInfo_PWR_PAD_HOLD j hj) rfl (by simp only [R.PWR_PAD_HOLD]; omega) (slot_PWR_PAD_HOLD hj) (by decide)
      (by decide) rfl hr⟩
  rw [State.padRelease, State.regSet_bits r _ _ ⟨rfl, rfl, rfl⟩ (by cases L <;> rfl) (by cases L <;> rfl) (by decide) rfl
    (State.regBad_other (regBase_info r.info) _ (by decide)) ?_, State.afterWrite_PWR_PAD_HOLD hj, BitVec.toNat_ofNat,
    Nat.mod_eq_of_lt hbits]
  rw [State.afterWrite_PWR_PAD_HOLD hj, show (0 : Word).toNat = 0 from rfl, filter_bitAt_zero, List.foldl_nil]

/-! ### FCR_FORCE_j (R421) -/

theorem State.afterWrite_FCR_FORCE {j : Nat} (hj : j < 24) (old w ones : Word) (k : Nat) (env : Option Bool) :
    s.afterWrite (R.FCR_FORCE j) old w ones k env = s.forceFaults j ones.toNat := by
  have hb := regBase_info (regInfo_FCR_FORCE j hj)
  have not_wake : R.FCR_FORCE j ≠ R.PWR_WAKE_CFG := key_ne_fixed hb (by decide) (by decide)
  have index : (R.FCR_FORCE j - 0x80500) / 8 = j := by simp only [R.FCR_FORCE]; omega
  rw [State.afterWrite_mgmt hb _ _ _ _ _ (by decide)]
  simp only [State.afterMgmt, hb, not_wake, index]
  rfl

theorem slot_FCR_FORCE {j : Nat} (hj : j < 24) : R.FCR_FORCE j / 0x40000 = 2 := by simp only [R.FCR_FORCE]; omega

theorem State.forceFaults_zero (j : Nat) : s.forceFaults j 0 = s := by
  rw [State.forceFaults, filter_bitAt_zero]; rfl

theorem State.faultForce_eq {j bits : Nat} (hj : j < 24) (hbits : bits < 2 ^ 64) (hr : s.mpuRight m 2 true = true) :
    s.faultForce m j bits = s.forceFaults j bits := by
  obtain ⟨L, r⟩ : ∃ L, s.Reached m (R.FCR_FORCE j) _ L :=
    ⟨_, State.reached_low (regInfo_FCR_FORCE j hj) rfl (by simp only [R.FCR_FORCE]; omega) (slot_FCR_FORCE hj) (by decide)
      (by decide) rfl hr⟩
  rw [State.faultForce, State.regSet_bits r _ _ ⟨rfl, rfl, rfl⟩ (by cases L <;> rfl) (by cases L <;> rfl) (by decide) rfl
    (State.regBad_other (regBase_info r.info) _ (by decide)) ?_, State.afterWrite_FCR_FORCE hj, BitVec.toNat_ofNat,
    Nat.mod_eq_of_lt hbits]
  exact (State.afterWrite_FCR_FORCE hj _ _ _ _ _).trans (State.forceFaults_zero j)

/-! ### FCR_CFG (R405) -/

theorem State.afterWrite_FCR_CFG (old w ones : Word) (k : Nat) (env : Option Bool) : s.afterWrite R.FCR_CFG old w ones k env = s :=
  State.afterWrite_other (regBase_info regInfo_FCR_CFG) _ _ _ _ _ (by decide)

/-- What LATCH_REARM writes. -/
def rearmValue (mode : Nat) : Word := putFields 0 [(F.FCR_CFG_MODE, mode), (F.FCR_CFG_FIRST_VALID, 1)]

theorem mixBits_rearmValue_valid (mode : Nat) : mixBits 0 (rearmValue mode) 0x60000000 = F.FCR_CFG_FIRST_VALID.one := by
  simp (disch := decide) only [rearmValue, putFields, List.foldl_cons, List.foldl_nil, mixBits_set_in, mixBits_set_out,
    mixBits_self]
  rfl

theorem mixBits_rearmValue_mode (x : Word) : mixBits x (rearmValue (F.FCR_CFG_MODE.get x)) 0x80000000 = x := by
  have mode : F.FCR_CFG_MODE.get (rearmValue (F.FCR_CFG_MODE.get x)) = F.FCR_CFG_MODE.get x := by
    simp (disch := decide) only [rearmValue, putFields, List.foldl_cons, List.foldl_nil, Fld.get_set_self, Fld.get_set_other]
    exact Nat.mod_eq_of_lt (Fld.get_lt _ _)
  exact (mixBits_mask F.FCR_CFG_MODE x _ (by decide)).trans (by rw [mode, Fld.set_get _ _ (by decide)])

/-- A 1 to FIRST_VALID clears it; MODE stays, and in a locked slot its write is a violation. -/
theorem State.latchRearm_eq (hr : s.mpuRight m 2 true = true) :
    s.latchRearm m = if s.slotLocked 2 then
        (s.put R.FCR_CFG (F.FCR_CFG_FIRST_VALID.set (s.raw R.FCR_CFG) 0)).violate m R.FCR_CFG 4 true true
      else s.put R.FCR_CFG (F.FCR_CFG_FIRST_VALID.set (s.raw R.FCR_CFG) 0) := by
  have r := State.reached_low (n := 2) regInfo_FCR_CFG rfl (by decide) rfl (by decide) (by decide) rfl hr
  have good := s.regBad_other (regBase_info r.info) (s.raw R.FCR_CFG) (by decide)
  have valid := mixBits_rearmValue_valid (s.fld R.FCR_CFG F.FCR_CFG_MODE)
  cases hl : s.slotLocked 2
  · rw [hl] at r
    rw [State.latchRearm, ← rearmValue.eq_def, State.regSet_clear r (f := F.FCR_CFG_FIRST_VALID) ⟨by decide, rfl⟩ valid rfl rfl
      (by decide) rfl (mixBits_rearmValue_mode _) good, State.afterWrite_FCR_CFG, State.noted_false]
    rfl
  · rw [hl] at r
    rw [State.latchRearm, ← rearmValue.eq_def, State.regSet_clear r (f := F.FCR_CFG_FIRST_VALID) ⟨by decide, rfl⟩ valid rfl rfl
      (by decide) rfl (mixBits_zero _ _) good, State.afterWrite_FCR_CFG, State.noted_true (by decide)]
    rfl

end

end Sys2Proof.Machine

namespace Sys2Proof
open Machine

/-- Settles O47: the rows of WLG_CTX_CFG, of the pads, of forced faults and of FCR_CFG, each by what a write of its register comes
to. -/
theorem blockRegisterRows : Obligations.BlockRegisterRows := by
  unfold Obligations.BlockRegisterRows
  refine ⟨fun s t dt c k m v hf hc hk => ?_, fun s t dt j bits m hf hj hbits => ?_, fun s t dt j bits m hf hj hbits => ?_,
    fun s t dt m hf => ?_⟩
  · subst hk
    rw [exec_contextEnable hf, exec_contextDisable hf]
    refine ⟨fun hr hl => ⟨fun off => ⟨fun ok => ?_, fun ok => ?_, ?_⟩, fun on => ⟨?_, ?_⟩⟩, fun hr hl u hu => ?_, fun hr u hu => ?_⟩
    · have en : F.WLG_CTX_CFG_EN.get (mixBits (t.raw (R.WLG_CTX_CFG c)) (F.WLG_CTX_CFG_EN.set v 1) 0xFE0FFFFF000FFFFF) = 1 := by
        rw [Fld.get_mixBits_in _ _ _ (by decide), Fld.get_set_self _ _ _ (by decide)]; rfl
      rw [State.contextEnable, State.regSet_WLG_CTX_CFG_off hc hr hl off rfl (fun _ => ok), if_pos en]
    · rw [State.contextEnable_refused hc hr hl off v ok]
    · have en : F.WLG_CTX_CFG_EN.get (mixBits (t.raw (R.WLG_CTX_CFG c)) (F.WLG_CTX_CFG_EN.set v 0) 0xFE0FFFFF000FFFFF) ≠ 1 := by
        rw [Fld.get_mixBits_in _ _ _ (by decide), Fld.get_set_self _ _ _ (by decide)]; decide
      rw [State.contextDisable, State.regSet_WLG_CTX_CFG_off hc hr hl off rfl (fun h => absurd h en), if_neg en]
    · rw [State.contextDisable, State.regSet_WLG_CTX_CFG_on hc hr hl on v (by decide), if_neg (by decide)]
    · rw [State.contextEnable, State.regSet_WLG_CTX_CFG_on hc hr hl on v (by decide), if_pos rfl]
    · rw [State.contextEnable, State.contextDisable, State.regSet_WLG_CTX_CFG_locked hc hr hl,
        State.regSet_WLG_CTX_CFG_locked hc hr hl, hu]
      exact ⟨rfl, rfl⟩
    · rw [State.contextEnable, State.contextDisable,
        State.regSet_noRight (n := 8) (regInfo_WLG_CTX_CFG c hc) (slot_WLG_CTX_CFG hc) hr _ _ rfl,
        State.regSet_noRight (n := 8) (regInfo_WLG_CTX_CFG c hc) (slot_WLG_CTX_CFG hc) hr _ _ rfl, hu]
      exact ⟨rfl, rfl⟩
  · rw [exec_padRelease hf]
    refine ⟨fun hr => ?_, fun hr => ?_⟩
    · rw [State.padRelease_eq hj hbits hr]
    · rw [State.padRelease, State.regSet_noRight (n := 8) (regInfo_PWR_PAD_HOLD j hj) (slot_PWR_PAD_HOLD hj) hr _ _ rfl]
  · rw [exec_faultForce hf]
    refine ⟨fun hr => ?_, fun hr => ?_⟩
    · rw [State.faultForce_eq hj hbits hr]
    · rw [State.faultForce, State.regSet_noRight (n := 8) (regInfo_FCR_FORCE j hj) (slot_FCR_FORCE hj) hr _ _ rfl]
  · rw [exec_latchRearm hf]
    refine ⟨fun hr hl => ?_, fun hr hl => ?_, fun hr => ?_⟩
    · rw [State.latchRearm_eq hr, if_neg (by simp [hl])]
    · rw [State.latchRearm_eq hr, if_pos hl]
    · rw [State.latchRearm, State.regSet_noRight (n := 4) regInfo_FCR_CFG rfl hr _ _ rfl]

end Sys2Proof

namespace Sys2Proof.Machine

section
variable {s : State} {m : Master}

/-! ### SEC_LC_NONCE (R470) -/

/-- A read of a register without fields that reads clear leaves it. -/
theorem State.readClears_none {key k : Nat} {d : RegDef} (hd : regAt key = some d) (h : fieldsMask d (fun f => f.acc == .rc) = 0) :
    s.readClears key k = s := by
  simp [State.readClears, hd, h]

theorem regAt_SEC_LC_NONCE : ∃ d, regAt R.SEC_LC_NONCE = some d ∧ fieldsMask d (fun f => f.acc == .rc) = 0 := by
  have h : (regAt R.SEC_LC_NONCE).map (fieldsMask · (fun f => f.acc == .rc)) = some 0 := by decide +kernel
  exact Option.map_eq_some_iff.mp h

theorem State.readReg_SEC_LC_NONCE : s.readReg R.SEC_LC_NONCE = s.newNonce := by
  rw [State.readReg, if_pos rfl]

theorem State.regRead_SEC_LC_NONCE (hr : s.mpuRight m 6 false = true) :
    s.regRead m R.SEC_LC_NONCE 8 = (leBytes 8 s.newNonce.1.toNat, s.newNonce.2) := by
  obtain ⟨d, hd, clears⟩ := regAt_SEC_LC_NONCE
  have slot : R.SEC_LC_NONCE / 0x40000 = 6 := rfl
  have place : R.SEC_LC_NONCE % 8 = 0 ∧ R.SEC_LC_NONCE / 8 * 8 = R.SEC_LC_NONCE := ⟨rfl, rfl⟩
  simp only [State.regRead, slot, hr, State.getBytes, place.1, place.2, State.readReg_SEC_LC_NONCE, State.readClears_none hd clears]
  simp

/-! ### SEC_LC_CMD (R473) -/

theorem State.regBad_SEC_LC_CMD (w : Word) : s.regBad R.SEC_LC_CMD w =
    (F.SEC_LC_CMD_GO.get w == 1 && (decide (F.SEC_LC_CMD_TARGET.get w > 4) || s.flag R.SEC_LC_CMD F.SEC_LC_CMD_BUSY)) := by
  have hb := regBase_info regInfo_SEC_LC_CMD
  rw [State.regBad_mgmt hb w (by decide)]
  simp only [State.badMgmt, hb]
  rfl

theorem State.afterWrite_SEC_LC_CMD (old w ones : Word) (k : Nat) (env : Option Bool) :
    s.afterWrite R.SEC_LC_CMD old w ones k env = if F.SEC_LC_CMD_GO.get ones = 1 then s.lcGo else s := by
  have hb := regBase_info regInfo_SEC_LC_CMD
  rw [State.afterWrite_mgmt hb _ _ _ _ _ (by decide)]
  simp only [State.afterMgmt, hb]
  rfl

/-- What LIFECYCLE_GO writes. -/
def lcValue (target : Nat) : Word := putFields 0 [(F.SEC_LC_CMD_GO, 1), (F.SEC_LC_CMD_TARGET, target)]

theorem lcValue_go (target : Nat) : F.SEC_LC_CMD_GO.get (lcValue target) = 1 := by
  simp (disch := decide) only [lcValue, putFields, List.foldl_cons, List.foldl_nil, Fld.get_set_self, Fld.get_set_other]
  rfl

theorem mixBits_lcValue (x : Word) (target : Nat) : mixBits x (lcValue target) 0x38000000 = F.SEC_LC_CMD_TARGET.set x target :=
  mixBits_set_mask F.SEC_LC_CMD_TARGET x _ target (by decide)

theorem State.reached_SEC_LC_CMD (hr : s.mpuRight m 6 true = true) : s.Reached m R.SEC_LC_CMD
    { base := 0x180018, width := 0x20, lk := 0xB8000000, rw := 0x38000000, ones := 0x80000000 } (s.slotLocked 6) :=
  State.reached_low regInfo_SEC_LC_CMD rfl (by decide) rfl (by decide) (by decide) rfl hr

/-- GO starts the check of the target, while none runs. -/
theorem State.lcWrite_eq (hr : s.mpuRight m 6 true = true) (hl : s.slotLocked 6 = false) (target : Nat) :
    s.lcWrite m target = if target % 8 > 4 ∨ s.flag R.SEC_LC_CMD F.SEC_LC_CMD_BUSY = true then s.regErr stBadParam R.SEC_LC_CMD
      else (s.put R.SEC_LC_CMD (F.SEC_LC_CMD_TARGET.set (s.raw R.SEC_LC_CMD) target)).lcGo := by
  have r := hl ▸ State.reached_SEC_LC_CMD hr
  have bad : ∀ x, s.regBad R.SEC_LC_CMD (F.SEC_LC_CMD_GO.set (F.SEC_LC_CMD_TARGET.set x target) 1) =
      decide (target % 8 > 4 ∨ s.flag R.SEC_LC_CMD F.SEC_LC_CMD_BUSY = true) := fun x => by
    rw [State.regBad_SEC_LC_CMD]
    simp (disch := decide) only [Fld.get_set_self, Fld.get_set_other]
    simp [F.SEC_LC_CMD_GO, F.SEC_LC_CMD_TARGET]
  rw [State.lcWrite, ← lcValue.eq_def]
  split
  · rename_i h
    refine (State.regSet_go_refused r ⟨by decide, rfl⟩ (by decide) (lcValue_go target) (by decide) ?_).trans (State.noted_false _ _)
    exact (congrArg (fun c => s.regBad _ (F.SEC_LC_CMD_GO.set c 1)) (mixBits_lcValue _ target)).trans
      ((bad _).trans (decide_eq_true h))
  · rename_i h
    rw [State.regSet_go r ⟨by decide, rfl⟩ (by decide) (lcValue_go target) rfl rfl (by decide) (mixBits_lcValue _ target) rfl
      ((bad _).trans (decide_eq_false h)), State.noted_false, State.afterWrite_SEC_LC_CMD]
    rfl

theorem State.lcWrite_locked (hr : s.mpuRight m 6 true = true) (hl : s.slotLocked 6 = true) (target : Nat) :
    s.lcWrite m target = s.violate m R.SEC_LC_CMD 4 true true := by
  have r := hl ▸ State.reached_SEC_LC_CMD hr
  exact State.regSet_locked r _ _ (by decide) (by decide) rfl

/-! ### SEC_FLASH_CMD (R459) -/

theorem State.regBad_SEC_FLASH_CMD (w : Word) : s.regBad R.SEC_FLASH_CMD w =
    (F.SEC_FLASH_CMD_OP.get w == 3 || (F.SEC_FLASH_CMD_GO.get w == 1 && s.flag R.SEC_FLASH_CMD F.SEC_FLASH_CMD_BUSY)) := by
  have hb := regBase_info regInfo_SEC_FLASH_CMD
  rw [State.regBad_mgmt hb w (by decide)]
  simp only [State.badMgmt, hb]
  rfl

theorem State.afterWrite_SEC_FLASH_CMD (old w ones : Word) (k : Nat) (env : Option Bool) :
    s.afterWrite R.SEC_FLASH_CMD old w ones k env = if F.SEC_FLASH_CMD_GO.get ones = 1 then s.flashGo else s := by
  have hb := regBase_info regInfo_SEC_FLASH_CMD
  rw [State.afterWrite_mgmt hb _ _ _ _ _ (by decide)]
  simp only [State.afterMgmt, hb]
  rfl

/-- What the flash operations write. -/
def flashValue (op sector : Nat) : Word :=
  putFields 0 [(F.SEC_FLASH_CMD_GO, 1), (F.SEC_FLASH_CMD_OP, op), (F.SEC_FLASH_CMD_SECTOR, sector)]

theorem flashValue_go (op sector : Nat) : F.SEC_FLASH_CMD_GO.get (flashValue op sector) = 1 := by
  simp (disch := decide) only [flashValue, putFields, List.foldl_cons, List.foldl_nil, Fld.get_set_self, Fld.get_set_other]
  rfl

theorem mixBits_flashValue (x : Word) (op sector : Nat) :
    mixBits x (flashValue op sector) 0x30001FFF = F.SEC_FLASH_CMD_OP.set (F.SEC_FLASH_CMD_SECTOR.set x sector) op := by
  have fields : (0x30001FFF : Nat) = F.SEC_FLASH_CMD_SECTOR.mask ||| F.SEC_FLASH_CMD_OP.mask := by decide
  rw [fields, mixBits_or, mixBits_mask _ _ _ (by decide), mixBits_mask _ _ _ (by decide)]
  simp (disch := decide) only [flashValue, putFields, List.foldl_cons, List.foldl_nil, Fld.get_set_self, Fld.get_set_other,
    Fld.set_mod]

theorem State.reached_SEC_FLASH_CMD (hr : s.mpuRight m 6 true = true) : s.Reached m R.SEC_FLASH_CMD
    { base := 0x180028, width := 0x20, lk := 0xB0001FFF, rw := 0x30001FFF, ones := 0x80000000 } (s.slotLocked 6) :=
  State.reached_low regInfo_SEC_FLASH_CMD rfl (by decide) rfl (by decide) (by decide) rfl hr

/-- GO starts the operation on the sector, while none runs. -/
theorem State.flashWrite_eq (hr : s.mpuRight m 6 true = true) (hl : s.slotLocked 6 = false) {op : Nat} (hop : op < 3)
    (sector : Nat) :
    s.flashWrite m op sector = if s.flag R.SEC_FLASH_CMD F.SEC_FLASH_CMD_BUSY = true then s.regErr stBadParam R.SEC_FLASH_CMD
      else (s.put R.SEC_FLASH_CMD (F.SEC_FLASH_CMD_OP.set (F.SEC_FLASH_CMD_SECTOR.set (s.raw R.SEC_FLASH_CMD) sector) op)).flashGo := by
  have r := hl ▸ State.reached_SEC_FLASH_CMD hr
  have bad : ∀ x, s.regBad R.SEC_FLASH_CMD (F.SEC_FLASH_CMD_GO.set (F.SEC_FLASH_CMD_OP.set x op) 1) =
      s.flag R.SEC_FLASH_CMD F.SEC_FLASH_CMD_BUSY := fun x => by
    rw [State.regBad_SEC_FLASH_CMD]
    simp (disch := decide) only [Fld.get_set_self, Fld.get_set_other]
    have known : op % 2 ^ (F.SEC_FLASH_CMD_OP.hi + 1 - F.SEC_FLASH_CMD_OP.lo) ≠ 3 := by
      rw [Nat.mod_eq_of_lt (Nat.lt_of_lt_of_le hop (by decide))]; omega
    rw [beq_eq_false_iff_ne.mpr known]
    rfl
  rw [State.flashWrite, ← flashValue.eq_def]
  split
  · rename_i h
    refine (State.regSet_go_refused r ⟨by decide, rfl⟩ (by decide) (flashValue_go op sector) (by decide) ?_).trans
      (State.noted_false _ _)
    exact (congrArg (fun c => s.regBad _ (F.SEC_FLASH_CMD_GO.set c 1)) (mixBits_flashValue _ op sector)).trans ((bad _).trans h)
  · rename_i h
    rw [State.regSet_go r ⟨by decide, rfl⟩ (by decide) (flashValue_go op sector) rfl rfl (by decide)
      (mixBits_flashValue _ op sector) rfl ((bad _).trans (by simpa using h)), State.noted_false, State.afterWrite_SEC_FLASH_CMD]
    rfl

theorem State.flashWrite_locked (hr : s.mpuRight m 6 true = true) (hl : s.slotLocked 6 = true) (op sector : Nat) :
    s.flashWrite m op sector = s.violate m R.SEC_FLASH_CMD 4 true true := by
  have r := hl ▸ State.reached_SEC_FLASH_CMD hr
  exact State.regSet_locked r _ _ (by decide) (by decide) rfl

/-! ### MPU_SLOT_n and MPU_VIOL (R477, R478) -/

theorem slot_MPU_SLOT {n : Nat} (hn : n < 256) : R.MPU_SLOT n / 0x40000 = 3 := by simp only [R.MPU_SLOT]; omega

/-- RIGHTS is held by the lock of its own slot, too. -/
theorem State.lkHeld_MPU_SLOT {n : Nat} (hn : n < 256) : s.lkHeld (R.MPU_SLOT n) = (s.slotLocked 3 || s.slotLocked n) := by
  have low : R.MPU_SLOT n < 0x4000000 := by simp only [R.MPU_SLOT]; omega
  have index : (R.MPU_SLOT n - R.MPU_SLOT 0) / 8 = n := by simp only [R.MPU_SLOT]; omega
  rw [State.lkHeld, slot_MPU_SLOT hn, index, isReg_info (regInfo_MPU_SLOT n hn), decide_eq_true low, Bool.true_and]
  rfl

/-- LOCK is set, and RIGHTS stays; where the slot or that of the MPU is locked the write is a violation as well. -/
theorem State.mpuLock_eq {n : Nat} (hn : n < 256) (hr : s.mpuRight m 3 true = true) :
    s.mpuLock m n = if (s.slotLocked 3 || s.slotLocked n) = true then
        (s.put (R.MPU_SLOT n) (F.MPU_SLOT_LOCK.set (s.raw (R.MPU_SLOT n)) 1)).violate m (R.MPU_SLOT n) 4 true true
      else s.put (R.MPU_SLOT n) (F.MPU_SLOT_LOCK.set (s.raw (R.MPU_SLOT n)) 1) := by
  have h := regInfo_MPU_SLOT n hn
  have r : ∀ L, s.lkHeld (R.MPU_SLOT n) = L → s.Reached m (R.MPU_SLOT n) _ L := fun L hl =>
    ⟨h, rfl, by simp only [R.MPU_SLOT]; omega, by rwa [slot_MPU_SLOT hn],
      State.absent_low (by simp only [R.MPU_SLOT, R.PCP_PORT_CFG]; omega), hl, State.roBits_other (regBase_info h) (by decide)⟩
  have go : F.MPU_SLOT_LOCK.get (F.MPU_SLOT_LOCK.set (s.raw (R.MPU_SLOT n)) 1) = 1 := Fld.get_set_self _ _ _ (by decide)
  have rights : ∀ k, F.MPU_SLOT_LOCK.mask &&& k = 0 →
      mixBits (s.raw (R.MPU_SLOT n)) (F.MPU_SLOT_LOCK.set (s.raw (R.MPU_SLOT n)) 1) k = s.raw (R.MPU_SLOT n) := fun k hk => by
    rw [mixBits_set_out _ _ _ _ (by decide) hk, mixBits_self]
  have good := s.regBad_other (regBase_info h) (F.MPU_SLOT_LOCK.set (s.raw (R.MPU_SLOT n)) 1) (by decide)
  rw [State.mpuLock, ← State.lkHeld_MPU_SLOT hn]
  cases hl : s.lkHeld (R.MPU_SLOT n)
  · rw [State.regSet_go_kept (r _ hl) ⟨by decide, rfl⟩ (by decide) go rfl rfl (by decide)
      (congrArg (F.MPU_SLOT_LOCK.set · 1) (rights _ (by decide))) rfl good, State.noted_false,
      State.afterWrite_other (regBase_info h) _ _ _ _ _ (by decide)]
    rfl
  · rw [State.regSet_go_kept (r _ hl) ⟨by decide, rfl⟩ (by decide) go rfl rfl (by decide)
      (congrArg (F.MPU_SLOT_LOCK.set · 1) (rights _ (by decide))) rfl good, State.noted_true (by decide),
      State.afterWrite_other (regBase_info h) _ _ _ _ _ (by decide)]
    rfl

/-- A slot that is locked has LOCK set. -/
theorem State.put_locked {n : Nat} (h : s.slotLocked n = true) :
    s.put (R.MPU_SLOT n) (F.MPU_SLOT_LOCK.set (s.raw (R.MPU_SLOT n)) 1) = s := by
  rw [← State.flag_eq_true.mp h, Fld.set_get _ _ (by decide), State.put_self]

/-- A 1 to VALID clears it. -/
theorem State.violRearm_eq (hr : s.mpuRight m 3 true = true) :
    s.violRearm m = s.put R.MPU_VIOL (F.MPU_VIOL_VALID.set (s.raw R.MPU_VIOL) 0) := by
  obtain ⟨L, r⟩ : ∃ L, s.Reached m R.MPU_VIOL _ L :=
    ⟨_, State.reached_low (n := 3) regInfo_MPU_VIOL rfl (by decide) rfl (by decide) (by decide) rfl hr⟩
  have hb := regBase_info regInfo_MPU_VIOL
  have valid : mixBits 0 (F.MPU_VIOL_VALID.set 0 1) 0x8000000000000000 = F.MPU_VIOL_VALID.one :=
    mixBits_set_mask F.MPU_VIOL_VALID 0 0 1 (by decide)
  rw [State.violRearm, State.regSet_clear r (f := F.MPU_VIOL_VALID) ⟨by decide, rfl⟩ (by cases L <;> exact valid) rfl rfl
    (by decide) rfl (by cases L <;> exact mixBits_zero _ _) (s.regBad_other hb _ (by decide)),
    State.afterWrite_other hb _ _ _ _ _ (by decide), State.noted_no_lk rfl]

end

end Sys2Proof.Machine

namespace Sys2Proof
open Machine

/-- Settles O48: the read of the nonce, and the rows of SEC_LC_CMD, SEC_FLASH_CMD, MPU_SLOT_n and MPU_VIOL, each by what a write
of its register comes to. -/
theorem securityRegisterRows : Obligations.SecurityRegisterRows := by
  unfold Obligations.SecurityRegisterRows
  refine ⟨fun s t dt m hf => ⟨fun w u hr fresh => ?_, fun hr => ?_, fun hr hl => ⟨fun target => ⟨fun ht busy => ?_, fun bad => ?_⟩,
    fun sector x hx => ⟨fun busy => ?_, fun busy u hu => ?_⟩⟩, fun target sector lk u v hu hv cases => ?_⟩, fun s t dt m hf =>
    ⟨fun hr => ⟨fun n hn h3 hl => ?_, fun n hn h3 hl => ?_, fun n hn hl => ?_, ?_⟩, fun hr => ⟨fun n hn => ?_, ?_⟩⟩⟩
  · rw [exec_nonceRead hf, State.nonceRead, State.regRead_SEC_LC_NONCE hr, State.newNonce, fresh]
  · rw [exec_nonceRead hf, State.nonceRead, State.regRead, show R.SEC_LC_NONCE / 0x40000 = 6 from rfl, hr]; rfl
  · rw [exec_lifecycleGo hf, State.lcWrite_eq hr hl, if_neg (by simp [busy]; omega)]
  · rw [exec_lifecycleGo hf, State.lcWrite_eq hr hl, if_pos bad]
  · subst hx
    rw [exec_flashErase hf, exec_flashProgram hf, exec_flashRead hf, State.flashWrite_eq hr hl (by decide),
      State.flashWrite_eq hr hl (by decide), State.flashWrite_eq hr hl (by decide), busy]
    exact ⟨rfl, rfl, rfl⟩
  · subst hu
    rw [exec_flashErase hf, exec_flashProgram hf, exec_flashRead hf, State.flashWrite_eq hr hl (by decide),
      State.flashWrite_eq hr hl (by decide), State.flashWrite_eq hr hl (by decide), busy]
    exact ⟨rfl, rfl, rfl⟩
  · subst hu hv
    rw [exec_lifecycleGo hf, exec_flashErase hf, exec_flashProgram hf, exec_flashRead hf]
    obtain ⟨rfl, hr⟩ | ⟨rfl, hr, hl⟩ := cases
    · have denied : ∀ op, t.flashWrite m op sector = t.violate m R.SEC_FLASH_CMD 4 true false := fun op =>
        State.regSet_noRight regInfo_SEC_FLASH_CMD rfl hr _ _ rfl
      rw [State.lcWrite, State.regSet_noRight (n := 4) regInfo_SEC_LC_CMD rfl hr _ _ rfl, denied, denied, denied]
      exact ⟨rfl, rfl, rfl, rfl⟩
    · rw [State.lcWrite_locked hr hl, State.flashWrite_locked hr hl, State.flashWrite_locked hr hl, State.flashWrite_locked hr hl]
      exact ⟨rfl, rfl, rfl, rfl⟩
  · rw [exec_mpuLock hf, State.mpuLock_eq hn hr, if_neg (by simp [h3, hl])]
  · rw [exec_mpuLock hf, State.mpuLock_eq hn hr, if_pos (by simp [h3])]
  · rw [exec_mpuLock hf, State.mpuLock_eq hn hr, if_pos (by simp [hl]), State.put_locked hl]
  · rw [exec_violationRearm hf, State.violRearm_eq hr]
  · rw [exec_mpuLock hf, State.mpuLock, State.regSet_noRight (n := 4) (regInfo_MPU_SLOT n hn) (slot_MPU_SLOT hn) hr _ _ rfl]
  · rw [exec_violationRearm hf, State.violRearm, State.regSet_noRight (n := 8) regInfo_MPU_VIOL rfl hr _ _ rfl]

end Sys2Proof

namespace Sys2Proof.Machine

section
variable {s : State} {m : Master}

/-! ### AGE_CFG (R490, R502) -/

theorem State.regBad_AGE_CFG (w : Word) : s.regBad R.AGE_CFG w = !within (F.AGE_CFG_PERIOD_MIN.get w) 1 1440 := by
  have hb := regBase_info regInfo_AGE_CFG
  rw [State.regBad_mgmt hb w (by decide)]
  simp only [State.badMgmt, hb]
  rfl

theorem State.afterWrite_AGE_CFG (old w ones : Word) (k : Nat) (env : Option Bool) : s.afterWrite R.AGE_CFG old w ones k env =
    if F.AGE_CFG_GB_CLR.get ones = 1 then s.onAge fun a => { a with clr := true } else s := by
  have hb := regBase_info regInfo_AGE_CFG
  rw [State.afterWrite_mgmt hb _ _ _ _ _ (by decide)]
  simp only [State.afterMgmt, hb]
  rfl

/-- GB_CLR is noted, the other fields as they stand; in a locked slot their write is a violation. -/
theorem State.gbClrWrite_eq (hr : s.mpuRight m 7 true = true)
    (period : 1 ≤ s.fld R.AGE_CFG F.AGE_CFG_PERIOD_MIN ∧ s.fld R.AGE_CFG F.AGE_CFG_PERIOD_MIN ≤ 1440) :
    s.gbClrWrite m = if s.slotLocked 7 = true then (s.onAge fun a => { a with clr := true }).violate m R.AGE_CFG 4 true true
      else s.onAge fun a => { a with clr := true } := by
  have r := State.reached_low (n := 7) regInfo_AGE_CFG rfl (by decide) rfl (by decide) (by decide) rfl hr
  have go : F.AGE_CFG_GB_CLR.get (F.AGE_CFG_GB_CLR.set (s.raw R.AGE_CFG) 1) = 1 := Fld.get_set_self _ _ _ (by decide)
  have rest : mixBits (s.raw R.AGE_CFG) (F.AGE_CFG_GB_CLR.set (s.raw R.AGE_CFG) 1) 0xC00007FF = s.raw R.AGE_CFG := by
    rw [mixBits_set_out _ _ _ _ (by decide) (by decide), mixBits_self]
  have good : s.regBad R.AGE_CFG (F.AGE_CFG_GB_CLR.set (s.raw R.AGE_CFG) 1) = false := by
    rw [State.regBad_AGE_CFG, Fld.get_set_other _ _ _ _ (by decide) (by decide), within]
    exact congrArg (!·) (decide_eq_true period)
  rw [State.gbClrWrite]
  cases hl : s.slotLocked 7
  · rw [hl] at r
    rw [State.regSet_go r ⟨by decide, rfl⟩ (by decide) go rfl rfl (by decide) rest rfl good, State.put_self,
      State.afterWrite_AGE_CFG, State.noted_false]
    rfl
  · rw [hl] at r
    rw [State.regSet_go r ⟨by decide, rfl⟩ (by decide) go rfl rfl (by decide) (mixBits_zero _ _) rfl good, State.put_self,
      State.afterWrite_AGE_CFG, State.noted_true (by decide)]
    rfl

/-! ### AGE_LEDGER_SEL (R497) -/

theorem State.afterWrite_AGE_LEDGER_SEL (old w ones : Word) (k : Nat) (env : Option Bool) :
    s.afterWrite R.AGE_LEDGER_SEL old w ones k env = if F.AGE_LEDGER_SEL_GO.get ones = 1 then s.ledgerGo else s := by
  have hb := regBase_info regInfo_AGE_LEDGER_SEL
  rw [State.afterWrite_mgmt hb _ _ _ _ _ (by decide)]
  simp only [State.afterMgmt, hb]
  rfl

/-- GO fetches the record at the index. -/
theorem State.ledgerRead_eq (hr : s.mpuRight m 7 true = true) (index : Nat) :
    s.ledgerRead m index = (s.put R.AGE_LEDGER_SEL (F.AGE_LEDGER_SEL_INDEX.set (s.raw R.AGE_LEDGER_SEL) index)).ledgerGo := by
  obtain ⟨L, r⟩ : ∃ L, s.Reached m R.AGE_LEDGER_SEL _ L :=
    ⟨_, State.reached_low (n := 7) regInfo_AGE_LEDGER_SEL rfl (by decide) rfl (by decide) (by decide) rfl hr⟩
  have go : F.AGE_LEDGER_SEL_GO.get (putFields 0 [(F.AGE_LEDGER_SEL_GO, 1), (F.AGE_LEDGER_SEL_INDEX, index)]) = 1 := by
    simp (disch := decide) only [putFields, List.foldl_cons, List.foldl_nil, Fld.get_set_self, Fld.get_set_other]
    rfl
  have taken : mixBits (s.raw R.AGE_LEDGER_SEL) (putFields 0 [(F.AGE_LEDGER_SEL_GO, 1), (F.AGE_LEDGER_SEL_INDEX, index)]) 0x7FF =
      F.AGE_LEDGER_SEL_INDEX.set (s.raw R.AGE_LEDGER_SEL) index := mixBits_set_mask F.AGE_LEDGER_SEL_INDEX _ _ _ (by decide)
  rw [State.ledgerRead, State.regSet_go r (f := F.AGE_LEDGER_SEL_GO) ⟨by decide, rfl⟩ (by cases L <;> decide) go rfl
    (Nat.zero_and _) (by decide) (by cases L <;> exact taken) rfl (State.regBad_other (regBase_info r.info) _ (by decide)),
    State.afterWrite_AGE_LEDGER_SEL, State.noted_no_lk rfl]
  rfl

/-! ### AGE_CAL_SEC (R500) -/

theorem State.afterWrite_AGE_CAL_SEC (old w ones : Word) (k : Nat) (env : Option Bool) :
    s.afterWrite R.AGE_CAL_SEC old w ones k env =
    { s with aon := { s.aon with cal := F.AGE_CAL_SEC_SECONDS.get w, calAt := s.aon.ns, calValid := true } } := by
  have hb := regBase_info regInfo_AGE_CAL_SEC
  rw [State.afterWrite_mgmt hb _ _ _ _ _ (by decide)]
  simp only [State.afterMgmt, hb]
  rfl

theorem State.reached_AGE_CAL_SEC (hr : s.mpuRight m 7 true = true) : s.Reached m R.AGE_CAL_SEC
    { base := 0x1C0018, width := 0x40, lk := 0xFFFFFFFFFFFF, rw := 0xFFFFFFFFFFFF } (s.slotLocked 7) :=
  State.reached_low regInfo_AGE_CAL_SEC rfl (by decide) rfl (by decide) (by decide) rfl hr

theorem seconds_get {n : Nat} (hn : n < 2 ^ 48) : F.AGE_CAL_SEC_SECONDS.get (BitVec.ofNat 64 n) = n := by
  have toNat : (BitVec.ofNat 64 n).toNat = n := by rw [BitVec.toNat_ofNat]; omega
  rw [Fld.get, bitsOf, toNat]
  exact Nat.mod_eq_of_lt hn

/-- The calendar's seconds are all that the register holds. -/
theorem seconds_set {c n : Nat} (hc : c < 2 ^ 48) (hn : n < 2 ^ 48) :
    F.AGE_CAL_SEC_SECONDS.set (BitVec.ofNat 64 c) n = BitVec.ofNat 64 n := by
  refine BitVec.eq_of_getLsbD_eq fun i hi => ?_
  rw [Fld.getLsbD_set _ _ _ _ (by decide), getLsbD_ofNat_word, getLsbD_ofNat_word]
  split
  · simp [hi, F.AGE_CAL_SEC_SECONDS]
  · rename_i h
    have high : 48 ≤ i := by simp only [F.AGE_CAL_SEC_SECONDS] at h; omega
    have wide : (2 : Nat) ^ 48 ≤ 2 ^ i := Nat.pow_le_pow_right (by decide) high
    rw [Nat.testBit_lt_two_pow (hc.trans_le wide), Nat.testBit_lt_two_pow (hn.trans_le wide)]

theorem State.calendar_lt : s.calendar < 2 ^ 48 := Nat.mod_lt _ (Nat.two_pow_pos _)

/-- The calendar is set, and valid. -/
theorem State.calendarSet_eq (hr : s.mpuRight m 7 true = true) (hl : s.slotLocked 7 = false) {n : Nat} (hn : n < 2 ^ 48) {u : State}
    (hu : u = if n = s.calendar then s else s.setRaw R.AGE_CAL_SEC (BitVec.ofNat 64 n)) :
    s.calendarSet m n = { u with aon := { u.aon with cal := n, calAt := u.aon.ns, calValid := true } } := by
  have r := hl ▸ State.reached_AGE_CAL_SEC hr
  have held : s.held R.AGE_CAL_SEC = BitVec.ofNat 64 s.calendar := if_pos rfl
  have taken : mixBits (s.held R.AGE_CAL_SEC) (F.AGE_CAL_SEC_SECONDS.set 0 n) 0xFFFFFFFFFFFF = BitVec.ofNat 64 n := by
    rw [held]
    exact (mixBits_set_mask F.AGE_CAL_SEC_SECONDS _ _ _ (by decide)).trans (seconds_set State.calendar_lt hn)
  have same : (BitVec.ofNat 64 n = BitVec.ofNat 64 s.calendar) = (n = s.calendar) :=
    propext ⟨fun h => by rw [← seconds_get hn, h, seconds_get State.calendar_lt], fun h => by rw [h]⟩
  rw [State.calendarSet, State.regSet_let r (w := BitVec.ofNat 64 n) (.inl (by decide))
    (State.regBad_other (regBase_info r.info) _ (by decide)) ?_ rfl, State.noted_false,
    State.afterWrite_AGE_CAL_SEC, seconds_get hn, State.regLeft, State.quiesceHeld_none rfl, held]
  · simp only [same, hu]; rfl
  · rw [RegInfo.left_vals _ _ _ _ rfl rfl, State.quiesceHeld_none rfl]; exact taken

/-! ### PMC_SEL_k (R507) -/

theorem slot_PMC_SEL {k : Nat} (hk : k < 2048) : R.PMC_SEL k / 0x40000 = 8 := by simp only [R.PMC_SEL]; omega

theorem State.regBad_PMC_SEL {k : Nat} (hk : k < 2048) (w : Word) : s.regBad (R.PMC_SEL k) w = (F.PMC_SEL_MODE.get w == 3) := by
  have hb := regBase_info (regInfo_PMC_SEL k hk)
  have ne : ∀ i ∈ [R.CTL_COMMIT_CFG, R.TMG_SNAP_SEL, R.SEC_LC_CMD, R.SEC_FLASH_CMD, R.AGE_CFG, R.AGE_MARGIN_CFG], R.PMC_SEL k ≠ i :=
    keys_ne_fixed hb (by decide)
  simp only [List.forall_mem_cons] at ne
  rw [State.regBad_mgmt hb w (by decide)]
  simp only [State.badMgmt, hb, ne]
  rfl

/-- A counter that is cleared. -/
def State.counterZero (s : State) (k : Nat) : State := { s with pmc := { s.pmc with cnt := tdel s.pmc.cnt k } }

theorem State.afterWrite_PMC_SEL {k : Nat} (hk : k < 2048) (old w ones : Word) (j : Nat) (env : Option Bool) :
    s.afterWrite (R.PMC_SEL k) old w ones j env = if F.PMC_SEL_CLR.get ones = 1 then s.counterZero k else s := by
  have hb := regBase_info (regInfo_PMC_SEL k hk)
  have ne : ∀ i ∈ [R.PWR_WAKE_CFG, R.SEC_LC_CMD, R.SEC_FLASH_CMD, R.AGE_CFG, R.AGE_CAL_SEC, R.AGE_LEDGER_SEL], R.PMC_SEL k ≠ i :=
    keys_ne_fixed hb (by decide)
  have index : (R.PMC_SEL k - 0x210000) / 8 = k := by simp only [R.PMC_SEL]; omega
  simp only [List.forall_mem_cons] at ne
  rw [State.afterWrite_mgmt hb _ _ _ _ _ (by decide)]
  simp only [State.afterMgmt, hb, ne, index]
  rfl

/-- CLR clears the counter, the other fields as they stand; in a locked slot their write is a violation. -/
theorem State.counterClear_eq {k : Nat} (hk : k < 2048) (hr : s.mpuRight m 8 true = true)
    (mode : s.fld (R.PMC_SEL k) F.PMC_SEL_MODE ≠ 3) :
    s.counterClear m k = if s.slotLocked 8 = true then (s.counterZero k).violate m (R.PMC_SEL k) 8 true true else s.counterZero k := by
  have r := State.reached_low (regInfo_PMC_SEL k hk) rfl (by simp only [R.PMC_SEL]; omega) (slot_PMC_SEL hk) (by decide) (by decide)
    rfl hr
  have go : F.PMC_SEL_CLR.get (F.PMC_SEL_CLR.set (s.raw (R.PMC_SEL k)) 1) = 1 := Fld.get_set_self _ _ _ (by decide)
  have rest : mixBits (s.raw (R.PMC_SEL k)) (F.PMC_SEL_CLR.set (s.raw (R.PMC_SEL k)) 1) 0xB000FFFF8FFFFF00 = s.raw (R.PMC_SEL k) := by
    rw [mixBits_set_out _ _ _ _ (by decide) (by decide), mixBits_self]
  have good : s.regBad (R.PMC_SEL k) (F.PMC_SEL_CLR.set (s.raw (R.PMC_SEL k)) 1) = false := by
    rw [State.regBad_PMC_SEL hk, Fld.get_set_other _ _ _ _ (by decide) (by decide)]
    exact beq_eq_false_iff_ne.mpr mode
  rw [State.counterClear]
  cases hl : s.slotLocked 8
  · rw [hl] at r
    rw [State.regSet_go r ⟨by decide, rfl⟩ (by decide) go rfl rfl (by decide) rest rfl good, State.put_self,
      State.afterWrite_PMC_SEL hk, State.noted_false]
    rfl
  · rw [hl] at r
    rw [State.regSet_go r ⟨by decide, rfl⟩ (by decide) go rfl rfl (by decide) (mixBits_zero _ _) rfl good, State.put_self,
      State.afterWrite_PMC_SEL hk, State.noted_true (by decide)]
    rfl

/-! ### CLK_RESET (R528) -/

theorem State.afterWrite_CLK_RESET (old w ones : Word) (k : Nat) (ok : Bool) :
    s.afterWrite R.CLK_RESET old w ones k (some ok) = if F.CLK_RESET_WARM.get ones = 1 then s.warmReset ok else s := by
  have hb := regBase_info regInfo_CLK_RESET
  rw [State.afterWrite_mgmt hb _ _ _ _ _ (by decide)]
  simp only [State.afterMgmt, hb]
  rfl

/-- WARM runs a warm reset. -/
theorem State.warmWrite_eq (hr : s.mpuRight m 5 true = true) (ok : Bool) : s.warmWrite m ok = s.warmReset ok := by
  obtain ⟨L, r⟩ : ∃ L, s.Reached m R.CLK_RESET _ L :=
    ⟨_, State.reached_low (n := 5) regInfo_CLK_RESET rfl (by decide) rfl (by decide) (by decide) rfl hr⟩
  rw [State.warmWrite, State.regSet_go r (f := F.CLK_RESET_WARM) ⟨by decide, rfl⟩ (by cases L <;> decide) rfl rfl (Nat.zero_and _)
    (by decide) (by cases L <;> exact mixBits_zero _ _) rfl (State.regBad_other (regBase_info r.info) _ (by decide)),
    State.put_self, State.afterWrite_CLK_RESET, State.noted_no_lk rfl]
  rfl

end

end Sys2Proof.Machine

namespace Sys2Proof
open Machine

/-- Settles O49: the rows of ageing, the counters and the resets, each by what a write of its register comes to. -/
theorem ageingRegisterRows : Obligations.AgeingRegisterRows := by
  unfold Obligations.AgeingRegisterRows
  refine ⟨fun s t dt m hf => ⟨fun hr => ⟨fun lo hi u hu => ⟨fun hl => ?_, fun hl => ?_⟩, fun index => ?_,
    fun n hn => ⟨fun hl u hu => ?_, fun hl => ?_⟩⟩, fun hr => ⟨?_, fun index => ?_, fun n => ?_⟩⟩,
    fun s t dt k m hf hk => ⟨fun hr mode u hu => ⟨fun hl => ?_, fun hl => ?_⟩, fun hr => ?_⟩, fun s t dt m ok hf => ⟨fun hr => ?_,
      fun hr => ?_⟩⟩
  · rw [exec_gbClr hf, State.gbClrWrite_eq hr ⟨lo, hi⟩, if_neg (by simp [hl]), hu]
  · rw [exec_gbClr hf, State.gbClrWrite_eq hr ⟨lo, hi⟩, if_pos hl, hu]
  · rw [exec_ledgerRead hf, State.ledgerRead_eq hr]
  · rw [exec_calendarSet hf, State.calendarSet_eq hr hl hn hu]
  · have r := hl ▸ State.reached_AGE_CAL_SEC hr
    rw [exec_calendarSet hf, State.calendarSet, State.regSet_locked (n := 8) r _ _ (by decide) (by decide) rfl]
  · rw [exec_gbClr hf, State.gbClrWrite, State.regSet_noRight (n := 4) regInfo_AGE_CFG rfl hr _ _ rfl]
  · rw [exec_ledgerRead hf, State.ledgerRead, State.regSet_noRight (n := 4) regInfo_AGE_LEDGER_SEL rfl hr _ _ rfl]
  · rw [exec_calendarSet hf, State.calendarSet, State.regSet_noRight (n := 8) regInfo_AGE_CAL_SEC rfl hr _ _ rfl]
  · rw [exec_counterClear hf, State.counterClear_eq hk hr mode, if_neg (by simp [hl]), hu, State.counterZero]
  · rw [exec_counterClear hf, State.counterClear_eq hk hr mode, if_pos hl, hu, State.counterZero]
  · rw [exec_counterClear hf, State.counterClear, State.regSet_noRight (n := 8) (regInfo_PMC_SEL k hk) (slot_PMC_SEL hk) hr _ _ rfl]
  · rw [exec_warmReset hf, State.warmWrite_eq hr]
  · rw [exec_warmReset hf, State.warmWrite, State.regSet_noRight (n := 4) regInfo_CLK_RESET rfl hr _ _ rfl]

end Sys2Proof

namespace Sys2Proof.Machine

/-! ### Memories: bytes written and read back -/

/-- A write of bytes leaves every byte before and after them. -/
theorem Mem.rd_wrN_outside {d : Byte} (l : Mem) (a i : Nat) (bs : List Byte) (h : Mem.wf d l = true)
    (hi : i < a ∨ a + bs.length ≤ i) : Mem.rd d (Mem.wrN d l a bs) i = Mem.rd d l i := by
  induction bs generalizing l a with
  | nil => rfl
  | cons b bs ih =>
    rw [List.length_cons] at hi
    rw [Mem.wrN, ih _ _ (Mem.wf_wr l a b h) (by omega), Mem.rd_wr l a i b h, if_neg (by omega)]

/-- A write of bytes reads back. -/
theorem Mem.rdN_wrN {d : Byte} (l : Mem) (a : Nat) (bs : List Byte) (h : Mem.wf d l = true) :
    Mem.rdN d (Mem.wrN d l a bs) a bs.length = bs := by
  induction bs generalizing l a with
  | nil => rfl
  | cons b bs ih =>
    have first : Mem.rd d (Mem.wrN d (Mem.wr d l a b) (a + 1) bs) a = b := by
      rw [Mem.rd_wrN_outside _ _ _ _ (Mem.wf_wr l a b h) (by omega), Mem.rd_wr l a a b h, if_pos rfl]
    rw [Mem.wrN, List.length_cons, Mem.rdN, first, ih _ _ (Mem.wf_wr l a b h)]

end Sys2Proof.Machine

namespace Sys2Proof
open Machine

/-- Settles O57: by induction on the bytes, from what one byte's write does (`Mem.rd_wr`, `Mem.wf_wr`). -/
theorem memoryHoldsWhatIsWritten : Obligations.MemoryHoldsWhatIsWritten := by
  unfold Obligations.MemoryHoldsWhatIsWritten
  exact fun d l a bs h => ⟨Mem.wf_wrN l a bs h, Mem.rdN_wrN l a bs h, fun i hi => Mem.rd_wrN_outside l a i bs h hi⟩

end Sys2Proof

namespace Sys2Proof.Machine

/-! ### LGgg_BITSLIP: a position beyond its field -/

/-- A part in reset's state but for lane group 0: MANUAL is set, and lane 0's bit slip stands at 128, which POS of
LGgg_BITSLIP, seven bits wide, does not hold. -/
def slipBeyond : State := (State.reset.setFld (R.LG_BRINGUP 0) F.LG_BRINGUP_MANUAL 1).setLane 0 { pos := 128 }

theorem slipBeyond_runs : slipBeyond.aon.mode = 0 := by decide +kernel

/-- The value that the row writes: POS as the lane has it, cut to its field. -/
def slipBeyondWord : Word := F.LG_BITSLIP_POS.set ((slipBeyond.elapse 0).raw (R.LG_BITSLIP 0))
  ((slipBeyond.elapse 0).lane (9 * 0 + (slipBeyond.elapse 0).fld (R.LG_BITSLIP 0) F.LG_BITSLIP_LANE)).pos

/-- The write moves the lane to the position that the field holds. -/
theorem slipBeyond_row : ((((slipBeyond.elapse 0).bitslipWrite .manager 0).settle).lane 0).pos = 0 := by decide +kernel

/-- The statement leaves it. -/
theorem slipBeyond_stated :
    (((((slipBeyond.elapse 0).put (R.LG_BITSLIP 0) slipBeyondWord).bitslipDone 0).settle).lane 0).pos = 128 := by decide +kernel

/-- The row's conditions hold there. -/
theorem slipBeyond_conditions : (slipBeyond.elapse 0).mpuRight .manager (18 + 0) true = true ∧
    (slipBeyond.elapse 0).badLane (R.LG_BITSLIP 0) slipBeyondWord = false ∧
    (slipBeyond.elapse 0).flag (R.LG_BRINGUP 0) F.LG_BRINGUP_MANUAL = true ∧ (slipBeyond.elapse 0).slotLocked (18 + 0) = false := by
  decide +kernel

end Sys2Proof.Machine

namespace Sys2Proof
open Machine

/-- Refutes O46: its first clause has a manual bit slip leave the lane's position as it stands, in every state. The model keeps that
position as a number of any size and writes the seven bits of POS, so from a position of 128 (`slipBeyond`) the lane moves to 0. -/
theorem not_laneRegisterRows : ¬ Obligations.LaneRegisterRows := by
  unfold Obligations.LaneRegisterRows
  intro h
  have found : Finds slipBeyond 0 (slipBeyond.elapse 0) := ⟨slipBeyond_runs, rfl⟩
  obtain ⟨slip, -, -⟩ := h slipBeyond _ 0 0 (R.LG_BITSLIP 0) .manager found (by decide)
  obtain ⟨allowed, -, -⟩ := slip slipBeyondWord rfl rfl
  obtain ⟨right, good, manual, unlocked⟩ := slipBeyond_conditions
  have row := (allowed right good).1 manual unlocked
  rw [exec_bitslipDone found] at row
  have pos := congrArg (fun u : State => (u.lane 0).pos) (Host.Outcome.next.inj row)
  exact absurd (slipBeyond_row.symm.trans (pos.trans slipBeyond_stated)) (by decide)

end Sys2Proof

namespace Sys2Proof.Machine

/-! ### Writes of the rings' registers: those of the management function and of the failure rings (R45, R333) -/

/-- Whether a register is written as those of the rings are: it has 32 bits and no LK, shadow or W1S fields, no slice takes its
writes, and it is none of those that a write treats apart. -/
def RegInfo.ofRing (x : RegInfo) : Bool :=
  !x.sh && x.lk == 0 && x.ones == 0 && x.width == 32
    && decide (x.base ∉ [R.DMV_DB_SQ_PI 0, R.DMV_DB_CQ_CI 0, R.DMV_SLICE_CTL 0, R.LG_BITSLIP 0, R.MPU_SLOT 0, R.SGL_SWAP_CMD 0 0,
      R.AGE_CAL_SEC])
    && decide (x.quiesce < 2 ^ 32) && decide (x.rw < 2 ^ 32) && decide (x.clears < 2 ^ 32)

/-- The bits that a whole write of such a register may change, where those of `ro` are read-only at its key. -/
def openBits (ro : Nat) : Nat := (2 ^ 32 - 1) &&& (2 ^ 64 - 1 - (ro &&& (2 ^ 64 - 1)))

/-- The fields of a register that its block, while it runs, does not let change (R14). -/
def RegInfo.frozen (x : RegInfo) (ro : Nat) : Nat := x.quiesce &&& openBits ro

/-- Its other fields that take a written value. -/
def RegInfo.live (x : RegInfo) (ro : Nat) : Nat := x.rw &&& openBits ro

/-- The ring registers lie in one block of each kind of ring: in slot 1 of BAR0, or in the data-mover functions. -/
def RingId.first : RingId → Nat
  | .fail _ => R.DMV_FAIL_BASE 0
  | _ => R.CTL_BASE 0

theorem RingId.fail_or (r : RingId) : (∃ v, r = .fail v) ∨ ∀ v, r ≠ .fail v := by
  cases r with
  | fail v => exact .inl ⟨v, rfl⟩
  | _ => exact .inr fun _ h => by cases h

theorem RingId.base_aligned (r : RingId) : r.base % 8 = 0 := by
  cases r with
  | fail v => simp only [RingId.base, R.DMV_FAIL_BASE]; omega
  | _ => rfl

/-- A ring of the management function lies in the first registers of slot 1. -/
theorem RingId.base_low {r : RingId} (h : ∀ v, r ≠ .fail v) : 0x40000 ≤ r.base ∧ r.base ≤ 0x40100 := by
  cases r with
  | fail v => exact absurd rfl (h v)
  | _ => decide

theorem RingId.slot_one {r : RingId} (h : ∀ v, r ≠ .fail v) {o : Nat} (ho : o < 0x40) : (r.base + o) / 0x40000 = 1 := by
  have := RingId.base_low h; omega

/-- What the register map says of the CFG register of a ring. -/
def RingId.cfgInfo (r : RingId) : RegInfo := { base := r.first + 0x08, width := 0x20, quiesce := 0x1F, rw := 0x8FFFFF00 }

/-- Of its CI register. -/
def RingId.ciInfo (r : RingId) : RegInfo := { base := r.first + 0x18, width := 0x20, rw := 0x1FFFF }

/-- And of its STAT register. -/
def RingId.statInfo (r : RingId) : RegInfo := { base := r.first + 0x20, width := 0x20, clears := 0x40000000 }

/-- What is said of a register of each ring, where it is said of one kind of ring and of the other. -/
theorem RingId.regInfo_of {o : Nat} (f : Nat → RegInfo) (mgmt : ∀ i < 5, regInfo (R.CTL_BASE i + o) = some (f (R.CTL_BASE 0)))
    (fail : ∀ v < 32, regInfo (R.DMV_FAIL_BASE v + o) = some (f (R.DMV_FAIL_BASE 0))) (r : RingId) :
    regInfo (r.base + o) = some (f r.first) := by
  cases r with
  | mcr => exact mgmt 0 (by decide)
  | evr => exact mgmt 1 (by decide)
  | ftr => exact mgmt 2 (by decide)
  | smr => exact mgmt 3 (by decide)
  | cdr => exact mgmt 4 (by decide)
  | fail v => exact fail v v.isLt

theorem RingId.regInfo_cfg (r : RingId) : regInfo r.cfg = some r.cfgInfo :=
  RingId.regInfo_of (o := 0x08) (fun b => { base := b + 0x08, width := 0x20, quiesce := 0x1F, rw := 0x8FFFFF00 })
    (fun i hi => (congrArg regInfo (by simp only [R.CTL_BASE, R.CTL_CFG]; omega)).trans (regInfo_CTL_CFG i hi))
    (fun v hv => (congrArg regInfo (by simp only [R.DMV_FAIL_BASE, R.DMV_FAIL_CFG]; omega)).trans
      (regInfo_DMV_FAIL_CFG v hv)) r

theorem RingId.regInfo_ci (r : RingId) : regInfo r.ci = some r.ciInfo :=
  RingId.regInfo_of (o := 0x18) (fun b => { base := b + 0x18, width := 0x20, rw := 0x1FFFF })
    (fun i hi => (congrArg regInfo (by simp only [R.CTL_BASE, R.CTL_CI]; omega)).trans (regInfo_CTL_CI i hi))
    (fun v hv => (congrArg regInfo (by simp only [R.DMV_FAIL_BASE, R.DMV_FAIL_CI]; omega)).trans
      (regInfo_DMV_FAIL_CI v hv)) r

theorem RingId.regInfo_stat (r : RingId) : regInfo r.stat = some r.statInfo :=
  RingId.regInfo_of (o := 0x20) (fun b => { base := b + 0x20, width := 0x20, clears := 0x40000000 })
    (fun i hi => (congrArg regInfo (by simp only [R.CTL_BASE, R.CTL_STAT]; omega)).trans (regInfo_CTL_STAT i hi))
    (fun v hv => (congrArg regInfo (by simp only [R.DMV_FAIL_BASE, R.DMV_FAIL_STAT]; omega)).trans
      (regInfo_DMV_FAIL_STAT v hv)) r

section
variable {s : State} {m : Master} {r : RingId} {o : Nat} {x : RegInfo} {ro : Nat}

/-- The registers of rings are there in every part. -/
theorem State.absent_ring (s : State) (r : RingId) (ho : o < 0x40) : s.absent (r.base + o) = false := by
  obtain ⟨v, rfl⟩ | h := r.fail_or
  · exact State.absent_high (by simp only [RingId.base, R.DMV_FAIL_BASE, R.PCP_PORT_CFG]; omega)
  · have := RingId.base_low h
    exact State.absent_low (by simp only [R.PCP_PORT_CFG]; omega)

/-- Only the doorbell and control registers of the slices are written through them. -/
theorem State.sliceWrite_other {key b : Nat} (h : regBase key = b)
    (hb : b ∉ [R.DMV_DB_SQ_PI 0, R.DMV_DB_CQ_CI 0, R.DMV_SLICE_CTL 0]) (v : Word) (k : Nat) :
    s.sliceWrite key v k = none := by
  simp only [List.mem_cons, List.not_mem_nil, or_false, not_or] at hb
  simp [State.sliceWrite, h, hb]

/-- The rings of the management function are written in BAR0. -/
theorem State.ringSet_mgmt (h : ∀ v, r ≠ .fail v) (key : Nat) (v : Word) : s.ringSet m r key v = s.regSet m key v := by
  cases r with
  | fail n => exact absurd rfl (h n)
  | _ => rfl

/-- A write of a register of a ring by a class that has the right to it: `x` is what the register map says of it, and the bits of
`ro` are read-only at its key. -/
structure State.RingReached (s : State) (m : Master) (r : RingId) (key : Nat) (x : RegInfo) (ro : Nat) : Prop where
  info : regInfo key = some x
  ofRing : x.ofRing = true
  place : ∃ o, key = r.base + o ∧ o < 0x40 ∧ o % 8 = 0
  right : (∀ v, r ≠ .fail v) → s.mpuRight m 1 true = true
  readOnly : s.roBits key = ro

/-- A ring register is written whole, and none of its fields is under a lock. -/
theorem State.RingReached.take {key : Nat} (q : s.RingReached m r key x ro) (v : Word) :
    s.ringSet m r key v = s.regTake x key (BitVec.ofNat 64 (v.toNat % 2 ^ 32)) (2 ^ 32 - 1) (openBits ro) ro none := by
  obtain ⟨h, hx, ⟨o, rfl, ho, ha⟩, hr, hro⟩ := q
  simp only [RegInfo.ofRing, Bool.and_eq_true, Bool.not_eq_true', beq_iff_eq, decide_eq_true_eq] at hx
  obtain ⟨⟨⟨⟨⟨⟨⟨sh, lk⟩, -⟩, width⟩, base⟩, -⟩, -⟩, -⟩ := hx
  have direct : ∀ v k, s.sliceWrite (r.base + o) v k = none := fun v k =>
    State.sliceWrite_other (regBase_info h) (fun hb => base (List.mem_append_left _ hb)) v k
  have aligned : (r.base + o) % 8 = 0 := by have := r.base_aligned; omega
  have openAll : ∀ L, freeBits x (2 ^ 32 - 1) ro L = openBits ro := fun L => by simp [openBits, freeBits, lk]
  obtain ⟨n, rfl⟩ | nf := r.fail_or
  · obtain ⟨d, hd, rfl⟩ := regInfo_def h
    have width : d.width = 32 := width
    have one := State.putBytes_one s none 1 _ 4 v.toNat aligned (by decide) (by decide)
    rw [State.regApply_take h sh (State.absent_ring s _ ho) (direct _ _) rfl hro] at one
    simp only [State.ringSet, State.fnSet, hd, width]
    exact (congrArg Prod.snd one).trans (by rw [← openAll]; rfl)
  · have right := hr nf
    rw [← RingId.slot_one nf ho] at right
    rw [State.ringSet_mgmt nf, State.regSet_take h sh (.inl width) aligned right (State.absent_ring s _ ho) direct rfl hro]
    simp only [lk, width, openAll, ite_self, Nat.zero_and, ne_eq, not_true_eq_false, if_false]

section
variable {key : Nat} (q : s.RingReached m r key x ro)
include q

/-- A write of a ring register, in full. -/
theorem State.RingReached.set_eq (v : Word) :
    s.ringSet m r key v =
      if x.frozen ro ||| x.live ro = 0 ∧ mixBits 0 v (x.clears &&& openBits ro) = 0 then s
      else if s.regBad key (mixBits (s.raw key) v (x.frozen ro ||| x.live ro)) then s.regErr stBadParam key
      else
        let runs := x.frozen ro ≠ 0 && s.quiesceRuns key
        let w := mixBits (s.raw key) v (x.live ro ||| (if runs then 0 else x.frozen ro))
          &&& ~~~mixBits 0 v (x.clears &&& openBits ro)
        let e := if runs then s.regErr stCfgBusy key else s
        (if w = s.raw key then e else e.setRaw key w).afterWrite key (s.raw key) w 0 (openBits ro) none := by
  rw [q.take]
  have hx := q.ofRing
  simp only [RegInfo.ofRing, Bool.and_eq_true, Bool.not_eq_true', beq_iff_eq, decide_eq_true_eq] at hx
  obtain ⟨⟨⟨⟨⟨⟨-, ones⟩, -⟩, base⟩, hq⟩, hw⟩, hc⟩ := hx
  simp only [List.mem_cons, List.not_mem_nil, or_false, not_or] at base
  obtain ⟨-, -, -, slip, slot, swap, cal⟩ := base
  have held : s.held key = s.raw key := State.held_ne (by
    rintro rfl
    exact cal ((regBase_info q.info).symm.trans (regBase_info regInfo_AGE_CAL_SEC)))
  have cut : ∀ (y : Word) {k : Nat}, k < 2 ^ 32 → mixBits y (BitVec.ofNat 64 (v.toNat % 2 ^ 32)) k = mixBits y v k :=
    fun y _ hk => mixBits_low32 y v _ hk
  have all : x.frozen ro ||| x.live ro < 2 ^ 32 := Nat.or_lt_two_pow (and_lt_of_lt hq) (and_lt_of_lt hw)
  have part : ∀ c : Bool, x.live ro ||| (if c then 0 else x.frozen ro) < 2 ^ 32 := fun c =>
    Nat.or_lt_two_pow (and_lt_of_lt hw) (by cases c; exacts [and_lt_of_lt hq, Nat.two_pow_pos _])
  simp only [State.regTake, and_eq_mixBits, beq_eq_false_iff_ne.mpr slip, beq_eq_false_iff_ne.mpr slot,
    beq_eq_false_iff_ne.mpr swap, ones, held, Nat.zero_and, mixBits_zero, Bool.or_self, Bool.false_eq_true, if_false, false_and,
    Bool.not_false, and_true, true_and, ← RegInfo.frozen.eq_def, ← RegInfo.live.eq_def]
  rw [cut _ all, cut _ (and_lt_of_lt hc), cut _ (part _), show (0 : Word).toNat = 0 from rfl, mixBits_zero]

/-- One that reaches no field that may change. -/
theorem State.RingReached.set_nothing (hc : x.clears = 0) (h : x.frozen ro ||| x.live ro = 0) (v : Word) :
    s.ringSet m r key v = s := by
  rw [q.set_eq, hc, Nat.zero_and, mixBits_zero, if_pos ⟨h, rfl⟩]

/-- One that leaves a value which the ring refuses is ignored as a whole. -/
theorem State.RingReached.set_refused (h : x.frozen ro ||| x.live ro ≠ 0) {v : Word}
    (hb : s.regBad key (mixBits (s.raw key) v (x.frozen ro ||| x.live ro)) = true) :
    s.ringSet m r key v = s.regErr stBadParam key := by
  rw [q.set_eq, if_neg (fun n => h n.1), if_pos hb]

/-- One of a register that takes values alone, while its ring lets them change. -/
theorem State.RingReached.set_put (hc : x.clears = 0) (h : x.frozen ro ||| x.live ro ≠ 0)
    (hq : x.frozen ro = 0 ∨ s.quiesceRuns key = false) {v w : Word} (hw : mixBits (s.raw key) v (x.frozen ro ||| x.live ro) = w)
    (hb : s.regBad key w = false) :
    s.ringSet m r key v = (s.put key w).afterWrite key (s.raw key) w 0 (openBits ro) none := by
  have runs : (decide (x.frozen ro ≠ 0) && s.quiesceRuns key) = false := by
    rcases hq with hq | hq <;> simp [hq]
  subst hw
  rw [q.set_eq, if_neg (fun n => h n.1), if_neg (by simp [hb])]
  simp only [runs, hc, Nat.zero_and, mixBits_zero, andNot_none, Bool.false_eq_true, if_false, Nat.or_comm (x.live ro), State.put]

/-- One that reaches fields which the enabled ring holds: it is reported, and the other fields take their values (R58). -/
theorem State.RingReached.set_busy (hc : x.clears = 0) (hq : x.frozen ro ≠ 0 ∧ s.quiesceRuns key = true) {v w : Word}
    (hw : mixBits (s.raw key) v (x.live ro) = w)
    (hb : s.regBad key (mixBits (s.raw key) v (x.frozen ro ||| x.live ro)) = false) {e : State} (he : e = s.regErr stCfgBusy key) :
    s.ringSet m r key v = (if w = s.raw key then e else e.setRaw key w).afterWrite key (s.raw key) w 0 (openBits ro) none := by
  have runs : (decide (x.frozen ro ≠ 0) && s.quiesceRuns key) = true := by simp [hq]
  subst hw he
  rw [q.set_eq, if_neg (fun n => hq.1 (Nat.or_eq_zero_iff.mp n.1).1), if_neg (by simp [hb])]
  simp only [runs, hc, Nat.zero_and, mixBits_zero, andNot_none, if_true, Nat.or_zero]

/-- One of a register all of whose fields that a write reaches are cleared by ones. -/
theorem State.RingReached.set_clear (h : x.frozen ro = 0 ∧ x.live ro = 0) {f : Fld} (hf : f.hi < 64 ∧ f.lo = f.hi) {v : Word}
    (hv : mixBits 0 v (x.clears &&& openBits ro) = f.one) (hb : s.regBad key (s.raw key) = false) :
    s.ringSet m r key v =
      (s.put key (f.set (s.raw key) 0)).afterWrite key (s.raw key) (f.set (s.raw key) 0) 0 (openBits ro) none := by
  rw [q.set_eq, hv, if_neg (fun n => Fld.one_ne_zero hf.1 hf.2 n.2)]
  simp only [h, Nat.or_zero, mixBits_zero, hb, ite_self, Fld.andNot_one hf.1 hf.2, ne_eq, not_true_eq_false, decide_false,
    Bool.false_and, Bool.false_eq_true, if_false, State.put]

end

/-! ### What the rings' registers are, and what follows their writes -/

theorem State.roBits_cfg (s : State) (r : RingId) : s.roBits r.cfg = if r = .mcr then 0x0FFFFF00 else 0 := by
  cases r with
  | fail v =>
    exact (State.roBits_other (b := 0x10000008) (regBase_info (RingId.regInfo_cfg _)) (by decide)).trans
      (if_neg fun h => by cases h).symm
  | _ => simp only [State.roBits, State.rsvBits, regBase_info (RingId.regInfo_cfg _)]; rfl

theorem State.roBits_ci (s : State) (r : RingId) : s.roBits r.ci = if r = .mcr then 0x1FFFF else 0 := by
  cases r with
  | fail v =>
    exact (State.roBits_other (b := 0x10000018) (regBase_info (RingId.regInfo_ci _)) (by decide)).trans
      (if_neg fun h => by cases h).symm
  | _ => simp only [State.roBits, State.rsvBits, regBase_info (RingId.regInfo_ci _)]; rfl

theorem State.roBits_stat (s : State) (r : RingId) : s.roBits r.stat = 0 := by
  cases r with
  | fail v => exact State.roBits_other (b := 0x10000020) (regBase_info (RingId.regInfo_stat _)) (by decide)
  | _ => exact State.roBits_other (b := 0x40020) (regBase_info (RingId.regInfo_stat _)) (by decide)

theorem State.roBits_doorbell (s : State) : s.roBits (R.CTL_PI 0) = 0 := by
  simp only [State.roBits, State.rsvBits, regBase_info (regInfo_CTL_PI 0 (by decide))]; rfl

theorem State.regBad_cfg (r : RingId) (w : Word) : s.regBad r.cfg w = false := by
  cases r with
  | fail v => exact State.regBad_other (b := 0x10000008) (regBase_info (RingId.regInfo_cfg _)) w (by decide)
  | _ => exact State.regBad_other (b := 0x40008) (regBase_info (RingId.regInfo_cfg _)) w (by decide)

theorem State.regBad_stat (r : RingId) (w : Word) : s.regBad r.stat w = false := by
  cases r with
  | fail v => exact State.regBad_other (b := 0x10000020) (regBase_info (RingId.regInfo_stat _)) w (by decide)
  | _ => exact State.regBad_other (b := 0x40020) (regBase_info (RingId.regInfo_stat _)) w (by decide)

theorem State.afterWrite_stat (r : RingId) (old w ones : Word) (k : Nat) (env : Option Bool) :
    s.afterWrite r.stat old w ones k env = s := by
  cases r with
  | fail v => exact State.afterWrite_other (b := 0x10000020) (regBase_info (RingId.regInfo_stat _)) _ _ _ _ _ (by decide)
  | _ => exact State.afterWrite_other (b := 0x40020) (regBase_info (RingId.regInfo_stat _)) _ _ _ _ _ (by decide)

/-- The number of a failure ring, from a key in its registers. -/
theorem fail_of_key (v : Fin 32) (o : Nat) :
    Fin.ofNat 32 ((R.DMV_FAIL_BASE v + o - (0x10000000 + o)) / 0x10000) = v := by
  rw [show (R.DMV_FAIL_BASE v + o - (0x10000000 + o)) / 0x10000 = v by simp only [R.DMV_FAIL_BASE]; omega, Fin.ofNat_val_eq_self]

theorem State.afterWrite_cfg (r : RingId) (old w ones : Word) (k : Nat) (env : Option Bool) :
    s.afterWrite r.cfg old w ones k env = s.ringCfgWritten r (F.CTL_CFG_EN.get old == 1) := by
  have hb := regBase_info r.regInfo_cfg
  cases r with
  | fail v =>
    rw [State.afterWrite_switch (b := 0x10000008) hb _ _ _ _ _ (by decide)]
    simp only [State.afterSwitch, hb]
    exact congrArg (s.ringCfgWritten · _) (congrArg RingId.fail (fail_of_key v 8))
  | _ =>
    rw [State.afterWrite_switch (b := 0x40008) hb _ _ _ _ _ (by decide)]
    simp only [State.afterSwitch, hb]
    rfl

theorem State.afterWrite_ci (h : r ≠ .mcr) (old w ones : Word) (k : Nat) (env : Option Bool) :
    s.afterWrite r.ci old w ones k env = s.ciMoved r := by
  have hb := regBase_info r.regInfo_ci
  cases r with
  | mcr => exact absurd rfl h
  | fail v =>
    have not_pi : (RingId.fail v).ci ≠ R.CTL_PI 0 := key_ne_fixed (b := 0x10000018) hb (by decide) (by decide)
    rw [State.afterWrite_switch (b := 0x10000018) hb _ _ _ _ _ (by decide)]
    simp only [State.afterSwitch, hb, not_pi]
    exact congrArg s.ciMoved (congrArg RingId.fail (fail_of_key v 0x18))
  | _ =>
    rw [State.afterWrite_switch (b := 0x40018) hb _ _ _ _ _ (by decide)]
    simp only [State.afterSwitch, hb]
    rfl

theorem State.afterWrite_doorbell (old w ones : Word) (k : Nat) (env : Option Bool) :
    s.afterWrite (R.CTL_PI 0) old w ones k env = s.mcrFetch := by
  have hb := regBase_info (regInfo_CTL_PI 0 (by decide))
  rw [State.afterWrite_switch hb _ _ _ _ _ (by decide)]
  simp only [State.afterSwitch, hb]
  rfl

theorem State.regBad_ci (h : r ≠ .mcr) (w : Word) : s.regBad r.ci w = !s.ciOk r (F.CTL_CI_INDEX.get w) := by
  have hb := regBase_info r.regInfo_ci
  cases r with
  | mcr => exact absurd rfl h
  | fail v =>
    rw [State.regBad_mgmt (b := 0x10000018) hb w (by decide)]
    simp only [State.badMgmt, hb]
    exact congrArg (fun v => !s.ciOk (.fail v) (F.CTL_CI_INDEX.get w)) (fail_of_key v 0x18)
  | _ =>
    rw [State.regBad_mgmt (b := 0x40018) hb w (by decide)]
    simp only [State.badMgmt, hb]
    rfl

theorem State.regBad_doorbell (w : Word) : s.regBad (R.CTL_PI 0) w = !s.mcrIndexOk (F.CTL_PI_INDEX.get w) := by
  have hb := regBase_info (regInfo_CTL_PI 0 (by decide))
  rw [State.regBad_mgmt hb w (by decide)]
  simp only [State.badMgmt, hb]
  rfl

theorem State.quiesceRuns_cfg (r : RingId) : s.quiesceRuns r.cfg = s.ringOn r := by
  have hb := regBase_info r.regInfo_cfg
  cases r with
  | fail v =>
    simp only [State.quiesceRuns, hb]
    exact congrArg (fun k => s.flag k F.CTL_CFG_EN) (by
      simp only [RingId.cfg, RingId.base, RingId.cfgInfo, RingId.first, R.DMV_FAIL_BASE, R.DMV_FAIL_CFG]; omega)
  | _ => simp only [State.quiesceRuns, hb]; rfl

theorem State.ring_reached_cfg (hr : (∀ v, r ≠ .fail v) → s.mpuRight m 1 true = true) :
    s.RingReached m r r.cfg r.cfgInfo (if r = .mcr then 0x0FFFFF00 else 0) :=
  ⟨r.regInfo_cfg, by cases r <;> rfl, ⟨8, rfl, by decide, rfl⟩, hr, s.roBits_cfg r⟩

theorem State.ring_reached_ci (hr : (∀ v, r ≠ .fail v) → s.mpuRight m 1 true = true) :
    s.RingReached m r r.ci r.ciInfo (if r = .mcr then 0x1FFFF else 0) :=
  ⟨r.regInfo_ci, by cases r <;> rfl, ⟨0x18, rfl, by decide, rfl⟩, hr, s.roBits_ci r⟩

theorem State.ring_reached_stat (hr : (∀ v, r ≠ .fail v) → s.mpuRight m 1 true = true) :
    s.RingReached m r r.stat r.statInfo 0 :=
  ⟨r.regInfo_stat, by cases r <;> rfl, ⟨0x20, rfl, by decide, rfl⟩, hr, s.roBits_stat r⟩

/-- What the register map says of the PI register of the MCR. -/
def doorbellInfo : RegInfo := { base := 0x40010, width := 0x20, rw := 0x1FFFF }

theorem State.ring_reached_doorbell (hr : s.mpuRight m 1 true = true) :
    s.RingReached m .mcr (R.CTL_PI 0) doorbellInfo 0 :=
  ⟨regInfo_CTL_PI 0 (by decide), rfl, ⟨0x10, rfl, by decide, rfl⟩, fun _ => hr, s.roBits_doorbell⟩

/-! ### Rows: indices (R40, R44) -/

/-- An index that is written, of a register that holds one. -/
theorem index_of_write (x : Word) (i : Nat) :
    F.CTL_CI_INDEX.get (mixBits x (BitVec.ofNat 64 i) F.CTL_CI_INDEX.mask) = i % 2 ^ 17 := by
  rw [Fld.get_mixBits_in _ _ _ (by decide)]
  simp only [Fld.get, bitsOf, F.CTL_CI_INDEX, BitVec.toNat_ofNat, Nat.shiftRight_zero]
  omega

/-- The producer index of the MCR is taken where the ring can hold as many descriptors, and their fetch starts. -/
theorem State.mcrDoorbell_eq (hr : s.mpuRight m 1 true = true) (i : Nat) :
    s.mcrDoorbell m i = if s.mcrIndexOk (i % 2 ^ 17) then
        (s.put (R.CTL_PI 0) (mixBits (s.raw (R.CTL_PI 0)) (BitVec.ofNat 64 i) F.CTL_PI_INDEX.mask)).mcrFetch
      else s.regErr stBadParam (R.CTL_PI 0) := by
  have q := State.ring_reached_doorbell hr
  have vals : doorbellInfo.frozen 0 ||| doorbellInfo.live 0 = F.CTL_PI_INDEX.mask := by decide
  have bad : s.regBad (R.CTL_PI 0) (mixBits (s.raw (R.CTL_PI 0)) (BitVec.ofNat 64 i) F.CTL_PI_INDEX.mask) =
      !s.mcrIndexOk (i % 2 ^ 17) := by
    rw [State.regBad_doorbell, show F.CTL_PI_INDEX = F.CTL_CI_INDEX from rfl, index_of_write]
  rw [State.mcrDoorbell, ← State.ringSet_mgmt (r := .mcr) fun _ h => by cases h]
  cases ok : s.mcrIndexOk (i % 2 ^ 17)
  · rw [q.set_refused (by rw [vals]; decide) (by rw [vals, bad, ok]; rfl), if_neg Bool.false_ne_true]
  · rw [q.set_put rfl (by rw [vals]; decide) (.inl (by decide)) (by rw [vals]) (by rw [bad, ok]; rfl), State.afterWrite_doorbell,
      if_pos rfl]

/-- The consumer index of the MCR is the part's own. -/
theorem State.ringCiWrite_mcr (hr : s.mpuRight m 1 true = true) (i : Nat) : s.ringCiWrite m .mcr i = s :=
  (State.ring_reached_ci (r := .mcr) fun _ => hr).set_nothing rfl (by decide) _

theorem RingId.ciInfo_frozen (r : RingId) : r.ciInfo.frozen 0 = 0 := Nat.zero_and _

/-- A consumer index is all that its register takes. -/
theorem RingId.ciInfo_vals (r : RingId) : r.ciInfo.frozen 0 ||| r.ciInfo.live 0 = F.CTL_CI_INDEX.mask := by
  rw [r.ciInfo_frozen]
  exact show 0 ||| (0x1FFFF &&& openBits 0) = F.CTL_CI_INDEX.mask by decide

/-- A consumer index is taken where it lies no further than the part has written, and moderation starts anew. -/
theorem State.ringCiWrite_eq (hr : (∀ v, r ≠ .fail v) → s.mpuRight m 1 true = true) (hm : r ≠ .mcr) (i : Nat) :
    s.ringCiWrite m r i = if s.ciOk r (i % 2 ^ 17) then
        (s.put r.ci (mixBits (s.raw r.ci) (BitVec.ofNat 64 i) F.CTL_CI_INDEX.mask)).ciMoved r
      else s.regErr stBadParam r.ci := by
  have q := if_neg hm ▸ State.ring_reached_ci hr
  have bad : s.regBad r.ci (mixBits (s.raw r.ci) (BitVec.ofNat 64 i) F.CTL_CI_INDEX.mask) = !s.ciOk r (i % 2 ^ 17) := by
    rw [State.regBad_ci hm, index_of_write]
  rw [State.ringCiWrite]
  cases ok : s.ciOk r (i % 2 ^ 17)
  · rw [q.set_refused (by rw [r.ciInfo_vals]; decide) (by rw [r.ciInfo_vals, bad, ok]; rfl), if_neg Bool.false_ne_true]
  · rw [q.set_put rfl (by rw [r.ciInfo_vals]; decide) (.inl r.ciInfo_frozen) (by rw [r.ciInfo_vals]) (by rw [bad, ok]; rfl),
      State.afterWrite_ci hm, if_pos rfl]

/-! ### Rows: the configuration of a ring (R38, R43, R45, R58) -/

/-- The fields of a ring's configuration that a write takes at any time: those of the MCR have no moderation (R45). -/
def RingId.liveBits (r : RingId) : Nat := if r = .mcr then 0x80000000 else 0x8FFFFF00

theorem RingId.cfgInfo_live (r : RingId) : r.cfgInfo.live (if r = .mcr then 0x0FFFFF00 else 0) = r.liveBits := by
  rw [RingId.liveBits]
  split
  · exact show 0x8FFFFF00 &&& openBits 0x0FFFFF00 = 0x80000000 by decide
  · exact show 0x8FFFFF00 &&& openBits 0 = 0x8FFFFF00 by decide

/-- LOG2_SIZE, and nothing else, is held by a ring that is enabled. -/
theorem RingId.cfgInfo_frozen (r : RingId) : r.cfgInfo.frozen (if r = .mcr then 0x0FFFFF00 else 0) = 0x1F := by
  split
  · exact show 0x1F &&& openBits 0x0FFFFF00 = 0x1F by decide
  · exact show 0x1F &&& openBits 0 = 0x1F by decide

/-- OVF is all that a write of the STAT register reaches. -/
theorem RingId.statInfo_clears (r : RingId) : r.statInfo.clears &&& openBits 0 = F.CTL_STAT_OVF.mask :=
  show 0x40000000 &&& openBits 0 = F.CTL_STAT_OVF.mask by decide

section
variable (hr : (∀ v, r ≠ .fail v) → s.mpuRight m 1 true = true)
include hr

/-- A ring that is off takes its whole configuration. -/
theorem State.ringSet_cfg_off (off : s.ringOn r = false) {v w : Word} (hw : mixBits (s.raw r.cfg) v (r.liveBits ||| 0x1F) = w) :
    s.ringSet m r r.cfg v = (s.put r.cfg w).ringCfgWritten r false := by
  have q := State.ring_reached_cfg hr
  rw [q.set_put rfl (by rw [r.cfgInfo_frozen]; exact fun h => by cases (Nat.or_eq_zero_iff.mp h).1)
    (.inr ((s.quiesceRuns_cfg r).trans off)) (by rw [r.cfgInfo_frozen, r.cfgInfo_live, Nat.or_comm, hw]) (s.regBad_cfg r w),
    State.afterWrite_cfg]
  exact congrArg ((s.put r.cfg w).ringCfgWritten r) off

/-- One that is on keeps its size, which is reported, and takes the rest. -/
theorem State.ringSet_cfg_on (on : s.ringOn r = true) {v w : Word} (hw : mixBits (s.raw r.cfg) v r.liveBits = w) {e : State}
    (he : e = s.regErr stCfgBusy r.cfg) : s.ringSet m r r.cfg v = if w = s.raw r.cfg then e else e.setRaw r.cfg w := by
  have q := State.ring_reached_cfg hr
  have was : (F.CTL_CFG_EN.get (s.raw r.cfg) == 1) = true := on
  rw [q.set_busy rfl ⟨by rw [r.cfgInfo_frozen]; decide, (s.quiesceRuns_cfg r).trans on⟩ (by rw [r.cfgInfo_live, hw])
    (s.regBad_cfg r _) he, State.afterWrite_cfg, was]
  simp [State.ringCfgWritten]

/-- A 1 to OVF clears it. -/
theorem State.ringOvfClear_eq : s.ringOvfClear m r = s.put r.stat (F.CTL_STAT_OVF.set (s.raw r.stat) 0) := by
  have q := State.ring_reached_stat hr
  have ovf : mixBits 0 (F.CTL_STAT_OVF.set 0 1) (r.statInfo.clears &&& openBits 0) = F.CTL_STAT_OVF.one := by
    rw [r.statInfo_clears]; exact mixBits_set_mask F.CTL_STAT_OVF 0 0 1 (by decide)
  rw [State.ringOvfClear, q.set_clear ⟨Nat.zero_and _, Nat.zero_and _⟩ ⟨by decide, rfl⟩ ovf
    (s.regBad_stat r _), State.afterWrite_stat]

end

/-- EN of a configuration that has been written with the bits that a ring takes. -/
theorem RingId.en_of_write (r : RingId) (x v : Word) (n : Nat) {k : Nat} (hk : k = r.liveBits ||| 0x1F ∨ k = r.liveBits) :
    F.CTL_CFG_EN.get (mixBits x (F.CTL_CFG_EN.set v n) k) = n % 2 := by
  have en : F.CTL_CFG_EN.mask &&& k = F.CTL_CFG_EN.mask := by
    rcases hk with rfl | rfl <;> rw [RingId.liveBits] <;> split <;> rfl
  rw [Fld.get_mixBits_in _ _ _ en, Fld.get_set_self _ _ _ (by decide)]
  rfl

/-- A register holds what was put. -/
@[simp] theorem State.raw_put (k : Nat) (w : Word) : (s.put k w).raw k = w := by
  unfold State.put; split
  · rename_i h; exact h.symm
  · exact s.raw_setRaw k w

theorem State.raw_put_ne {k i : Nat} (w : Word) (h : i ≠ k) : (s.put k w).raw i = s.raw i := by
  unfold State.put; split
  · rfl
  · exact s.raw_setRaw_ne w h

section
variable {v w : Word}

/-- Whether a ring is on once its configuration has been written. -/
theorem State.ringOn_put (n : Nat) {k : Nat} (hk : k = r.liveBits ||| 0x1F ∨ k = r.liveBits)
    (hw : mixBits (s.raw r.cfg) (F.CTL_CFG_EN.set v n) k = w) : (s.put r.cfg w).ringOn r = (n % 2 == 1) := by
  rw [State.ringOn, State.flag, State.fld, State.raw_put, ← hw, r.en_of_write _ _ _ hk]

/-- An enable starts a ring whose size and base are as R38 asks, and else leaves EN at 0. -/
theorem State.ringEnable_off (hr : (∀ v, r ≠ .fail v) → s.mpuRight m 1 true = true) (off : s.ringOn r = false)
    (hw : mixBits (s.raw r.cfg) (F.CTL_CFG_EN.set v 1) (r.liveBits ||| 0x1F) = w) :
    s.ringEnable m r v = if (s.put r.cfg w).ringReady r then (s.put r.cfg w).ringStart r
      else ((s.put r.cfg w).setFld r.cfg F.CTL_CFG_EN 0).regErr stBadParam r.cfg := by
  rw [State.ringEnable, State.ringSet_cfg_off hr off hw, State.ringCfgWritten, State.ringOn_put 1 (.inl rfl) hw]
  rfl

theorem State.ringDisable_off (hr : (∀ v, r ≠ .fail v) → s.mpuRight m 1 true = true) (off : s.ringOn r = false)
    (hw : mixBits (s.raw r.cfg) (F.CTL_CFG_EN.set v 0) (r.liveBits ||| 0x1F) = w) : s.ringDisable m r v = s.put r.cfg w := by
  rw [State.ringDisable, State.ringSet_cfg_off hr off hw, State.ringCfgWritten, State.ringOn_put 0 (.inl rfl) hw]
  rfl

/-- A disable of a ring that is on changes its configuration. -/
theorem State.ringDisable_on (hr : (∀ v, r ≠ .fail v) → s.mpuRight m 1 true = true) (on : s.ringOn r = true)
    (hw : mixBits (s.raw r.cfg) (F.CTL_CFG_EN.set v 0) r.liveBits = w) :
    s.ringDisable m r v = (s.regErr stCfgBusy r.cfg).setRaw r.cfg w := by
  have ne : w ≠ s.raw r.cfg := fun same => by
    have was := beq_iff_eq.mp on
    rw [State.fld, ← same, ← hw, r.en_of_write _ _ _ (.inr rfl)] at was
    cases was
  rw [State.ringDisable, State.ringSet_cfg_on hr on hw rfl, if_neg ne]

end

/-- A class without the right to the rings' slot writes none of their registers. -/
theorem State.ringSet_denied (nf : ∀ v, r ≠ .fail v) (hr : s.mpuRight m 1 true = false) {key : Nat} {x : RegInfo}
    (h : regInfo key = some x) (hk : key / 0x40000 = 1) (hx : x.width = 32) (v : Word) :
    s.ringSet m r key v = s.violate m key 4 true false := by
  rw [State.ringSet_mgmt nf, State.regSet_noRight h hk hr v none (by rw [hx])]

end
end Sys2Proof.Machine

namespace Sys2Proof
open Machine

/-- Settles O44: the row of each register of a ring is what a write of it comes to, for a class with the right and for one without
it. -/
theorem ringRegisterRows : Obligations.RingRegisterRows := by
  unfold Obligations.RingRegisterRows
  refine ⟨fun s t dt m hf hr index => ?_, fun s t dt m r hf hr => ⟨fun index hm ok => ?_, fun index hm bad => ?_,
    fun v k live hk hlive => ?_, ?_⟩, fun s t dt m r hf nf hr => ⟨fun index => ?_, fun v => ?_, ?_⟩⟩
  · rw [exec_mcrDoorbell hf, exec_ringCiWrite hf, State.mcrDoorbell_eq hr, State.ringCiWrite_mcr hr]
    exact ⟨fun ok => by rw [if_pos ok], fun bad => by rw [if_neg (Bool.eq_false_iff.mp bad)], rfl⟩
  · rw [exec_ringCiWrite hf, State.ringCiWrite_eq hr hm, if_pos ok]
  · rw [exec_ringCiWrite hf, State.ringCiWrite_eq hr hm, if_neg (Bool.eq_false_iff.mp bad)]
  · obtain rfl : live = r.liveBits := hlive
    subst hk
    rw [exec_ringEnable hf, exec_ringDisable hf]
    refine ⟨fun off => ⟨fun u hu => ?_, ?_⟩, fun on e he => ⟨fun w hw => ?_, ?_⟩⟩
    · rw [State.ringEnable_off hr off rfl, ← hu]
      exact ⟨fun ready => by rw [if_pos ready], fun not => by rw [if_neg (Bool.eq_false_iff.mp not)]⟩
    · rw [State.ringDisable_off hr off rfl]
    · rw [State.ringEnable, State.ringSet_cfg_on hr on hw.symm he]
    · rw [State.ringDisable_on hr on rfl, he]
  · rw [exec_ringOvfClear hf, State.ringOvfClear_eq hr]
  · rw [exec_mcrDoorbell hf, exec_ringCiWrite hf]
    exact ⟨by rw [State.mcrDoorbell, State.regSet_noRight (n := 4) (regInfo_CTL_PI 0 (by decide)) rfl hr _ _ rfl],
      by rw [State.ringCiWrite, State.ringSet_denied nf hr r.regInfo_ci (RingId.slot_one nf (by decide)) rfl]⟩
  · rw [exec_ringEnable hf, exec_ringDisable hf]
    exact ⟨by rw [State.ringEnable, State.ringSet_denied nf hr r.regInfo_cfg (RingId.slot_one nf (by decide)) rfl],
      by rw [State.ringDisable, State.ringSet_denied nf hr r.regInfo_cfg (RingId.slot_one nf (by decide)) rfl]⟩
  · rw [exec_ringOvfClear hf, State.ringOvfClear, State.ringSet_denied nf hr r.regInfo_stat (RingId.slot_one nf (by decide)) rfl]

end Sys2Proof

namespace Sys2Proof.Machine

/-! ### Writes that only set a register -/

section
variable {s : State}

/-- A write of a register leaves the entries of the others, in their order. -/
theorem filterMap_tput {α β : Type} (f : Nat × α → Option β) {k : Nat} (h : ∀ x, f (k, x) = none) (l : Tbl α) (x : α) :
    (tput l k x).filterMap f = l.filterMap f := by
  induction l with
  | nil => simp [tput, h]
  | cons e l ih =>
    obtain ⟨i, y⟩ := e
    unfold tput
    split
    · simp [h]
    · split
      · rename_i hi; subst hi; simp [h]
      · simp [List.filterMap_cons, ih]

/-- Which event counters are selected is held in their own registers. -/
theorem State.pmcSels_put {k : Nat} (h : k < R.PMC_SEL 0 ∨ R.PMC_SEL 2048 ≤ k) (w : Word) : (s.put k w).pmcSels = s.pmcSels := by
  unfold State.put
  split
  · rfl
  · exact filterMap_tput _ (fun _ => if_neg (by omega)) _ _

/-- A write of another register leaves a part calm. -/
theorem State.calm_put {k : Nat} (h : k < R.PMC_SEL 0 ∨ R.PMC_SEL 2048 ≤ k) (w : Word) : (s.put k w).calm = s.calm := by
  have sels := s.pmcSels_put h w
  unfold State.calm
  rw [sels]
  unfold State.put
  split <;> rfl

theorem State.put_only (k : Nat) (w : Word) : s.OnlyRegs (s.put k w) := by
  unfold State.put; split <;> rfl

/-- Where nothing is under way, a write that sets a register sets nothing off. -/
theorem State.put_frame (calm : s.calm = true) {k : Nat} (h : k < R.PMC_SEL 0 ∨ R.PMC_SEL 2048 ≤ k) (w : Word) :
    ∃ u : State, (.next (s.put k w).settle : Host.Outcome State Fault Refusal) = .next u ∧
      u = { s with cfg := { s.cfg with regs := u.cfg.regs } } ∧ ∀ i : Nat, i ≠ k → u.raw i = s.raw i := by
  rw [State.settle_calm ((s.calm_put h w).trans calm)]
  exact ⟨_, rfl, s.put_only k w, fun _ hi => s.raw_put_ne w hi⟩

end

/-- The STAT register of a ring selects no event counter. -/
theorem RingId.stat_low_or_high (r : RingId) : r.stat < R.PMC_SEL 0 ∨ R.PMC_SEL 2048 ≤ r.stat := by
  cases r with
  | fail v => exact .inr (by simp only [RingId.stat, RingId.base, R.DMV_FAIL_BASE, R.PMC_SEL]; omega)
  | _ => exact .inl (by decide)

end Sys2Proof.Machine

namespace Sys2Proof
open Machine

/-- Settles O58: each of the four rows comes to one register being put, which leaves a calm part calm. -/
theorem registerOnlyFrames : Obligations.RegisterOnlyFrames := by
  unfold Obligations.RegisterOnlyFrames
  intro s t dt n m r hf calm rights unlocked hn c k row
  rcases row with ⟨rfl, rfl⟩ | ⟨rfl, rfl⟩ | ⟨rfl, rfl⟩ | ⟨rfl, rfl⟩
  · rw [exec_latchRearm hf, State.latchRearm_eq (rights 2 (by decide)), if_neg (Bool.eq_false_iff.mp (unlocked 2 (by decide)))]
    exact State.put_frame calm (.inl (by decide)) _
  · rw [exec_violationRearm hf, State.violRearm_eq (rights 3 (by decide))]
    exact State.put_frame calm (.inl (by decide)) _
  · rw [exec_mpuLock hf, State.mpuLock_eq hn (rights 3 (by decide)), unlocked 3 (by decide), unlocked n hn, Bool.or_false,
      if_neg Bool.false_ne_true]
    exact State.put_frame calm (.inl (by simp only [R.MPU_SLOT, R.PMC_SEL]; omega)) _
  · rw [exec_ringOvfClear hf, State.ringOvfClear_eq fun _ => rights 1 (by decide)]
    exact State.put_frame calm r.stat_low_or_high _

end Sys2Proof

namespace Sys2Proof.Machine
section
variable {s u : State} {k : Nat} {d : Desc}

/-! ### Rings that stop, moderation timers and records that wait (R42, R43, R44, R418) -/

/-- A vector fires where its IRQ_COUNT is not 0 (R44). -/
theorem State.fire_eq {r : RingId} (h : s.fld r.cfg F.CTL_CFG_IRQ_COUNT ≠ 0) :
    s.fire r = (s.setRing r { s.ring r with count := 0, timing := false }).signal r.vector.1 r.vector.2 := if_neg h

/-- And that of a slice while the slice may work (R309, R319). -/
theorem State.fireCq_eq {i : Nat} (h : s.fld (R.DMV_CQ_CFG i) F.DMV_CQ_CFG_IRQ_COUNT ≠ 0) (runs : s.sliceRuns i = true) :
    s.fireCq i = (s.setSlice i { s.slice i with irq := { (s.slice i).irq with count := 0, timing := false } }).signal
      (.dmv (s.sliceVs i)) (s.fld (R.DMV_CQ_CFG i) F.DMV_CQ_CFG_VECTOR) :=
  if_neg (by simp [h, runs])

theorem State.doRingStopped_eq {r : RingId} (off : s.ringOn r = false) (idle : s.ringBusy r = false) :
    s.doRingStopped r = s.setFld r.stat F.CTL_STAT_STOPPED 1 :=
  if_pos (by simp [off, idle])

/-- IRQ_TIME after the first record that no vector has told of, the vector of a ring fires. -/
theorem State.doIrqTime_ring {r : RingId} (timing : (s.ring r).timing = true) (count : (s.ring r).count > 0)
    (time : s.fld r.cfg F.CTL_CFG_IRQ_TIME ≠ 0) (due : s.now - (s.ring r).first ≥ 1000 * s.fld r.cfg F.CTL_CFG_IRQ_TIME) :
    s.doIrqTime (.ring r) = s.fire r := if_pos ⟨timing, count, time, due⟩

theorem State.doIrqTime_cq {i : Fin 4096} (timing : (s.slice i).irq.timing = true) (count : (s.slice i).irq.count > 0)
    (time : s.fld (R.DMV_CQ_CFG i) F.DMV_CQ_CFG_IRQ_TIME ≠ 0)
    (due : s.now - (s.slice i).irq.first ≥ 1000 * s.fld (R.DMV_CQ_CFG i) F.DMV_CQ_CFG_IRQ_TIME) :
    s.doIrqTime (.cq i) = s.fireCq i := if_pos ⟨timing, count, time, due⟩

/-- The EVR's own overflow is told of first. -/
theorem State.doHeldRecord_overflow (room : s.ringRoom .evr ≠ 0) (ovf : s.ctl.evrOvfFlag = true) :
    s.doHeldRecord .evr =
      ({ s with ctl := { s.ctl with evrOvfFlag := false } } : State).putEvr { code := 0x0005, data := leBytes 1 1 } := by
  rw [State.doHeldRecord, if_neg room, if_pos ovf]

/-- Then a completion that is held; the MCR fetches again. -/
theorem State.doHeldRecord_completion (room : s.ringRoom .evr ≠ 0) (ovf : s.ctl.evrOvfFlag = false) {e : Rec} {l : List Rec}
    (held : s.ctl.held = e :: l) :
    s.doHeldRecord .evr = (({ s with ctl := { s.ctl with held := l } } : State).putEvr e).mcrFetch := by
  rw [State.doHeldRecord, if_neg room, if_neg (Bool.eq_false_iff.mp ovf), held]

/-- Then the oldest event. -/
theorem State.doHeldRecord_event (room : s.ringRoom .evr ≠ 0) (ovf : s.ctl.evrOvfFlag = false) (held : s.ctl.held = [])
    {e : Rec} {l : List Rec} (evq : s.ctl.evq = e :: l) :
    s.doHeldRecord .evr = ({ s with ctl := { s.ctl with evq := l } } : State).putEvr e := by
  rw [State.doHeldRecord, if_neg room, if_neg (Bool.eq_false_iff.mp ovf), held]
  simp only [evq]

/-- The oldest record that waits for the FTR. -/
theorem State.doHeldRecord_ftr (room : s.ringRoom .ftr > 0) {b : List Byte} {l : List (List Byte)} (queue : s.fcr.queue = b :: l) :
    s.doHeldRecord .ftr = ({ s with fcr := { s.fcr with queue := l } } : State).ftrWrite b := by
  rw [State.doHeldRecord, State.ftrHeld, queue]
  exact if_pos room

/-! ### Commands of the MCR that their descriptor alone decides (R48, R49, R338) -/

section
variable (h : s.mcrTake = some (k, u))
include h

theorem State.doNop_taken : s.doNop d = u.cmdDone k d stSuccess := by
  rw [State.doNop, h]

theorem State.doUnlisted_taken {op : Nat} (unlisted : op % 256 ∉ [0x00, 0x01, 0x02, 0x03, 0x04, 0x10, 0x20, 0x21, 0x30, 0x31]) :
    s.doUnlisted d op = u.cmdDone k d stBadOpcode := by
  rw [State.doUnlisted, if_neg (by rwa [List.contains_iff_mem]), h]

theorem State.doDescError_taken : s.doDescError = u.cmdDone k {} stDmaError := by
  rw [State.doDescError, h]

theorem State.doDecantArm_taken (mode : Nat) :
    s.doDecantArm d mode = if mode % 256 > 2 then u.cmdDone k d stBadParam
      else if mode % 256 ≠ 0 ∧ u.lcLive = false then u.cmdDone k d stDenied
      else ((u.setFld R.DCT_ARM F.DCT_ARM_MODE (mode % 256)).setFld R.DCT_ARM F.DCT_ARM_ARMED (b2n (mode % 256 ≠ 0))).cmdDone k d
        stSuccess (u.fld R.DCT_ARM F.DCT_ARM_MODE) := by
  rw [State.doDecantArm, h]
  simp only [Bool.not_eq_true']

/-- Where no entry of a table is damaged, the shadow set becomes what is in force. -/
theorem State.doShadowDiscard_taken (sound : u.cfg.faultySh = [] ∧ u.cfg.faulty = []) :
    s.doShadowDiscard d = ({ u with
      cfg := { u.cfg with shadow := [], onDieSh := u.cfg.onDie, tmSh := [], shBlocks := [], shPlace := [], dirty := [] }
      tbm := { u.tbm with
        flips := u.tbm.flips.filter fun e => e.1 < 2 ^ 30
        poison := u.tbm.poison.filter fun w => w < 2 ^ 25 } } : State).cmdDone k d stSuccess := by
  rw [State.doShadowDiscard, h]
  simp only [sound, List.filter_nil, List.append_nil]

/-! ### TABLE_WRITE and TABLE_READ (R50 to R52, R67, R432) -/

theorem State.doTableWrite_safe (safe : u.safe = true) (op : TableOp) (data : Option (List Byte)) :
    s.doTableWrite d op data = u.cmdDone k d stSafeState := by
  rw [State.doTableWrite, h]
  exact if_pos safe

theorem State.doTableWrite_taken (safe : u.safe = false) (op : TableOp) (data : Option (List Byte)) :
    s.doTableWrite d op data = (u.tableWrite op data).2.cmdDone k d (u.tableWrite op data).1 := by
  rw [State.doTableWrite, h]
  exact if_neg (Bool.eq_false_iff.mp safe)

theorem State.doTableRead_refused {op : TableOp} (bad : u.tableOk op = false ∨ op.copy > 1) :
    s.doTableRead d op = u.cmdDone k d stBadParam := by
  rw [State.doTableRead, h]
  exact if_pos (by simpa using bad)

/-- A read of an on-die table writes the whole entries before the first damaged one. -/
theorem State.doTableRead_onDie {op : TableOp} (ok : u.tableOk op = true) (copy : op.copy ≤ 1)
    (table : onDieTable op.tableId = true) {bs : List Byte} {bad : Bool}
    (bytes : u.tableBytes op.tableId op.copy (entrySize op.tableId * op.first) (entrySize op.tableId * op.count) = (bs, bad))
    (whole : bs.take (bs.length / entrySize op.tableId * entrySize op.tableId) ≠ []) :
    s.doTableRead d op =
      (u.hostWrite .mgmt op.addr (bs.take (bs.length / entrySize op.tableId * entrySize op.tableId))).cmdDone k d
        (if bad then stTableEcc else stSuccess) := by
  rw [State.doTableRead, h]
  have good : ¬ ((!u.tableOk op) = true ∨ op.copy > 1) := by simp [ok, copy]
  simp only [if_neg good, bytes, table, if_true, if_neg whole]

end

theorem State.tableWrite_refused {op : TableOp} (bad : s.tableOk op = false ∨ op.copy ≠ 0) (data : Option (List Byte)) :
    s.tableWrite op data = (stBadParam, s) :=
  if_pos (by simpa using bad)

section
variable {op : TableOp} (ok : s.tableOk op = true) (copy : op.copy = 0)
include ok copy

/-- A write with operands as R50 and R51 ask reads its data from the host; one of an on-die table lands in the shadow copy. -/
theorem State.tableWrite_onDie (table : onDieTable op.tableId = true) (bs : List Byte) :
    s.tableWrite op (some bs) = (stSuccess, (s.hostRead .mgmt op.addr (entrySize op.tableId * op.count)).onDieWrite op
      (padTo (entrySize op.tableId * op.count) bs)) := by
  have good : ¬ ((!s.tableOk op) = true ∨ op.copy ≠ 0) := by simp [ok, copy]
  rw [State.tableWrite, if_neg good, if_pos table]

/-- Data that the host does not give. -/
theorem State.tableWrite_unread (table : onDieTable op.tableId = true) :
    s.tableWrite op none = (stDmaError, s.hostRead .mgmt op.addr (entrySize op.tableId * op.count)) := by
  have good : ¬ ((!s.tableOk op) = true ∨ op.copy ≠ 0) := by simp [ok, copy]
  rw [State.tableWrite, if_neg good, if_pos table]

variable (table : onDieTable op.tableId = false)
include table

/-- One of a table in table memory needs room in the shadow pool. -/
theorem State.tableWrite_noSpace
    (short : (s.blocksNeeded op.tableId (entrySize op.tableId * op.first) (entrySize op.tableId * op.count)).length > s.shadowFree)
    (data : Option (List Byte)) :
    s.tableWrite op data = (stNoSpace, s.hostRead .mgmt op.addr (entrySize op.tableId * op.count)) := by
  have good : ¬ ((!s.tableOk op) = true ∨ op.copy ≠ 0) := by simp [ok, copy]
  rw [State.tableWrite, if_neg good, if_neg (Bool.eq_false_iff.mp table)]
  exact if_pos short

/-- Where its blocks have their shadows, it lands in these. -/
theorem State.tableWrite_shadowed
    (need : s.blocksNeeded op.tableId (entrySize op.tableId * op.first) (entrySize op.tableId * op.count) = []) (bs : List Byte) :
    s.tableWrite op (some bs) = (stSuccess, (s.hostRead .mgmt op.addr (entrySize op.tableId * op.count)).shadowBytes op.tableId
      (entrySize op.tableId * op.first) (entrySize op.tableId * op.first + entrySize op.tableId * op.count)
      (entrySize op.tableId * op.first) (padTo (entrySize op.tableId * op.count) bs)) := by
  have good : ¬ ((!s.tableOk op) = true ∨ op.copy ≠ 0) := by simp [ok, copy]
  have unneeded : (s.hostRead .mgmt op.addr (entrySize op.tableId * op.count)).blocksNeeded op.tableId
    (entrySize op.tableId * op.first) (entrySize op.tableId * op.count) = [] := need
  rw [State.tableWrite, if_neg good, if_neg (Bool.eq_false_iff.mp table)]
  simp [unneeded]

end
end
end Sys2Proof.Machine

namespace Sys2Proof
open Machine

/-- Settles O1: each row takes effect once it is due. -/
theorem ringTimersAndHeldRecords : Obligations.RingTimersAndHeldRecords := by
  unfold Obligations.RingTimersAndHeldRecords
  refine ⟨fun s t dt r hf off idle => ?_, fun s t dt r hf timing count time due irq => ?_,
    fun s t dt i hf timing count time runs due irq => ?_, fun s t dt e l hf room ovf held => ?_,
    fun s t dt e l hf room ovf held evq => ?_, fun s t dt hf room ovf => ?_, fun s t dt b l hf room queue => ?_⟩
  · rw [exec_ringStopped hf, State.doRingStopped_eq off idle]
  · rw [exec_irqTimeExpiry hf, State.doIrqTime_ring timing count time due, State.fire_eq irq]
  · rw [exec_irqTimeExpiry hf, State.doIrqTime_cq timing count time due, State.fireCq_eq irq runs]
  · rw [exec_heldRecordWrite hf, State.doHeldRecord_completion room ovf held]
  · rw [exec_heldRecordWrite hf, State.doHeldRecord_event room ovf held evq]
  · rw [exec_heldRecordWrite hf, State.doHeldRecord_overflow room ovf]
  · rw [exec_heldRecordWrite hf, State.doHeldRecord_ftr room queue]

/-- Settles O2: each command takes its descriptor and writes the one completion of its rule. -/
theorem simpleManagementCommands : Obligations.SimpleManagementCommands := by
  unfold Obligations.SimpleManagementCommands
  refine ⟨fun s t u dt k d hf h => ?_, fun s t u dt k op d hf h unlisted => ?_, fun s t u dt k hf h => ?_,
    fun s t u dt k mode d hf h => ?_, fun s t u dt k d hf h faultySh faulty => ?_⟩
  · rw [exec_nop hf, State.doNop_taken h]
  · rw [exec_unlistedOpcode hf, State.doUnlisted_taken h unlisted]
  · rw [exec_descriptorReadError hf, State.doDescError_taken h]
  · rw [exec_decantArm hf, State.doDecantArm_taken h]
  · rw [exec_shadowDiscard hf, State.doShadowDiscard_taken h ⟨faultySh, faulty⟩]

/-- Settles O3: what the operands and the state of the tables make of each of the two commands. -/
theorem tableCommands : Obligations.TableCommands := by
  unfold Obligations.TableCommands
  refine ⟨fun s t u dt k d op data hf h => ⟨fun safe => ?_, fun safe bad => ?_⟩,
    fun s t u dt k d op bs hf h safe ok copy table => ?_, fun s t u dt k d op hf h safe ok copy table => ?_,
    fun s t u dt k d op data hf h safe ok copy table short => ?_, fun s t u dt k d op bs hf h safe ok copy table need => ?_,
    fun s t u dt k d op hf h bad => ?_, fun s t u dt k d op bs bad hf h ok copy table bytes whole => ?_⟩
  · rw [exec_tableWrite hf, State.doTableWrite_safe h safe]
  · rw [exec_tableWrite hf, State.doTableWrite_taken h safe, State.tableWrite_refused bad]
  · rw [exec_tableWrite hf, State.doTableWrite_taken h safe, State.tableWrite_onDie ok copy table]
  · rw [exec_tableWrite hf, State.doTableWrite_taken h safe, State.tableWrite_unread ok copy table]
  · rw [exec_tableWrite hf, State.doTableWrite_taken h safe, State.tableWrite_noSpace ok copy table short]
  · rw [exec_tableWrite hf, State.doTableWrite_taken h safe, State.tableWrite_shadowed ok copy table need]
  · rw [exec_tableRead hf, State.doTableRead_refused h bad]
  · rw [exec_tableRead hf, State.doTableRead_onDie h ok copy table bytes whole]

end Sys2Proof

namespace Sys2Proof.Machine
section
variable {s u : State} {k : Nat} {d : Desc} {c : CommitSt}

/-! ### COMMIT: how it begins and ends (R59 to R61, R67) -/

theorem State.doCommit_taken (h : s.mcrTake = some (k, u)) :
    s.doCommit d = if u.safe then u.cmdDone k d stSafeState
      else { u with ctl := { u.ctl with
        commit := some { desc := d, slot := k, since := u.now, step := 1, set := u.cfg.shadow } } } := by
  rw [State.doCommit, h]

section
variable (h : s.ctl.commit = some c) (step : c.step = 1)
include h step

theorem State.doEpochStuck_due (prev : s.cfg.prev ≠ none)
    (due : s.now - c.since ≥ 1000000 * s.fld R.CTL_COMMIT_CFG F.CTL_COMMIT_CFG_WAIT_MAX) :
    s.doEpochStuck = ({ s with ctl := { s.ctl with commit := none } } : State).cmdDone c.slot c.desc stEpochStuck := by
  rw [State.doEpochStuck, h]
  exact if_pos ⟨step, Option.isSome_iff_ne_none.mpr prev, due⟩

variable (prev : s.cfg.prev = none) (safe : s.safe = false)
include prev safe

/-- A check that fails ends the COMMIT, with its number and its index. -/
theorem State.doCommitChecks_mismatch {n i : Nat} (bad : (s.candidate c.set).commitChecks = some (n, i)) :
    s.doCommitChecks = ({ s with ctl := { s.ctl with commit := none } } : State).cmdDone c.slot c.desc stCfgMismatch 0
      (atBits n 56 8 ||| atBits i 0 32) := by
  rw [State.doCommitChecks, h]
  simp only [step, prev, safe, bad, Option.isSome_none, Bool.false_eq_true, ne_eq, not_true_eq_false, or_self, if_false]

/-- One that passes them is installed. -/
theorem State.doCommitChecks_install (good : (s.candidate c.set).commitChecks = none) :
    s.doCommitChecks = (s.install c).commitDone := by
  rw [State.doCommitChecks, h]
  simp only [step, prev, safe, good, Option.isSome_none, Bool.false_eq_true, ne_eq, not_true_eq_false, or_self, if_false]

end

/-! ### COMMIT: the install (R60 step 3) -/

/-- The shadow set and the shadow tables in their places, and the shared pool that they leave. -/
def State.installed (s : State) (set : Tbl Word) : State := ((s.installRegs set).installTm).setPool

/-- The install reaches registers and table memory alone. -/
theorem State.installed_eq (s : State) (set : Tbl Word) :
    s.installed set = { s with
      cfg := { s.cfg with
        regs := (s.installed set).cfg.regs, tm := (s.installRegs set).installTm.cfg.tm, tmSh := [], shBlocks := [], shPlace := [] }
      tbm := (s.installRegs set).installTm.tbm } := by
  have regs := s.installRegs_only set
  have tables := (s.installRegs set).installTm_only
  unfold State.OnlyRegs at regs
  unfold State.installed
  generalize (s.installRegs set).installTm = b at tables ⊢
  generalize s.installRegs set = a at regs tables
  have pool : b.setPool = { b with cfg := { b.cfg with regs := b.setPool.cfg.regs } } := rfl
  rw [pool, tables, regs]

/-- Tables in table memory are no registers. -/
theorem State.raw_installTm (s : State) (i : Nat) : s.installTm.raw i = s.raw i := by
  rw [s.installTm_only]; rfl

theorem State.raw_installed (set : Tbl Word) {i : Nat} (h : i ≠ R.XBC_SHARED) :
    (s.installed set).raw i = (s.installRegs set).raw i := by
  rw [State.installed, State.setPool]
  exact (State.raw_setFld_ne _ _ _ h).trans (State.raw_installTm _ _)

/-- Prefetches that are discarded change what `OnlyPf` names. -/
theorem State.pfDrops_only {α : Type} (l : List (Nat × α)) (s : State) : s.OnlyPf (l.foldl (fun u e => u.pfDrop e.1) s) :=
  foldl_keeps State.OnlyPf _ (fun _ => ⟨rfl, fun _ _ _ => rfl⟩) State.OnlyPf.trans (fun u e => u.pfDrop_only e.1) l s

/-- What the install leaves in the configuration, in CTL, in time and in what has been sent. -/
structure State.Flipped (s : State) (c : CommitSt) (v : State) : Prop where
  cfg : v.cfg = { (s.installed c.set).cfg with
    regs := v.cfg.regs, onDie := (s.installed c.set).cfg.onDieSh, faulty := (s.installed c.set).cfg.faultySh
    prev := some { epoch := s.cfg.epoch, regs := s.cfg.regs, onDie := s.cfg.onDie, tm := s.cfg.tm, faulty := s.cfg.faulty }
    prevBlocks := s.cfg.shBlocks.length, prevPlace := s.cfg.shPlace.map (·.2)
    epoch := ((s.installed c.set).cfg.epoch + 1) % 2 ^ 32
    shadow := s.cfg.shadow.filter fun e => tfind c.set e.1 ≠ some e.2, dirty := [] }
  ctl : v.ctl = { (s.installed c.set).ctl with
    commit := some { c with step := 4 }, adopting := (s.installed c.set).cfg.ports.map (·.1), epochDone := false }
  now : v.now = (s.installed c.set).now
  out : v.out = (s.installed c.set).out
  raw : ∀ i : Nat, i ≠ R.BRG_CNT 12 → (∀ w : Nat, i ≠ R.BRG_WIN_PFDROP w) → v.raw i = (s.installed c.set).raw i

theorem State.install_flipped (s : State) (c : CommitSt) : s.Flipped c (s.install c) := by
  unfold State.install
  dsimp only
  generalize h : List.foldl (fun (u : State) (e : Nat × _) => u.pfDrop e.1) _ _ = v
  obtain ⟨only, raw⟩ := h ▸ State.pfDrops_only _ _
  exact ⟨congrArg (·.cfg) only, congrArg (·.ctl) only, congrArg (·.now) only, congrArg (·.out) only, raw⟩

/-! ### COMMIT: adoption, completion and drain (R60 steps 4 to 6, R66) -/

theorem State.commitDone_waits (h : s.ctl.adopting ≠ []) : s.commitDone = s := by
  unfold State.commitDone
  split
  · exact if_neg fun n => h n.2
  · rfl

section
variable (h : s.ctl.commit = some c) (step : c.step = 4) (all : s.ctl.adopting = [])
include h step all

/-- The completion of a flip that every port has adopted. -/
theorem State.commitDone_written (room : s.decanting = false ∨ (s.ringRoom .evr ≠ 0 ∧ s.ctl.held = [])) :
    s.commitDone =
      ({ s with ctl := { s.ctl with commit := none, epochDone := true } } : State).cmdDone c.slot c.desc stSuccess s.cfg.epoch := by
  rw [State.commitDone, h]
  refine (if_pos ⟨step, all⟩).trans (if_neg ?_)
  rintro ⟨decants, full⟩
  rcases room with idle | ⟨room, held⟩
  · exact Bool.eq_false_iff.mp idle decants
  · exact full.elim room (· held)

/-- During a decant that leaves the EVR no room, it is kept for the exit. -/
theorem State.commitDone_owed (decants : s.decanting = true) (full : s.ringRoom .evr = 0 ∨ s.ctl.held ≠ []) :
    s.commitDone = { s with
      ctl := { s.ctl with commit := none, epochDone := true }
      dct := { s.dct with
        owed := { slot := c.slot, desc := c.desc, status := stSuccess, result := s.cfg.epoch } :: s.dct.owed } } := by
  rw [State.commitDone, h]
  exact (if_pos ⟨step, all⟩).trans (if_pos ⟨decants, full⟩)

end

/-- The state once a port has adopted the epoch. -/
def State.adopted (s : State) (p : Nat) : State :=
  ({ s with ctl := { s.ctl with adopting := s.ctl.adopting.filter (· ≠ p) } } : State).keepQueues p

theorem State.doPortAdopt_eq {p : Nat} (h : p ∈ s.ctl.adopting) : s.doPortAdopt p = (s.adopted p).commitDone := if_pos h

section
variable (p : Nat)

/-- A port that adopts leaves the list of those that have yet to, and may keep parameters of its queues. -/
theorem State.adopted_only : s.adopted p = { s with
    ctl := { s.ctl with adopting := s.ctl.adopting.filter (· ≠ p) }, tmg := (s.adopted p).tmg } :=
  State.keepQueues_only _ p

@[simp] theorem State.adopted_ctl : (s.adopted p).ctl = { s.ctl with adopting := s.ctl.adopting.filter (· ≠ p) } :=
  congrArg (·.ctl) (s.adopted_only p)

@[simp] theorem State.adopted_cfg : (s.adopted p).cfg = s.cfg := congrArg (·.cfg) (s.adopted_only p)

@[simp] theorem State.adopted_decanting : (s.adopted p).decanting = s.decanting := congrArg (·.dct.active) (s.adopted_only p)

@[simp] theorem State.adopted_ringRoom (r : RingId) : (s.adopted p).ringRoom r = s.ringRoom r := by
  rw [s.adopted_only p]; rfl

end

/-- The previous epoch's copy goes, and with it what the cache holds of it alone. -/
theorem State.doEpochDrained_due {q : PrevEpoch} (prev : s.cfg.prev = some q) (all : s.ctl.adopting = [])
    (done : s.ctl.epochDone = true) (left : ∀ e ∈ s.xbc.pkts, e.2.epoch ≠ q.epoch) :
    s.doEpochDrained = ({ s with
      cfg := { s.cfg with prev := none, prevBlocks := 0, prevPlace := [] }
      brg := { s.brg with cache := (s.brg.cache.filter fun x => x.epoch == s.cfg.epoch || x.both).map fun x =>
        { x with epoch := s.cfg.epoch, both := false } } } : State).event { code := 0x0002, data := leBytes 4 q.epoch } := by
  have drained : (!(s.xbc.pkts.any fun e => e.2.epoch == q.epoch)) = true := by
    rw [Bool.not_eq_true', List.any_eq_false]
    exact fun e he => by simpa using left e he
  rw [State.doEpochDrained, prev]
  exact if_pos ⟨all, done, drained⟩

end
end Sys2Proof.Machine

namespace Sys2Proof
open Machine

/-- Settles O4: COMMIT is taken or refused, and ends at the bound of its wait or at a check that fails. -/
theorem commitEnds : Obligations.CommitEnds := by
  unfold Obligations.CommitEnds
  refine ⟨fun s t u dt k d hf h => ?_, fun s t dt c hf h step prev due => ?_, fun s t dt n i c hf h step prev safe bad => ?_⟩
  · rw [exec_commit hf, State.doCommit_taken h]
  · rw [exec_epochStuck hf, State.doEpochStuck_due h step prev due]
  · rw [exec_commitChecks hf, State.doCommitChecks_mismatch h step prev safe bad]

/-- Settles O5: the install by what it leaves (`State.install_flipped`), the adoption by what a port changes
(`State.adopted_only`). -/
theorem commitInstalls : Obligations.CommitInstalls := by
  unfold Obligations.CommitInstalls
  refine ⟨fun s t dt c hf h step prev safe good => ⟨?_, ?_⟩, fun s t u dt p hf hp hu => ?_,
    fun s t dt q hf prev all done left => ?_⟩
  · rw [exec_commitChecks hf, State.doCommitChecks_install h step prev safe good]
  · rintro u rfl
    obtain ⟨cfg, ctl, now, out, raw⟩ := t.install_flipped c
    rw [cfg, ctl, now, out, t.installed_eq c.set]
    refine ⟨rfl, rfl, rfl, rfl, fun k shared count drops => ?_, rfl, rfl, rfl, rfl, rfl, rfl, rfl, rfl⟩
    exact (raw k count drops).trans (State.raw_installed _ shared)
  · obtain rfl : u = t.adopted p := hu
    rw [exec_portAdoptEpoch hf, State.doPortAdopt_eq hp]
    refine ⟨fun more => ?_, fun c last commit step => ⟨fun room => ?_, fun decants full => ?_⟩⟩
    · rw [State.commitDone_waits (by rwa [State.adopted_ctl])]
    · rw [State.commitDone_written (c := c) (by simpa using commit) step (by simpa using last) (by simpa using room),
        State.adopted_cfg]
    · rw [State.commitDone_owed (c := c) (by simpa using commit) step (by simpa using last) (by simpa using decants)
        (by simpa using full), State.adopted_cfg]
  · rw [exec_epochDrained hf, State.doEpochDrained_due prev all done left]

end Sys2Proof

namespace Sys2Proof.Machine

/-! ### Writes that a register ignores as a whole (R46) -/

/-- The bytes of the number that bytes spell are those bytes. -/
theorem leBytes_ofLe (bs : List Byte) : leBytes bs.length (ofLe bs) = bs := by
  induction bs with
  | nil => rfl
  | cons b bs ih =>
    have := b.isLt
    have head : BitVec.ofNat 8 (b.toNat + 256 * ofLe bs) = b := BitVec.eq_of_toNat_eq (by rw [BitVec.toNat_ofNat]; omega)
    have tail : (b.toNat + 256 * ofLe bs) >>> 8 = ofLe bs := by rw [Nat.shiftRight_eq_div_pow]; omega
    simp only [List.length_cons, leBytes, ofLe, head, tail, ih]

/-- A mask of the low half of a register lies within the bytes of an access of it. -/
theorem and_byteMask {k n : Nat} (h : k < 2 ^ 32) (hn : n = 4 ∨ n = 8) : k &&& byteMask 0 n = k := by
  have lt : k < 2 ^ (8 * n) := lt_of_lt_of_le h (Nat.pow_le_pow_right (by decide) (by omega))
  rw [byteMask, Nat.mul_zero, Nat.shiftLeft_zero, Nat.and_two_pow_sub_one_eq_mod, Nat.mod_eq_of_lt lt]

/-- Whether the fields that can be written are RW ones, at the bits `k` of the low half, in a register whose copies are alike. -/
def RegDef.takesAt (d : RegDef) (k : Nat) : Bool :=
  (fieldsMask d (fun f => f.acc == .rw && f.cls == .sh) ||| fieldsMask d (fun f => f.acc == .rw && f.cls == .quiesce)
      ||| fieldsMask d (fun f => f.acc == .rw && f.cls != .sh && f.cls != .quiesce)) == k
    && d.fields.all (fun f => f.acc != .w1s && f.acc != .w1c) && decide (k ≠ 0 ∧ k < 2 ^ 32)
    && decide (d.base < 0x4000000 ∧ d.base ∉ R.MPU_SLOT 0 :: partlyRoBases)

/-- Whether a key is that of such a register, below the port pages. -/
def takesAt (key k : Nat) : Bool :=
  key % 8 == 0 && decide (key < R.PCP_PORT_CFG 0 0) && (regAt key).any (·.takesAt k)

/-- No field of such a register takes a written one. -/
theorem fieldsMask_no_ones {d : RegDef} (h : d.fields.all (fun f => f.acc != .w1s && f.acc != .w1c) = true) (p : Bool) :
    fieldsMask d (fun f => f.acc == .w1s || (f.acc == .w1c && p)) = 0 ∧ fieldsMask d (fun f => f.acc == .w1c && p) = 0 := by
  simp only [List.all_eq_true, Bool.and_eq_true, bne_iff_ne] at h
  exact ⟨fieldsMask_none d _ fun f hf => by simp [h f hf], fieldsMask_none d _ fun f hf => by simp [h f hf]⟩

section
variable {s : State} {key k : Nat} (takes : takesAt key k = true) (unlocked : s.slotLocked (key / 0x40000) = false)
include takes unlocked

/-- A write of values that the block refuses, whatever stands in the other fields, changes none. -/
theorem State.regApply_refused {n : Nat} (hn : n = 4 ∨ n = 8) (v : Word) (env : Option Bool)
    (bad : ∀ old, s.regBad key (mixBits old v k) = true) :
    s.regApply key v (byteMask 0 n) env = (false, s.regErr stBadParam key) := by
  simp only [takesAt, Bool.and_eq_true, decide_eq_true_eq] at takes
  obtain ⟨⟨-, low⟩, takes⟩ := takes
  obtain ⟨d, here, takes⟩ := (Option.any_eq_true _ _).mp takes
  simp only [RegDef.takesAt, Bool.and_eq_true, beq_iff_eq, decide_eq_true_eq, List.mem_cons, not_or] at takes
  obtain ⟨⟨⟨masks, ones⟩, nonzero, half⟩, base, slot, partly⟩ := takes
  have info : regInfo key = some d.info := by rw [regInfo, here]; rfl
  have absent : s.absent key = false := State.absent_low low
  have direct : s.sliceWrite key v (byteMask 0 n) = none := State.sliceWrite_low (regBase_info info) base _ _
  have held : s.lkHeld key = false := by
    rw [State.lkHeld_info info (beq_eq_false_iff_ne.mpr slot) (by simp only [R.PCP_PORT_CFG] at low; omega), unlocked]
  have ro : s.roBits key = 0 := State.roBits_other (regBase_info info) partly
  have slip : isReg key (R.LG_BITSLIP 0) = false := by
    rw [isReg_info info, beq_eq_false_iff_ne]
    exact fun h => partly (by rw [show d.base = R.LG_BITSLIP 0 from h]; decide)
  have free : byteMask 0 n &&& (2 ^ 64 - 1 - ((0 ||| 0) &&& (2 ^ 64 - 1))) = byteMask 0 n := by rcases hn with rfl | rfl <;> rfl
  simp only [State.regApply, absent, here, direct, held, ro, slip, (fieldsMask_no_ones ones _).1, (fieldsMask_no_ones ones _).2,
    free, ← Nat.and_or_distrib_right, masks, and_byteMask half hn, nonzero, Nat.zero_and, BitVec.and_zero, BitVec.toNat_ofNat,
    Nat.zero_mod, mixBits_zero, bad, false_and, Bool.false_eq_true, ne_eq, not_true_eq_false, decide_false, ↓reduceIte]

/-- The access that carries it is reported as BAD_PARAM, and that is all. -/
theorem State.registerWrite_refused {m : Master} {bs : List Byte} (size : bs.length = 4 ∨ bs.length = 8)
    (ok : accessOk m key bs.length = true) (right : s.mpuRight m (key / 0x40000) true = true)
    (bad : ∀ old, s.regBad key (mixBits old (BitVec.ofNat 64 (ofLe bs)) k) = true) :
    s.registerWrite m .mgmt key bs = s.regErr stBadParam key := by
  have aligned : key % 8 = 0 := by
    simp only [takesAt, Bool.and_eq_true, beq_iff_eq] at takes
    exact takes.1.1
  have value : ofLe bs % 256 ^ bs.length = ofLe bs := by rw [← ofLe_leBytes, leBytes_ofLe]
  have put : s.putBytes none 9 key bs = (false, s.regErr stBadParam key) := by
    have one := s.putBytes_one none 8 key bs.length (ofLe bs) aligned (by omega) (by omega)
    rwa [leBytes_ofLe, value, State.regApply_refused takes unlocked size _ none bad] at one
  simp only [State.registerWrite, State.regWrite, State.mpuWrite, ok, right, put, Bool.not_true, Bool.false_eq_true, ↓reduceIte]

end

/-! ### Where eight registers take their values, and which they refuse (R96, R155, R381, R567) -/

theorem takesAt_XBC_CFG : takesAt R.XBC_CFG 0x8FFF03FF = true := by decide +kernel
theorem takesAt_XBC_SMP_CFG : ∀ p < 128, takesAt (R.XBC_SMP_CFG p) 0xC000FFFF = true := by decide +kernel
theorem takesAt_RTE_CFG : takesAt R.RTE_CFG 0xF01F0000 = true := by decide +kernel
theorem takesAt_RTE_ESC_THR : takesAt R.RTE_ESC_THR 0x800FFFFF = true := by decide +kernel
theorem takesAt_RTE_FLOW_CFG : takesAt R.RTE_FLOW_CFG 0x3FF = true := by decide +kernel
theorem takesAt_PWR_CFG : takesAt R.PWR_CFG 0xFFFF = true := by decide +kernel
theorem takesAt_PWR_WAKE_CFG : takesAt R.PWR_WAKE_CFG 0xFF800000 = true := by decide +kernel
theorem takesAt_CTL_COMMIT_CFG : takesAt R.CTL_COMMIT_CFG 0xFFFF0000 = true := by decide +kernel

/-- A register of which the rules of supplies, slots and clocks alone speak. -/
theorem State.regBad_power {s : State} {key b : Nat} (hb : regBase key = b) (w : Word)
    (h : b ∉ badPortBases ++ badLaneBases ++ badSwitchBases ++ badMgmtBases ++ [R.WLG_CTX_CFG 0]) :
    s.regBad key w = s.badPower key w := by
  simp only [List.mem_append, List.mem_singleton, not_or, and_assoc] at h
  obtain ⟨hp, hl, hs, hm, hc⟩ := h
  simp [State.regBad, isReg, s.badPort_other hb w hp, s.badLane_other hb w hl, badSwitch_other hb w hs, s.badMgmt_other hb w hm,
    hb, hc]

/-- A register that is looked at by its key is its own base. -/
theorem regBase_of_fixed {k : Nat} (h : k ∈ fixedKeys) : regBase k = k := beq_iff_eq.mp (List.all_eq_true.mp regBase_fixed k h)

section
variable {s : State} (w : Word)

theorem State.regBad_XBC_CFG : s.regBad R.XBC_CFG w =
    (F.XBC_CFG_CT_STALL_MAX.get w == 0 || !within (F.XBC_CFG_SWEEP_US.get w) 1 1000) :=
  State.regBad_switch (regBase_of_fixed (by decide)) w (by decide)

theorem State.regBad_RTE_CFG : s.regBad R.RTE_CFG w = (F.RTE_CFG_TTL_INIT.get w == 0) := by
  have hb : regBase R.RTE_CFG = R.RTE_CFG := regBase_of_fixed (by decide)
  rw [State.regBad_switch hb w (by decide)]
  simp only [badSwitch, hb]
  rfl

theorem State.regBad_RTE_ESC_THR : s.regBad R.RTE_ESC_THR w = !within (F.RTE_ESC_THR_THR_NS.get w) 100 1000000 := by
  have hb : regBase R.RTE_ESC_THR = R.RTE_ESC_THR := regBase_of_fixed (by decide)
  rw [State.regBad_switch hb w (by decide)]
  simp only [badSwitch, hb]
  rfl

theorem State.regBad_RTE_FLOW_CFG : s.regBad R.RTE_FLOW_CFG w = !within (F.RTE_FLOW_CFG_IDLE_MS.get w) 1 1000 := by
  have hb : regBase R.RTE_FLOW_CFG = R.RTE_FLOW_CFG := regBase_of_fixed (by decide)
  rw [State.regBad_switch hb w (by decide)]
  simp only [badSwitch, hb]
  rfl

theorem State.regBad_PWR_CFG : s.regBad R.PWR_CFG w = decide (F.PWR_CFG_STOP_TMO_US.get w < 10) :=
  State.regBad_power (regBase_of_fixed (by decide)) w (by decide)

theorem State.regBad_PWR_WAKE_CFG : s.regBad R.PWR_WAKE_CFG w =
    (F.PWR_WAKE_CFG_WAKE_EN.get w == 1 && F.PWR_WAKE_CFG_MAIN_EN_EN.get w == 1
      && F.PWR_WAKE_CFG_WAKE_GPIO.get w == F.PWR_WAKE_CFG_MAIN_EN_GPIO.get w) :=
  State.regBad_power (regBase_of_fixed (by decide)) w (by decide)

theorem State.regBad_CTL_COMMIT_CFG : s.regBad R.CTL_COMMIT_CFG w = (F.CTL_COMMIT_CFG_WAIT_MAX.get w == 0) := by
  have hb : regBase R.CTL_COMMIT_CFG = R.CTL_COMMIT_CFG := regBase_of_fixed (by decide)
  rw [State.regBad_mgmt hb w (by decide)]
  simp only [State.badMgmt, hb]
  rfl

end

theorem within_eq_false {n lo hi : Nat} : within n lo hi = false ↔ n < lo ∨ hi < n := by
  rw [within, decide_eq_false_iff_not]; omega

end Sys2Proof.Machine

namespace Sys2Proof
open Machine

/-- Settles O59: in the word that each register would be left at, the fields that its rule looks at are those of the written
value, so that the rule refuses it. -/
theorem badValuesAreIgnored : Obligations.BadValuesAreIgnored := by
  unfold Obligations.BadValuesAreIgnored
  intro s t dt k p m bs v hf size hv ok right unlocked hp bad
  subst hv
  have ignored {bits : Nat} (takes : takesAt k bits = true)
      (refuses : ∀ old, t.regBad k (mixBits old (BitVec.ofNat 64 (ofLe bs)) bits) = true) :
      exec (.registerWrite dt m .mgmt k bs) s = .next (t.regErr stBadParam k).settle := by
    rw [exec_registerWrite hf, State.registerWrite_refused takes unlocked size ok right refuses]
  have written (f : Fld) {bits : Nat} (h : f.mask &&& bits = f.mask) (old : Word) :=
    f.get_mixBits_in old (BitVec.ofNat 64 (ofLe bs)) h
  rcases bad with ⟨rfl, bad⟩ | ⟨rfl, en, n⟩ | ⟨rfl, ttl⟩ | ⟨rfl, bad⟩ | ⟨rfl, bad⟩ | ⟨rfl, tmo⟩ | ⟨rfl, wake, main, same⟩ |
    ⟨rfl, wait⟩
  · refine ignored takesAt_XBC_CFG fun old => ?_
    rw [State.regBad_XBC_CFG, written _ (by decide), written _ (by decide)]
    rcases bad with stall | sweep
    · rw [stall]; rfl
    · rw [within_eq_false.mpr (by omega), Bool.not_false, Bool.or_true]
  · refine ignored (takesAt_XBC_SMP_CFG p hp) fun old => ?_
    rw [State.regBad_XBC_SMP_CFG hp, written _ (by decide), written _ (by decide), en, n]; rfl
  · refine ignored takesAt_RTE_CFG fun old => ?_
    rw [State.regBad_RTE_CFG, written _ (by decide), ttl]; rfl
  · refine ignored takesAt_RTE_ESC_THR fun old => ?_
    rw [State.regBad_RTE_ESC_THR, written _ (by decide), within_eq_false.mpr bad]; rfl
  · refine ignored takesAt_RTE_FLOW_CFG fun old => ?_
    rw [State.regBad_RTE_FLOW_CFG, written _ (by decide), within_eq_false.mpr bad]; rfl
  · refine ignored takesAt_PWR_CFG fun old => ?_
    rw [State.regBad_PWR_CFG, written _ (by decide), decide_eq_true tmo]
  · refine ignored takesAt_PWR_WAKE_CFG fun old => ?_
    rw [State.regBad_PWR_WAKE_CFG, written _ (by decide), written _ (by decide), written _ (by decide), written _ (by decide),
      wake, main, same]
    simp only [beq_self_eq_true, Bool.and_self]
  · refine ignored takesAt_CTL_COMMIT_CFG fun old => ?_
    rw [State.regBad_CTL_COMMIT_CFG, written _ (by decide), wait]; rfl

end Sys2Proof

namespace Sys2Proof.Machine
section
variable {s : State} {p : Nat}

/-! ### What arrives at a PCI Express port (R75, R241, R243) -/

/-- A port that is down takes nothing. -/
theorem State.doTlpReceive_down (down : (s.pcpOf p).up = false) (x : PcieRx) : s.doTlpReceive p x = s :=
  if_pos (.inr (by rw [down]; rfl))

section
variable (pcie : s.isPcie p = true) (up : (s.pcpOf p).up = true)
include pcie up

/-- One that is up looks at what arrives. -/
theorem State.receives_up : ¬ ((!s.isPcie p) = true ∨ (!(s.pcpOf p).up) = true) := by simp [pcie, up]

theorem State.doTlpReceive_tlp (h : Hdr) (payload raw : List Byte) (whole ide : Bool) (v : TlpVerdict) :
    s.doTlpReceive p (.tlp h payload whole raw ide v) = s.rxTlp p h payload whole raw ide v :=
  if_neg (State.receives_up pcie up)

section
variable {i : Nat} (cur : tfind s.xbc.rxCur p = some i)
include cur

theorem State.doTlpReceive_more (payload : List Byte) (last : Bool) :
    s.doTlpReceive p (.more payload last) = s.moreData i payload last := by
  rw [State.doTlpReceive, if_neg (State.receives_up pcie up)]
  simp only [cur]

theorem State.doTlpReceive_discard : s.doTlpReceive p .discard = (s.cntPcp p 0).endPacket i := by
  rw [State.doTlpReceive, if_neg (State.receives_up pcie up)]
  simp only [cur]

end

theorem State.doTlpReceive_crcError (dllp : Bool) : s.doTlpReceive p (.crcError dllp) =
    ((s.rxLog p (if dllp then .badDllp else .badTlp)).raise Flt.PCP_RX_COR p).emit (.link p "NAK") :=
  if_neg (State.receives_up pcie up)

/-- Credits of a type that the partner returns are added to that type's. -/
theorem State.doTlpReceive_fcUpdate (ty hdr data : Nat) : s.doTlpReceive p (.fcUpdate ty hdr data false) =
    s.setPcp p (if ty = 0 then { s.pcpOf p with ph := (s.pcpOf p).ph + hdr, pd := (s.pcpOf p).pd + data }
      else if ty = 1 then { s.pcpOf p with nph := (s.pcpOf p).nph + hdr, npd := (s.pcpOf p).npd + data }
      else { s.pcpOf p with ch := (s.pcpOf p).ch + hdr, cd := (s.pcpOf p).cd + data }) :=
  if_neg (State.receives_up pcie up)

theorem State.doTlpReceive_fcBeyond (ty hdr data : Nat) : s.doTlpReceive p (.fcUpdate ty hdr data true) =
    (s.portError p .flowControl none Flt.PCP_FC_PROTO).emit (.link p "retrain") :=
  if_neg (State.receives_up pcie up)

theorem State.doTlpReceive_ackNever :
    s.doTlpReceive p (.ack true) = (s.portError p .dataLink none Flt.PCP_DLP).emit (.link p "retrain") :=
  if_neg (State.receives_up pcie up)

theorem State.doTlpReceive_nak : s.doTlpReceive p .nak = (s.cntPcp p 6).emit (.link p "replay") :=
  if_neg (State.receives_up pcie up)

/-- A partner below is one that a port other than an upstream port (role 0) has. -/
theorem State.doTlpReceive_enterL23 (below : s.role p ≠ 0) :
    s.doTlpReceive p .enterL23 = s.setFld (s.pk p R.PCP_LINK_STAT) F.PCP_LINK_STAT_PM 5 := by
  rw [State.doTlpReceive, if_neg (State.receives_up pcie up)]
  exact if_neg below

end

/-- A TLP of which neither the layers below nor the port's own checks find fault is accepted: it stays within the credits, has
the right form, comes under a stream that the port may take, and names a bus below the port. -/
theorem State.rxTlp_accepted {h : Hdr} {payload : List Byte} {whole ide : Bool} (raw : List Byte)
    (stream : ide = false ∨ h.sel = true ∨ ((s.pcpOf p).insecure = false ∧ s.ideSecure p = true))
    (source : s.role p ≠ 1 ∨ h.kind.isCpl = true ∨ s.acsOn (.port p) 0 = false ∨ s.ownsBus (.port p) (h.reqId / 256) = true)
    (credits : s.beyondCredits p h = false) (form : s.badForm p h payload whole = false) :
    s.rxTlp p h payload whole raw ide {} = s.acceptTlp p h payload whole raw ide := by
  have keyed : ¬ (ide = true ∧ (!h.sel) = true ∧ ((s.pcpOf p).insecure = true ∨ (!s.ideSecure p) = true)) := by
    rcases stream with off | sel | ⟨secure, key⟩
    · simp [off]
    · simp [sel]
    · simp [secure, key]
  have valid : (s.role p == 1 && !h.kind.isCpl && s.acsOn (.port p) 0 && !s.ownsBus (.port p) (h.reqId / 256)) = false := by
    rcases source with role | cpl | off | owns
    · simp [role]
    · simp [cpl]
    · simp [off]
    · simp [owns]
  simp only [State.rxTlp, credits, form, keyed, valid, Bool.false_eq_true, false_and, or_self, Bool.or_self, ↓reduceIte]

end
end Sys2Proof.Machine

namespace Sys2Proof
open Machine

/-- Settles O8: each kind of arrival at a port that is up, and none at one that is down. -/
theorem tlpReceiveCompletes : Obligations.TlpReceiveCompletes := by
  unfold Obligations.TlpReceiveCompletes
  refine ⟨fun s t dt p h payload raw whole ide hf pcie up stream source credits form => ?_,
    fun s t dt p i payload last hf pcie up cur => ⟨?_, ?_⟩, fun s t dt p hf pcie up dllp => ?_,
    fun s t dt p hdr data hf pcie up => ⟨?_, ?_, ?_, ?_, ?_, ?_⟩, fun s t dt p hf pcie up below => ?_,
    fun s t dt p x hf down => ?_⟩
  · rw [exec_tlpReceive hf, State.doTlpReceive_tlp pcie up, State.rxTlp_accepted raw stream source credits form]
  · rw [exec_tlpReceive hf, State.doTlpReceive_more pcie up cur]
  · rw [exec_tlpReceive hf, State.doTlpReceive_discard pcie up cur]
  · rw [exec_tlpReceive hf, State.doTlpReceive_crcError pcie up]
  · rw [exec_tlpReceive hf, State.doTlpReceive_fcUpdate pcie up, if_pos rfl]
  · rw [exec_tlpReceive hf, State.doTlpReceive_fcUpdate pcie up, if_neg one_ne_zero, if_pos rfl]
  · rw [exec_tlpReceive hf, State.doTlpReceive_fcUpdate pcie up, if_neg two_ne_zero, if_neg (by decide)]
  · rw [exec_tlpReceive hf, State.doTlpReceive_fcBeyond pcie up]
  · rw [exec_tlpReceive hf, State.doTlpReceive_ackNever pcie up]
  · rw [exec_tlpReceive hf, State.doTlpReceive_nak pcie up]
  · rw [exec_tlpReceive hf, State.doTlpReceive_enterL23 pcie up below]
  · rw [exec_tlpReceive hf, State.doTlpReceive_down down]

end Sys2Proof

namespace Sys2Proof.Machine
section
variable {s : State} {p : Nat}

/-! ### The switch core's own steps (R71, R75, R83, R90, R93) -/

/-- A packet that waits on a TMG answer is looked up again. -/
theorem State.lookupResume_one {i : Nat} (stalled : s.xbc.stalled = [i]) (stamp : (s.pkt i).stall = some .stamp)
    (whole : (s.pkt i).relD = []) :
    s.lookupResume (s.pkt i).ingress (s.pkt i).tc = (s.unstall i).addJob (.enter i) := by
  simp [State.lookupResume, stalled, stamp, whole]

/-- A port sends the packet at the head of what it is sending, once it is whole and all its checks pass. -/
theorem State.sendDone_whole {x : Sending} (link : s.isScango p = false)
    (oldest : s.xbc.sending.find? (fun y => y.link == p) = some x) (whole : (s.pkt x.pkt).whole = true)
    (egress : ∀ k, s.upsets.contains (0xE6, 64 * p + k) = false) (desc : (s.pkt x.pkt).descPar = 0)
    (cells : ∀ k, x.chk ≤ k → (s.cellOf (s.pkt x.pkt) k).sideBad = false ∧ (s.cellOf (s.pkt x.pkt) k).dataBad = false)
    {u : State}
    (hu : u = ({ s with xbc := { s.xbc with sending := s.xbc.sending.filter fun y => y ≠ x } } : State)) :
    s.sendDone p = ((((u.emit (.tlp p ((s.pkt x.pkt).dest x.dest).hdr (u.payload (s.pkt x.pkt)))).ev 6 2 p
      (s.pkt x.pkt).tc).ev 6 3 p (s.pkt x.pkt).tc (ceilDiv ((s.pkt x.pkt).dest x.dest).hdr.size 4)).noteSent p
        ((s.pkt x.pkt).dest x.dest).hdr.size).sentWhole x.pkt x.dest p := by
  have late : ∀ k ∈ (List.range (s.pkt x.pkt).ncells).drop x.chk, x.chk ≤ k := fun k hk => by
    rw [List.range_eq_range', List.drop_range', List.mem_range'] at hk
    omega
  have side : ((List.range (s.pkt x.pkt).ncells).drop x.chk).any (fun k => (s.cellOf (s.pkt x.pkt) k).sideBad) = false :=
    List.any_eq_false.mpr fun k hk => by simp [(cells k (late k hk)).1]
  have data : ((List.range (s.pkt x.pkt).ncells).drop x.chk).any (fun k => (s.cellOf (s.pkt x.pkt) k).dataBad) = false :=
    List.any_eq_false.mpr fun k hk => by simp [(cells k (late k hk)).2]
  have crossing : (List.range (s.pkt x.pkt).ncells).any (fun k => k > 0 && s.upsets.contains (0xE6, 64 * p + k)) = false :=
    List.any_eq_false.mpr fun k _ => by rw [egress k, Bool.and_false]; exact Bool.false_ne_true
  have port : u.isScango p = false := by rw [hu]; exact link
  subst hu
  simp only [State.sendDone, oldest, link, whole, desc, side, data, crossing, port, Bool.not_false, Bool.not_true,
    Bool.and_false, Bool.or_false, Bool.false_eq_true, ne_eq, not_true_eq_false, or_self, ↓reduceIte]

/-- The packet that a port is sending ends where its next cell has not come for CT_STALL_MAX. -/
theorem State.ctStall_due {x : Sending} (sending : s.xbc.sending.find? (fun y => y.link == p && !(s.pkt y.pkt).whole) = some x)
    (due : s.now - (s.pkt x.pkt).lastWr ≥ 1000 * s.fld R.XBC_CFG F.XBC_CFG_CT_STALL_MAX) :
    s.ctStall p = s.endDests x.pkt [x.dest] := by
  rw [State.ctStall, sending]
  exact if_pos due

/-- The sweep of a queue that holds one packet, which is aged. -/
theorem State.sweepQueue_one {n i d : Nat} (head : (s.queue n).mem = [(i, d)]) (aged : s.aged (s.pkt i) = true) :
    s.sweepQueue n (s.queue n).mem.length = (s.unq i d).ageOut i d := by
  simp only [head, List.length_singleton, State.sweepQueue, aged, ↓reduceIte]

/-- The ports of a quadrant. -/
def State.quadPorts (s : State) (q : Nat) : List Nat := (s.cfg.ports.map (·.1)).filter fun p => s.quadrant p == q

/-- The time of a quadrant's sweep is noted. -/
def State.sweepNoted (s : State) (q : Nat) : State := { s with xbc := { s.xbc with swept := tput s.xbc.swept q s.now } }

theorem State.ageSweep_due {q : Nat} (due : s.sweepDue q = true) : s.ageSweep q = (s.sweepNoted q).sweepQuad q := if_pos due

/-- A sweep of a quadrant, where the only queue is one of its ports' and holds one aged packet, and no lookup waits after it. -/
theorem State.sweepQuad_one {q n i d : Nat} {x : Queue} (safe : s.safe = false) (queues : s.tmg.queues = [(n, x)])
    (mem : x.mem = [(i, d)]) (ofPort : n < 32768) (port : n / 256 ∈ s.quadPorts q) (aged : s.aged (s.pkt i) = true) {u : State}
    (hu : u = (s.quadPorts q).foldl State.sweepHold ((s.unq i d).ageOut i d)) (stalled : u.xbc.stalled = []) :
    s.sweepQuad q = u := by
  have head : (s.queue n).mem = [(i, d)] := by simp [State.queue, queues, tget, mem]
  have listed : (s.quadPorts q).contains (n / 256) = true := List.contains_iff_mem.mpr port
  have swept : (s.tmg.queues.map (·.1)).filter (fun k => if k < 32768 then !s.safe && (s.quadPorts q).contains (k / 256)
      else (s.quadPorts q).contains (k - 32768)) = [n] := by
    simp only [queues, List.map_cons, List.map_nil, List.filter_cons, List.filter_nil, ofPort, safe, listed, Bool.not_false,
      Bool.and_self, ↓reduceIte]
  simp only [State.sweepQuad, ← State.quadPorts.eq_def, swept, List.foldl_cons, List.foldl_nil, State.sweepQueue_one head aged,
    ← hu, stalled]

/-! ### A port selects (R83, R162, R230) -/

section
variable (ups : List Upset) (idle : s.isScango p = true ∨ s.busyPort p = false) {v u : State}
  (hv : v = (s.dropHeld p (s.pcpOf p).hold.length).offWheel p)
include idle hv

/-- A held request that may go is sent. -/
theorem State.doEgress_held (pcie : v.isScango p = false) (held : v.sendHeld p = some u) : s.doEgress p ups = u := by
  have free : ¬ ((!s.isScango p) = true ∧ s.busyPort p = true) := by rcases idle with h | h <;> simp [h]
  rw [State.doEgress, State.egressSelect, if_neg free]
  simp only [← hv, pcie, held, Bool.false_eq_true, ↓reduceIte]

/-- Where none may, the head of the queue that the port picks is sent. -/
theorem State.doEgress_head {n i d : Nat} {l : List (Nat × Nat)} (held : v.isScango p = true ∨ v.sendHeld p = none)
    (pick : v.pickQueue p = some (n, u)) (head : (v.queue n).mem = (i, d) :: l) (young : v.aged (v.pkt i) = false)
    (kept : v.dctDrops (v.pkt i) = false) :
    s.doEgress p ups = ((u.ev 2 1 p (v.pkt i).tc).ev 2 2 p (v.pkt i).tc
      (ceilDiv ((v.pkt i).dest d).hdr.size 4)).startSend i d p ups := by
  have free : ¬ ((!s.isScango p) = true ∧ s.busyPort p = true) := by rcases idle with h | h <;> simp [h]
  have none_held : (if v.isScango p = true then none else v.sendHeld p) = none := by rcases held with h | h <;> simp [h]
  rw [State.doEgress, State.egressSelect, if_neg free]
  simp only [← hv, none_held, pick, head, young, kept, Bool.false_eq_true, ↓reduceIte]

end

/-! ### The scan of R90 and the samples (R93) -/

/-- A scan with nothing discarded frees the cells whose own sideband fails. -/
theorem State.sbReclaim_none (reclaim : s.xbc.reclaim = []) {u : State}
    (hu : u = ({ s.count (R.XBC_CNT 8) (s.xbc.cells.filter fun e => e.2.sideBad).length with
      xbc := { s.xbc with
        cells := s.xbc.cells.filter fun e => !(s.xbc.cells.filter fun e => e.2.sideBad).any fun g => g.1 == e.1 } } : State)) :
    s.sbReclaim = ({ u with xbc := { u.xbc with
      sharedUsed := u.xbc.cells.length - (u.xbc.occ.filter fun e => !(e.1 / 8 == 130)).foldl (fun n e => n + e.2.min + e.2.hdrm) 0
        + (u.xbc.occ.filter fun e => e.1 / 8 == 130).foldl (fun n e => n + e.2.shared) 0 } } : State).retryAdmission := by
  subst hu
  simp [State.sbReclaim, reclaim]

section
variable {x : Sample} {l : List Sample} (oldest : s.xbc.samples = x :: l) {u : State}
  (hu : u = (({ s with xbc := { s.xbc with samples := l } } : State).uncharge
    { acct := 130, tc := bitsOf x.metaWord 45 3, chg := x.cells, ncells := 1 }).retryAdmission)
include oldest hu

/-- A sample for which the ring has not room is lost whole. -/
theorem State.sampleWrite_lost (full : u.ringRoom .smr < 2) : s.sampleWrite = u.lose .smr := by
  subst hu
  rw [State.sampleWrite, oldest]
  exact if_pos full

/-- Else it goes there as two records. -/
theorem State.sampleWrite_room (room : u.ringRoom .smr ≥ 2) {w : State}
    (hw : w = (u.writeRecord .smr (leBytes 2 1 ++ [0, 0] ++ leBytes 4 u.xbc.smpSeq ++ leBytes 8 x.metaWord ++ leBytes 8 x.time
      ++ (padTo 64 x.bytes).take 40)).writeRecord .smr
        (leBytes 2 2 ++ [0, 0] ++ leBytes 4 u.xbc.smpSeq ++ (padTo 64 x.bytes).drop 40)) :
    s.sampleWrite = ({ w with xbc := { w.xbc with smpSeq := (u.xbc.smpSeq + 1) % 2 ^ 32 } } : State) := by
  subst hw hu
  rw [State.sampleWrite, oldest]
  exact if_neg (Nat.not_lt.mpr room)

end

end
end Sys2Proof.Machine

namespace Sys2Proof
open Machine

/-- Settles O9: each step of the switch core by the lemma of what it does. -/
theorem switchStepsComplete : Obligations.SwitchStepsComplete := by
  unfold Obligations.SwitchStepsComplete
  refine ⟨fun s t dt i tc ing hf stalled ingress class_ stamp whole => ?_,
    fun s t dt p x hf link oldest whole egress desc cells => ⟨_, rfl, ?_⟩, fun s t dt p x hf sending due => ?_,
    fun s t dt q n i d x hf safe _ queues mem ofPort port quad aged due u hu stalled => ?_,
    fun s t v u dt p ups hf idle hv => ⟨fun n i d l held pick head young kept => ?_, fun pcie held => ?_⟩,
    fun s t dt hf reclaim => ⟨_, rfl, ?_⟩, fun s t u dt x l hf oldest hu => ⟨fun full => ?_, fun room => ⟨_, rfl, ?_⟩⟩⟩
  · subst ingress class_
    rw [exec_lookupResume hf, State.lookupResume_one stalled stamp whole]
  · rw [exec_egressSendDone hf, State.sendDone_whole link oldest whole egress desc cells rfl]
  · rw [exec_ctStallTimeout hf, State.ctStall_due sending due]
  · rw [exec_ageSweep hf, State.ageSweep_due due, State.sweepQuad_one (s := t.sweepNoted q) safe queues mem ofPort
      (List.mem_filter.mpr ⟨port, beq_iff_eq.mpr quad⟩) aged hu stalled]
  · rw [exec_egressSelect hf, State.doEgress_head ups idle hv held pick head young kept]
  · rw [exec_egressSelect hf, State.doEgress_held ups idle hv pcie held]
  · rw [exec_sbReclaim hf, State.sbReclaim_none reclaim rfl]
  · rw [exec_sampleWrite hf, State.sampleWrite_lost oldest hu full]
  · rw [exec_sampleWrite hf, State.sampleWrite_room oldest hu room rfl]

end Sys2Proof

namespace Sys2Proof.Machine
section
variable {s : State} {n r : Nat} {f : Fence}

/-! ### A fence is submitted (R107, R108, R110, R112) -/

/-- A fence takes the next arrival number. -/
def State.addFence (s : State) (f : Fence) : State :=
  { s with mce := { s.mce with fences := tput s.mce.fences s.mce.nextFence f, nextFence := s.mce.nextFence + 1 } }

section
variable {v tc : Nat} {op : FenceOp} {slice : Option (Nat × Nat)}

/-- A message that is not of the form of R107, or that the part does not take, is counted and discarded. -/
theorem State.fenceMessage_discarded {lenDw : Nat}
    (bad : s.flag R.CMT_CFG F.CMT_CFG_VDM_EN = false ∨ lenDw ≠ 4 ∨ op.recordAddr % 32 ≠ 0) :
    s.fenceMessage v tc lenDw op = s.count (R.CMT_CNT 3) :=
  if_pos (bad.imp_left fun off => by rw [off, Bool.not_false])

/-- One of that form submits its fence. -/
theorem State.fenceMessage_submits (on : s.flag R.CMT_CFG F.CMT_CFG_VDM_EN = true) (aligned : op.recordAddr % 32 = 0) :
    s.fenceMessage v tc 4 op = s.fenceSubmit v tc op none :=
  if_neg (by simp [on, aligned])

/-- A fence whose group is beyond the table finishes at once, as a bad fence. -/
theorem State.fenceSubmit_beyond (beyond : op.group > 1023) :
    s.fenceSubmit v tc op slice = s.addFence {
      id := op.fenceId, group := op.group % 1024, recordAddr := op.recordAddr,
      src := s.srcFid v, vs := v, tc := tc, slice := slice, st := 3, bad := some 6 } := by
  simp [State.fenceSubmit, State.addFence, beyond]

/-- A fence whose group may be used waits to be taken, where a slot is free. -/
theorem State.fenceSubmit_pending (inTable : op.group ≤ 1023) {u : State} (hu : u = s.groupRead (s.upPort v) op.group)
    (sound : (u.group u.cfg.epoch op.group).bad = false) (valid : (u.group u.cfg.epoch op.group).valid = true)
    (room : u.fenceSlots < 8192) :
    s.fenceSubmit v tc op slice = u.addFence {
      id := op.fenceId, group := op.group, recordAddr := op.recordAddr,
      src := u.srcFid v, vs := v, tc := tc, slice := slice, st := 1, bad := none } := by
  have index : op.group % 1024 = op.group := Nat.mod_eq_of_lt (Nat.lt_succ_of_le inTable)
  subst hu
  simp [State.fenceSubmit, State.addFence, inTable.not_gt, index, sound, valid, room.not_ge]

end

/-! ### A fence is taken and flushed, and writes its record (R112, R113, R116, R119) -/

section
variable (found : tfind s.mce.fences n = some f) (running : s.cmtFrozen = false)
include found running

/-- A pending fence is taken where none of its source and class is pending before it, and no saved record waits. -/
theorem State.doFenceTake_oldest (pending : f.st = 1) (oldest : s.earlierPending n f = false)
    (fresh : ∀ e ∈ s.mce.fences, e.2.saved = false) : s.doFenceTake n = s.fenceTake n f := by
  have none_saved : (s.mce.fences.any fun e => e.2.saved) = false :=
    List.any_eq_false.mpr fun e he => by rw [fresh e he]; exact Bool.false_ne_true
  simp [State.doFenceTake, found, pending, running, oldest, none_saved]

/-- The flush of a replica whose flow has no copy outstanding is sent, or the replica fails where no link leads to it. -/
theorem State.doFlushSend_noCopies (taken : f.st = 2) (waits : (f.reps.getD r {}).st = 0) (calm : s.upsets = [])
    (noFlow : s.flow? (f.key (f.reps.getD r {})) = none)
    (entry : s.entryFaulty s.cfg.epoch 2 (f.reps.getD r {}).fid = false) :
    s.doFlushSend n r = if s.unreachable s.cfg.epoch (s.flushHdr f (f.reps.getD r {})) then s.setCause n r 1
      else s.flushOut n r f (f.reps.getD r {}) := by
  have unread : s.checkFlow (f.key (f.reps.getD r {})) = s := if_neg (by simp [calm])
  simp only [State.doFlushSend, found, unread, taken, waits, running, noFlow, entry, ne_eq, not_true_eq_false,
    Bool.false_eq_true, or_self, ↓reduceIte]

/-- A finished fence writes its record where every earlier one of its source and class has written its own, a saved one not
before the list of its decant is delivered. -/
theorem State.doFenceRecord_oldest (finished : f.st = 3) (delivered : f.saved = false ∨ s.dct.exitDue = false)
    (oldest : ∀ e ∈ s.mce.fences, ¬ (e.1 < n ∧ e.2.src = f.src ∧ e.2.tc = f.tc)) : s.doFenceRecord n = s.fenceRecord n f := by
  have none_earlier : (s.mce.fences.any fun e => e.1 < n && e.2.src == f.src && e.2.tc == f.tc) = false :=
    List.any_eq_false.mpr fun e he => by simpa [and_assoc] using oldest e he
  have free : (f.saved && s.dct.exitDue) = false := Bool.and_eq_false_iff.mpr delivered
  simp [State.doFenceRecord, found, finished, running, free, none_earlier]

end

/-- The oldest answer to a flush sets the cause of the replica that it flushed. -/
theorem State.doFlushCompletion_answer (running : s.cmtFrozen = false) {a : Answer}
    (oldest : s.answers.find? Answer.ofFence = some a) (ofReplica : a.origin = .fence n r) :
    s.doFlushCompletion = ({ s with answers := s.answers.erase a } : State).setCause n r (flushCause a) := by
  simp only [State.doFlushCompletion, running, oldest, ofReplica, Bool.false_eq_true, ↓reduceIte]

end
end Sys2Proof.Machine

namespace Sys2Proof
open Machine

/-- Settles O10: each step of a commit fence by the lemma of what it does. -/
theorem fencesComplete : Obligations.FencesComplete := by
  unfold Obligations.FencesComplete
  refine ⟨fun s t dt v tc lenDw op hf bad => ?_, fun s t dt v tc op hf on aligned beyond => ?_,
    fun s t dt v tc op hf on aligned inTable u hu sound valid room => ?_,
    fun s t dt n f hf found pending running oldest fresh => ?_,
    fun s t dt n r f hf found taken waits running calm noFlow entry => ?_,
    fun s t dt n r a hf running oldest ofReplica => ?_,
    fun s t dt n f hf found finished running delivered oldest => ?_⟩
  · rw [exec_fenceMessage hf, State.fenceMessage_discarded bad]
  · rw [exec_fenceMessage hf, State.fenceMessage_submits on aligned, State.fenceSubmit_beyond beyond]
    rfl
  · rw [exec_fenceMessage hf, State.fenceMessage_submits on aligned, State.fenceSubmit_pending inTable hu sound valid room]
    rfl
  · rw [exec_fenceTake hf, State.doFenceTake_oldest found running pending oldest fresh]
  · rw [exec_flushSend hf, State.doFlushSend_noCopies found running taken waits calm noFlow entry]
  · rw [exec_flushCompletion hf, State.doFlushCompletion_answer running oldest ofReplica]
  · rw [exec_fenceRecordWrite hf, State.doFenceRecord_oldest found running finished delivered oldest]

end Sys2Proof

namespace Sys2Proof.Machine

/-! ### The fields of a crema message (R145, R262) -/

theorem ofBe_beBytes (n v : Nat) : ofBe (beBytes n v) = v % 256 ^ n := by
  rw [ofBe, beBytes, List.reverse_reverse, ofLe_leBytes]

@[simp] theorem beBytes_length (n v : Nat) : (beBytes n v).length = n := by
  rw [beBytes, List.length_reverse, leBytes_length]

/-- A number that stands after `pre` in the bytes of a message is read back at the length of `pre`. -/
theorem beAt_crema {bs pre post : List Byte} {a n v : Nat} (parts : bs = pre ++ (beBytes n v ++ post)) (place : pre.length = a)
    (fits : bs.length ≤ 32) : beAt (crema bs) a n = v % 256 ^ n := by
  have field : ((crema bs).drop a).take n = beBytes n v := by
    rw [crema, padTo, List.take_of_length_le fits, parts, List.append_assoc, List.drop_left' place, List.append_assoc,
      List.take_left' (beBytes_length n v)]
  rw [beAt, field, ofBe_beBytes]

section
variable (dst src tc seq : Nat)

theorem skipMsg_type : ((skipMsg dst src tc seq).headD 0).toNat = 0x08 := rfl

theorem beAt_skipMsg_dst : beAt (skipMsg dst src tc seq) 2 2 = dst % 4096 := by
  rw [skipMsg, beAt_crema (pre := [0x08, 0]) (v := dst % 4096) (by simp only [List.append_assoc]; rfl) (by simp) (by simp)]
  omega

theorem beAt_skipMsg_src : beAt (skipMsg dst src tc seq) 4 2 = src % 4096 := by
  rw [skipMsg, beAt_crema (pre := [0x08, 0] ++ beBytes 2 (dst % 4096)) (v := src % 4096) (by simp only [List.append_assoc]; rfl)
    (by simp) (by simp)]
  omega

theorem beAt_skipMsg_tc : beAt (skipMsg dst src tc seq) 6 1 = tc % 8 := by
  rw [skipMsg, beAt_crema (pre := [0x08, 0] ++ beBytes 2 (dst % 4096) ++ beBytes 2 (src % 4096)) (v := tc % 8)
    (by simp only [List.append_assoc]; rfl) (by simp) (by simp)]
  omega

theorem beAt_skipMsg_seq : beAt (skipMsg dst src tc seq) 8 2 = seq % 65536 := by
  rw [skipMsg, beAt_crema (pre := [0x08, 0] ++ beBytes 2 (dst % 4096) ++ beBytes 2 (src % 4096) ++ beBytes 1 (tc % 8) ++ [0])
    (v := seq) (post := []) (by rw [List.append_nil]) (by simp) (by simp)]
  omega

end

section
variable {s : State}

/-! ### A routed message reaches its destination (R145, R146, R263) -/

theorem State.cremaDst_skipMsg (dst src tc seq : Nat) : s.cremaDst (skipMsg dst src tc seq) = some (dst % 4096) := by
  simp only [State.cremaDst, skipMsg_type, beAt_skipMsg_dst, Nat.mod_mod]

theorem State.cremaAct_skipMsg (dst src tc seq : Nat) :
    s.cremaAct (skipMsg dst src tc seq) = s.seqSkip (src % 4096) (dst % 4096) (tc % 8) (seq % 65536) := by
  simp only [State.cremaAct, skipMsg_type, beAt_skipMsg_dst, beAt_skipMsg_src, beAt_skipMsg_tc, beAt_skipMsg_seq, Nat.mod_mod]

/-- A routed message with room in the receive queue and for this device is acted on, and its crema credit returns. -/
theorem State.routedMsg_own {p d : Nat} {m : List Byte} {u : State} (scango : s.isScango p = true)
    (linked : (s.sglOf p).phase = 3) (room : (s.sglOf p).ccIn < 16)
    (hu : u = s.setSgl p { s.sglOf p with ccIn := (s.sglOf p).ccIn + 1 }) (dst : u.cremaDst m = some d)
    (own : u.ownFid d = true) : s.routedMsg p m = (u.cremaAct m).returnCrema (some p) := by
  subst hu
  simp only [State.routedMsg, State.routedIn, scango, linked, room.not_ge, dst, own, ne_eq, not_true_eq_false, ↓reduceIte]

/-! ### A gap ends and a head escapes (R142, R148) -/

/-- A gap whose timer has run for the flow's time ends, except while decanting and in the safe state. -/
theorem State.gapTimeout_due {w x : Nat} {u : State} (decanting : s.decanting = false) (safe : s.safe = false)
    (hu : u = s.checkRsq (s.rsq w).flow) (timer : (u.rsq w).timer = some x)
    (due : u.gapNow - x ≥ 1000 * (u.rsq w).tmo) : s.gapTimeout w = u.endGap w none := by
  subst hu
  simp only [State.gapTimeout, decanting, safe, timer, due, Bool.false_eq_true, or_self, ↓reduceIte]

/-- The head of a Scango queue that has stood without credit for THR_NS is sent on an escape path. -/
theorem State.escape_due {q i d : Nat} {l : List (Nat × Nat)} (head : (s.queue q).mem = (i, d) :: l)
    (scango : s.isScango (q / 256) = true) (on : s.flag R.RTE_ESC_THR F.RTE_ESC_THR_ESC_EN = true)
    (fresh : ((s.pkt i).dest d).hdr.esc = false)
    (due : s.now - max (s.queue q).headAt (s.queue q).creditAt ≥ s.fld R.RTE_ESC_THR F.RTE_ESC_THR_THR_NS)
    (credit : s.headCredit q = false) :
    s.escape q = ((s.setPkt { s.pkt i with dests := (s.pkt i).dests.set d { (s.pkt i).dest d with
      hdr := { ((s.pkt i).dest d).hdr with esc := true, down := false } } }).count (R.RTE_CNT 8)).ev 3 3 (q / 256)
      (s.pkt i).tc := by
  simp only [State.escape, head, scango, on, fresh, due, credit, Bool.not_false, and_self, ↓reduceIte]

end
end Sys2Proof.Machine

namespace Sys2Proof
open Machine

/-- Settles O11: a due gap and a due escape by what each of the two rows does, and a skip by the fields that are read back from
its message (`State.cremaAct_skipMsg`). -/
theorem routingSteps : Obligations.RoutingSteps := by
  unfold Obligations.RoutingSteps
  refine ⟨fun s t u dt w x hf decanting safe hu timer due => ?_,
    fun s t u dt p src dst tc seq hf scango linked room hsrc hdst htc hseq hu own => ?_,
    fun s t dt q i d l hf head scango on fresh due credit => ?_⟩
  · rw [exec_gapTimeout hf, State.gapTimeout_due decanting safe hu timer due]
  · have named : u.cremaDst (skipMsg dst src tc seq) = some dst := by
      rw [State.cremaDst_skipMsg, Nat.mod_eq_of_lt hdst]
    have skips : u.cremaAct (skipMsg dst src tc seq) = u.seqSkip src dst tc seq := by
      rw [State.cremaAct_skipMsg, Nat.mod_eq_of_lt hsrc, Nat.mod_eq_of_lt hdst, Nat.mod_eq_of_lt htc, Nat.mod_eq_of_lt hseq]
    rw [exec_seqSkip hf, State.routedMsg_own scango linked room hu named own, skips]
  · rw [exec_escape hf, State.escape_due head scango on fresh due credit]

end Sys2Proof

namespace Sys2Proof.Machine
section
variable {s : State} {quad slot : Nat}

/-! ### The wheel of a quadrant (R165) -/

section
variable {n net : Nat} {x : Queue} (queues : s.tmg.queues = [(n, x)]) (own : s.quadrant (n / 256) = quad)
include queues own

/-- An entry with no round left leaves the wheel, and the largest lateness is kept. -/
theorem State.slotReached_leaves (waits : x.wheel = some (slot, 0, net)) :
    s.slotReached quad slot = ((s.setQueue n { x with wheel := none }).setFld (R.TMG_CAL_STAT quad) F.TMG_CAL_STAT_LATE_MAX
      (max (s.fld (R.TMG_CAL_STAT quad) F.TMG_CAL_STAT_LATE_MAX) (min 0xFFFF (s.now - net / 2 ^ 20)))).ev 2 3
        (n / 256) (n / 32 % 8) := by
  simp only [State.slotReached, queues, List.foldl_cons, List.foldl_nil, waits, own, and_self, ↓reduceIte]

/-- One with rounds left loses one. -/
theorem State.slotReached_counts {r : Nat} (waits : x.wheel = some (slot, r + 1, net)) :
    s.slotReached quad slot = s.setQueue n { x with wheel := some (slot, r, net) } := by
  simp only [State.slotReached, queues, List.foldl_cons, List.foldl_nil, waits, own, and_self, ↓reduceIte,
    Nat.succ_ne_zero, Nat.add_sub_cancel]

end

/-- In the 8 ns that are its own, the wheel reaches a slot where it has not been there yet. -/
theorem State.wheelSlot_reached (turn : s.now / 8 % 4096 = slot) (fresh : tfind s.tmg.wheelAt quad ≠ some (s.now / 8))
    {u : State} (hu : u = ({ s with tmg := { s.tmg with wheelAt := tput s.tmg.wheelAt quad (s.now / 8) } } : State)) :
    s.wheelSlot quad slot = u.slotReached quad slot := by
  subst hu
  exact if_neg (not_or.mpr ⟨not_not.mpr turn, fresh⟩)

/-- At another time, or a second time, it reaches nothing. -/
theorem State.wheelSlot_idle (idle : s.now / 8 % 4096 ≠ slot ∨ tfind s.tmg.wheelAt quad = some (s.now / 8)) :
    s.wheelSlot quad slot = s :=
  if_pos idle

/-! ### A held red write is metered again (R170) -/

theorem State.postedResume_holds {i : Nat} (there : s.hasPkt i = true) (held : (s.pkt i).stall = some .posted)
    (full : s.peakHolds (s.pkt i).epoch (s.pkt i).vh (s.pkt i).tc (s.pkt i).hdr.size = true) :
    s.postedResume i = (s.unstall i).addJob (.enter i) :=
  if_pos ⟨there, held, full⟩

/-! ### The samples of the histograms (R171) -/

/-- The first sample in a period of INTERVAL_NS samples every valid queue of the quadrant. -/
theorem State.doHistogram_due (on : s.flag R.TMG_HIST_CFG F.TMG_HIST_CFG_EN = true)
    (fresh : ∀ y : Nat, tfind s.tmg.histAt quad = some y →
      y / s.fld R.TMG_HIST_CFG F.TMG_HIST_CFG_INTERVAL_NS ≠ s.now / s.fld R.TMG_HIST_CFG F.TMG_HIST_CFG_INTERVAL_NS) :
    s.doHistogram quad = (s.validQueues quad).foldl State.sampleQueue
      ({ s with tmg := { s.tmg with histAt := tput s.tmg.histAt quad s.now } } : State) := by
  cases last : tfind s.tmg.histAt quad with
  | none => simp only [State.doHistogram, on, last, Bool.not_false, and_self, ↓reduceIte]
  | some y => simp only [State.doHistogram, on, last, beq_eq_false_iff_ne.mpr (fresh y last), Bool.not_false, and_self, ↓reduceIte]

/-- While EN is 0 there is no sample. -/
theorem State.doHistogram_off (off : s.flag R.TMG_HIST_CFG F.TMG_HIST_CFG_EN = false) : s.doHistogram quad = s :=
  if_neg fun h => Bool.false_ne_true (off.symm.trans h.1)

end
end Sys2Proof.Machine

namespace Sys2Proof
open Machine

/-- Settles O12: each row by the lemma of what it does; the wheel's own note of its tick leaves the queues, the quadrants, the
time and the registers as they were. -/
theorem trafficSteps : Obligations.TrafficSteps := by
  unfold Obligations.TrafficSteps
  refine ⟨fun s t u dt quad slot n net x hf queues own turn fresh hu => ?_, fun s t dt quad slot hf idle => ?_,
    fun s t dt i hf there held full => ?_, fun s t dt quad hf on fresh => ?_, fun s t dt quad hf off => ?_⟩
  · have reached : exec (.wheelSlot dt quad slot) s = .next (u.slotReached quad slot).settle := by
      rw [exec_wheelSlot hf, State.wheelSlot_reached turn fresh hu]
    have queues' : u.tmg.queues = [(n, x)] := by rw [hu, ← queues]
    have own' : u.quadrant (n / 256) = quad := by rw [hu, ← own]; rfl
    refine ⟨fun waits => ?_, fun r waits => ?_⟩
    · rw [reached, State.slotReached_leaves queues' own' waits, hu]
      rfl
    · rw [reached, State.slotReached_counts queues' own' waits]
  · rw [exec_wheelSlot hf, State.wheelSlot_idle idle]
  · rw [exec_postedDelay hf, State.postedResume_holds there held full]
  · rw [exec_histogramSample hf, State.doHistogram_due on fresh]
    rfl
  · rw [exec_histogramSample hf, State.doHistogram_off off]

end Sys2Proof

namespace Sys2Proof.Machine
section
variable {s : State}

/-! ### The bridge's own steps (R182 to R184, R190 to R195, R214, R321) -/

/-- The table read of a miss fills the cache, and the held packet is looked up again. -/
theorem State.doXltMiss_fills {i idx a q : Nat} {u : State} (held : (s.pkt i).stall = some (.xlt idx))
    (ingress : (s.pkt i).ingress = .port q) (inTable : s.tblAddr 0 (8 * idx) = some a)
    (filled : (s.tmRead (1 + s.quadrant q) a 8).xltFill (s.pkt i).epoch idx = some u) :
    s.doXltMiss i = (u.unstall i).addJob (.enter i) := by
  simp only [State.doXltMiss, held, ingress, inTable, filled]

/-- A request whose back-off has ended goes out again as a new packet of its flow, under the epoch of its allocation while that
copy lives. -/
theorem State.doBusyRetry_due {k at_ i e : Nat} {x : Trk} {h : Hdr} {u w : State} (entry : tfind s.brg.trk k = some x)
    (backOff : x.retryAt = some at_) (due : at_ ≤ s.brgNow) (runs : s.brgFrozen = false)
    (he : e = if s.isPrev x.epoch then x.epoch else s.cfg.epoch) (sound : (s.checkTrk k).1 = false)
    (stamped : s.stampHdr e x.req = some (h, u))
    (made : u.tryMakeAt e { internalPkt h none with origin := x.origin, trkOut := some k, vs := x.vs, vh := x.vs } x.data =
      some (i, w)) :
    s.doBusyRetry k = (({ w with brg := { w.brg with trk := tput w.brg.trk k { x with retryAt := none, req := h } } } :
      State).count (R.BRG_CNT 6)).fabSend i h := by
  subst he
  simp only [State.doBusyRetry, entry, backOff, due.not_gt, runs, sound, stamped, made, Bool.false_eq_true, or_self, ↓reduceIte]

/-! ### A deadline that has passed (R192, R195) -/

/-- A requester inside the part whose entry was freed without a completion is told that it is lost. -/
theorem State.doCplTimeout_freed {k : Nat} {e : Nat × Trk} (runs : s.brgFrozen = false)
    (freed : s.brg.lost.find? (fun e => e.1 == k && decide (e.2.deadline ≤ s.brgNow)) = some e) :
    s.doCplTimeout k =
      ({ s with brg := { s.brg with lost := s.brg.lost.erase e } } : State).notify e.2.origin 4 e.2.acc true := by
  simp only [State.doCplTimeout, runs, freed, Bool.false_eq_true, ↓reduceIte]

section
variable {k : Nat} {x : Trk} (entry : tfind s.brg.trk k = some x) (due : x.deadline ≤ s.brgNow) (runs : s.brgFrozen = false)
  (own : ∀ e ∈ s.brg.lost, e.1 ≠ k)
include own

theorem State.lost_find_none : s.brg.lost.find? (fun e => e.1 == k && decide (e.2.deadline ≤ s.brgNow)) = none := by
  rw [List.find?_eq_none]
  intro e he
  simp [own e he]

include entry due runs

/-- An entry whose own check fails is freed by that check. -/
theorem State.doCplTimeout_unsound (bad : (s.checkTrk k).1 = true) : s.doCplTimeout k = (s.checkTrk k).2 := by
  simp only [State.doCplTimeout, runs, State.lost_find_none own, entry, due.not_gt, bad, Bool.false_eq_true, ↓reduceIte]

/-- A sound one is counted, raised and closed as lost. -/
theorem State.doCplTimeout_sound (sound : (s.checkTrk k).1 = false) :
    s.doCplTimeout k = ((s.count (R.BRG_CNT 2)).raise Flt.BRG_CPL_TMO 0
      (if x.inbound then trkInfo x.src (some x.port) x.myTag else trkInfo x.dst none x.myTag) x.tc).closeTrk k
        (if x.inbound then 8 else 4) true := by
  simp only [State.doCplTimeout, runs, State.lost_find_none own, entry, due.not_gt, sound, Bool.false_eq_true, ↓reduceIte]

end

/-! ### Quarantine and failure records (R194, R214, R321) -/

/-- A quarantine stands still in a decant. -/
theorem State.doQuarantineEnd_decanting {inb : Bool} {unit tag : Nat} (decanting : s.decanting = true) :
    s.doQuarantineEnd inb unit tag = s := if_pos decanting

/-- One that has ended frees its tag. -/
theorem State.doQuarantineEnd_frees {inb : Bool} {unit tag : Nat} (decanting : s.decanting = false) :
    s.doQuarantineEnd inb unit tag = { s with brg := { s.brg with
      quar := s.brg.quar.filter fun q =>
        !(q.inbound == inb && q.unit == unit && q.tag == tag && decide (q.until_ ≤ s.brgNow)) } } :=
  if_neg (Bool.eq_false_iff.mp decanting)

/-- The oldest queued failure record is written once its ring has room. -/
theorem State.doFailRing_room {v : Fin 32} {b : List Byte} {l : List (List Byte)} (oldest : tget [] s.dmv.failQ v.val = b :: l)
    (room : s.ringRoom (.fail v) > 0) :
    s.doFailRing v = ({ s with dmv := { s.dmv with failQ := tput s.dmv.failQ v.val l } } : State).writeRecord (.fail v) b := by
  simp only [State.doFailRing, oldest, room, ↓reduceIte]

end
end Sys2Proof.Machine

namespace Sys2Proof
open Machine

/-- Settles O13: each step of the bridge by the lemma of what it does once it is due. -/
theorem bridgeTimers : Obligations.BridgeTimers := by
  unfold Obligations.BridgeTimers
  refine ⟨fun s t u dt i idx a q hf held ingress inTable filled => ?_,
    fun s t u w dt k at_ i x h hf entry backOff due runs e he sound stamped made => ?_,
    fun s t dt k x hf entry due runs own => ⟨fun bad => ?_, fun sound => ?_⟩,
    fun s t dt k e hf runs freed => ?_,
    fun s t dt unit tag inb hf => ⟨fun decanting => ?_, fun decanting => ?_⟩,
    fun s t dt v b l hf oldest room => ?_⟩
  · rw [exec_xltMiss hf, State.doXltMiss_fills held ingress inTable filled]
  · rw [exec_busyRetry hf, State.doBusyRetry_due entry backOff due runs he sound stamped made]
  · rw [exec_cplTimeout hf, State.doCplTimeout_unsound entry due runs own bad]
  · rw [exec_cplTimeout hf, State.doCplTimeout_sound entry due runs own sound]
  · rw [exec_cplTimeout hf, State.doCplTimeout_freed runs freed]
  · rw [exec_quarantineEnd hf, State.doQuarantineEnd_decanting decanting]
  · rw [exec_quarantineEnd hf, State.doQuarantineEnd_frees decanting]
  · rw [exec_failRingWrite hf, State.doFailRing_room oldest room]

end Sys2Proof

namespace Sys2Proof.Machine
section
variable {s : State}

/-! ### Prefetches and rate-limited values (R205, R206, R211) -/

section
variable {id j : Nat} {a : Answer} {x : Pf} (oldest : s.answers.find? Answer.ofPrefetch = some a)
  (origin : a.origin = .prefetch id) (entry : s.brg.pf.find? (fun e => e.2.id == id) = some (j, x))
include oldest origin entry

/-- A good answer fills its entry, and the reads that wait for it are looked up again. -/
theorem State.doPrefetchFill_good (good : a.status = 0) (kept : a.lost = false) :
    s.doPrefetchFill = ({ s with
      answers := s.answers.erase a
      brg := { s.brg with pf := tput s.brg.pf j { x with filled := true, data := a.data, last := s.brgNow } } } :
        State).resumePf j := by
  simp only [State.doPrefetchFill, oldest, origin, entry, good, kept, Bool.not_false, and_self, ↓reduceIte]

/-- A failed or lost answer discards its entry. -/
theorem State.doPrefetchFill_failed (bad : a.status ≠ 0 ∨ a.lost = true) :
    s.doPrefetchFill = ({ s with answers := s.answers.erase a } : State).pfDrop j := by
  have failed : ¬(a.status = 0 ∧ (!a.lost) = true) := by
    rintro ⟨good, kept⟩
    rcases bad with bad | lost
    · exact bad good
    · rw [lost] at kept
      contradiction
  simp only [State.doPrefetchFill, oldest, origin, entry, failed, ↓reduceIte]

end

/-- 50 µs without use discard a filled entry, but not in a decant. -/
theorem State.doPrefetchExpiry_due {j : Nat} {x : Pf} (entry : tfind s.brg.pf j = some x) (filled : x.filled = true)
    (due : s.brgNow - x.last ≥ 50000) (decanting : s.decanting = false) : s.doPrefetchExpiry j = s.pfDrop j := by
  simp only [State.doPrefetchExpiry, entry, filled, due, decanting, Bool.not_false, and_self, ↓reduceIte]

/-- A held value whose RATE has passed is sent with its latest contents, by an entry that is sound, valid and of a kind that is
sent on. -/
theorem State.doRateSend_due {id w : Nat} {x : SbVal} (hx : x = tget {} s.brg.sb id)
    (hw : w = s.onDieAt s.cfg.epoch 4 (8 * id) 8) (pending : x.pending = true)
    (due : s.brgNow - x.lastSend ≥ max 1 (bitsOf w 13 12) * 100000) (runs : s.brgFrozen = false)
    (sound : s.entryFaulty s.cfg.epoch 4 id = false) (valid : bitAt w 63 = true) (sends : bitsOf w 61 2 = 1 ∨ bitsOf w 61 2 = 2) :
    s.doRateSend id = ({ s with brg := { s.brg with
      sb := tput s.brg.sb id { x with pending := false, lastSend := s.brgNow, sent := true } } } : State).sbForward s.cfg.epoch
        (id / 64) (id % 64) x.reqId x.data := by
  subst hx hw
  have kind : ¬(bitsOf (s.onDieAt s.cfg.epoch 4 (8 * id) 8) 61 2 = 0 ∨ bitsOf (s.onDieAt s.cfg.epoch 4 (8 * id) 8) 61 2 = 3) := by
    omega
  simp only [State.doRateSend, pending, due.not_gt, runs, sound, valid, kind, Bool.not_true, Bool.false_eq_true, or_self,
    ↓reduceIte]

end
end Sys2Proof.Machine

namespace Sys2Proof
open Machine

/-- Settles O14: an answer by whether it is good, an unused entry and a held value by their times. -/
theorem prefetchAndRates : Obligations.PrefetchAndRates := by
  unfold Obligations.PrefetchAndRates
  refine ⟨fun s t dt id j a x hf oldest origin entry => ⟨fun good kept => ?_, fun bad => ?_⟩,
    fun s t dt j x hf entry filled due decanting => ?_,
    fun s t dt id w x hf hx hw pending due runs sound valid sends => ?_⟩
  · rw [exec_prefetchFill hf, State.doPrefetchFill_good oldest origin entry good kept]
  · rw [exec_prefetchFill hf, State.doPrefetchFill_failed oldest origin entry bad]
  · rw [exec_prefetchExpiry hf, State.doPrefetchExpiry_due entry filled due decanting]
  · rw [exec_sidebandRateSend hf, State.doRateSend_due hx hw pending due runs sound valid sends]

end Sys2Proof

namespace Sys2Proof.Machine

/-! ### The fields of a note of a failed write and of a lock message (R197, R203) -/

/-- A field of a message stands where it stands behind the bytes that come first. -/
theorem beAt_append_right {pre bs : List Byte} {a n : Nat} (h : pre.length ≤ a) :
    beAt (pre ++ bs) a n = beAt bs (a - pre.length) n := by
  rw [beAt, List.drop_append, List.drop_of_length_le h, List.nil_append, ← beAt]

theorem beAt_cons (b : Byte) (bs : List Byte) (a n : Nat) : beAt (b :: bs) (a + 1) n = beAt bs a n := rfl

/-- A number that stands first in a message is read back. -/
theorem beAt_beBytes_append (n v : Nat) (bs : List Byte) : beAt (beBytes n v ++ bs) 0 n = v % 256 ^ n := by
  rw [beAt, List.drop_zero, List.take_left' (beBytes_length n v), ofBe_beBytes]

theorem crema_of_fits {bs : List Byte} (fits : bs.length ≤ 32) : crema bs = bs ++ List.replicate (32 - bs.length) 0 := by
  rw [crema, padTo, List.take_of_length_le fits]

/-- The PASID of a note is read back from its field. -/
theorem pasidField_read (o : Option Nat) :
    (if bitAt (pasidField o % 2 ^ 32) 31 then some (pasidField o % 2 ^ 32 % 2 ^ 20) else none) = o.map (· % 2 ^ 20) := by
  cases o with
  | none => rfl
  | some p =>
    have fits : p % 2 ^ 20 < 2 ^ 31 := by omega
    have sum : pasidField (some p) = 2 ^ 31 + p % 2 ^ 20 := by
      simpa [pasidField, atBits] using (Nat.two_pow_add_eq_or_of_lt fits 1).symm
    have valid : bitAt (pasidField (some p) % 2 ^ 32) 31 = true := by
      rw [bitAt, Nat.testBit_eq_decide_div_mod_eq, sum, decide_eq_true_eq]
      omega
    have number : pasidField (some p) % 2 ^ 32 % 2 ^ 20 = p % 2 ^ 20 := by omega
    rw [if_pos valid, number, Option.map_some]

/-- A note names the failed write that it was made of, each number cut to its field. -/
theorem noteOf_note (f : Pwf) :
    noteOf f.note = { cause := f.cause % 256, tc := f.tc % 8, remote := true, reqId := f.reqId % 65536, dst := f.dst % 4096,
                      src := f.src % 4096, reporter := f.reporter % 4096, length := f.length % 65536, seq := f.seq % 65536,
                      offset := f.offset % 2 ^ 52, pasid := f.pasid.map (· % 2 ^ 20) } := by
  simpa [noteOf, Pwf.note, crema_of_fits, beAt_cons, beAt_append_right, beAt_beBytes_append, Nat.mod_mod_of_dvd]
    using pasidField_read f.pasid

/-- The numbers of a note stay within the fields of R197. -/
structure NoteOp.Fits (op : NoteOp) : Prop where
  cause : op.cause < 256
  dst : op.dst < 4096
  src : op.src < 4096
  tc : op.tc < 8
  seq : op.seq < 65536
  length : op.length < 65536
  offset : op.offset < 2 ^ 52
  reqId : op.reqId < 65536
  reporter : op.reporter < 4096
  pasid : ∀ x, op.pasid = some x → x < 2 ^ 20

/-- The record of a note at the device that owns its source (R197, R198). -/
def NoteOp.record (op : NoteOp) : Pwf :=
  { cause := op.cause, tc := op.tc, remote := true, reqId := op.reqId, dst := op.dst, src := op.src, reporter := op.reporter,
    length := op.length, seq := op.seq, offset := op.offset, pasid := op.pasid }

theorem NoteOp.bytes_type (op : NoteOp) : (op.bytes.headD 0).toNat = 0x09 := rfl

/-- A note is read back with the numbers that it was sent with. -/
theorem noteOf_bytes {op : NoteOp} (fits : op.Fits) : noteOf op.bytes = op.record := by
  have number : op.pasid.map (· % 2 ^ 20) = op.pasid := by
    cases given : op.pasid with
    | none => rfl
    | some x => rw [Option.map_some, Nat.mod_eq_of_lt (fits.pasid x given)]
  rw [NoteOp.bytes, noteOf_note]
  simp only [NoteOp.record, number, Nat.mod_eq_of_lt, fits.cause, fits.dst, fits.src, fits.tc, fits.seq, fits.length,
    fits.offset, fits.reqId, fits.reporter]

section
variable {ty reason owner target id : Nat}

theorem lockMsg_type : ((lockMsg ty reason owner target id).headD 0).toNat = ty % 256 := rfl

theorem beAt_lockMsg_owner (fits : owner < 4096) : beAt (lockMsg ty reason owner target id) 2 2 % 4096 = owner := by
  simp [lockMsg, crema_of_fits, beAt_append_right, beAt_beBytes_append, Nat.mod_mod_of_dvd, Nat.mod_eq_of_lt fits]

theorem beAt_lockMsg_target (fits : target < 4096) : beAt (lockMsg ty reason owner target id) 4 2 % 4096 = target := by
  simp [lockMsg, crema_of_fits, beAt_append_right, beAt_beBytes_append, Nat.mod_mod_of_dvd, Nat.mod_eq_of_lt fits]

theorem beAt_lockMsg_id (fits : id < 65536) : beAt (lockMsg ty reason owner target id) 6 2 = id := by
  simp [lockMsg, crema_of_fits, beAt_append_right, beAt_beBytes_append, Nat.mod_eq_of_lt fits]

end

section
variable {s u : State} {p : Nat}

/-! ### A note and a lock message reach the end that they are for (R197, R198, R200 to R203, R263) -/

/-- A routed message that names no destination is acted on and sent on, and its crema credit returns. -/
theorem State.routedMsg_undirected {m : List Byte} (scango : s.isScango p = true) (linked : (s.sglOf p).phase = 3)
    (room : (s.sglOf p).ccIn < 16) (hu : u = s.setSgl p { s.sglOf p with ccIn := (s.sglOf p).ccIn + 1 })
    (none : u.cremaDst m = none) : s.routedMsg p m = ((u.cremaAct m).breakOn m p).returnCrema (some p) := by
  subst hu
  simp only [State.routedMsg, State.routedIn, scango, linked, room.not_ge, none, ne_eq, not_true_eq_false, ↓reduceIte]

section
variable {op : NoteOp} (fits : op.Fits)
include fits

theorem State.cremaDst_noteBytes : s.cremaDst op.bytes = some op.src := by
  have src : beAt op.bytes 4 2 % 4096 = op.src := by
    have read := congrArg Pwf.src (noteOf_bytes fits)
    rwa [noteOf] at read
  simp only [State.cremaDst, NoteOp.bytes_type, src]

/-- A note for a source of this device is recorded for the virtual switch that owns it, but not from step 2 of a decant on. -/
theorem State.cremaAct_noteBytes {v : Nat} (source : s.fidIndex op.src = some v) (running : s.dct.quiet = false) :
    s.cremaAct op.bytes = s.pwfRecord (s.ownerVs v) op.record := by
  have own : s.fidIndex op.record.src = some v := source
  simp only [State.cremaAct, NoteOp.bytes_type, noteOf_bytes fits, own, running, Bool.false_eq_true, ↓reduceIte]

end

section
variable {reason owner target id : Nat}

theorem State.cremaDst_lockReq : s.cremaDst (lockMsg 0x0A reason owner target id) = some s.arbFid := by
  simp only [State.cremaDst, lockMsg_type]

theorem State.cremaDst_lockGrant (ho : owner < 4096) : s.cremaDst (lockMsg 0x0B reason owner target id) = some owner := by
  simp only [State.cremaDst, lockMsg_type, beAt_lockMsg_owner ho]

theorem State.cremaDst_lockRelease : s.cremaDst (lockMsg 0x0C reason owner target id) = some s.arbFid := by
  simp only [State.cremaDst, lockMsg_type]

/-- A break names no destination (log entry 24). -/
theorem State.cremaDst_lockBreak : s.cremaDst (lockMsg 0x0D reason owner target id) = none := by
  simp only [State.cremaDst, lockMsg_type]

variable (ho : owner < 4096) (ht : target < 4096)
include ho ht

theorem State.cremaAct_lockReq : s.cremaAct (lockMsg 0x0A reason owner target id) = s.lockReq owner target := by
  simp only [State.cremaAct, lockMsg_type, beAt_lockMsg_owner ho, beAt_lockMsg_target ht]

variable (hi : id < 65536)
include hi

theorem State.cremaAct_lockGrant : s.cremaAct (lockMsg 0x0B reason owner target id) = s.lockGranted owner target id := by
  simp only [State.cremaAct, lockMsg_type, beAt_lockMsg_owner ho, beAt_lockMsg_target ht, beAt_lockMsg_id hi]

theorem State.cremaAct_lockRelease : s.cremaAct (lockMsg 0x0C reason owner target id) = s.lockRelease owner target id := by
  simp only [State.cremaAct, lockMsg_type, beAt_lockMsg_owner ho, beAt_lockMsg_target ht, beAt_lockMsg_id hi]

theorem State.cremaAct_lockBreak : s.cremaAct (lockMsg 0x0D reason owner target id) = s.lockBreakIn owner target id := by
  simp only [State.cremaAct, lockMsg_type, beAt_lockMsg_owner ho, beAt_lockMsg_target ht, beAt_lockMsg_id hi]

end
end
end Sys2Proof.Machine

namespace Sys2Proof
open Machine

/-- Settles O15: each message is acted on with the fields that are read back from its bytes (`noteOf_bytes`, `State.cremaAct_lockReq`
and its likes), at the device that its destination names. -/
theorem routedMessagesComplete : Obligations.RoutedMessagesComplete := by
  unfold Obligations.RoutedMessagesComplete
  intro s t u dt p hf scango linked room hu
  constructor
  · intro op v cause dst src tc seq length offset reqId reporter pasid own source quiet
    have fits : op.Fits := ⟨cause, dst, src, tc, seq, length, offset, reqId, reporter, pasid⟩
    rw [exec_pwfNote hf, State.routedMsg_own scango linked room hu (State.cremaDst_noteBytes fits) own,
      State.cremaAct_noteBytes fits source quiet, NoteOp.record]
  · intro owner target id reason ho ht hi _
    refine ⟨fun arbiter => ⟨?_, ?_⟩, fun own => ?_, ?_⟩
    · rw [exec_lockReq hf, State.routedMsg_own scango linked room hu State.cremaDst_lockReq arbiter, State.cremaAct_lockReq ho ht]
    · rw [exec_lockRelease hf, State.routedMsg_own scango linked room hu State.cremaDst_lockRelease arbiter,
        State.cremaAct_lockRelease ho ht hi]
    · rw [exec_lockGrant hf, State.routedMsg_own scango linked room hu (State.cremaDst_lockGrant ho) own,
        State.cremaAct_lockGrant ho ht hi]
    · rw [exec_lockBreak hf, State.routedMsg_undirected scango linked room hu State.cremaDst_lockBreak,
        State.cremaAct_lockBreak ho ht hi]

end Sys2Proof

namespace Sys2Proof.Machine
section
variable {s : State}

/-! ### The timers of a lock (R200, R202) -/

/-- Ten milliseconds after the arbiter's grant the lock is broken, but not in the safe state or a decant. -/
theorem State.doLockTimer_due {o g id since : Nat} (granted : s.brg.arb = some (o, g, id, since))
    (due : s.brgNow - since ≥ 10000000) (runs : s.brgFrozen = false) : s.doLockTimer = s.lockBreak 1 o g id := by
  simp only [State.doLockTimer, granted, due.not_gt, runs, Bool.false_eq_true, or_self, ↓reduceIte]

theorem State.doLockTimer_early {o g id since : Nat} (granted : s.brg.arb = some (o, g, id, since))
    (early : s.brgNow - since < 10000000) : s.doLockTimer = s := by
  simp only [State.doLockTimer, granted, early, true_or, ↓reduceIte]

/-- Ten milliseconds after a virtual switch began to wait for a grant its lock is broken. -/
theorem State.doGrantTimeout_due {v : Nat} (waits : (s.lock v).st = 1) (due : s.brgNow - (s.lock v).since ≥ 10000000)
    (runs : s.brgFrozen = false) : s.doGrantTimeout v = s.lockBreak 1 (s.lock v).owner (s.lock v).target 0 := by
  simp only [State.doGrantTimeout, waits, due.not_gt, runs, ne_eq, not_true_eq_false, Bool.false_eq_true, or_self, ↓reduceIte]

end
end Sys2Proof.Machine

namespace Sys2Proof
open Machine

/-- Settles O16: a lock timer that is due breaks the lock, and one that is not leaves the part as it is. -/
theorem lockTimers : Obligations.LockTimers := by
  unfold Obligations.LockTimers
  refine ⟨fun s t dt o g id since hf granted due runs => ?_, fun s t dt v hf waits due runs => ?_,
    fun s t dt o g id since hf granted early => ?_⟩
  · rw [exec_lockTimer hf, State.doLockTimer_due granted due runs]
  · rw [exec_lockGrantTimeout hf, State.doGrantTimeout_due waits due runs]
  · rw [exec_lockTimer hf, State.doLockTimer_early granted early]

end Sys2Proof

namespace Sys2Proof.Machine
section
variable {s : State} {p : Nat}

/-! ### The link of a PCI Express port (R229, R231, R233, R241) -/

/-- A port that is down and may train comes up where the credits that it would advertise fit its account (R228). -/
theorem State.doLinkUp_fits {adv : Word} (pcie : s.isPcie p = true) (down : (s.pcpOf p).up = false) (trains : s.mayTrain p = true)
    (advert : adv = fcAdvert (s.raw (s.pk p R.PCP_FC)) (s.hdrmMin p)) (fits : F.PCP_FC_ADV_NO_FIT.get adv ≠ 1) (x : LinkUpOp) :
    s.doLinkUp p x.rate x.lanes x.flit x.ph x.pd x.nph x.npd x.ch x.cd =
      ((((((s.upLanes p).foldl State.overTaps (((s.setRaw (s.pk p R.PCP_FC_ADV) adv).setRaw (s.pk p R.PCP_LINK_STAT)
        (F.PCP_LINK_STAT_WIDTH_NEG.set (F.PCP_LINK_STAT_RATE.set (F.PCP_LINK_STAT_FLIT.set (F.PCP_LINK_STAT_DL_ACTIVE.set
          (F.PCP_LINK_STAT_UP.set 0 1) 1) (b2n x.flit)) x.rate) x.lanes)).setRaw (R.XBC_PORT_SPEED p)
        (F.XBC_PORT_SPEED_SPEED.set (F.XBC_PORT_SPEED_UP.set 0 1) (pcieSpeed x.rate x.lanes x.flit)))).setPcp p { s.pcpOf p with
          up := true, life := (s.pcpOf p).life + 1, ph := partnerCredit x.ph, pd := partnerCredit x.pd
          nph := partnerCredit x.nph, npd := partnerCredit x.npd, ch := partnerCredit x.ch, cd := partnerCredit x.cd
          lanes := x.lanes, narrow := false, l1 := false, idleSince := s.now, upAt := s.now, sent := [] }).linkStatus p x.rate
            x.lanes).dllChange p true).decantAer p) := by
  subst advert
  simp only [State.doLinkUp, pcie, down, trains, fits, Bool.not_true, Bool.false_eq_true, or_self, ↓reduceIte]

section
variable (pcie : s.isPcie p = true) (up : (s.pcpOf p).up = true)
include pcie up

/-- Where the port has a hot-plug slot, the loss of its link is no error. -/
theorem State.doLinkDown_slot (slot : s.flag (s.pk p R.PCP_SLOT_CFG) F.PCP_SLOT_CFG_SLOT_EN = true) :
    s.doLinkDown p = s.linkDown p := by
  rw [State.doLinkDown, if_neg (State.receives_up pcie up), slot]
  rfl

theorem State.doLinkDown_noSlot (slot : s.flag (s.pk p R.PCP_SLOT_CFG) F.PCP_SLOT_CFG_SLOT_EN = false) :
    s.doLinkDown p = (s.portError p .surpriseDown none Flt.PCP_SURPRISE).linkDown p := by
  rw [State.doLinkDown, if_neg (State.receives_up pcie up), slot]
  rfl

/-- L1 is entered once the link has been idle for L1_IDLE; at an upstream port (role 0), once what is below it is idle too. -/
theorem State.doL1Entry_idle (l0 : (s.pcpOf p).l1 = false) (allowed : s.l1Allowed p = true) (idle : s.portIdle p = true)
    (due : s.now - (s.pcpOf p).idleSince ≥ 1000 * s.fld (s.pk p R.PCP_PM_CFG) F.PCP_PM_CFG_L1_IDLE)
    (below : s.role p ≠ 0 ∨ s.belowIdle (s.vsOf p) = true) :
    s.doL1Entry p = ((s.setPcp p { s.pcpOf p with l1 := true }).setFld (s.pk p R.PCP_LINK_STAT) F.PCP_LINK_STAT_PM
      (s.l1State p)).emit (.link p "L1") :=
  if_pos ⟨pcie, up, by rw [l0]; rfl, allowed, idle, due, below⟩

theorem State.doL0pNarrow_belowHalf {lanes : Nat} (l0 : (s.pcpOf p).l1 = false) (allowed : s.l0pAllowed p = true)
    (some_lane : 1 ≤ lanes) (below : s.belowHalf p lanes = true)
    (narrower : lanes < s.fld (s.pk p R.PCP_LINK_STAT) F.PCP_LINK_STAT_WIDTH_NEG) :
    s.doL0pNarrow p lanes = ((s.setPcp p { s.pcpOf p with narrow := true }).setWidth p lanes 1).emit (.link p "L0p") :=
  if_pos ⟨pcie, up, by rw [l0]; rfl, allowed, some_lane, below, narrower⟩

/-- The replay timer has expired: what is not acknowledged goes out again. -/
theorem State.doReplayTmo_timer : s.doReplayTmo p false =
    (((s.rxLog p .replayTimeout).raise Flt.PCP_RX_COR p).cntPcp p 6).emit (.link p "replay") :=
  if_neg (State.receives_up pcie up)

theorem State.doReplayTmo_rollover : s.doReplayTmo p true =
    ((s.rxLog p .replayRollover).raise Flt.PCP_RX_COR p).emit (.link p "retrain") :=
  if_neg (State.receives_up pcie up)

end

theorem State.doL1Exit_l1 (pcie : s.isPcie p = true) (l1 : (s.pcpOf p).l1 = true) :
    s.doL1Exit p = ((s.setPcp p { s.pcpOf p with l1 := false, idleSince := s.now }).setFld (s.pk p R.PCP_LINK_STAT)
      F.PCP_LINK_STAT_PM 0).emit (.link p "L0") :=
  if_pos ⟨pcie, l1⟩

end
end Sys2Proof.Machine

namespace Sys2Proof
open Machine

/-- Settles O17: each change of the link by the lemma of what it does to a port that meets its conditions. -/
theorem pcieLinkStates : Obligations.PcieLinkStates := by
  unfold Obligations.PcieLinkStates
  refine ⟨fun s t dt p x hf pcie down trains adv advert fits => ?_,
    fun s t dt p hf pcie up => ⟨fun slot => ?_, fun slot => ?_⟩,
    fun s t dt p hf pcie up l0 allowed idle due below => ?_, fun s t dt p hf pcie l1 => ?_,
    fun s t dt p lanes hf pcie up l0 allowed some_lane below narrower => ?_, fun s t dt p hf pcie up => ⟨?_, ?_⟩⟩
  · rw [exec_pcieLinkUp hf, State.doLinkUp_fits pcie down trains advert fits]
  · rw [exec_pcieLinkDown hf, State.doLinkDown_slot pcie up slot]
  · rw [exec_pcieLinkDown hf, State.doLinkDown_noSlot pcie up slot]
  · rw [exec_aspmL1Entry hf, State.doL1Entry_idle pcie up l0 allowed idle due below]
  · rw [exec_aspmL1Exit hf, State.doL1Exit_l1 pcie l1]
  · rw [exec_l0pNarrow hf, State.doL0pNarrow_belowHalf pcie up l0 allowed some_lane below narrower]
  · rw [exec_pcieReplayTimeout hf, State.doReplayTmo_timer pcie up]
  · rw [exec_pcieReplayTimeout hf, State.doReplayTmo_rollover pcie up]

end Sys2Proof

namespace Sys2Proof.Machine
section
variable {s : State} {p : Nat}

/-! ### Resets of a virtual switch and its ports, and requests (R65, R224, R225, R234, R236, R238, R240) -/

section
variable (upstream : s.role p = 0)
include upstream

theorem State.doPerstN_low :
    s.doPerstN p true = (s.setPcp p { s.pcpOf p with perstIn := true, ready := false }).vsReset (s.vsOf p) :=
  if_neg (not_not_intro upstream)

theorem State.doPerstN_high : s.doPerstN p false = (s.setPcp p { s.pcpOf p with perstIn := false }).trainAgain p :=
  if_neg (not_not_intro upstream)

theorem State.doHotReset_up (up : (s.pcpOf p).up = true) : s.doHotReset p = (s.vsReset (s.vsOf p)).trainAgain p :=
  if_pos ⟨upstream, up⟩

end

theorem State.secondaryReset_down (below : s.isDown (.port p) = true) :
    s.secondaryReset p = (s.cfgOr (.port p) 15 (2 ^ 22)).resetDown p :=
  if_pos below

theorem State.doVsReady_high {v : Nat} (upstream : s.upPort v = some p) (high : (s.pcpOf p).perstIn = false) :
    s.doVsReady v = s.setPcp p { s.pcpOf p with ready := true } := by
  simp only [State.doVsReady, upstream, high, Bool.false_eq_true, ↓reduceIte]

theorem State.doBmeClear_switch (switch : s.role p < 2) : s.doBmeClear p = s.cfgClear (.port p) 1 4 :=
  if_pos switch

/-- Turning rings off changes registers alone. -/
theorem State.ringsOff_only (l : List RingId) (s : State) :
    s.OnlyRegs (l.foldl (fun s r => s.setFld r.cfg F.CTL_CFG_EN 0) s) :=
  foldl_keeps State.OnlyRegs (fun u r => u.setFld r.cfg F.CTL_CFG_EN 0) (fun _ => rfl) State.OnlyRegs.trans (fun _ _ => rfl) l s

/-- With no command and no harvest under way, an FLR of the management function turns its rings off and abandons what has been
fetched, its commit and its reads; its configuration space is reset but for what is sticky and its bus number (R235). -/
theorem State.doMgmtFlr_quiet {u : State} (rings : u = [RingId.mcr, .evr, .ftr, .smr, .cdr].foldl
    (fun s r => s.setFld r.cfg F.CTL_CFG_EN 0) s) (free : s.ctl.busyCmd = none) (unharvested : s.wlg.harvest = none) :
    s.doMgmtFlr = { u with
      ctl := { u.ctl with commit := none, epochDone := true, fetched := u.ringCi .mcr, busyCmd := none }
      brg := { u.brg with loc := u.brg.loc.filter fun e => e.2.origin != .own .mgmt }
      pci := u.pci.filter fun e => e.1 / 1024 ≠ Fn.mgmt.num || stickyDw (e.1 % 1024) || e.1 % 1024 == 1000 } := by
  have only : s.OnlyRegs u := rings ▸ State.ringsOff_only _ s
  have free_u : u.ctl.busyCmd = none := by rw [only]; exact free
  have unharvested_u : u.wlg.harvest = none := by rw [only]; exact unharvested
  simp only [State.doMgmtFlr, ← rings, State.harvestFlr, unharvested_u, free_u, State.cfgFlr]

/-- A port that its contained virtual switch does not hold leaves DPC, and trains where it may. -/
theorem State.doDpcRelease_free {u : State} (held : (s.pcpOf p).dpc = true) (free : s.vsContained (s.vsOf p) = false)
    (left : u = (((s.setPcp p { s.pcpOf p with dpc := false }).cfgClear (.port p) 0x96 1).markContained p false).setFld
      (s.pk p R.PCP_LINK_STAT) F.PCP_LINK_STAT_PM 7) :
    s.doDpcRelease p = if u.mayTrain p then u.emit (.link p "train") else u := by
  subst left
  simp only [State.doDpcRelease, held, free, Bool.not_true, Bool.false_eq_true, or_self, ↓reduceIte]

/-- PERST_DLY ms after power-good rose the slot's PERST_N is released, unless a reset holds it. -/
theorem State.doPerstDeassert_due {x : Nat} (good : (s.pcpOf p).pgSince = some x) (released : s.perstHeld p = false)
    (due : s.now - x ≥ 1000000 * s.fld (s.pk p R.PCP_SLOT_CFG) F.PCP_SLOT_CFG_PERST_DLY) :
    s.doPerstDeassert p = s.setPerst p false := by
  simp only [State.doPerstDeassert, good, due, released, Bool.not_false, and_self, ↓reduceIte]

section
variable (busy : s.flag (s.pk p R.PCP_CFGRQ) F.PCP_CFGRQ_BUSY = true)
include busy

/-- A request that is under way ends with its status. -/
theorem State.cfgrqEnd_status (st : Nat) : s.cfgrqEnd p st none =
    (s.setFld (s.pk p R.PCP_CFGRQ) F.PCP_CFGRQ_BUSY 0).setFld (s.pk p R.PCP_CFGRQ) F.PCP_CFGRQ_STATUS st := by
  rw [State.cfgrqEnd, busy]
  rfl

/-- A read that succeeds leaves its data. -/
theorem State.doCfgrqDone_read {data : Nat} {u : State} (read : s.flag (s.pk p R.PCP_CFGRQ) F.PCP_CFGRQ_WRITE = false)
    (ended : u = (s.setFld (s.pk p R.PCP_CFGRQ) F.PCP_CFGRQ_BUSY 0).setFld (s.pk p R.PCP_CFGRQ) F.PCP_CFGRQ_STATUS 0) :
    s.doCfgrqDone p 0 data = u.setFld (s.pk p R.PCP_CFGRQ_DATA) F.PCP_CFGRQ_DATA_DATA data := by
  subst ended
  rw [State.doCfgrqDone, State.cfgrqEnd, busy, read]
  rfl

/-- One that fails has no data. -/
theorem State.doCfgrqDone_failed {st : Nat} (failed : st = 1 ∨ st = 2 ∨ st = 4) (data : Nat) : s.doCfgrqDone p st data =
    (s.setFld (s.pk p R.PCP_CFGRQ) F.PCP_CFGRQ_BUSY 0).setFld (s.pk p R.PCP_CFGRQ) F.PCP_CFGRQ_STATUS st := by
  have no_data : ¬ ((!s.flag (s.pk p R.PCP_CFGRQ) F.PCP_CFGRQ_WRITE) = true ∧ st = 0) := by omega
  rw [State.doCfgrqDone, if_pos (Or.inr failed), if_neg no_data, State.cfgrqEnd_status busy]

theorem State.doCfgrqTmo_due (due : s.now - (s.pcpOf p).cfgSince ≥ 50000000) : s.doCfgrqTmo p =
    (s.setFld (s.pk p R.PCP_CFGRQ) F.PCP_CFGRQ_BUSY 0).setFld (s.pk p R.PCP_CFGRQ) F.PCP_CFGRQ_STATUS 7 :=
  (if_pos due).trans (State.cfgrqEnd_status busy 7)

end

end
end Sys2Proof.Machine

namespace Sys2Proof
open Machine

/-- Settles O18: each reset and each end of a request by the lemma of what it does where it takes effect. -/
theorem pcieResetsAndRequests : Obligations.PcieResetsAndRequests := by
  unfold Obligations.PcieResetsAndRequests
  refine ⟨fun s t dt p hf upstream => ⟨?_, ?_⟩, fun s t dt p hf upstream up => ?_, fun s t dt p hf below => ?_,
    fun s t dt v p hf upstream high => ?_, fun s t dt hf free unharvested => ⟨_, rfl, ?_⟩, fun s t dt p hf switch => ?_,
    fun s t dt p hf held free u left => ?_, fun s t dt p x hf good released due => ?_,
    fun s t dt p st data hf busy => ⟨fun read u ended => ?_, fun failed => ?_, fun due => ?_⟩⟩
  · rw [exec_perstN hf, State.doPerstN_low upstream]
  · rw [exec_perstN hf, State.doPerstN_high upstream]
  · rw [exec_hotReset hf, State.doHotReset_up upstream up]
  · rw [exec_secondaryBusReset hf, State.secondaryReset_down below]
  · rw [exec_vsReady hf, State.doVsReady_high upstream high]
  · rw [exec_mgmtFlr hf, State.doMgmtFlr_quiet rfl free unharvested]
  · rw [exec_busMasterClear hf, State.doBmeClear_switch switch]
  · rw [exec_dpcRelease hf, State.doDpcRelease_free held free left]
  · rw [exec_slotPerstDeassert hf, State.doPerstDeassert_due good released due]
  · rw [exec_cfgrqDone hf, State.doCfgrqDone_read busy read ended]
  · rw [exec_cfgrqDone hf, State.doCfgrqDone_failed busy failed]
  · rw [exec_cfgrqTimeout hf, State.doCfgrqTmo_due busy due]

end Sys2Proof

namespace Sys2Proof.Machine
section
variable {s : State} {n : Nat} {c : SpcSt}

/-! ### The controls of a slot power controller (R237, R387, R389, R392, R393, R404) -/

section
variable (state : c = s.spcSt n)
include state

/-- A controller that is asked for takes its enable, and leaves OFF (state 0) for WAIT (state 1). -/
theorem State.doSlotEnable_wanted (wanted : s.spcWanted n = true) (off : c.en = false) :
    s.doSlotEnable n = s.setSpc n { c with en := true, st := if c.st = 0 then 1 else c.st } := by
  subst state
  exact if_pos ⟨wanted, by rw [off]; rfl⟩

section
variable (unwanted : s.spcWanted n = false) (on : c.en = true)
include unwanted on

/-- One that waits or is latched (states 1, 4) goes to OFF as its enable is removed. -/
theorem State.doSlotDisable_unpowered (off : c.st = 1 ∨ c.st = 4) :
    s.doSlotDisable n = s.setSpc n { c with en := false, st := 0 } := by
  subst state
  have unpowered : ¬ ((s.spcSt n).st = 2 ∨ (s.spcSt n).st = 3) := by omega
  simp only [State.doSlotDisable, unwanted, on, off, unpowered, Bool.not_true, Bool.false_eq_true, or_self, ↓reduceIte]

/-- One in RAMP or ON (states 2, 3) turns its gates off. -/
theorem State.doSlotDisable_powered (powered : c.st = 2 ∨ c.st = 3) :
    s.doSlotDisable n = (s.setSpc n { c with en := false }).spcOff n 6 5 := by
  subst state
  have stays : ¬ ((s.spcSt n).st = 1 ∨ (s.spcSt n).st = 4) := by omega
  simp only [State.doSlotDisable, unwanted, on, powered, stays, Bool.not_true, Bool.false_eq_true, or_self, ↓reduceIte]

end

section
variable {rail shunt : Nat} (fast : s.railFast n rail shunt = true)
include fast

/-- A rail at its FAST threshold trips a controller in RAMP or ON. -/
theorem State.doFastTrip_powered (powered : c.st = 2 ∨ c.st = 3) :
    s.doFastTrip { ctl := n, rail := rail, shunt := shunt } = s.spcTrip n 1 := by
  subst state
  simp only [State.doFastTrip, fast, powered, Bool.not_true, Bool.false_eq_true, ↓reduceIte]

/-- In the microsecond of a TIMER trip the FAST trip takes its place, in the cause and in the counters. -/
theorem State.doFastTrip_timer {o : Int} (latched : c.st = 4) (timer : c.cause = 2) (tripped : c.offAt = some o)
    (same : (s.now : Int) - o < 1000) :
    s.doFastTrip { ctl := n, rail := rail, shunt := shunt } =
      (((s.setSpc n { c with cause := 1 }).setFld (R.SPC_CNT n 2) F.SPC_CNT_COUNT
        (s.fld (R.SPC_CNT n 2) F.SPC_CNT_COUNT - 1)).count (R.SPC_CNT n 1)).raise Flt.SPC_FAST_TRIP n n := by
  subst state
  have unpowered : ¬ ((s.spcSt n).st = 2 ∨ (s.spcSt n).st = 3) := by omega
  have replaces : (s.spcSt n).st = 4 ∧ (s.spcSt n).cause = 2 ∧
      (s.spcSt n).offAt.any (fun t => decide ((s.now : Int) - t < 1000)) = true :=
    ⟨latched, timer, by rw [tripped]; exact decide_eq_true same⟩
  exact (if_neg (by simp [fast])).trans ((if_neg unpowered).trans (if_pos replaces))

end
end

theorem State.doFastTrip_below {rail shunt : Nat} (below : s.railFast n rail shunt = false) :
    s.doFastTrip { ctl := n, rail := rail, shunt := shunt } = s :=
  if_pos (by rw [below]; rfl)

theorem State.analogOff_powered (powered : (s.spcSt n).st = 2 ∨ (s.spcSt n).st = 3) :
    s.analogOff n = (s.spcOff n 8 4).raise Flt.SPC_ANALOG n n := by
  simp only [State.analogOff, powered, ↓reduceIte]

theorem State.analogOff_unpowered (unpowered : ¬ ((s.spcSt n).st = 2 ∨ (s.spcSt n).st = 3)) :
    s.analogOff n = (s.setSpc n { s.spcSt n with cause := 8, st := if (s.spcSt n).en then 4 else 0, pg := false }).raise
      Flt.SPC_ANALOG n n := by
  simp only [State.analogOff, unpowered, ↓reduceIte]

/-- A single bit of a mask of 32 names that one controller. -/
theorem filter_bitAt_two_pow : ∀ k < 32, (List.range 32).filter (bitAt (2 ^ k)) = [k] := by decide

/-- One controller loses the analog die. -/
theorem State.doAnalogLoss_one {k : Nat} (hk : k < 32) : s.doAnalogLoss (2 ^ k) = s.analogOff k := by
  have not_all : (List.range 32).all (bitAt (2 ^ k)) ≠ true := fun all => by
    have filtered := List.filter_eq_self.mpr (List.all_eq_true.mp all)
    rw [filter_bitAt_two_pow k hk] at filtered
    exact absurd (congrArg List.length filtered) (by simp)
  rw [State.doAnalogLoss, if_neg not_all, filter_bitAt_two_pow k hk]
  rfl

/-- All controllers at once: a fault of the die. -/
theorem State.doAnalogLoss_all :
    s.doAnalogLoss (2 ^ 32 - 1) = (List.range 32).foldl State.analogOff (s.raise Flt.SPC_ANALOG_DIE) :=
  if_pos (by decide)

/-- A button is that of a fabric endpoint port (role 2), or one that the image assigns to a downstream port. -/
theorem State.doAttention_button {p : Nat} (slot : s.spcPort n = some p)
    (button : s.role p = 2 ∨ (s.isDown (.port p) = true ∧ s.buttonOf p ≠ 0)) : s.doAttention n = s.slotEvent n 16 24 := by
  simp only [State.doAttention, slot]
  rcases button with endpoint | assigned
  · rw [if_pos endpoint]
  · rw [if_pos assigned, ite_self]

end
end Sys2Proof.Machine

namespace Sys2Proof
open Machine

/-- Settles O33: each control by the state in which it finds the controller. -/
theorem slotControls : Obligations.SlotControls := by
  unfold Obligations.SlotControls
  refine ⟨fun s t dt n c hf state => ⟨fun wanted off st => ?_, fun wanted off st => ?_, fun unwanted on st => ?_,
      fun unwanted on powered => ?_, fun rail shunt fast => ⟨fun powered => ?_, fun o latched timer tripped same => ?_⟩,
      fun rail shunt below => ?_⟩,
    fun s t dt k hf hk => ⟨fun powered => ?_, fun not_ramp not_on => ?_⟩, fun s t dt hf => ?_,
    fun s t dt n p hf slot button => ?_⟩
  · rw [exec_slotEnable hf, State.doSlotEnable_wanted state wanted off, if_neg st]
  · rw [exec_slotEnable hf, State.doSlotEnable_wanted state wanted off, if_pos st]
  · rw [exec_slotDisable hf, State.doSlotDisable_unpowered state unwanted on st]
  · rw [exec_slotDisable hf, State.doSlotDisable_powered state unwanted on powered]
  · rw [exec_fastTrip hf, State.doFastTrip_powered state fast powered]
    rfl
  · rw [exec_fastTrip hf, State.doFastTrip_timer state fast latched timer tripped same]
  · rw [exec_fastTrip hf, State.doFastTrip_below below]
  · rw [exec_analogLoss (x := ⟨dt, 2 ^ k⟩) hf, State.doAnalogLoss_one hk, State.analogOff_powered powered]
  · rw [exec_analogLoss (x := ⟨dt, 2 ^ k⟩) hf, State.doAnalogLoss_one hk, State.analogOff_unpowered (not_or.mpr ⟨not_ramp, not_on⟩)]
  · rw [exec_analogLoss (x := ⟨dt, 2 ^ 32 - 1⟩) hf, State.doAnalogLoss_all]
  · rw [exec_attentionButtonPressed hf, State.doAttention_button slot button]

end Sys2Proof

namespace Sys2Proof.Machine
section
variable {s : State} {p : Nat}

/-! ### The state of a Scango link, and a link in INIT or UP (states 2, 3) -/

/-- A link's state is the one that was put. -/
@[simp] theorem State.sglOf_setSgl (s : State) (p : Nat) (x : SglSt) : (s.setSgl p x).sglOf p = x := tget_tput ..

theorem SglSt.phase_linked {x : SglSt} (linked : x.st = 2 ∨ x.st = 3) : x.phase = x.st := if_neg (by omega)

theorem SglSt.not_unlinked {x : SglSt} (linked : x.st = 2 ∨ x.st = 3) : ¬ (x.st ≠ 2 ∧ x.st ≠ 3) := by omega

section
variable (scango : s.isScango p = true) (linked : (s.sglOf p).st = 2 ∨ (s.sglOf p).st = 3)
include scango linked

theorem State.linkMsg_linked (f : State → State) : s.linkMsg p f = f s := if_pos ⟨scango, linked⟩

/-- Its flits are sent and received. -/
theorem State.flits_linked : ¬ ((!s.isScango p) = true ∨ (s.sglOf p).st ≠ 2 ∧ (s.sglOf p).st ≠ 3) := by
  rw [scango]
  exact not_or.mpr ⟨Bool.false_ne_true, SglSt.not_unlinked linked⟩

end

/-! ### Replay (R254, R255, R270) -/

theorem State.startReplay_empty (empty : (s.sglOf p).buf = []) (byTimer back : Bool) : s.startReplay p byTimer back = s :=
  if_pos empty

theorem State.doReplayTimer_due (linked : (s.sglOf p).st = 2 ∨ (s.sglOf p).st = 3) (unacked : (s.sglOf p).buf ≠ [])
    (due : s.now - (s.sglOf p).timer ≥ (s.sglOf p).tmo) : s.doReplayTimer p = s.startReplay p true :=
  if_pos ⟨linked, unacked, due⟩

section
variable {u : State} {a : Nat} (acked : s.ackIn p a = (true, u))
include acked

theorem State.ackMsgIn_nak : s.ackMsgIn p a true = u.startReplay p false := by
  simp only [State.ackMsgIn, acked, ↓reduceIte]

theorem State.ackMsgIn_ack : s.ackMsgIn p a false = u := by
  simp only [State.ackMsgIn, acked, Bool.false_eq_true, ↓reduceIte]

end

/-! ### A flit is sent: one IDLE flit in 1,024, else a replay, crema messages, data, or IDLE (R245, R255, R262) -/

/-- What FLIT_SEND does for a link whose cells have been checked and whose flit has been counted since the last IDLE flit. -/
def State.nextFlit (s : State) (p : Nat) (bad : Bool) : State :=
  if (s.sglOf p).run > 1023 then s.putIdle p
  else match (s.sglOf p).replay with
  | some k =>
    match (s.sglOf p).buf[(s.sglOf p).buf.length - k]? with
    | none => s.setSgl p { s.sglOf p with replay := none }
    | some f =>
      if bad ∨ s.flitBad p f.fsn then (s.raise Flt.SGL_REPLAY_ECC p).sglDown p [f.fsn]
      else (((s.ev 5 3 p 0).slotDue p 1 236).setSgl p { s.sglOf p with replay := if k ≤ 1 then none else some (k - 1) }).putFlit p
        (f.again (s.sglOf p).ackVal)
  | none =>
    let data := if (s.sglOf p).buf.length < 496 then s.sendData p else none
    if s.cremaReady p ∧ (s.sglOf p).buf.length < 512 ∧ ((s.sglOf p).cremaRun ≥ 3 ∨ data.isNone) then s.sendCremaFlit p
    else match data with
    | some w => w
    | none => s.putIdle p

theorem State.doFlitSend_linked (scango : s.isScango p = true) (linked : (s.sglOf p).st = 2 ∨ (s.sglOf p).st = 3) {x : SglSt}
    {u : State} (unsent : x = ((s.linkCheck p).sglOf p).dropUnsent)
    (counted : u = (s.linkCheck p).setSgl p { x with run := x.run + 1 }) (bad : Bool) :
    s.doFlitSend p bad = u.nextFlit p bad := by
  subst unsent counted
  rewrite [State.doFlitSend, if_neg (State.flits_linked scango linked), State.nextFlit, State.sglOf_setSgl]
  rfl

theorem State.nextFlit_idleDue {bad : Bool} (due : (s.sglOf p).run > 1023) : s.nextFlit p bad = s.putIdle p := if_pos due

section
variable {bad : Bool} (early : ¬ (s.sglOf p).run > 1023)
include early

/-- A flit of the replay that can be read goes out again. -/
theorem State.nextFlit_replay {k : Nat} {f : TxFlit} (replaying : (s.sglOf p).replay = some k)
    (oldest : (s.sglOf p).buf[(s.sglOf p).buf.length - k]? = some f) (sound : s.flitBad p f.fsn = false) :
    s.nextFlit p false = (((s.ev 5 3 p 0).slotDue p 1 236).setSgl p { s.sglOf p with
      replay := if k ≤ 1 then none else some (k - 1) }).putFlit p (f.again (s.sglOf p).ackVal) := by
  simp only [State.nextFlit, early, replaying, oldest, sound, Bool.false_eq_true, or_self, ↓reduceIte]

/-- One that cannot takes the link down (R256). -/
theorem State.nextFlit_unreadable {k : Nat} {f : TxFlit} (replaying : (s.sglOf p).replay = some k)
    (oldest : (s.sglOf p).buf[(s.sglOf p).buf.length - k]? = some f) :
    s.nextFlit p true = (s.raise Flt.SGL_REPLAY_ECC p).sglDown p [f.fsn] := by
  simp only [State.nextFlit, early, replaying, oldest, true_or, ↓reduceIte]

section
variable (fresh : (s.sglOf p).replay = none)
include fresh

theorem State.nextFlit_crema (ready : s.cremaReady p = true) (room : (s.sglOf p).buf.length < 512) (idle : s.sendData p = none) :
    s.nextFlit p bad = s.sendCremaFlit p := by
  simp only [State.nextFlit, early, fresh, ready, room, idle, ite_self, Option.isNone_none, or_true, and_self, ↓reduceIte]

/-- Crema messages leave data their turn until three flits of it have gone before them. -/
theorem State.nextFlit_data {w : State} (room : (s.sglOf p).buf.length < 496) (data : s.sendData p = some w)
    (turn : s.cremaReady p = false ∨ (s.sglOf p).cremaRun < 3) : s.nextFlit p bad = w := by
  have share : ¬ (s.cremaReady p = true ∧ (s.sglOf p).buf.length < 512 ∧ (s.sglOf p).cremaRun ≥ 3) := by
    rcases turn with unready | short
    · simp [unready]
    · omega
  simp only [State.nextFlit, early, fresh, room, data, share, Option.isNone_some, Bool.false_eq_true, or_false, ↓reduceIte]

theorem State.nextFlit_idle (unready : s.cremaReady p = false) (nothing : (s.sglOf p).buf.length ≥ 496 ∨ s.sendData p = none) :
    s.nextFlit p bad = (s.setSgl p { s.sglOf p with run := 0 }).putFlit p
      (mkFlit 0 (s.sglOf p).txFsn (s.sglOf p).ackVal 0x3F []) := by
  have none : (if (s.sglOf p).buf.length < 496 then s.sendData p else none) = none := by
    rcases nothing with full | idle
    · exact if_neg full.not_gt
    · rw [idle, ite_self]
  simp only [State.nextFlit, early, fresh, unready, none, Bool.false_eq_true, false_and, ↓reduceIte, State.putIdle,
    Option.bind_none]

end
end

/-! ### A flit is received, and taken by its FSN (R252, R254, R274) -/

section
variable {raw : List Byte} (scango : s.isScango p = true) (linked : (s.sglOf p).st = 2 ∨ (s.sglOf p).st = 3)
include scango linked

theorem State.doFlitReceive_undecoded (undecoded : decodeFlit raw = none) : s.doFlitReceive p raw =
    (((s.corrections p (flitFixes raw)).modSgl p fun x => { x with goodRun := 0, nakDue := true }).cntSgl p 2).violation
      p Flt.SGL_FLIT_BAD := by
  rw [State.doFlitReceive, if_neg (State.flits_linked scango linked)]
  simp only [undecoded]

section
variable {f : List Byte} {fixed : List Nat} {u : State} {y : SglSt} {d ty : Nat} (decoded : decodeFlit raw = some (f, fixed))
  (acked : u = (((s.ev 5 4 p 0).corrections p fixed).ackIn p (bitsOf (beAt f 0 4) 6 12)).2.goodFlit p) (link : y = u.sglOf p)
  (distance : d = (bitsOf (beAt f 0 4) 18 12 + 4096 - y.exp) % 4096) (type : ty = bitsOf (beAt f 0 4) 30 2)
include decoded acked link distance type

/-- An IDLE flit takes no FSN; at the distance 0, or 512 and more, it leaves what its acknowledgement left (log entry 95). -/
theorem State.doFlitReceive_idle (idle : ty = 0) (near : d = 0 ∨ 512 ≤ d) : s.doFlitReceive p raw = u := by
  rw [State.doFlitReceive, if_neg (State.flits_linked scango linked)]
  simp only [decoded, ← acked, ← link, ← distance, ← type, idle, ↓reduceIte]
  exact if_neg (by omega)

/-- A flit with an FSN of its own that is no data before the link is up is taken by the distance of its FSN from the one expected:
accepted, followed by a NAK, a violation, or a duplicate, which is acknowledged again. -/
theorem State.doFlitReceive_sequenced (sequenced : ty ≠ 0) (taken : ty = 3 ∨ y.phase ≠ 2) : s.doFlitReceive p raw =
    if d = 0 then
      if ty = 3 then (slots 7 (f.drop 4)).foldl (fun s m => s.cremaIn p m)
        ((u.setSgl p { y with exp := (y.exp + 1) % 4096, nakDue := y.nakDue && u.nakOpen p }).cntSgl p 0)
      else ((u.setSgl p { y with exp := (y.exp + 1) % 4096, nakDue := y.nakDue && u.nakOpen p }).cntSgl p 0).rxData p (ty == 2)
        (bitsOf (beAt f 0 4) 0 6) ((f.drop 4).take 236)
    else if d < 512 then u.setSgl p { y with nakDue := true }
    else if d < 2048 then (u.violation p Flt.SGL_PROTO).retrain p
    else (u.setSgl p { y with
      linkMsgs := if y.linkMsgs.contains (ackMsg false 0) then y.linkMsgs else y.linkMsgs ++ [ackMsg false 0] }).cntSgl p 5 := by
  have admitted : ¬ (y.phase = 2 ∧ ty ≠ 3) := by tauto
  rw [State.doFlitReceive, if_neg (State.flits_linked scango linked)]
  simp only [decoded, ← acked, ← link, ← distance, ← type]
  rw [if_neg sequenced, if_neg admitted]

end
end
end
end Sys2Proof.Machine

namespace Sys2Proof
open Machine

/-- Settles O19: each flit that is sent by what stands first in the link's order, and each that is received by its type and the
distance of its FSN. -/
theorem flitsComplete : Obligations.FlitsComplete := by
  unfold Obligations.FlitsComplete
  refine ⟨fun s t dt p bad hf scango linked x u unsent counted =>
      have run : (u.sglOf p).run = x.run + 1 := by rw [counted, State.sglOf_setSgl]
      ⟨fun due => ?_, fun early fresh unready nothing => ?_,
      fun early fresh ready room idle => ?_, fun w early fresh room data turn => ?_,
      fun k f early replaying oldest => ⟨fun sound => ?_, ?_⟩⟩,
    fun s t dt p raw hf scango linked undecoded => ?_,
    fun s t dt p raw f fixed hf scango linked decoded u y d ty acked link distance type => ⟨fun crema expected => ?_,
      fun data up expected => ?_, fun sequenced taken later near => ?_, fun sequenced taken far ahead => ?_,
      fun sequenced taken behind unanswered => ?_, fun idle near => ?_⟩,
    fun s t u dt p a hf scango linked acked => ⟨?_, ?_⟩, fun s t dt p hf linked unacked due => ?_⟩
  · rw [exec_flitSend hf, State.doFlitSend_linked scango linked unsent counted, State.nextFlit_idleDue (run ▸ due)]
  · rw [exec_flitSend hf, State.doFlitSend_linked scango linked unsent counted,
      State.nextFlit_idle (run ▸ early.not_gt) fresh unready nothing]
  · rw [exec_flitSend hf, State.doFlitSend_linked scango linked unsent counted,
      State.nextFlit_crema (run ▸ early.not_gt) fresh ready room idle]
  · rw [exec_flitSend hf, State.doFlitSend_linked scango linked unsent counted,
      State.nextFlit_data (run ▸ early.not_gt) fresh room data turn]
  · rw [exec_flitSend hf, State.doFlitSend_linked scango linked unsent counted,
      State.nextFlit_replay (run ▸ early.not_gt) replaying oldest sound]
  · rw [exec_flitSend hf, State.doFlitSend_linked scango linked unsent counted,
      State.nextFlit_unreadable (run ▸ early.not_gt) replaying oldest]
  · rw [exec_flitReceive hf, State.doFlitReceive_undecoded scango linked undecoded]
  · rw [exec_flitReceive hf, State.doFlitReceive_sequenced scango linked decoded acked link distance type (by omega) (.inl crema),
      if_pos expected, if_pos crema]
  · rw [exec_flitReceive hf, State.doFlitReceive_sequenced scango linked decoded acked link distance type (by omega) (.inr up),
      if_pos expected, if_neg (by omega)]
  · rw [exec_flitReceive hf, State.doFlitReceive_sequenced scango linked decoded acked link distance type sequenced taken,
      if_neg (by omega), if_pos near]
  · rw [exec_flitReceive hf, State.doFlitReceive_sequenced scango linked decoded acked link distance type sequenced taken,
      if_neg (by omega), if_neg far.not_gt, if_pos ahead]
  · rw [exec_flitReceive hf, State.doFlitReceive_sequenced scango linked decoded acked link distance type sequenced taken,
      if_neg (by omega), if_neg (by omega), if_neg behind.not_gt, if_neg (mt List.contains_iff_mem.mp unanswered)]
  · rw [exec_flitReceive hf, State.doFlitReceive_idle scango linked decoded acked link distance type idle near]
  · rw [exec_ack hf, State.linkMsg_linked scango linked, State.ackMsgIn_nak acked]
  · rw [exec_ack hf, State.linkMsg_linked scango linked, State.ackMsgIn_ack acked]
  · rw [exec_replayTimer hf, State.doReplayTimer_due linked unacked due]

end Sys2Proof

namespace Sys2Proof.Machine
section
variable {s : State} {p first cc : Nat} {vals : List (Nat × Nat)}

/-! ### Credits and the parameters of a link (R260, R263 to R265) -/

/-- The first pools of the four ranges that a CREDIT or a CREDIT_INIT may name are let in (R264). -/
theorem pools_named (named : first ∈ [0, 6, 12, 18]) : ¬ ¬ [0, 6, 12, 18].contains first = true :=
  not_not_intro (List.contains_iff_mem.mpr named)

section
variable (linked : (s.sglOf p).st = 2 ∨ (s.sglOf p).st = 3) (named : first ∈ [0, 6, 12, 18])
include linked named

theorem State.credit_taken : ¬ ((s.sglOf p).phase ≠ 3 ∧ (s.sglOf p).phase ≠ 2 ∨ ¬ [0, 6, 12, 18].contains first = true) := by
  rw [SglSt.phase_linked linked]
  exact not_or.mpr ⟨by omega, pools_named named⟩

/-- Returns within what was consumed stand as the pools' returns. -/
theorem State.creditIn_within
    (pools : ∀ j < 6, ((vals.getD j (0, 0)).1 + 4096 - (tget {} (s.sglOf p).pools (first + j)).cr) % 4096 ≤
          ((tget {} (s.sglOf p).pools (first + j)).cons + 4096 - (tget {} (s.sglOf p).pools (first + j)).cr) % 4096 ∧
        ((vals.getD j (0, 0)).2 + 65536 - (tget {} (s.sglOf p).pools (first + j)).crD) % 65536 ≤
          ((tget {} (s.sglOf p).pools (first + j)).consD + 65536 - (tget {} (s.sglOf p).pools (first + j)).crD) % 65536)
    (crema : (cc + 256 - (s.sglOf p).ccRet) % 256 ≤ ((s.sglOf p).ccCons + 256 - (s.sglOf p).ccRet) % 256) :
    s.creditIn p first cc vals = s.setSgl p { s.sglOf p with
      ccRet := cc
      pools := [0, 1, 2, 3, 4, 5].foldl (fun q j => tput q (first + j) { (tget ({} : Pool) q (first + j)) with
        cr := (vals.getD j (0, 0)).1, crD := (vals.getD j (0, 0)).2 }) (s.sglOf p).pools } := by
  rw [State.creditIn, if_neg (State.credit_taken linked named)]
  refine if_neg (not_or.mpr ⟨fun beyond => ?_, fun beyond => crema.not_gt (of_decide_eq_true beyond)⟩)
  obtain ⟨j, listed, beyond⟩ := List.any_eq_true.mp beyond
  have pool : j < 6 := List.mem_range.mp listed
  obtain ⟨header, data⟩ := pools j pool
  exact (of_decide_eq_true beyond).elim header.not_gt data.not_gt

/-- Crema credit beyond what was consumed is a violation. -/
theorem State.creditIn_beyond
    (crema : (cc + 256 - (s.sglOf p).ccRet) % 256 > ((s.sglOf p).ccCons + 256 - (s.sglOf p).ccRet) % 256) :
    s.creditIn p first cc vals = (s.violation p Flt.SGL_FC_PROTO).retrain p := by
  rw [State.creditIn, if_neg (State.credit_taken linked named)]
  exact if_pos (.inr (decide_eq_true crema))

end

section
variable (init : (s.sglOf p).st = 2)
include init

/-- Values that a pool can hold are the pools' credit from then on. -/
theorem State.creditInitIn_init (named : first ∈ [0, 6, 12, 18]) (fits : ∀ v ∈ vals, v.1 ≤ 2047 ∧ v.2 ≤ 32767) :
    s.creditInitIn p first cc vals = (s.setSgl p { s.sglOf p with
      gotInit := first :: (s.sglOf p).gotInit, cc := cc, ccCons := 0, ccRet := 0
      pools := [0, 1, 2, 3, 4, 5].foldl (fun q j => tput q (first + j) { (tget ({} : Pool) q (first + j)) with
        init := (vals.getD j (0, 0)).1, initD := (vals.getD j (0, 0)).2, cons := 0, consD := 0, cr := 0, crD := 0 })
          (s.sglOf p).pools }).tryUp p := by
  have phase : (s.sglOf p).phase = 2 := (SglSt.phase_linked (.inl init)).trans init
  have taken : ¬ ((s.sglOf p).phase ≠ 2 ∨ ¬ [0, 6, 12, 18].contains first = true) :=
    not_or.mpr ⟨not_not_intro phase, pools_named named⟩
  rw [State.creditInitIn, if_neg taken]
  refine if_neg fun beyond => ?_
  obtain ⟨v, listed, beyond⟩ := List.any_eq_true.mp beyond
  obtain ⟨header, data⟩ := fits v listed
  simp only [Bool.or_eq_true, decide_eq_true_eq] at beyond
  omega

theorem State.linkParamIn_init (fid port : Nat) : s.linkParamIn p fid port =
    (s.modSgl p fun x => { x with gotParam := true, partner := (fid, port) }).tryUp p :=
  if_neg (not_not_intro ((SglSt.phase_linked (.inl init)).trans init))

theorem State.doInitTmo_due (due : s.now - (s.sglOf p).initSince ≥ 10000) : s.doInitTmo p = s.sglDown p := if_pos ⟨init, due⟩

end
end
end Sys2Proof.Machine

namespace Sys2Proof
open Machine

/-- Settles O20: each message of the link layer by what an initialising or active link makes of it. -/
theorem linkMessagesComplete : Obligations.LinkMessagesComplete := by
  unfold Obligations.LinkMessagesComplete
  refine ⟨fun s t dt p first cc vals hf scango linked named => ⟨fun pools crema => ?_, fun crema => ?_⟩,
    fun s t dt p first cc vals hf scango init named fits => ?_, fun s t dt p fid partner hf scango init => ?_,
    fun s t dt p hf init due => ?_⟩
  · rw [exec_credit hf, State.linkMsg_linked scango linked, State.creditIn_within linked named pools crema]
  · rw [exec_credit hf, State.linkMsg_linked scango linked, State.creditIn_beyond linked named crema]
  · rw [exec_creditInit hf, State.linkMsg_linked scango (.inl init), State.creditInitIn_init init named fits]
  · rw [exec_linkParam hf, State.linkMsg_linked scango (.inl init), State.linkParamIn_init init]
  · rw [exec_linkInitTimeout hf, State.doInitTmo_due init due]

end Sys2Proof

namespace Sys2Proof.Machine
section
variable {s : State} {p lane why : Nat}

/-! ### Lane swaps (R267 to R269) -/

section
variable (active : (s.sglOf p).st ≠ 4)
include active

/-- A lane that the port does not have is refused with result 3, as a violation of the partner's. -/
theorem State.laneSwapIn_noLane (beyond : lane ≥ s.width p) : s.laneSwapIn p lane =
    (s.cntSgl p 10).modSgl p fun x => { x with linkMsgs := x.linkMsgs ++ [crema ([0x06] ++ beBytes 1 lane ++ beBytes 1 3)] } := by
  simp only [State.laneSwapIn, active, beyond, OfNat.ofNat_ne_zero, ↓reduceIte]

section
variable (there : lane < s.width p)
include there

/-- One while the spare stands for a lane, with result 2. -/
theorem State.laneSwapIn_held (held : (s.sglOf p).swap.tx ≠ none) : s.laneSwapIn p lane =
    s.modSgl p fun x => { x with linkMsgs := x.linkMsgs ++ [crema ([0x06] ++ beBytes 1 lane ++ beBytes 1 2)] } := by
  have spare_held : (s.sglOf p).swap.tx.isSome = true := Option.isSome_iff_ne_none.mpr held
  simp only [State.laneSwapIn, active, there.not_ge, spare_held, OfNat.ofNat_ne_zero, Nat.reduceEqDiff, ↓reduceIte]

/-- With its spare free the lane is driven on both, and the answer is result 0. -/
theorem State.laneSwapIn_free (free : (s.sglOf p).swap.tx = none) (owned : s.ownsSpare p lane = true)
    (sound : s.laneRetired (s.spareOf p lane) = false) : s.laneSwapIn p lane =
    (((s.spareNormal (s.spareOf p lane)).modSgl p fun x => { x with swap := { x.swap with tx := some lane, txBoth := true } }).laneOut
      (s.spareOf p lane) "lane and spare").modSgl p fun x => { x with
        linkMsgs := x.linkMsgs ++ [crema ([0x06] ++ beBytes 1 lane ++ beBytes 1 0)] } := by
  simp only [State.laneSwapIn, active, there.not_ge, free, owned, sound, Option.isSome_none, Bool.not_true, Bool.false_eq_true,
    or_self, OfNat.zero_ne_ofNat, ↓reduceIte]

end
end

section
variable (waits : (s.sglOf p).swap.rxPending = some (lane, why))
include waits

/-- Result 0: the lane's bytes come from the spare, and DONE goes out. -/
theorem State.laneSwapAckIn_done (fsn : Nat) : s.laneSwapAckIn p lane 0 fsn =
    (((s.swapEnd p (some 0)).spareNormal (s.spareOf p lane)).modSgl p fun x => { x with
      linkMsgs := x.linkMsgs ++ [crema ([0x07] ++ beBytes 1 lane ++ [0, 0] ++ beBytes 2 (fsn % 4096))]
      swap := { x.swap with rx := some lane } }).laneOut (s.laneOf p lane) "from spare" := by
  simp only [State.laneSwapAckIn, waits, ne_eq, not_true_eq_false, ↓reduceIte]

/-- Another result ends the swap. -/
theorem State.laneSwapAckIn_refused {result : Nat} (refused : result ≠ 0) (fsn : Nat) :
    s.laneSwapAckIn p lane result fsn = (s.swapEnd p (some (result % 8))).swapFailed p why := by
  simp only [State.laneSwapAckIn, waits, refused, ne_eq, not_true_eq_false, ↓reduceIte]

/-- As does the lack of one for 50 µs. -/
theorem State.doSwapTmo_due (due : s.now - (s.sglOf p).swapSince ≥ 50000) :
    s.doSwapTmo p = (s.swapEnd p (some 7)).swapFailed p why := by
  simp only [State.doSwapTmo, waits, due, ↓reduceIte]

end

/-- DONE for the lane that is driven on both ends the driving of the lane. -/
theorem State.laneSwapDoneIn_both {u : State} (both : (s.sglOf p).swap.txBoth = true) (driven : (s.sglOf p).swap.tx = some lane)
    (ended : u = (s.modSgl p fun x => { x with swap := { x.swap with txBoth := false } }).laneOut (s.laneOf p lane) "idle") :
    s.laneSwapDoneIn p lane = (({ u with lg := { u.lg with
      events := u.lg.events ++ [(s.laneOf p lane, 0, s.now)] } } : State).raise Flt.SGL_LANE_SWAP p).cntSgl p 8 := by
  subst ended
  exact if_pos ⟨both, driven⟩

end
end Sys2Proof.Machine

namespace Sys2Proof
open Machine

/-- Settles O21: each message of a swap by what it finds of the swap. -/
theorem laneSwapsComplete : Obligations.LaneSwapsComplete := by
  unfold Obligations.LaneSwapsComplete
  refine ⟨fun s t dt p lane hf scango linked =>
      have active : (t.sglOf p).st ≠ 4 := by omega
      ⟨fun beyond => ?_, fun there held => ?_, fun there free owned sound => ?_⟩,
    fun s t dt p lane result fsn why hf scango linked waits => ⟨?_, fun refused => ?_⟩,
    fun s t dt p lane hf scango linked both driven u ended => ?_, fun s t dt p l why hf waits due => ?_⟩
  · rw [exec_laneSwap hf, State.linkMsg_linked scango linked, State.laneSwapIn_noLane active beyond]
  · rw [exec_laneSwap hf, State.linkMsg_linked scango linked, State.laneSwapIn_held active there held]
  · rw [exec_laneSwap hf, State.linkMsg_linked scango linked, State.laneSwapIn_free active there free owned sound]
  · rw [exec_laneSwapAck hf, State.linkMsg_linked scango linked, State.laneSwapAckIn_done waits]
  · rw [exec_laneSwapAck hf, State.linkMsg_linked scango linked, State.laneSwapAckIn_refused waits refused]
  · rw [exec_laneSwapDone hf, State.linkMsg_linked scango linked, State.laneSwapDoneIn_both both driven ended]
  · rw [exec_laneSwapTimeout hf, State.doSwapTmo_due waits due]

end Sys2Proof

namespace Sys2Proof.Machine
section
variable {s : State} {p : Nat}

/-! ### Retrains (R270, R281, R288) -/

/-- An active link that the partner's pattern reaches on half of its lanes retrains (states 3, 4). -/
theorem State.doRetrainPattern_up {lanes : Nat} {u : State} (scango : s.isScango p = true) (up : (s.sglOf p).st = 3)
    (half : s.width p ≤ 2 * lanes)
    (restarted : u = (s.upLanes p ++ s.upSpares p).foldl (fun w n => w.setLane n { w.lane n with
      adapted := false, locked := false, hit := false, slipAt := (w.lane n).pos }) ((s.swapAbandon p).modSgl p fun x => { x with
        st := 4, back := x.st, retrainSince := s.now, goodRun := 0,
        retrains := (x.retrains.filter fun y => s.now - y < 1000000000) ++ [s.now] })) :
    s.doRetrainPattern p lanes =
      ((((u.cntSgl p 6).raise Flt.SGL_RETRAIN p).emit (.link p "retrain")).setStep p 3).trainOut p 3 0 := by
  subst restarted
  exact (if_pos ⟨scango, up, half⟩).trans (if_pos (.inr up))

/-- What leaves the links as they are at each step, leaves them so as a whole. -/
theorem State.foldl_sgl {β : Type} (f : State → β → State) (keeps : ∀ a x, (f a x).sgl = a.sgl) (l : List β) (s : State) :
    (l.foldl f s).sgl = s.sgl :=
  foldl_keeps (fun a b : State => b.sgl = a.sgl) f (fun _ => rfl) (fun _ _ _ h g => g.trans h) keeps l s

theorem State.trainOut_sgl (s : State) (p typ times : Nat) : (s.trainOut p typ times).sgl = s.sgl :=
  State.foldl_sgl (fun s n => s.trainLaneOut p typ times n) (fun _ _ => rfl) _ s

/-- A step of the bring-up is noted in the link's state, and in registers. -/
theorem State.setStep_sglOf (s : State) (p step : Nat) :
    (s.setStep p step).sglOf p = { s.sglOf p with bstep := step, bsince := s.now } := by
  rw [State.setStep, State.sglOf, State.foldl_sgl (fun s g => s.setFld (R.LG_BRINGUP g) F.LG_BRINGUP_STEP step) fun _ _ => rfl]
  exact State.sglOf_setSgl ..

theorem State.loadScr_sglOf (s : State) (p : Nat) :
    (s.loadScr p).sglOf p = { s.sglOf p with scr := (List.range (s.width p)).map (0x7FFF0000 + ·) } := State.sglOf_setSgl ..

section
variable {u : State} (retraining : (s.sglOf p).st = 4)
  (trained : u = (((((s.upLanes p ++ s.upSpares p).foldl (fun w n =>
    if w.lgBit F.LG_BRINGUP_FAILED n then w
    else (w.setLane n { w.lane n with adapted := true, locked := true }).laneStat n F.LG_LANE_STAT_ADAPTED 1) s).setStep p 7).trainOut
      p 2 16).setStep p 0).loadScr p)
include trained

/-- The steps of a retrain keep the replay buffer. -/
theorem State.trained_buf : (u.sglOf p).buf = (s.sglOf p).buf := by
  subst trained
  rw [State.loadScr_sglOf, State.setStep_sglOf, State.sglOf, State.trainOut_sgl, ← State.sglOf, State.setStep_sglOf, State.sglOf,
    State.foldl_sgl _ fun w n => ?_]
  · rfl
  · split <;> rfl

include retraining

/-- With nothing to replay the link goes back to where it was. -/
theorem State.doRetrainDone_acked (acked : (s.sglOf p).buf = []) : s.doRetrainDone p = (u.setSgl p { u.sglOf p with
    st := (s.sglOf p).back, timer := s.now, tmo := s.sglCfg p F.SGL_CFG_REPLAY_TMR, replayCnt := 0 }).tryUp p := by
  have empty : (u.sglOf p).buf = [] := (State.trained_buf trained).trans acked
  rw [State.doRetrainDone, if_pos retraining]
  simp only [← trained, acked, List.isEmpty_nil, ↓reduceIte]
  rw [State.startReplay_empty]
  rwa [State.sglOf_setSgl]

/-- What is not acknowledged is replayed on the way. -/
theorem State.doRetrainDone_unacked (unacked : (s.sglOf p).buf ≠ []) : s.doRetrainDone p = ((u.setSgl p { u.sglOf p with
    st := (s.sglOf p).back, timer := s.now, tmo := s.sglCfg p F.SGL_CFG_REPLAY_TMR,
    replayCnt := (s.sglOf p).replayCnt }).startReplay p true true).tryUp p := by
  have full : ¬ (s.sglOf p).buf.isEmpty = true := fun empty => unacked (List.isEmpty_iff.mp empty)
  rw [State.doRetrainDone, if_pos retraining]
  simp only [← trained, full, Bool.false_eq_true, ↓reduceIte]

end

theorem State.doRetrainTmo_due (due : ((s.sglOf p).st = 4 ∧ s.now - (s.sglOf p).retrainSince ≥ 500000) ∨
    (((s.sglOf p).st = 3 ∨ (s.sglOf p).st = 4) ∧
      ((s.sglOf p).retrains.filter fun y => s.now - y < 1000000000).length ≥ s.sglCfg p F.SGL_CFG_RETRAIN_MAX)) :
    s.doRetrainTmo p = s.sglDown p :=
  if_pos due

/-! ### A lost alignment, and bring-up again (R267, R271, R273) -/

section
variable {lane : Nat} (linked : (s.sglOf p).st = 2 ∨ (s.sglOf p).st = 3)
include linked

theorem State.doAlignLoss_more : s.doAlignLoss p lane true = s.sglDown p :=
  (if_neg (SglSt.not_unlinked linked)).trans (if_pos rfl)

/-- A lane that the spare stands for is out of service. -/
theorem State.doAlignLoss_swapped (swapped : (s.sglOf p).swap.rx = some lane) : s.doAlignLoss p lane false = s := by
  rw [State.doAlignLoss, if_neg (SglSt.not_unlinked linked), if_neg Bool.false_ne_true, if_pos swapped]

section
variable (own : (s.sglOf p).swap.rx ≠ some lane)
include own

/-- One whose swap runs waits for its end, which then takes the link down or leaves it up (cause 2). -/
theorem State.doAlignLoss_pending {why : Nat} (waits : (s.sglOf p).swap.rxPending = some (lane, why)) :
    s.doAlignLoss p lane false = s.setSgl p { s.sglOf p with swap := { (s.sglOf p).swap with rxPending := some (lane, 2) } } := by
  rw [State.doAlignLoss, if_neg (SglSt.not_unlinked linked), if_neg Bool.false_ne_true, if_neg own, if_pos]
  rw [waits, Option.any_some, beq_self_eq_true]

theorem State.doAlignLoss_alone (unasked : ∀ l ∈ (s.sglOf p).swap.rxPending, l.1 ≠ lane) :
    s.doAlignLoss p lane false = if s.swapFree p lane = true then s.swapRequest p lane 2 else s.sglDown p := by
  have other : ¬ (s.sglOf p).swap.rxPending.any (·.1 == lane) = true := fun asked => by
    obtain ⟨l, waits, same⟩ := (Option.any_eq_true ..).mp asked
    exact unasked l waits (beq_iff_eq.mp same)
  rw [State.doAlignLoss, if_neg (SglSt.not_unlinked linked), if_neg Bool.false_ne_true, if_neg own, if_neg other]

end
end

/-- Before its third failure, and without the planner's cap, a link tries again at its rate. -/
theorem State.doBringupRetry_due (down : (s.sglOf p).st = 0) (may : s.mayBringUp p = true)
    (due : s.now - (s.sglOf p).downSince ≥ 10000000) (few : (s.sglOf p).fails < 3)
    (unplanned : s.flag R.AGE_CFG F.AGE_CFG_RATE_AUTO = false) :
    s.doBringupRetry p = (s.setSgl p (s.sglOf p)).bringUp p := by
  rw [State.doBringupRetry, if_pos ⟨down, may, due⟩]
  simp only [few.not_ge, unplanned, decide_false, Bool.false_and, Bool.false_eq_true, false_and, ↓reduceIte]

end
end Sys2Proof.Machine

namespace Sys2Proof
open Machine

/-- Settles O22: each step of a retrain, a lost alignment by what swap it meets, and the next attempt of a link that is down. -/
theorem retrainsComplete : Obligations.RetrainsComplete := by
  unfold Obligations.RetrainsComplete
  refine ⟨fun s t dt p lanes hf scango up half u restarted => ?_,
    fun s t u dt p hf retraining trained => ⟨fun acked => ?_, fun unacked => ?_⟩, fun s t dt p hf due => ?_,
    fun s t dt p lane more hf linked => ⟨fun two => ?_, fun one swapped => ?_, fun why one own waits => ?_,
      fun one own unasked => ?_⟩, fun s t dt p hf down may due few unplanned => ?_⟩
  · rw [exec_retrainPattern hf, State.doRetrainPattern_up scango up half restarted]
  · rw [exec_retrainDone hf, State.doRetrainDone_acked retraining trained acked]
  · rw [exec_retrainDone hf, State.doRetrainDone_unacked retraining trained unacked]
  · rw [exec_retrainTimeout hf, State.doRetrainTmo_due due]
  · rw [exec_alignmentLoss hf, two, State.doAlignLoss_more linked]
  · rw [exec_alignmentLoss hf, one, State.doAlignLoss_swapped linked swapped]
  · rw [exec_alignmentLoss hf, one, State.doAlignLoss_pending linked own waits]
  · rw [exec_alignmentLoss hf, one, State.doAlignLoss_alone linked own unasked]
  · rw [exec_bringupRetry hf, State.doBringupRetry_due down may due few unplanned]

end Sys2Proof

namespace Sys2Proof.Machine
section
variable {s : State} {g l n p : Nat}

/-! ### The port that a lane comes up with (R266, R284) -/

/-- Of the registers, the owners of the spares alone say which link may use a spare. -/
theorem State.setRaw_ownsSpare {k : Nat} (other : ∀ g, R.SGL_SPARE g ≠ k) (w : Word) (p l : Nat) :
    (s.setRaw k w).ownsSpare p l = s.ownsSpare p l := by
  have owner (g : Nat) : (s.setRaw k w).fld (R.SGL_SPARE g) F.SGL_SPARE_OWNER = s.fld (R.SGL_SPARE g) F.SGL_SPARE_OWNER :=
    congrArg F.SGL_SPARE_OWNER.get (s.raw_setRaw_ne w (other g))
  simp only [State.ownsSpare, owner]
  rfl

/-- A lane's bit of the bring-up register leaves it with the port that it comes up with. -/
theorem State.setLgBit_upPortAt (s : State) (f : Fld) (n : Nat) (v : Bool) (g l : Nat) :
    (s.setLgBit f n v).upPortAt g l = s.upPortAt g l := by
  have other (g : Nat) : R.SGL_SPARE g ≠ R.LG_BRINGUP (n / 9) := by
    simp only [R.SGL_SPARE, R.LG_BRINGUP]
    omega
  simp only [State.upPortAt, State.upSpares, State.setLgBit, State.setFld, State.setRaw_ownsSpare other]
  rfl

theorem State.setLane_upPortAt (s : State) (n : Nat) (x : LaneSt) (g l : Nat) :
    (s.setLane n x).upPortAt g l = s.upPortAt g l := rfl

/-! ### The steps of a bring-up (R281, R284 to R289) -/

/-- A lane of no bring-up that has lost its clock locks again (R292). -/
theorem State.doCdrLock_lost (settled : s.upPortAt g l = none) (lost : (s.lane (9 * g + l)).lost = true) :
    s.doCdrLock g l =
      (s.setLane (9 * g + l) { s.lane (9 * g + l) with lost := false }).setLgBit F.LG_BRINGUP_CDR_LOCK (9 * g + l) true := by
  simp only [State.doCdrLock, lost, ↓reduceIte, State.setLgBit_upPortAt, State.setLane_upPortAt, settled]

section
variable (up : s.upPortAt g l = some p) (lane : n = 9 * g + l)
include up lane

section
variable (whole : s.lgBit F.LG_BRINGUP_FAILED n = false)
include whole

/-- The first lock of a bring-up begins step 2. -/
theorem State.doCdrLock_bringUp {u : State} (held : (s.lane n).lost = false) (training : (s.sglOf p).st ≠ 4)
    (present : u = if (s.sglOf p).bstep = 1 then s.setStep p 2 else s) : s.doCdrLock g l =
      ((((u.setLane n { s.lane n with cdr := true }).setLgBit F.LG_BRINGUP_CDR_LOCK n true).trainLaneOut p 1 0 n).stepOn
        p).stepOn p := by
  subst lane present
  simp only [State.doCdrLock, held, up, whole, training, Bool.false_eq_true, or_self, ↓reduceIte]

theorem State.doAdapted_locked (coef : List Int) (locked : (s.lane n).cdr = true) : s.doAdapted g l coef =
    ((((s.setLane n { s.lane n with adapted := true, coef := coef }).laneStat n F.LG_LANE_STAT_ADAPTED 1).trainLaneOut p
      (s.sglOf p).trainType 0 n).stepOn p).stepOn p := by
  subst lane
  simp only [State.doAdapted, up, locked, whole, Bool.not_false, and_self, ↓reduceIte]

/-! A lane that searches for its alignment: it has adapted, and is not locked (R285, R286). -/

section
variable {o : SlipSeen} (adapted : (s.lane n).adapted = true) (searching : (s.lane n).locked = false)
include adapted searching

theorem State.doBitslipTry_match {b : List Byte} {inv : Bool} (engine : (s.sglOf p).manual.contains g = false)
    (found : trainIn o.blk = some (b, inv)) : s.doBitslipTry g l o =
      ((s.setLane n { s.lane n with inv := inv, rxLane := beAt b 6 1, skew := o.skew, hit := true, locked := true }).setLgBit
        F.LG_BRINGUP_BLOCK_LOCK n true).stepOn p := by
  subst lane
  simp only [State.doBitslipTry, up, whole, adapted, searching, engine, found, Option.isSome_some, Bool.not_true,
    Bool.false_eq_true, or_self, ↓reduceIte]

section
variable (missed : trainIn o.blk = none)
include missed

/-- Under MANUAL the search is software's. -/
theorem State.doBitslipTry_manual (manual : (s.sglOf p).manual.contains g = true) :
    s.doBitslipTry g l o = s.setLane n { s.lane n with hit := false } := by
  subst lane
  simp only [State.doBitslipTry, up, whole, adapted, searching, manual, missed, Option.isSome_none, Bool.not_true,
    Bool.false_eq_true, or_self, ↓reduceIte]

/-- Without a match the engine goes to the next position, and fails the lane where that is the one it began at. -/
theorem State.doBitslipTry_missed {pos : Nat} (engine : (s.sglOf p).manual.contains g = false)
    (next : pos = ((s.lane n).pos + (if (s.sglOf p).rateIdx = 0 then 1 else 2)) % 128) : s.doBitslipTry g l o =
      if pos = (s.lane n).slipAt then
        ((s.setLgBit F.LG_BRINGUP_BLOCK_LOCK n false).setLgBit F.LG_BRINGUP_FAILED n true).stepOn p
      else (s.setLgBit F.LG_BRINGUP_BLOCK_LOCK n false).setLane n { s.lane n with pos := pos } := by
  subst lane next
  simp only [State.doBitslipTry, up, whole, adapted, searching, engine, missed, Option.isSome_none, Bool.not_true,
    Bool.false_eq_true, or_self, ↓reduceIte]

end
end
end

/-- A request round of 10 µs ends; the sixteenth is the last (R289). -/
theorem State.doTxeqRound_due {u : State} {req : TxEqReq} (best : Bool) (equalising : (s.sglOf p).bstep = 6)
    (unsatisfied : (s.lane n).eqOk = false) (due : s.now - max (s.lane n).roundAt (s.sglOf p).bsince ≥ 10000)
    (asked : u = s.eqRequest n req) : s.doTxeqRound g l req best =
      ((u.setLane n { u.lane n with
        rounds := (s.lane n).rounds + 1, roundAt := s.now, eqOk := best || (s.lane n).rounds + 1 ≥ 16 }).trainLaneOut
          p 1 0 n).stepOn p := by
  subst lane asked
  simp only [State.doTxeqRound, up, equalising, unsatisfied, due.not_gt, ne_eq, not_true_eq_false, Bool.false_eq_true, or_self,
    ↓reduceIte]

end

section
variable (training : (s.sglOf p).st = 1) (aligning : (s.sglOf p).bstep = 7)
include training aligning

theorem State.doAlignDone_last (scango : s.isScango p = true) (tx : Option Nat) :
    s.doAlignDone p tx = ((s.trainOut p 2 16).setStep p 0).linkInit p tx :=
  if_pos ⟨scango, training, aligning⟩

/-- Step 7 has 5 µs, and every lane that the link would carry fails with it (R284). -/
theorem State.doBringupTmo_last (due : s.now - (s.sglOf p).bsince ≥ 5000) :
    s.doBringupTmo p = s.failAttempt p (s.liveLanes p) := by
  simp [State.doBringupTmo, training, aligning, due.not_gt]

end
end
end Sys2Proof.Machine

namespace Sys2Proof
open Machine

/-- Settles O23: each step of a bring-up by the lemma of what it makes of a lane, or of a link, that stands in it. -/
theorem bringUpSteps : Obligations.BringUpSteps := by
  unfold Obligations.BringUpSteps
  refine ⟨fun s t dt g l hf settled lost => ?_,
    fun s t u dt g l p n hf up lane whole held => ⟨fun training present => ?_, fun coef locked => ?_,
      fun adapted searching engine o => ⟨fun b inv found => ?_, fun pos next missed => ⟨fun more => ?_, fun last => ?_⟩⟩,
      fun adapted searching manual o missed => ?_⟩,
    fun s t u dt g l p n req best hf up lane equalising unsatisfied due asked => ?_,
    fun s t dt p tx hf scango training aligning => ?_, fun s t dt p hf training aligning due => ?_⟩
  · rw [exec_cdrLock hf, State.doCdrLock_lost settled lost]
  · rw [exec_cdrLock hf, State.doCdrLock_bringUp up lane whole held training present]
  · rw [exec_adapted hf, State.doAdapted_locked up lane whole coef locked]
  · rw [exec_bitslipTry hf, State.doBitslipTry_match up lane whole adapted searching engine found]
  · rw [exec_bitslipTry hf, State.doBitslipTry_missed up lane whole adapted searching missed engine next, if_neg more]
  · rw [exec_bitslipTry hf, State.doBitslipTry_missed up lane whole adapted searching missed engine next, if_pos last]
  · rw [exec_bitslipTry hf, State.doBitslipTry_manual up lane whole adapted searching missed manual]
  · rw [exec_txeqRound hf, State.doTxeqRound_due up lane best equalising unsatisfied due asked]
  · rw [exec_alignDone hf, State.doAlignDone_last training aligning scango]
  · rw [exec_bringupTimeout hf, State.doBringupTmo_last training aligning due]

end Sys2Proof

namespace Sys2Proof.Machine
section
variable {s : State} {g l : Nat}

/-! ### Lanes in use (R292 to R296, R301) -/

/-- A first drift check has no snapshot to compare with: nothing drifts, no errors rise, and a snapshot is taken (R293). -/
theorem State.doDriftCheck_first {e : Nat} {coef c : List Int} {x : LaneSt} (up : s.laneUp g l = true)
    (first : (s.lane (9 * g + l)).snap = none) (adapting : (s.lane (9 * g + l)).frozenAt = none)
    (spaced : ∀ y ∈ (s.lane (9 * g + l)).checked, y + 100000000 ≤ s.now) (lane : x = s.lane (9 * g + l))
    (coefs : c = if s.laneIdle g l = true then x.coef else coef) : s.doDriftCheck g l coef e =
      ((s.laneStat (9 * g + l) F.LG_LANE_STAT_DRIFT 0).laneStat (9 * g + l) F.LG_LANE_STAT_ERR_LAST
        (min (x.errs + e) (2 ^ 32 - 1))).setLane (9 * g + l) { x with
          errs := 0, checked := some s.now, coef := c, snap := some (c, x.errs + e) } := by
  subst lane coefs
  have due : (s.lane (9 * g + l)).checked.any (fun y => decide (s.now < y + 100000000)) = false :=
    Bool.eq_false_iff.mpr fun recent => by
      obtain ⟨y, checked, early⟩ := (Option.any_eq_true ..).mp recent
      exact (spaced y checked).not_gt (of_decide_eq_true early)
  simp only [State.doDriftCheck, up, due, first, adapting, Option.isSome_none, Bool.not_true, Bool.not_false, Bool.false_or,
    Bool.false_eq_true, or_self, and_false, Nat.zero_min, ↓reduceIte]

theorem State.doFreezeEnd_due {since : Nat} (frozen : (s.lane (9 * g + l)).frozenAt = some since) (due : s.now - since ≥ 10000000)
    (unpinned : s.flag (R.LG_LANE_STAT g l) F.LG_LANE_STAT_PINNED = false) : s.doFreezeEnd g l =
      (s.setLane (9 * g + l) { s.lane (9 * g + l) with frozenAt := none }).laneStat (9 * g + l) F.LG_LANE_STAT_FROZEN 0 := by
  simp only [State.doFreezeEnd, frozen, due, unpinned, Bool.not_false, and_self, ↓reduceIte]

theorem State.doEyeDone_busy (busy : s.flag (R.LG_EYE_STAT g) F.LG_EYE_STAT_BUSY = true) (errors : Nat) (aborted : Bool) :
    s.doEyeDone g errors aborted = s.setRaw (R.LG_EYE_STAT g) (F.LG_EYE_STAT_ERRORS.set
      (F.LG_EYE_STAT_ABORTED.set (F.LG_EYE_STAT_DONE.set 0 1) (b2n aborted)) (min errors (2 ^ 48 - 1))) :=
  if_neg (by rw [busy]; exact Bool.false_ne_true)

/-- A lane that is up loses its clock; a Scango lane (MODE 1) notes it. -/
theorem State.doCdrLost_up (up : s.laneUp g l = true) : s.doCdrLost g l =
    ((if s.flag (R.LG_CFG g) F.LG_CFG_MODE = true then s.setLane (9 * g + l) { s.lane (9 * g + l) with lost := true }
      else s).setLgBit F.LG_BRINGUP_CDR_LOCK (9 * g + l) false).raise Flt.LG_CDR_LOST (9 * g + l) :=
  if_pos up

theorem State.doPrbsLock_on (on : s.prbsOn g l = true) : s.doPrbsLock g l = s.setFld (R.LG_TEST g l) F.LG_TEST_LOCK 1 := if_pos on

theorem State.doPrbsUnlock_locked (locked : s.flag (R.LG_TEST g l) F.LG_TEST_LOCK = true) (errors : Nat) :
    s.doPrbsUnlock g l errors = (s.setFld (R.LG_TEST g l) F.LG_TEST_LOCK 0).count (R.LG_PRBS_ERR g l) errors :=
  if_pos locked

end
end Sys2Proof.Machine

namespace Sys2Proof
open Machine

/-- Settles O24: each check of a lane in use by the lemma of what it does where it takes effect. -/
theorem laneChecks : Obligations.LaneChecks := by
  unfold Obligations.LaneChecks
  refine ⟨fun s t dt g l e coef hf up first adapting spaced x c lane coefs => ?_,
    fun s t dt g l since hf frozen due unpinned => ?_, fun s t dt g errors aborted hf busy => ?_,
    fun s t dt g l hf up => ⟨fun pcie => ?_, fun scango => ?_⟩, fun s t dt g l hf on => ?_,
    fun s t dt g l errors hf locked => ?_⟩
  · rw [exec_driftCheck hf, State.doDriftCheck_first up first adapting spaced lane coefs]
  · rw [exec_freezeEnd hf, State.doFreezeEnd_due frozen due unpinned]
  · rw [exec_eyePointDone hf, State.doEyeDone_busy busy]
  · rw [exec_cdrLost hf, State.doCdrLost_up up, if_neg (Bool.eq_false_iff.mp pcie)]
  · rw [exec_cdrLost hf, State.doCdrLost_up up, if_pos scango]
  · rw [exec_prbsCheckerLock hf, State.doPrbsLock_on on]
  · rw [exec_prbsCheckerUnlock hf, State.doPrbsUnlock_locked locked]

end Sys2Proof

namespace Sys2Proof.Machine
section
variable {s u : State} {n v : Nat}

/-! ### Doorbells of a slice (R307, R309, R367) -/

section
variable (assigned : s.sliceOn n = true) (powered : bitAt (s.raw R.PWR_ON).toNat 61 = true)
include assigned powered

theorem State.doSqDoorbell_room (index : v < 2 * s.sqSize n)
    (room : (v + 2 * s.sqSize n - (s.slice n).sqCi) % (2 * s.sqSize n) ≤ s.sqSize n) :
    s.doSqDoorbell n v = s.setFld (R.DMV_DB_SQ_PI n) F.DMV_DB_SQ_PI_INDEX v := by
  simp only [State.doSqDoorbell, assigned, powered, index.not_ge, room.not_gt, Bool.not_true, Bool.false_eq_true, or_self,
    ↓reduceIte]

/-- An index beyond the ring's two laps marks the slice, and is not taken. -/
theorem State.doSqDoorbell_beyond (beyond : v ≥ 2 * s.sqSize n) : s.doSqDoorbell n v = s.sliceErr n stBadParam := by
  simp only [State.doSqDoorbell, assigned, powered, beyond, Bool.not_true, Bool.false_eq_true, or_self, true_or, ↓reduceIte]

/-- With IRQ_COUNT 0 no vector fires, and moderation restarts from what is left. -/
theorem State.doCqDoorbell_unmoderated (index : v < 2 * s.cqSize n)
    (held : (v + 2 * s.cqSize n - s.fld (R.DMV_DB_CQ_CI n) F.DMV_DB_CQ_CI_INDEX % (2 * s.cqSize n)) % (2 * s.cqSize n) ≤
      s.cqUsed n)
    (moved : u = s.setFld (R.DMV_DB_CQ_CI n) F.DMV_DB_CQ_CI_INDEX v)
    (unmoderated : s.fld (R.DMV_CQ_CFG n) F.DMV_CQ_CFG_IRQ_COUNT = 0) :
    s.doCqDoorbell n v = u.setSlice n { u.slice n with irq := (u.slice n).irq.restart (u.cqUsed n) s.now } := by
  subst moved
  simp only [State.doCqDoorbell, assigned, powered, index.not_ge, held.not_gt, unmoderated, Bool.not_true, Bool.false_eq_true,
    or_self, ne_eq, not_true_eq_false, false_and, ↓reduceIte]

end

section
variable (off : bitAt (s.raw R.PWR_ON).toNat 61 = false)
include off

theorem State.doSqDoorbell_off : s.doSqDoorbell n v = s := if_pos (.inr (by rw [off]; rfl))

theorem State.doCqDoorbell_off : s.doCqDoorbell n v = s := if_pos (.inr (by rw [off]; rfl))

end

/-! ### Enable, disable and abort of a slice (R307, R317, R318) -/

theorem State.doSliceEnable_stopped (stopped : s.domainRuns 61 = false) : s.doSliceEnable n = s := if_pos (by rw [stopped]; rfl)

/-- An assigned slice whose rings are well configured runs from index 0, or is HALTED where slices may not work. -/
theorem State.doSliceEnable_runs (disabled : (s.slice n).st = 0) (off : s.flag (R.DMV_SLICE_CTL n) F.DMV_SLICE_CTL_EN = false)
    (mover : s.domainRuns 61 = true) (assigned : s.sliceOn n = true)
    (sqMin : 6 ≤ s.fld (R.DMV_SQ_CFG n) F.DMV_SQ_CFG_LOG2_SIZE) (sqMax : s.fld (R.DMV_SQ_CFG n) F.DMV_SQ_CFG_LOG2_SIZE ≤ 16)
    (cqMin : 6 ≤ s.fld (R.DMV_CQ_CFG n) F.DMV_CQ_CFG_LOG2_SIZE) (cqMax : s.fld (R.DMV_CQ_CFG n) F.DMV_CQ_CFG_LOG2_SIZE ≤ 16)
    (sqBase : baseOk (s.raw (R.DMV_SQ_BASE n)).toNat (2 ^ s.fld (R.DMV_SQ_CFG n) F.DMV_SQ_CFG_LOG2_SIZE) = true)
    (cqBase : baseOk (s.raw (R.DMV_CQ_BASE n)).toNat (2 ^ s.fld (R.DMV_CQ_CFG n) F.DMV_CQ_CFG_LOG2_SIZE) = true) :
    s.doSliceEnable n = (((s.setFld (R.DMV_SLICE_CTL n) F.DMV_SLICE_CTL_EN 1).setFld (R.DMV_DB_SQ_PI n)
      F.DMV_DB_SQ_PI_INDEX 0).setFld (R.DMV_DB_CQ_CI n) F.DMV_DB_CQ_CI_INDEX 0).setSlice n { s.slice n with
        st := if s.sliceRuns n then 1 else 4, back := 1, sqCi := 0, cqPi := 0, irq := {}, descs := [], deficit := 0 } := by
  have state : (if (!s.sliceRuns n) = true then 4 else 1) = if s.sliceRuns n = true then 1 else 4 := by
    cases s.sliceRuns n <;> rfl
  simp only [State.doSliceEnable, disabled, off, mover, assigned, sqMin.not_gt, sqMax.not_gt, cqMin.not_gt, cqMax.not_gt, sqBase,
    cqBase, state, Bool.not_true, Bool.false_eq_true, or_self, ne_eq, not_true_eq_false, ↓reduceIte]

theorem State.doSliceDisable_running (running : (s.slice n).st = 1) : s.doSliceDisable n =
    ((s.setFld (R.DMV_SLICE_CTL n) F.DMV_SLICE_CTL_EN 0).setSlice n { s.slice n with st := 2, back := 2 }).sliceIdle n := by
  simp only [State.doSliceDisable, running, true_or, ↓reduceIte]

/-- An abort ends the one descriptor that a drained slice has not finished. -/
theorem State.doSliceAbort_one {d : SDesc} (off : s.flag (R.DMV_SLICE_CTL n) F.DMV_SLICE_CTL_EN = false)
    (descs : (s.slice n).descs = [d]) (unfinished : d.fin = none) : s.doSliceAbort n = s.finDesc n d stAborted := by
  simp [State.doSliceAbort, State.abortDescs, off, descs, unfinished]

end
end Sys2Proof.Machine

namespace Sys2Proof
open Machine

/-- Settles O25: each control of a slice by the lemma of what it does where it takes effect. -/
theorem sliceControlsComplete : Obligations.SliceControlsComplete := by
  unfold Obligations.SliceControlsComplete
  refine ⟨fun s t dt n v hf assigned powered => ⟨fun index room => ?_, fun beyond => ?_⟩,
    fun s t dt n v hf off => ⟨?_, ?_⟩, fun s t u dt n v hf assigned powered index held moved unmoderated => ?_,
    fun s t dt n hf disabled off mover assigned sqMin sqMax cqMin cqMax sqBase cqBase => ?_, fun s t dt n hf stopped => ?_,
    fun s t dt n hf running => ?_, fun s t dt n d hf off descs unfinished => ?_,
    fun s t dt v hf => ⟨exec_dmvFlr hf v, exec_dmvBusMasterClear hf v, exec_dmvBusMasterSet hf v⟩⟩
  · rw [exec_sqDoorbell hf, State.doSqDoorbell_room assigned powered index room]
  · rw [exec_sqDoorbell hf, State.doSqDoorbell_beyond assigned powered beyond, State.sliceErr]
  · rw [exec_sqDoorbell hf, State.doSqDoorbell_off off]
  · rw [exec_cqDoorbell hf, State.doCqDoorbell_off off]
  · rw [exec_cqDoorbell hf, State.doCqDoorbell_unmoderated assigned powered index held moved unmoderated]
  · rw [exec_sliceEnable hf, State.doSliceEnable_runs disabled off mover assigned sqMin sqMax cqMin cqMax sqBase cqBase]
  · rw [exec_sliceEnable hf, State.doSliceEnable_stopped stopped]
  · rw [exec_sliceDisable hf, State.doSliceDisable_running running]
  · rw [exec_sliceAbort hf, State.doSliceAbort_one off descs unfinished]

end Sys2Proof

namespace Sys2Proof.Machine
section
variable {s u : State} {i d part : Nat}

/-! ### Requests, answers and entries of a slice (R306, R312 to R316) -/

/-- The slice whose turn it is issues its next request. -/
theorem State.doSliceIssue_turn {all : List Nat} {r : SReq}
    (eligible : all = (s.dmv.slices.map (·.1)).filter fun i => (s.sliceNext i).isSome) (some_eligible : all ≠ [])
    (turn : s.sliceTurn all (70 * (all.length + 2)) = some (i, r, u)) : s.doSliceIssue = u.issueReq i r := by
  rw [State.doSliceIssue, ← eligible]
  split
  · contradiction
  · rw [turn]

section
variable {a : Answer} (oldest : s.answers.find? Answer.ofSlice = some a) (ofRead : a.origin = .slice i d part)
  (taken : u = { s with answers := s.answers.erase a })
include oldest ofRead taken

theorem State.doReadCompletion_open {r : SRead}
    (found : (s.slice i).reads.find? (fun r => r.desc == d && r.part == part) = some r) :
    s.doReadCompletion = u.readEnd i r a.status (readDetail a.status) a.data := by
  subst taken
  have found_after : (({ s with answers := s.answers.erase a } : State).slice i).reads.find?
    (fun r => r.desc == d && r.part == part) = some r := found
  simp only [State.doReadCompletion, oldest, ofRead, found_after]

/-- An answer to no open read is counted. -/
theorem State.doReadCompletion_stray (strayed : (s.slice i).reads.find? (fun r => r.desc == d && r.part == part) = none) :
    s.doReadCompletion = u.count (R.DMV_CNT 3) := by
  subst taken
  have none_after : (({ s with answers := s.answers.erase a } : State).slice i).reads.find?
    (fun r => r.desc == d && r.part == part) = none := strayed
  simp only [State.doReadCompletion, oldest, ofRead, none_after]

end

theorem State.doReadTimeout_due {r : SRead} {x : Nat}
    (found : (s.slice i).reads.find? (fun r => r.desc == d && r.part == part) = some r) (deadline : r.deadline = some x)
    (due : x ≤ s.now) : s.doReadTimeout i d part = s.readEnd i r 1 3 [] := by
  simp only [State.doReadTimeout, found, deadline, due, ↓reduceIte]

/-- The entry of the oldest finished descriptor is written, with no vector where IRQ_COUNT is 0. -/
theorem State.doCqEntry_unmoderated {st : Nat} {x : SDesc} {l : List SDesc} {h : Hdr} {a : Nat}
    (descs : (s.slice i).descs = x :: l) (finished : x.fin = some st) (room : s.cqFull i = false)
    (runs : s.sliceRuns i = true) (live : s.decanting = false) (unhalted : (s.slice i).st ≠ 4)
    (unmoderated : s.fld (R.DMV_CQ_CFG i) F.DMV_CQ_CFG_IRQ_COUNT = 0)
    (addr : a = (s.raw (R.DMV_CQ_BASE i)).toNat + 64 * ((s.slice i).cqPi % s.cqSize i))
    (header : h = spanHdr .mwr a 64 x.tc (s.dmvId (s.sliceVs i)) (s.slicePasid i))
    (written : u = (s.addJob (.make {
        ingress := .dmv i, acct := 128, tc := x.tc, hdr := h, orig := h, hoff := s.sliceHoff (s.sliceVs i) a,
        vs := s.sliceVs i, vh := s.sliceVs i, hostAddr := some a }
          (x.entry (phaseOf (s.cqSize i) (s.slice i).cqPi)))).count (R.DMV_CNT 0)) :
    s.doCqEntry i = ((if st = 0 then u else u.count (R.DMV_CNT 1)).setSlice i { s.slice i with
      descs := l, cqPi := ((s.slice i).cqPi + 1) % (2 * s.cqSize i)
      irq := { (s.slice i).irq with
        count := (s.slice i).irq.count + 1
        first := if (s.slice i).irq.count = 0 then s.now else (s.slice i).irq.first
        timing := true } }).sliceIdle i := by
  subst written header addr
  simp only [State.doCqEntry, descs, finished, room, runs, live, unhalted, unmoderated, Bool.not_true, Bool.false_eq_true, or_self,
    ne_eq, not_true_eq_false, false_and, ↓reduceIte]

end
end Sys2Proof.Machine

namespace Sys2Proof
open Machine

/-- Settles O27: the turn, the oldest answer, the deadline and the oldest finished descriptor each decide what is done. -/
theorem sliceTrafficCompletes : Obligations.SliceTrafficCompletes := by
  unfold Obligations.SliceTrafficCompletes
  refine ⟨fun s t u dt i r hf eligible turn => ?_,
    fun s t u dt i d part a hf oldest ofRead taken => ⟨fun r found => ?_, fun strayed => ?_⟩,
    fun s t dt i d part x r hf found deadline due => ?_,
    fun s t dt i st d l hf descs finished room runs live unhalted unmoderated h u header written => ?_⟩
  · rw [exec_sliceIssue hf, State.doSliceIssue_turn rfl eligible turn]
  · rw [exec_dmvReadCompletion hf, State.doReadCompletion_open oldest ofRead taken found]
  · rw [exec_dmvReadCompletion hf, State.doReadCompletion_stray oldest ofRead taken strayed]
  · rw [exec_dmvReadTimeout hf, State.doReadTimeout_due found deadline due]
  · rw [exec_cqEntryWrite hf,
      State.doCqEntry_unmoderated descs finished room runs live unhalted unmoderated rfl header written]

end Sys2Proof

namespace Sys2Proof.Machine
section
variable {s : State} {h : Harvest}

/-! ### Merges, clears and the flush of a harvest (R325 to R327, R337) -/

theorem State.doCacheMerge_live (live : s.dct.quiet = false) :
    s.doCacheMerge = s.mergeWhere fun e => e.evict || decide (s.now - e.last ≥ 10000) :=
  if_neg (Bool.eq_false_iff.mp live)

theorem State.doCtxReady_clearing {c : Nat} (clearing : s.flag (R.WLG_CTX_STAT c) F.WLG_CTX_STAT_CLEARING = true) :
    s.doCtxReady c = (s.tmZero (s.bmpBase c 0) (2 * s.bmpLen c)).setRaw (R.WLG_CTX_STAT c) (F.WLG_CTX_STAT_READY.set 0 1) :=
  if_pos clearing

section
variable (harvest : s.wlg.harvest = some h)
include harvest

/-- With every write of the old generation gone, the flush read takes a tag and goes out by the upstream port. -/
theorem State.doHarvestDrained_flush {v u tag : Nat} (waits : h.step = 3) (gone : s.genOut h.ctx h.gen = false)
    (switch : v = s.fld (R.WLG_CTX_CFG h.ctx) F.WLG_CTX_CFG_VS) (up : s.upPort v = some u)
    (free : s.freeTag true v (s.tagSpace v) = some tag) : s.doHarvestDrained = ({ s with
      brg := { s.brg with loc := tput s.brg.loc (v * 16384 + tag) { origin := .harvest } }
      wlg := { s.wlg with harvest := some {
        h with step := 4, since := s.now, tmo := s.fld R.WLG_CFG F.WLG_CFG_FLUSH_TMO } } } : State).addJob (.make {
          internalPkt { kind := .mrd, hlen := 16, len := 1, fbe := 0, addr := (s.raw (R.WLG_CTX_HOST h.ctx)).toNat, tag := tag
                        reqId := s.dmvId v } (some u) with origin := .harvest, vs := v, vh := v } []) := by
  subst switch
  simp only [State.doHarvestDrained, harvest, waits, gone, up, free, ne_eq, not_true_eq_false, Bool.false_eq_true, or_self,
    ↓reduceIte]

section
variable (flushing : h.step = 4)
include flushing

theorem State.doHarvestFlushDone_answer {a : Answer} (oldest : s.answers.find? (fun a => a.origin == .harvest) = some a) :
    s.doHarvestFlushDone = ({ s with answers := s.answers.erase a } : State).flushEnded h (a.status == 0 && !a.lost) := by
  simp only [State.doHarvestFlushDone, oldest, harvest, flushing, ↓reduceIte]

theorem State.doHarvestFlushTmo_due (due : s.now - h.since ≥ 1000000 * h.tmo) : s.doHarvestFlushTmo = s.flushEnded h false := by
  rw [State.doHarvestFlushTmo, harvest]
  exact if_pos ⟨flushing, due⟩

end
end
end
end Sys2Proof.Machine

namespace Sys2Proof
open Machine

/-- Settles O28: each step of write logging by the lemma of what it does where it takes effect. -/
theorem writeLoggingSteps : Obligations.WriteLoggingSteps := by
  unfold Obligations.WriteLoggingSteps
  refine ⟨fun s t dt hf live => ?_, fun s t dt c hf clearing => ?_,
    fun s t dt v u tag h hf harvest waits gone switch up free => ?_, fun s t dt a h hf oldest harvest flushing => ?_,
    fun s t dt h hf harvest flushing due => ?_⟩
  · rw [exec_cacheMerge hf, State.doCacheMerge_live live, State.mergeWhere]
  · rw [exec_contextReady hf, State.doCtxReady_clearing clearing]
  · rw [exec_harvestDrained hf, State.doHarvestDrained_flush harvest waits gone switch up free]
  · rw [exec_harvestFlushDone hf, State.doHarvestFlushDone_answer harvest flushing oldest]
  · rw [exec_harvestFlushTimeout hf, State.doHarvestFlushTmo_due harvest flushing due]

end Sys2Proof

namespace Sys2Proof.Machine
section
variable {s u : State} {k : Nat} {d : Desc}

/-! ### What a drain by command leaves (R66, R365, R375, R377) -/

/-- Abandoned commands change what is owed, the free values used and registers in force, and nothing else. -/
def State.OnlyOwes (s u : State) : Prop :=
  u = { s with
    freeCtr := u.freeCtr, dct := { s.dct with owed := u.dct.owed }, cfg := { s.cfg with regs := u.cfg.regs } }

theorem State.OnlyOwes.trans (a b c : State) (h : a.OnlyOwes b) (g : b.OnlyOwes c) : a.OnlyOwes c := by
  unfold State.OnlyOwes at *; rw [g, h]

theorem State.OnlyOwes.setFld {s u : State} (h : s.OnlyOwes u) (key : Nat) (f : Fld) (v : Nat) : s.OnlyOwes (u.setFld key f v) :=
  State.OnlyOwes.trans _ _ _ h rfl

theorem State.abandonFetched_only (s : State) : s.OnlyOwes s.abandonFetched := by
  unfold State.abandonFetched
  refine State.OnlyOwes.setFld (foldl_keeps State.OnlyOwes _ (fun _ => ?_) State.OnlyOwes.trans (fun _ _ => ?_) _ s) _ _ _ <;> rfl

@[simp] theorem State.abandonFetched_ctl (s : State) : s.abandonFetched.ctl = s.ctl := by rw [s.abandonFetched_only]
@[simp] theorem State.abandonFetched_now (s : State) : s.abandonFetched.now = s.now := by rw [s.abandonFetched_only]
@[simp] theorem State.abandonFetched_out (s : State) : s.abandonFetched.out = s.out := by rw [s.abandonFetched_only]

/-- A POWER_STATE that decants is not abandoned itself. -/
theorem State.abandonCmds_own (idle : s.ctl.commit = none) (own : s.ctl.busyCmd = some (0x20, k, d)) :
    s.abandonCmds true = s.abandonFetched := by
  simp only [State.abandonCmds, idle, own, and_self, ↓reduceIte]

/-- A drain time of 1 to 1,000 ms and, for KEEP_WARM, something that wakes the part are operands that R365 allows. -/
theorem powerDrain_valid {target ms wakeAfter : Nat} {wake : Bool} (least : 1 ≤ ms) (most : ms ≤ 1000)
    (wakes : target = 2 → wakeAfter ≠ 0 ∨ wake = true) :
    ¬ (ms = 0 ∨ ms > 1000 ∨ (target = 2 ∧ wakeAfter = 0 ∧ (!wake) = true)) := by
  rintro (zero | long | ⟨keepWarm, noTimer, noWake⟩)
  · omega
  · omega
  · exact (wakes keepWarm).elim (· noTimer) fun h => by simp [h] at noWake

/-- A decant's drain has begun in `w`, as a command at `u` asks for it: its time in ms, OFF or KEEP_WARM, whether it may be
abandoned, and the wake timer. -/
def State.DrainBegun (u w : State) (k : Nat) (d : Desc) (ms : Nat) (off abandonOk : Bool) (wakeAfter : Nat) : Prop :=
  w.dct.active = true ∧ w.dct.quiet = true ∧ w.dct.drain = true ∧ w.dct.phase = 2 ∧ w.dct.t0 = u.now ∧
    w.dct.deadline = 1000000 * ms ∧ w.dct.cmd = some (k, d) ∧ w.dct.off = off ∧ w.dct.abandonOk = abandonOk ∧
    w.dct.wakeAfter = wakeAfter ∧ w.ctl.busyCmd = some (0x20, k, d) ∧ w.now = u.now ∧ w.out = u.out

theorem State.startDrain_begun {v w : State} {ms budget wakeAfter : Nat} {vaux off abandonOk : Bool}
    (busy : v.ctl.busyCmd = some (0x20, k, d)) (now : v.now = u.now) (out : v.out = u.out)
    (drain : w = v.startDrain u.now (1000000 * ms) budget vaux (some (k, d))) :
    u.DrainBegun { w with dct := { w.dct with abandonOk := abandonOk, off := off, wakeAfter := wakeAfter } } k d ms off abandonOk
      wakeAfter := by
  subst drain
  exact ⟨rfl, rfl, rfl, rfl, rfl, rfl, rfl, rfl, rfl, rfl, busy, now, out⟩

section
variable (taken : s.mcrTake = some (k, u))
include taken

/-! ### HARVEST (R327) -/

theorem State.doHarvest_refused {op : HarvestOp}
    (bad : op.ctx > 1023 ∨ u.flag (R.WLG_CTX_STAT op.ctx) F.WLG_CTX_STAT_READY = false ∨ op.maxEnt < 2 ∨
      bitAt op.flags 0 ≠ u.flag (R.WLG_CTX_STAT op.ctx) F.WLG_CTX_STAT_MORE ∨ op.addr % 64 ≠ 0) :
    s.doHarvest d op = u.cmdDone k d stBadParam := by
  rw [State.doHarvest, taken]
  exact if_pos (by rwa [Bool.not_eq_true'])

/-- A harvest that goes on after a full buffer runs on the generation that its first cut took. -/
theorem State.doHarvest_continues {op : HarvestOp} (ctx : op.ctx ≤ 1023)
    (ready : u.flag (R.WLG_CTX_STAT op.ctx) F.WLG_CTX_STAT_READY = true) (entries : op.maxEnt ≥ 2) (aligned : op.addr % 64 = 0)
    (cont : bitAt op.flags 0 = true) (more : u.flag (R.WLG_CTX_STAT op.ctx) F.WLG_CTX_STAT_MORE = true) :
    s.doHarvest d op = ({ u with ctl := { u.ctl with busyCmd := some (0x10, k, d) } } : State).harvestRun
      { ctx := op.ctx, gen := 1 - u.fld (R.WLG_CTX_STAT op.ctx) F.WLG_CTX_STAT_GEN, cont := true, flush := false,
        target := bitAt op.flags 2, maxEnt := op.maxEnt, addr := op.addr, slot := k, desc := d } := by
  simp only [State.doHarvest, taken, State.harvestStart, ctx.not_gt, ready, entries.not_gt, aligned, cont, more, Bool.not_true,
    Bool.and_false, Bool.false_eq_true, or_self, ne_eq, not_true_eq_false, ↓reduceIte]

/-! ### TRIM (R365 to R368) -/

section
variable {target : Nat} (onMask : Nat)

theorem State.doTrim_safe (keepWarm : target % 256 ≠ 2) (off : target % 256 ≠ 3) (safe : u.safe = true) :
    s.doTrim d target onMask = u.pwrTurned k d stSafeState (target % 256) := by
  rw [State.doTrim, if_neg (not_or.mpr ⟨keepWarm, off⟩), taken]
  exact if_pos safe

variable {onMask} (calm : u.safe = false)
include calm

theorem State.doTrim_refused (keepWarm : target % 256 ≠ 2) (off : target % 256 ≠ 3)
    (bad : target % 256 > 3 ∨ (target % 256 = 1 ∧ trimOk (onMask % 2 ^ 64) (u.raw R.PWR_RUN_MASK).toNat = false)) :
    s.doTrim d target onMask = u.pwrTurned k d stBadParam (target % 256) := by
  have listed : target % 256 ≠ 0 := bad.elim (by omega) (by omega)
  rw [State.doTrim, if_neg (not_or.mpr ⟨keepWarm, off⟩), taken]
  simp only [calm, if_neg listed, Bool.not_eq_true', if_pos bad, Bool.false_eq_true, ↓reduceIte]

/-- A TRIM that switches domains off asks them to stop first. -/
theorem State.doTrim_stops {stops : List Nat} (trim : target % 256 = 1)
    (ok : trimOk (onMask % 2 ^ 64) (u.raw R.PWR_RUN_MASK).toNat = true)
    (asked : stops = stopOrder.filter fun x => u.pdOn x && !wantedMask (onMask % 2 ^ 64) x) (some_asked : stops ≠ []) :
    s.doTrim d target onMask = { u with
      ctl := { u.ctl with busyCmd := some (0x20, k, d) }
      pwr := { u.pwr with cmd := some {
        slot := k, desc := d, target := 1, stops := stops,
        wakes := stopOrder.reverse.filter fun x => !u.pdOn x && wantedMask (onMask % 2 ^ 64) x, since := u.now } } } := by
  subst asked
  rw [State.doTrim, if_neg (by omega), taken]
  simp only [trim, calm, ok, if_neg some_asked, Bool.not_true, Bool.false_eq_true, gt_iff_lt, Nat.reduceLT, one_ne_zero, and_false,
    or_self, ↓reduceIte]

end

/-! ### KEEP_WARM and OFF (R365, R366) -/

section
variable {target drainMs wakeAfter : Nat} (flags : Nat)

theorem State.doPowerDrain_safe (safe : u.safe = true) :
    s.doPowerDrain d target flags drainMs wakeAfter = u.pwrTurned k d stSafeState target := by
  rw [State.doPowerDrain, taken]
  exact if_pos safe

section
variable (calm : u.safe = false)
include calm

theorem State.doPowerDrain_badTime (bad : drainMs % 65536 = 0 ∨ drainMs % 65536 > 1000) :
    s.doPowerDrain d target flags drainMs wakeAfter = u.pwrTurned k d stBadParam target := by
  rw [State.doPowerDrain, taken]
  exact (if_neg (Bool.eq_false_iff.mp calm)).trans (if_pos (bad.imp_right .inl))

section
variable (valid : ¬ (drainMs % 65536 = 0 ∨ drainMs % 65536 > 1000 ∨
  (target = 2 ∧ wakeAfter % 2 ^ 32 = 0 ∧ (!u.flag R.PWR_WAKE_CFG F.PWR_WAKE_CFG_WAKE_EN) = true)))
include valid

theorem State.doPowerDrain_denied (closed : u.lcLive = false) :
    s.doPowerDrain d target flags drainMs wakeAfter = u.pwrTurned k d stDenied target := by
  simp only [State.doPowerDrain, taken, calm, if_neg valid, closed, Bool.not_false, Bool.false_eq_true, ↓reduceIte]

theorem State.doPowerDrain_begins (live : u.lcLive = true) (idle : u.ctl.commit = none) :
    u.DrainBegun (s.doPowerDrain d target flags drainMs wakeAfter) k d (drainMs % 65536) (decide (target = 3))
      (bitAt flags 0) (if target = 2 then wakeAfter % 2 ^ 32 else 0) := by
  simp only [State.doPowerDrain, taken, calm, if_neg valid, live, Bool.not_true, Bool.false_eq_true, ↓reduceIte]
  rw [State.abandonCmds_own (k := k) (d := d)]
  · refine State.startDrain_begun ?_ ?_ ?_ rfl
    · rw [State.abandonFetched_ctl]
    · rw [State.abandonFetched_now]
    · rw [State.abandonFetched_out]
  · exact idle
  · rfl

end
end
end

/-! ### COUNTER_DUMP and FAULT_ACK (R419, R511) -/

theorem State.doCounterDump_none {sets : Nat} (unnamed : sets % 8 = 0) (clear : Bool) :
    s.doCounterDump d sets clear = u.cmdDone k d stBadParam := by
  rw [State.doCounterDump, taken]
  exact if_pos unnamed

theorem State.doCounterDump_dumps {sets n seq : Nat} {clear skip : Bool} {w : State} (named : sets % 8 ≠ 0)
    (dump : u.dump 1 (sets % 8) clear = (skip, n, seq, w)) : s.doCounterDump d sets clear =
      w.cmdDone k d stSuccess (atBits (b2n skip) 63 1 ||| atBits n 32 16 ||| seq) := by
  simp only [State.doCounterDump, taken, if_neg named, dump]

/-- With no message on its way to FCR, the command answers what its operands make of the records that wait. -/
theorem State.doFaultAck_quiet (quiet : u.fcr.inbox = []) (first n flags : Nat) : s.doFaultAck d first n flags =
    (u.faultAck first n flags).2.2.cmdDone k d (u.faultAck first n flags).1 (u.faultAck first n flags).2.1 := by
  simp only [State.doFaultAck, taken, quiet, List.foldl_nil]

end

theorem State.faultAck_tooMany {n : Nat} (many : n > 1024) (first flags : Nat) : s.faultAck first n flags = (stBadParam, 0, s) :=
  if_pos (.inl many)

/-- ALL without RELEASE, EXIT or CLEAR acknowledges every record, and changes nothing else. -/
theorem State.faultAck_all {first n flags : Nat} (few : n ≤ 1024) (all : bitAt flags 0 = true) (release : bitAt flags 1 = false)
    (exit : bitAt flags 2 = false) (clear : bitAt flags 3 = false) : s.faultAck first n flags =
      (stSuccess, atBits (b2n s.safe) 63 1 ||| atBits s.fcr.pending.length 32 11,
        { s with fcr := { s.fcr with pending := [], full := false } }) := by
  have zero (lo w : Nat) : atBits 0 lo w = 0 := by rw [atBits, Nat.zero_mod, Nat.zero_shiftLeft]
  simp [State.faultAck, State.safe, few.not_gt, all, release, exit, clear, zero]

end
end Sys2Proof.Machine

namespace Sys2Proof
open Machine

/-- Settles O6: each command by what its operands and the state make of it. -/
theorem blockCommands : Obligations.BlockCommands := by
  unfold Obligations.BlockCommands
  refine ⟨fun s t u dt k d op hf taken bad => ?_,
    fun s t u dt k d op hf taken ctx ready entries aligned cont more => ?_,
    fun s t u dt k target onMask d hf taken trim calm ok asked => ?_,
    fun s t u dt k target onMask d hf taken keepWarm off => ⟨fun safe => ?_, fun calm bad => ?_⟩,
    fun s t u dt k d op hf taken calm least most live free idle => ⟨fun wake => ?_, ?_⟩,
    fun s t u dt k d op hf taken => ⟨fun safe => ?_, fun calm bad => ?_, fun calm least most closed => ?_⟩,
    fun s t u dt k sets clear d hf taken => ⟨fun unnamed => ?_, fun n seq skip w named dump => ?_⟩,
    fun s t u dt k first n flags d hf taken quiet => ⟨fun many => ?_, fun few all release exit clear => ?_⟩⟩
  · rw [exec_harvest hf, State.doHarvest_refused taken bad]
  · rw [exec_harvest hf, State.doHarvest_continues taken ctx ready entries aligned cont more]
  · rw [exec_powerStateTrim hf, State.doTrim_stops taken calm trim ok rfl asked]
    rfl
  · rw [exec_powerStateTrim hf, State.doTrim_safe taken onMask keepWarm off safe]
  · rw [exec_powerStateTrim hf, State.doTrim_refused taken calm keepWarm off bad]
  · exact ⟨_, exec_powerStateKeepWarm hf d op,
      State.doPowerDrain_begins taken op.flags calm (powerDrain_valid least most fun _ => wake) live idle⟩
  · exact ⟨_, exec_powerStateOff hf d op,
      State.doPowerDrain_begins taken op.flags calm (powerDrain_valid least most fun h => absurd h (by decide)) live idle⟩
  · rw [exec_powerStateOff hf, State.doOff, State.doPowerDrain_safe taken op.flags safe]
  · rw [exec_powerStateOff hf, State.doOff, State.doPowerDrain_badTime taken op.flags calm bad]
  · rw [exec_powerStateOff hf, State.doOff,
      State.doPowerDrain_denied taken op.flags calm (powerDrain_valid least most fun h => absurd h (by decide)) closed]
  · rw [exec_counterDump hf, State.doCounterDump_none taken unnamed]
  · rw [exec_counterDump hf, State.doCounterDump_dumps taken named dump]
  · rw [exec_faultAck hf, State.doFaultAck_quiet taken quiet, State.faultAck_tooMany many]
  · rw [exec_faultAck hf, State.doFaultAck_quiet taken quiet, State.faultAck_all few all release exit clear]

end Sys2Proof

namespace Sys2Proof.Machine
section
variable {s : State}

/-! ### What time changes (R7, R506 to R509, R523, R526) -/

/-- Counting changes the counters, the free values used, registers in force and the queues' note of credit, and nothing else. -/
def State.OnlyCounts (s u : State) : Prop :=
  u = { s with freeCtr := u.freeCtr, pmc := u.pmc, tmg := u.tmg, cfg := { s.cfg with regs := u.cfg.regs } }

theorem State.OnlyCounts.refl (s : State) : s.OnlyCounts s := rfl

theorem State.OnlyCounts.trans {a b c : State} (h : a.OnlyCounts b) (g : b.OnlyCounts c) : a.OnlyCounts c := by
  unfold State.OnlyCounts at *; rw [g, h]

theorem State.OnlyCounts.foldl {β : Type} {f : State → β → State} (h : ∀ a x, State.OnlyCounts a (f a x)) (l : List β) (s : State) :
    s.OnlyCounts (l.foldl f s) :=
  foldl_keeps State.OnlyCounts f State.OnlyCounts.refl (fun _ _ _ => State.OnlyCounts.trans) h l s

theorem State.pmcAdd_only (s : State) (i n : Nat) : s.OnlyCounts (s.pmcAdd i n) := by
  unfold State.pmcAdd
  split
  · rfl
  · dsimp only; split <;> rfl

theorem State.condTick_only (s : State) (dt : Nat) : s.OnlyCounts (s.condTick dt) :=
  State.OnlyCounts.foldl (fun a _ => a.pmcAdd_only _ _) _ s

theorem State.engTick_only (s : State) (dt : Nat) : s.OnlyCounts (s.engTick dt) := by
  refine State.OnlyCounts.foldl (fun a k => ?_) _ s
  dsimp only
  split
  · refine State.OnlyCounts.trans ?_ (State.pmcAdd_only _ _ _)
    split <;> rfl
  · rfl

theorem State.portTick_only (s : State) (dt p : Nat) : s.OnlyCounts (s.portTick dt p) := by
  unfold State.portTick
  split
  · rfl
  · refine .trans (.trans (.trans (.trans ?_ (State.pmcAdd_only _ _ _)) (State.pmcAdd_only _ _ _)) (State.pmcAdd_only _ _ _))
      (State.pmcAdd_only _ _ _)
    rfl

theorem State.pmcTick_only (s : State) (dt : Nat) : s.OnlyCounts (s.pmcTick dt) := by
  unfold State.pmcTick
  split
  · rfl
  · refine .trans (.trans (.trans (s.condTick_only dt) (State.engTick_only _ dt))
      (State.OnlyCounts.foldl (fun a p => a.portTick_only dt p) (((s.condTick dt).engTick dt).cfg.ports.map (·.1)) _)) ?_
    rfl

theorem State.noteCredit_only (s : State) (t : Nat) : s.OnlyCounts (s.noteCredit t) := by
  unfold State.noteCredit
  split <;> rfl

/-- What PMC and the queues note while time passes. -/
theorem State.ticked_only (s : State) (dt t : Nat) : s.OnlyCounts ((s.pmcTick dt).noteCredit t) :=
  (s.pmcTick_only dt).trans (State.noteCredit_only _ t)

theorem State.elapse_off (off : s.aon.mode ≠ 0) (dt : Nat) :
    s.elapse dt = { s with aon := if s.aon.xtal then { s.aon with ns := s.aon.ns + 5 * dt } else s.aon } := by
  simp [State.elapse, off]

theorem State.elapse_now (s : State) (dt : Nat) :
    (s.elapse dt).now = if s.aon.mode = 0 then (s.now + 5 * dt) % 2 ^ 64 else s.now := by
  by_cases runs : s.aon.mode = 0
  · have now := congrArg State.now (s.ticked_only dt ((s.now + 5 * dt) % 2 ^ 64))
    simp only [State.elapse, runs, ↓reduceIte, now]
  · rw [State.elapse_off runs, if_neg runs]

theorem State.elapse_aon (s : State) (dt : Nat) :
    (s.elapse dt).aon = if s.aon.xtal then { s.aon with ns := s.aon.ns + 5 * dt } else s.aon := by
  by_cases runs : s.aon.mode = 0
  · have aon := congrArg State.aon (s.ticked_only dt ((s.now + 5 * dt) % 2 ^ 64))
    simp only [State.elapse, runs, ↓reduceIte, aon]
  · rw [State.elapse_off runs]

theorem State.elapse_onNs (s : State) (dt : Nat) : (s.elapse dt).age.onNs =
    if s.aon.mode = 0 ∧ s.aon.xtal = true then s.age.onNs + 5 * dt else s.age.onNs := by
  by_cases runs : s.aon.mode = 0
  · have only := s.ticked_only dt ((s.now + 5 * dt) % 2 ^ 64)
    have aon := congrArg State.aon only
    have age := congrArg State.age only
    simp only [State.elapse, runs, ↓reduceIte, true_and, aon, age]
    split <;> rfl
  · rw [State.elapse_off runs, if_neg (not_and_of_not_left _ runs)]

@[simp] theorem State.elapse_mode (s : State) (dt : Nat) : (s.elapse dt).aon.mode = s.aon.mode := by
  rw [State.elapse_aon]; split <;> rfl

@[simp] theorem State.elapse_xbc (s : State) (dt : Nat) : (s.elapse dt).xbc = s.xbc := by
  by_cases runs : s.aon.mode = 0
  · have xbc := congrArg State.xbc (s.ticked_only dt ((s.now + 5 * dt) % 2 ^ 64))
    simp only [State.elapse, runs, ↓reduceIte, xbc]
  · rw [State.elapse_off runs]

/-! ### Answers of SEC leave the AON island and the work in hand (R461 to R468, R471, R479 to R481) -/

/-- Whether two states have the same AON island and the same switch core. -/
def State.SameWork (s u : State) : Prop := u.aon = s.aon ∧ u.xbc = s.xbc

theorem State.SameWork.refl (s : State) : s.SameWork s := ⟨rfl, rfl⟩

theorem State.SameWork.trans {a b c : State} (h : a.SameWork b) (g : b.SameWork c) : a.SameWork c :=
  ⟨g.1.trans h.1, g.2.trans h.2⟩

theorem State.SameWork.spdm {s u : State} (h : s.SameWork u) (via code : Nat) (fields : List Nat) (bytes : List Byte) :
    s.SameWork (u.spdm via code fields bytes) := h

theorem State.onSec_work (s : State) (f : SecSt → SecSt) : s.SameWork (s.onSec f) := ⟨rfl, rfl⟩

theorem State.freshBytes_work (s : State) (n : Nat) : s.SameWork (s.freshBytes n).2 := by
  induction n generalizing s with
  | zero => exact .refl s
  | succ n ih => exact State.SameWork.trans (b := s.fresh.2) ⟨rfl, rfl⟩ (ih _)

theorem State.doGetVersion_work (s : State) (via : Nat) : s.SameWork (s.doGetVersion via) := by
  unfold State.doGetVersion; split <;> exact ⟨rfl, rfl⟩

theorem State.doGetCapabilities_work (s : State) (via : Nat) : s.SameWork (s.doGetCapabilities via) := by
  unfold State.doGetCapabilities; split <;> exact ⟨rfl, rfl⟩

theorem State.doNegotiate_work (s : State) (via : Nat) : s.SameWork (s.doNegotiate via) := by
  unfold State.doNegotiate; split <;> exact ⟨rfl, rfl⟩

theorem State.doGetDigests_work (s : State) (via : Nat) : s.SameWork (s.doGetDigests via) := by
  unfold State.doGetDigests; split <;> exact ⟨rfl, rfl⟩

theorem State.doGetCertificate_work (s : State) (via slot off len : Nat) : s.SameWork (s.doGetCertificate via slot off len) := by
  unfold State.doGetCertificate; split_ifs <;> exact ⟨rfl, rfl⟩

theorem State.doChallenge_work (s : State) (via slot : Nat) (nonce : List Byte) : s.SameWork (s.doChallenge via slot nonce) := by
  unfold State.doChallenge
  split_ifs
  · exact .refl s
  · exact ⟨rfl, rfl⟩
  · split
    · exact ⟨rfl, rfl⟩
    · exact (s.freshBytes_work 4).trans ⟨rfl, rfl⟩

theorem State.doGetMeasurements_work (s : State) (via index : Nat) (sign : Bool) (nonce : List Byte) :
    s.SameWork (s.doGetMeasurements via index sign nonce) := by
  unfold State.doGetMeasurements
  split
  · exact .refl s
  · split
    · exact ⟨rfl, rfl⟩
    · split
      · exact ⟨rfl, rfl⟩
      · cases sign
        · exact ⟨rfl, rfl⟩
        · exact (s.freshBytes_work 4).trans ⟨rfl, rfl⟩

theorem State.doKeyExchange_work (s : State) (via : Nat) (share : List Byte) : s.SameWork (s.doKeyExchange via share) := by
  unfold State.doKeyExchange
  split
  · exact .refl s
  · split
    · exact ⟨rfl, rfl⟩
    · split
      · exact ⟨rfl, rfl⟩
      · exact (s.freshBytes_work 4).trans ⟨rfl, rfl⟩

theorem State.doSessionEnd_work (s : State) (id : Nat) (lost : Bool) : s.SameWork (s.doSessionEnd id lost) := by
  unfold State.doSessionEnd
  split
  · exact .refl s
  · dsimp only; split <;> exact ⟨rfl, rfl⟩

theorem State.ideSession_work (s : State) (id : Nat) : s.SameWork (s.ideSession id).2 := by
  unfold State.ideSession
  split
  · exact .refl s
  · split
    · exact .refl s
    · split <;> exact ⟨rfl, rfl⟩

theorem State.showIde_work (s : State) (p : Nat) : s.SameWork (s.showIde p) := by
  unfold State.showIde
  dsimp only
  split <;> exact ⟨rfl, rfl⟩

theorem State.doIdeQuery_work (s : State) (id index : Nat) : s.SameWork (s.doIdeQuery id index) := by
  have session := s.ideSession_work id
  unfold State.doIdeQuery
  split <;> rename_i found
  · rw [found] at session
    split <;> exact session.trans ⟨rfl, rfl⟩
  · rwa [found] at session

theorem State.doKeyProg_work (s : State) (id index set sub dir : Nat) (key : List Byte) :
    s.SameWork (s.doKeyProg id index set sub dir key) := by
  have session := s.ideSession_work id
  unfold State.doKeyProg
  split <;> rename_i found
  · rw [found] at session
    refine session.trans ?_
    split
    · exact ⟨rfl, rfl⟩
    · split <;> exact ⟨rfl, rfl⟩
  · rwa [found] at session

theorem State.doKeyGo_work (s : State) (id index set sub dir : Nat) : s.SameWork (s.doKeyGo id index set sub dir) := by
  have session := s.ideSession_work id
  unfold State.doKeyGo
  split <;> rename_i found
  · rw [found] at session
    refine session.trans ?_
    split
    · exact ⟨rfl, rfl⟩
    · dsimp only
      split
      · exact ⟨rfl, rfl⟩
      · exact ((State.onSec_work _ _).trans (State.showIde_work _ _)).spdm _ _ _ _
  · rwa [found] at session

theorem State.doKeyStop_work (s : State) (id index set sub dir : Nat) : s.SameWork (s.doKeyStop id index set sub dir) := by
  have session := s.ideSession_work id
  unfold State.doKeyStop
  split <;> rename_i found
  · rw [found] at session
    refine session.trans ?_
    split
    · exact ⟨rfl, rfl⟩
    · dsimp only
      split
      · exact ((State.onSec_work _ _).trans (State.showIde_work _ _)).spdm _ _ _ _
      · exact ⟨rfl, rfl⟩
  · rwa [found] at session

theorem State.jtagIr_work (s : State) (code : Nat) : s.SameWork (s.jtagIr code) := by
  unfold State.jtagIr
  generalize (if s.jtagOk code then code else 0xFF) = c
  dsimp only
  split
  · refine (s.onSec_work _).trans (foldl_keeps State.SameWork _ .refl (fun _ _ _ => .trans) (fun a e => ?_) _ _)
    split <;> exact ⟨rfl, rfl⟩
  · exact s.onSec_work _

theorem State.doIdcode_work (s : State) : s.SameWork s.doIdcode := (s.jtagIr_work 2).trans ⟨rfl, rfl⟩

theorem State.doUnlockChallenge_work (s : State) : s.SameWork s.doUnlockChallenge := by
  refine (s.jtagIr_work 0x11).trans ?_
  unfold State.doUnlockChallenge
  dsimp only
  split <;> exact ⟨rfl, rfl⟩

theorem State.doUnlock_work (s : State) (obj : List Byte) (ok : Bool) : s.SameWork (s.doUnlock obj ok) := by
  refine (s.jtagIr_work 0x12).trans ?_
  unfold State.doUnlock
  dsimp only
  split_ifs <;> exact ⟨rfl, rfl⟩

theorem State.doCoreDebug_work (s : State) : s.SameWork s.doCoreDebug := by
  refine (s.jtagIr_work 0x13).trans ?_
  unfold State.doCoreDebug
  dsimp only
  split <;> exact ⟨rfl, rfl⟩

/-! ### How a command is taken (R355, R362) -/

/-- The ways in which a command is taken: by the running part with what it sets off, by the AON island at any time, by the running
part alone, or by the test access port; what the last two do leaves the work in hand. -/
theorem exec_taken (c : Instr) (s : State) :
    (∃ dt f, exec c s = s.running dt f) ∨ (onAon c = true ∧ ∃ dt f, exec c s = s.always dt f) ∨
      (∃ dt f, (∀ u, State.SameWork u (f u)) ∧ exec c s = s.alone dt f) ∨
      (onAon c = true ∧ ∃ dt f, (∀ u, State.SameWork u (f u)) ∧ exec c s = s.tap dt f) := by
  cases c
  case coldBoot | resetN | mainSupplyLoss | vauxDrop | refReturn | xtalFail | xtalRestart | keepExpired | keepWarmExit |
      pwrfailFall | pwrfailRise | wakeGpio | calendarWake =>
    unfold exec
    exact .inr (.inl ⟨rfl, _, _, rfl⟩)
  case getVersion => unfold exec; exact .inr (.inr (.inl ⟨_, _, fun u => u.doGetVersion_work _, rfl⟩))
  case getCapabilities => unfold exec; exact .inr (.inr (.inl ⟨_, _, fun u => u.doGetCapabilities_work _, rfl⟩))
  case negotiateAlgorithms => unfold exec; exact .inr (.inr (.inl ⟨_, _, fun u => u.doNegotiate_work _, rfl⟩))
  case getDigests => unfold exec; exact .inr (.inr (.inl ⟨_, _, fun u => u.doGetDigests_work _, rfl⟩))
  case getCertificate => unfold exec; exact .inr (.inr (.inl ⟨_, _, fun u => u.doGetCertificate_work _ _ _ _, rfl⟩))
  case getMeasurements => unfold exec; exact .inr (.inr (.inl ⟨_, _, fun u => u.doGetMeasurements_work _ _ _ _, rfl⟩))
  case challenge => unfold exec; exact .inr (.inr (.inl ⟨_, _, fun u => u.doChallenge_work _ _ _, rfl⟩))
  case keyExchange => unfold exec; exact .inr (.inr (.inl ⟨_, _, fun u => u.doKeyExchange_work _ _, rfl⟩))
  case spdmSessionEnd => unfold exec; exact .inr (.inr (.inl ⟨_, _, fun u => u.doSessionEnd_work _ _, rfl⟩))
  case query => unfold exec; exact .inr (.inr (.inl ⟨_, _, fun u => u.doIdeQuery_work _ _, rfl⟩))
  case keyProg => unfold exec; exact .inr (.inr (.inl ⟨_, _, fun u => u.doKeyProg_work _ _ _ _ _ _, rfl⟩))
  case kSetGo => unfold exec; exact .inr (.inr (.inl ⟨_, _, fun u => u.doKeyGo_work _ _ _ _ _, rfl⟩))
  case kSetStop => unfold exec; exact .inr (.inr (.inl ⟨_, _, fun u => u.doKeyStop_work _ _ _ _ _, rfl⟩))
  case samplePreload => unfold exec; exact .inr (.inr (.inr ⟨rfl, _, _, fun u => u.jtagIr_work 1, rfl⟩))
  case bypass => unfold exec; exact .inr (.inr (.inr ⟨rfl, _, _, fun u => u.jtagIr_work 0xFF, rfl⟩))
  case idcode => unfold exec; exact .inr (.inr (.inr ⟨rfl, _, _, fun u => u.doIdcode_work, rfl⟩))
  case unlockChallenge => unfold exec; exact .inr (.inr (.inr ⟨rfl, _, _, fun u => u.doUnlockChallenge_work, rfl⟩))
  case unlock => unfold exec; exact .inr (.inr (.inr ⟨rfl, _, _, fun u => u.doUnlock_work _ _, rfl⟩))
  case coreDebug => unfold exec; exact .inr (.inr (.inr ⟨rfl, _, _, fun u => u.doCoreDebug_work, rfl⟩))
  all_goals
    unfold exec
    exact .inl ⟨_, _, rfl⟩

/-! ### No work is left (log entry 40) -/

theorem noWorkLeft_settle (s : State) : NoWorkLeft s.settle := State.settle_jobs

theorem noWorkLeft_elapse (h : NoWorkLeft s) (dt : Nat) : NoWorkLeft (s.elapse dt) := by
  intro runs
  rw [State.elapse_mode] at runs
  rw [State.elapse_xbc, h runs]

theorem State.SameWork.noWorkLeft {u : State} (same : s.SameWork u) (h : NoWorkLeft s) : NoWorkLeft u := by
  unfold NoWorkLeft
  rw [same.1, same.2]
  exact h

/-- Every command leaves none. -/
theorem exec_noWorkLeft (c : Instr) {t : State} (h : NoWorkLeft s) (next : exec c s = .next t) : NoWorkLeft t := by
  rcases exec_taken c s with ⟨dt, f, e⟩ | ⟨-, dt, f, e⟩ | ⟨dt, f, same, e⟩ | ⟨-, dt, f, same, e⟩ <;>
    obtain rfl := Host.Outcome.next.inj (e.symm.trans next)
  · split
    · exact noWorkLeft_settle _
    · exact noWorkLeft_elapse h dt
  · exact noWorkLeft_settle _
  · split
    · exact (same _).noWorkLeft (noWorkLeft_elapse h dt)
    · exact noWorkLeft_elapse h dt
  · split
    · exact (same _).noWorkLeft (noWorkLeft_elapse h dt)
    · exact noWorkLeft_elapse h dt

end
end Sys2Proof.Machine

namespace Sys2Proof
open Machine

/-- Settles O53: the command at the front leaves no work, and an idle part has none. -/
theorem workIsFinished : Obligations.WorkIsFinished := by
  unfold Obligations.WorkIsFinished
  intro s t h next
  unfold step at next
  split at next
  · obtain rfl := Host.Outcome.next.inj next
    exact h
  case _ c rest _ =>
    exact exec_noWorkLeft (s := { s with pending := rest }) c h next

/-- Settles O54: the switch core is empty at reset. -/
theorem workIsFinishedAtReset : Obligations.WorkIsFinishedAtReset := by
  unfold Obligations.WorkIsFinishedAtReset
  exact fun _ _ => rfl

/-- Settles O50, by what a step does at each form of the queue. -/
theorem stepRunsFront : Obligations.StepRunsFront := by
  unfold Obligations.StepRunsFront
  refine ⟨fun c s rest => rfl, fun s idle => ?_⟩
  rw [step, idle]

/-- Settles O51: counting leaves every clock, and a part that does not run counts nothing. -/
theorem timePasses : Obligations.TimePasses := by
  unfold Obligations.TimePasses
  exact fun s dt => ⟨s.elapse_now dt, s.elapse_aon dt, s.elapse_onNs dt, fun off => State.elapse_off off dt⟩

/-- Settles O52: a command that the AON island does not take needs a part that runs. -/
theorem offCoreOnlyWaits : Obligations.OffCoreOnlyWaits := by
  unfold Obligations.OffCoreOnlyWaits
  intro c s off core
  rcases exec_taken c s with ⟨dt, f, e⟩ | ⟨aon, -⟩ | ⟨dt, f, -, e⟩ | ⟨aon, -⟩
  · exact ⟨dt, e.trans (State.running_off off)⟩
  · simp [core] at aon
  · exact ⟨dt, e.trans (State.alone_off off)⟩
  · simp [core] at aon

end Sys2Proof

namespace Sys2Proof.Machine
section
variable {s : State}

/-! ### Forced messages (R421) -/

/-- The message that FCR_FORCE raises from a source with a KIND. -/
def State.forcedMsg (s : State) (kind source : Nat) : FaultIn :=
  { word := faultWord source kind 0 0, time := s.now, epoch := s.cfg.epoch, forced := true, quiet := s.dct.quiet }

/-- Forced messages join those that wait in the order of their bits, where a fault of the KIND is assigned. -/
theorem State.forceFaults_inbox (s : State) (j bits : Nat) : s.forceFaults j bits = { s with fcr := { s.fcr with
    inbox := s.fcr.inbox ++
      ((List.range 64).filter fun b =>
        bitAt bits b && faultKnown (64 * j + b) (s.fld R.FCR_FORCE_CFG F.FCR_FORCE_CFG_KIND)).map fun b =>
          s.forcedMsg (s.fld R.FCR_FORCE_CFG F.FCR_FORCE_CFG_KIND) (64 * j + b) } } := by
  rw [State.forceFaults]
  generalize s.fld R.FCR_FORCE_CFG F.FCR_FORCE_CFG_KIND = kind
  rw [List.filter_congr fun b _ => Bool.and_comm (bitAt bits b) (faultKnown (64 * j + b) kind), ← List.filter_filter]
  generalize (List.range 64).filter (bitAt bits) = l
  induction l generalizing s with
  | nil => simp
  | cons b l ih =>
    rw [List.foldl_cons, ih]
    by_cases known : faultKnown (64 * j + b) kind = true
    · simp [known, State.forcedMsg]
    · simp [known]

/-! ### FCR takes messages (R402, R405, R406) -/

theorem State.faultNext_takes {x : FaultIn} {rest : List FaultIn} (next : nextFault s.fcr.inbox = some (x, rest)) :
    s.faultNext = ({ s with fcr := { s.fcr with inbox := rest } } : State).takeFault x := by
  rw [State.faultNext, next]

theorem State.faultNext_none (none_waits : s.fcr.inbox = []) : s.faultNext = s := by
  rw [State.faultNext, none_waits]; rfl

/-- A fault that is assigned has its block's effect and joins the messages that wait; FCR takes the one that is next. -/
theorem State.doFaultMessage_raised {source kind block info : Nat} {m x : FaultIn} {rest : List FaultIn} {u : State}
    (known : faultKnown source kind = true)
    (raised : m = { word := faultWord source kind block info, time := s.now, epoch := s.cfg.epoch, quiet := s.dct.quiet })
    (effect : u = s.faultEffect source kind info) (next : nextFault (u.fcr.inbox ++ [m]) = some (x, rest)) :
    s.doFaultMessage (.raised source kind block info) =
      ({ u with fcr := { u.fcr with inbox := rest } } : State).takeFault x := by
  subst raised effect
  exact (if_pos known).trans (State.faultNext_takes next)

theorem State.strike_stored {c i : Nat} (table : c = 2 ∨ c = 4 ∨ c = 5 ∨ c = 6) (good : s.cfg.faulty.contains (c, i) = false) :
    s.strike c i = { s with cfg := { s.cfg with faulty := s.cfg.faulty ++ [(c, i)] } } := by
  rw [State.strike, if_pos table, good]; rfl

end

/-! ### SPDM on a transport that is there (R461 to R465) -/

section
variable {s : State} {via : Nat} (there : s.spdmVia via = true)
include there

theorem State.doGetVersion_answers : s.doGetVersion via = s.emit (.spdm via 0x04 [1, 0x1200] []) := if_pos there

theorem State.doGetCapabilities_answers : s.doGetCapabilities via = s.emit (.spdm via 0x61 [spdmFlags] []) := if_pos there

theorem State.doNegotiate_answers : s.doNegotiate via =
    s.emit (.spdm via 0x63 (if s.sec.otp.curve then [0x80, 2, 0x10, 2] else [0x10, 1, 8, 2]) []) := by
  rw [State.doNegotiate, if_pos there]
  cases s.sec.otp.curve <;> rfl

theorem State.doGetDigests_answers : s.doGetDigests via = s.emit (.spdm via 0x01 [1] (Config.digest s.certChain)) := if_pos there

theorem State.doGetCertificate_answers (off len : Nat) : s.doGetCertificate via 0 off len = s.emit (.spdm via 0x02
    [0, ((s.certChain.drop off).take len).length, s.certChain.length - off - ((s.certChain.drop off).take len).length]
      ((s.certChain.drop off).take len)) := by
  rw [State.doGetCertificate, there]; rfl

/-- One measurement block, unsigned. -/
theorem State.doGetMeasurements_block {index : Nat} (first : 1 ≤ index) (last : index ≤ 7) (nonce : List Byte) :
    s.doGetMeasurements via index false nonce =
      s.emit (.spdm via 0x60 [index, 1] (BitVec.ofNat 8 index :: s.measurement index)) := by
  have one : index ≠ 0 := by omega
  have notAll : index ≠ 0xFF := by omega
  simp [State.doGetMeasurements, there, last.not_gt, one, notAll, State.spdm]

section
variable {e : Nat} (shut : s.spdmShut true = some e)
include shut

theorem State.doChallenge_shut (nonce : List Byte) : s.doChallenge via 0 nonce = s.emit (.spdm via 0x7F [e, 0] []) := by
  rw [State.doChallenge, there, shut]; rfl

theorem State.doKeyExchange_shut (share : List Byte) : s.doKeyExchange via share = s.emit (.spdm via 0x7F [e, 0] []) := by
  rw [State.doKeyExchange, there, shut]; rfl

end

section
variable {r : List Byte} {u : State} (working : s.spdmShut true = none) (fresh : s.freshBytes 4 = (r, u))
include working fresh

theorem State.doChallenge_signs (nonce : List Byte) : s.doChallenge via 0 nonce = u.emit (.spdm via 0x03 [0, 1]
    (Config.digest s.certChain ++ r ++ Config.digest ((3 : Byte) :: nonce ++ r))) := by
  rw [State.doChallenge, there, working, fresh]; rfl

theorem State.doKeyExchange_opens (few : s.sec.sessions.length < 8) (share : List Byte) : s.doKeyExchange via share =
    ((u.onSec fun x => { x with
      sessions := x.sessions ++ [{ id := s.sec.nextSession, via := via }], nextSession := s.sec.nextSession + 1 }).showSessions).emit
        (.spdm via 0x64 [s.sec.nextSession] (r ++ Config.digest ((0x64 : Byte) :: share ++ r))) := by
  rw [State.doKeyExchange, there, working, if_neg few.not_ge, fresh]; rfl

end
end

section
variable {s : State} {x : Session} (opened : s.sec.sessions.find? (fun y => y.id == x.id) = some x)
include opened

/-- A session that is lost is closed without an answer. -/
theorem State.doSessionEnd_lost : s.doSessionEnd x.id true =
    (s.onSec fun y => { y with sessions := y.sessions.filter fun z => z.id != x.id }).showSessions := by
  rw [State.doSessionEnd, opened]; rfl

theorem State.doSessionEnd_ended : s.doSessionEnd x.id false =
    ((s.onSec fun y => { y with sessions := y.sessions.filter fun z => z.id != x.id }).showSessions).emit
      (.spdm x.via 0x6C [] []) := by
  rw [State.doSessionEnd, opened]; rfl

end

/-! ### IDE_KM in a session of a virtual switch (R466 to R468) -/

section
variable {s : State} {id v i p : Nat} (session : s.ideSession id = (some v, s))
include session

theorem State.doIdeQuery_none (port : s.idePort v i = none) : s.doIdeQuery id i = s.emit (.spdm v 1 [i, 2] []) := by
  simp only [State.doIdeQuery, session, port, State.spdm]

theorem State.doIdeQuery_port (port : s.idePort v i = some p) :
    s.doIdeQuery id i = s.emit (.spdm v 1 [i, s.busOf (.port p), 0, s.role p] []) := by
  simp only [State.doIdeQuery, session, port, State.spdm]

section
variable (set sub dir : Nat)

theorem State.doKeyProg_none (port : s.idePort v i = none) (key : List Byte) :
    s.doKeyProg id i set sub dir key = s.emit (.spdm v 3 [i, 2] []) := by
  simp only [State.doKeyProg, session, port, State.spdm]

section
variable (port : s.idePort v i = some p)
include port

theorem State.doKeyProg_down (down : (s.pcpOf p).up = false) (key : List Byte) :
    s.doKeyProg id i set sub dir key = s.emit (.spdm v 3 [i, 4] []) := by
  simp only [State.doKeyProg, session, port, down, State.spdm, Bool.not_false, true_or, ↓reduceIte]

section
variable {k : IdeKeys} (keys : k = tget {} s.sec.keys p)
include keys

theorem State.doKeyProg_stores (up : (s.pcpOf p).up = true) (free : s.portContained p = false) (key : List Byte) :
    s.doKeyProg id i set sub dir key = (s.onSec fun x => { x with keys := tput x.keys p { k with
      keys := k.keys.filter (fun x => !(x.1 == set % 2 && x.2.1 == sub % 3 && x.2.2.1 == dir % 2)) ++
        [(set % 2, sub % 3, dir % 2, key)] } }).emit (.spdm v 3 [i, 0] []) := by
  simp only [State.doKeyProg, session, port, up, free, ← keys, State.spdm, Bool.not_true, Bool.false_eq_true, or_self, ↓reduceIte]

theorem State.doKeyGo_active (programmed : (k.keys.any fun x => x.1 == set % 2 && x.2.1 == sub % 3 && x.2.2.1 == dir % 2) = true) :
    s.doKeyGo id i set sub dir = ((s.onSec fun x => { x with keys := tput x.keys p { k with
      active := k.active.filter (fun x => x.2 != (sub % 3, dir % 2)) ++ [(set % 2, sub % 3, dir % 2)] } }).showIde p).emit
        (.spdm v 6 [i, 0] []) := by
  simp only [State.doKeyGo, session, port, ← keys, programmed, State.spdm, Bool.not_true, Bool.false_eq_true, ↓reduceIte]

theorem State.doKeyGo_unprogrammed
    (unprogrammed : (k.keys.any fun x => x.1 == set % 2 && x.2.1 == sub % 3 && x.2.2.1 == dir % 2) = false) :
    s.doKeyGo id i set sub dir = s.emit (.spdm v 6 [i, 4] []) := by
  simp only [State.doKeyGo, session, port, ← keys, unprogrammed, State.spdm, Bool.not_false, ↓reduceIte]

theorem State.doKeyStop_ends (programmed : (tfind s.sec.keys p).isSome = true) :
    s.doKeyStop id i set sub dir = ((s.onSec fun x => { x with keys := tput x.keys p { k with
      active := k.active.filter fun x => x != (set % 2, sub % 3, dir % 2) } }).showIde p).emit (.spdm v 6 [i, 0] []) := by
  simp only [State.doKeyStop, session, port, ← keys, programmed, State.spdm, ↓reduceIte]

end
end
end
end
end Sys2Proof.Machine

namespace Sys2Proof
open Machine

/-- Settles O60: a write of FCR_FORCE_j forces its bits, and each assigned one is a message. -/
theorem forcedMessagesAreRaised : Obligations.ForcedMessagesAreRaised := by
  unfold Obligations.ForcedMessagesAreRaised
  intro s t dt j bits kind m hf hj hr hbits hkind
  subst hkind
  rw [exec_faultForce hf, State.faultForce_eq hj hbits hr, State.forceFaults_inbox]
  rfl

/-- Settles O34: a fault that is raised by the message that FCR takes after it, an upset and the windows by what they leave. -/
theorem faultMessagesComplete : Obligations.FaultMessagesComplete := by
  unfold Obligations.FaultMessagesComplete
  refine ⟨fun s t dt source kind block info m x rest hf known raised u effect next => ?_,
    fun s t dt hf => ⟨fun none_waits => ?_, fun x rest next => ?_⟩, fun s t dt c i hf table good => ?_, fun s t dt hf => ?_⟩
  · rw [exec_faultMessage hf, State.doFaultMessage_raised known raised effect next]
  · rw [exec_faultMessage hf, State.doFaultMessage, State.faultNext_none none_waits]
  · rw [exec_faultMessage hf, State.doFaultMessage, State.faultNext_takes next]
  · rw [exec_faultMessage hf, State.doFaultMessage, State.strike_stored table good]
  · rw [exec_countWindowClose hf, State.doWindowClose]

/-- Settles O41: each request by its answer on a transport that is there, and the end of a session that is open. -/
theorem spdmAnswers : Obligations.SpdmAnswers := by
  unfold Obligations.SpdmAnswers
  refine ⟨fun s t dt via hf there => ⟨?_, ?_, ?_, ?_, fun off len => ?_, fun index nonce first last => ?_,
    fun e share nonce shut => ⟨?_, ?_⟩, fun nonce r u working fresh => ?_, fun share r u working fresh few => ?_⟩,
    fun s t dt x hf opened u closed => ⟨?_, ?_⟩⟩
  · rw [exec_getVersion hf, State.doGetVersion_answers there]
  · rw [exec_getCapabilities hf, State.doGetCapabilities_answers there]
  · rw [exec_negotiateAlgorithms hf, State.doNegotiate_answers there]
  · rw [exec_getDigests hf, State.doGetDigests_answers there]
  · rw [exec_getCertificate hf, State.doGetCertificate_answers there]
  · rw [exec_getMeasurements hf, State.doGetMeasurements_block there first last]
  · rw [exec_challenge hf, State.doChallenge_shut there shut]
  · rw [exec_keyExchange hf, State.doKeyExchange_shut there shut]
  · rw [exec_challenge hf, State.doChallenge_signs there working fresh]
  · rw [exec_keyExchange hf, State.doKeyExchange_opens there working fresh few]
  · rw [exec_spdmSessionEnd hf, State.doSessionEnd_lost opened, closed]
  · rw [exec_spdmSessionEnd hf, State.doSessionEnd_ended opened, closed]

/-- Settles O42: each message of IDE_KM by what it does at the port that it names, or at none. -/
theorem linkKeys : Obligations.LinkKeys := by
  unfold Obligations.LinkKeys
  intro s t dt id v i p op hf session hid hi
  subst hid hi
  refine ⟨fun port => ⟨?_, fun key => ?_⟩, fun port k keys => ⟨?_, fun key down => ?_, fun key up free => ?_, fun programmed => ?_,
    fun unprogrammed => ?_, fun programmed => ?_⟩⟩
  · rw [exec_query hf, State.doIdeQuery_none session port]
  · rw [exec_keyProg hf, State.doKeyProg_none session _ _ _ port]
  · rw [exec_query hf, State.doIdeQuery_port session port]
  · rw [exec_keyProg hf, State.doKeyProg_down session _ _ _ port down]
  · rw [exec_keyProg hf, State.doKeyProg_stores session _ _ _ port keys up free]
  · rw [exec_kSetGo hf, State.doKeyGo_active session _ _ _ port keys programmed]
  · rw [exec_kSetGo hf, State.doKeyGo_unprogrammed session _ _ _ port keys unprogrammed]
  · rw [exec_kSetStop hf, State.doKeyStop_ends session _ _ _ port keys programmed]

end Sys2Proof

namespace Sys2Proof.Machine
section
variable {s : State}

/-! ### PTM and temperature (R525, R540, R541) -/

theorem State.doPtm_chosen {p : Nat} (on : s.flag R.CLK_PTM_CFG F.CLK_PTM_CFG_EN = true)
    (chosen : s.fld R.CLK_PTM_CFG F.CLK_PTM_CFG_PORT = p) (pcie : s.isPcie p = true) (upstream : s.role p = 0)
    (up : s.linkUp p = true) (master : Nat) : s.doPtm p master =
      (s.setRaw R.CLK_PTM_LOCAL (BitVec.ofNat 64 s.now)).setRaw R.CLK_PTM_MASTER (BitVec.ofNat 64 master) :=
  if_pos ⟨on, chosen, pcie, upstream, up⟩

/-- The highest temperature so far, once `j` has been read. -/
def State.peakAfter (s : State) (j : Int) : Int := match s.clk.peak with | some q => max q j | none => j

/-- What a sample shows in DEV_TEMP. -/
def State.tempShown (s : State) (j : Int) (n : Nat) : State :=
  ((s.setFld R.DEV_TEMP F.DEV_TEMP_TJ_MAX (BitVec.ofInt 16 j).toNat).setFld R.DEV_TEMP F.DEV_TEMP_SENSOR n).setFld
    R.DEV_TEMP F.DEV_TEMP_TJ_PEAK (BitVec.ofInt 16 (s.peakAfter j)).toNat

/-- What a sample leaves of the warning and of the alarm, once it has raised what it raises. -/
def State.tempNoted (v : State) (j peak : Int) (warn crit : Bool) : State :=
  (({ v with clk := { v.clk with peak := some peak, warn := warn, crit := crit } } : State).thermCycle j).thermValue

/-- The temperature of DEV_THERM_WARN, in 1/16 °C. -/
def State.warnTemp (s : State) : Int := signed8 (s.fld R.DEV_THERM_CFG F.DEV_THERM_CFG_WARN_C) * 16

/-- Its hysteresis. -/
def State.warnHyst (s : State) : Int := (s.fld R.DEV_THERM_CFG F.DEV_THERM_CFG_HYST_C : Int) * 16

/-- A sample by the state in which DEV_TEMP shows it: the warning is raised first, then the alarm. -/
theorem State.doThermal_eq {l : List Int} {j : Int} {n : Nat} {u v w : State} {warn crit : Bool} (read : hottest l = (j, n))
    (shown : u = s.tempShown j n) (warns : warn = (decide (j ≥ u.warnTemp) && u.flag R.DEV_THERM_CFG F.DEV_THERM_CFG_WARN_EN))
    (warned : v = if warn = true ∧ (!u.clk.warn) = true then u.raise Flt.DEV_THERM_WARN 0 (thermInfo j n) else u)
    (hot : crit = decide (j ≥ v.critTemp))
    (alarmed : w = if crit = true ∧ (!v.clk.crit) = true then v.raise Flt.DEV_THERM_CRIT 0 (thermInfo j n) else v) :
    s.doThermal l = w.tempNoted j (s.peakAfter j) ((w.clk.warn || warn) && decide (j ≥ u.warnTemp - u.warnHyst)) crit := by
  subst shown warns warned hot alarmed
  simp only [State.doThermal, read]
  rfl

section
variable {l : List Int} {j : Int} {n : Nat} {u : State} (read : hottest l = (j, n)) (shown : u = s.tempShown j n)
include read shown

theorem State.doThermal_cool (below : j < u.warnTemp) (cool : j < u.critTemp) :
    s.doThermal l = u.tempNoted j (s.peakAfter j) (u.clk.warn && decide (j ≥ u.warnTemp - u.warnHyst)) false := by
  rw [State.doThermal_eq (v := u) (w := u) (warn := false) (crit := false) read shown]
  · rw [Bool.or_false]
  · rw [decide_eq_false below.not_ge, Bool.false_and]
  · exact (if_neg fun h => Bool.false_ne_true h.1).symm
  · rw [decide_eq_false cool.not_ge]
  · exact (if_neg fun h => Bool.false_ne_true h.1).symm

theorem State.doThermal_warns (above : j ≥ u.warnTemp) (on : u.flag R.DEV_THERM_CFG F.DEV_THERM_CFG_WARN_EN = true)
    (first : u.clk.warn = false) (cool : j < u.critTemp) {v : State} (raised : v = u.raise Flt.DEV_THERM_WARN 0 (thermInfo j n)) :
    s.doThermal l = v.tempNoted j (s.peakAfter j) true false := by
  have hyst : j ≥ u.warnTemp - u.warnHyst := by unfold State.warnHyst; omega
  rw [State.doThermal_eq (v := v) (w := v) (warn := true) (crit := false) read shown]
  · rw [Bool.or_true, decide_eq_true hyst, Bool.and_true]
  · rw [decide_eq_true above, on, Bool.and_true]
  · rw [first]; exact raised
  · rw [raised]; exact (decide_eq_false cool.not_ge).symm
  · exact (if_neg fun h => Bool.false_ne_true h.1).symm

theorem State.doThermal_alarms (below : j < u.warnTemp) (hot : j ≥ u.critTemp) (first : u.clk.crit = false) {v : State}
    (raised : v = u.raise Flt.DEV_THERM_CRIT 0 (thermInfo j n)) :
    s.doThermal l = v.tempNoted j (s.peakAfter j) (v.clk.warn && decide (j ≥ u.warnTemp - u.warnHyst)) true := by
  rw [State.doThermal_eq (v := u) (w := v) (warn := false) (crit := true) read shown]
  · rw [Bool.or_false]
  · rw [decide_eq_false below.not_ge, Bool.false_and]
  · exact (if_neg fun h => Bool.false_ne_true h.1).symm
  · rw [decide_eq_true hot]
  · rw [first]; exact raised

end

/-! ### Dumps and engine samples (R511, R514, R515) -/

theorem State.doPeriodicDump_due (on : s.flag R.PMC_DUMP_CFG F.PMC_DUMP_CFG_EN = true) (live : s.dct.quiet = false)
    (due : s.now - s.pmc.lastDump ≥ 1000 * s.fld R.PMC_DUMP_CFG F.PMC_DUMP_CFG_PERIOD_US) :
    s.doPeriodicDump = (({ s with pmc := { s.pmc with lastDump := s.now } } : State).dump 0 (s.fld R.PMC_DUMP_CFG
      F.PMC_DUMP_CFG_SET) (s.flag R.PMC_DUMP_CFG F.PMC_DUMP_CFG_CLEAR)).2.2.2 :=
  if_pos ⟨on, by rw [live]; rfl, due⟩

section
variable {k e c r per : Nat} (counter : k = s.fld R.PMC_SMP_CFG F.PMC_SMP_CFG_COUNTER)
  (engine : e = s.fld (R.PMC_SEL k) F.PMC_SEL_UNIT) (period : per = s.fld R.PMC_SMP_CFG F.PMC_SMP_CFG_PERIOD)
  (on : s.flag R.PMC_SMP_CFG F.PMC_SMP_CFG_EN = true) (live : s.dct.quiet = false) (due : s.pmc.smpDue ≥ per)
  (works : s.engRetired e = false) (skid work addr : Nat)
include counter engine period on live due works

/-- A sample joins those that wait, and they are written while the CDR has room. -/
theorem State.doEngineSample_queues (role : s.engRole e = some (c, r)) (room : s.pmc.samples.length < 64) :
    s.doEngineSample skid work addr = ({ s with
      pmc := { s.pmc with
        smpDue := s.pmc.smpDue - per, smpSeq := (s.pmc.smpSeq + 1) % 2 ^ 32
        samples := s.pmc.samples ++ [leBytes 2 0x0C03 ++ leBytes 1 (min 12 skid) ++ [0] ++ leBytes 4 s.pmc.smpSeq ++ leBytes 8 s.now ++
          leBytes 2 e ++ leBytes 1 (16 * c + r) ++ leBytes 1 (work % 8) ++ leBytes 4 addr ++
          leBytes 8 (tget 0 s.pmc.cnt k)] } } : State).smpDrain 64 := by
  subst counter engine period
  simp only [State.doEngineSample, on, live, due.not_gt, works, role, room.not_ge, Option.getD_some, Bool.not_true,
    Bool.false_eq_true, or_self, ↓reduceIte]

/-- With 64 samples waiting, one more is counted as lost. -/
theorem State.doEngineSample_lost (full : s.pmc.samples.length ≥ 64) :
    s.doEngineSample skid work addr = ({ s with pmc := { s.pmc with
      smpDue := s.pmc.smpDue - per, smpSeq := (s.pmc.smpSeq + 1) % 2 ^ 32 } } : State).setFld R.PMC_STAT F.PMC_STAT_SMP_LOST
        (min 0xFFFF (s.fld R.PMC_STAT F.PMC_STAT_SMP_LOST + 1)) := by
  subst counter engine period
  simp only [State.doEngineSample, on, live, due.not_gt, works, full, Bool.not_true, Bool.false_eq_true, or_self, ↓reduceIte]
  rfl

end

/-! ### Commands that are taken in every mode -/

theorem next_settle {u v : State} (h : u = v) : (.next u.settle : Host.Outcome State Fault Refusal) = .next v.settle := by rw [h]

theorem next_settle_off {u v : State} (h : u = v) (off : v.aon.mode ≠ 0) : 
    (.next u.settle : Host.Outcome State Fault Refusal) = .next v := by
  rw [h, State.settle_off off]

/-! ### Resets, supplies and clocks (R355, R362, R377, R378, R522 to R530) -/

theorem State.doResetN_runs {low : Nat} (held : low ≥ 200) (runs : s.aon.mode = 0) (noDecant : s.dct.active = false) :
    s.doResetN low = s.holdReset 1 0 := by
  simp [State.doResetN, held.not_gt, runs, noDecant]

/-- In keep-warm the carafe is lost with it. -/
theorem State.doResetN_keepWarm {low : Nat} (held : low ≥ 200) (keepWarm : s.aon.mode = 1) : s.doResetN low = s.holdReset 1 8 := by
  simp [State.doResetN, held.not_gt, keepWarm]

/-- With no GPIO that drives MAIN_EN, no ball moves. -/
theorem State.mainEn_zero (s : State) (on : Bool) : s.mainEn 0 on = s := if_neg (by decide)

/-- A cold boot of a part whose AON island was unpowered knows nothing of what was before. -/
theorem State.doColdBoot_first (off : s.aon.mode = 2) (x : BootIn) : s.doColdBoot true x =
    ({ s with spc := [], aon := { mode := 2, pwrfail := s.aon.pwrfail, main := true, vaux := true } } : State).bootFrom x 0 0 0 := by
  simp only [State.doColdBoot, off, Bool.not_true, Bool.false_eq_true, and_false, OfNat.ofNat_ne_zero, OfNat.ofNat_ne_one,
    Nat.reduceEqDiff, false_and, or_self, ↓reduceIte]
  exact congrArg (fun u : State => u.bootFrom x 0 0 0) (State.mainEn_zero _ true)

section
variable {u : State} (powered : u = ({ s with aon := { s.aon with main := true, vaux := true } } : State).mainEn s.aon.wakeCfg true)
  (x : BootIn)
include powered

theorem State.doColdBoot_off (off : s.aon.mode = 2) (comes : s.aon.main = false ∨ s.aon.wake = true) :
    s.doColdBoot false x = u.bootFrom x 0 s.aon.exitCode 0 := by
  subst powered
  have stays : ¬ (s.aon.mode = 0 ∨ s.aon.mode = 1 ∨ (s.aon.mode = 3 ∧ s.aon.cause = 4) ∨
      (s.aon.mode = 2 ∧ s.aon.main = true ∧ (!s.aon.wake) = true ∧ (!false) = true)) := by
    rcases comes with h | h <;> simp [off, h]
  rw [State.doColdBoot, if_neg stays, if_pos off]
  rfl

theorem State.doColdBoot_reset (held : s.aon.mode = 3) (ref : s.aon.cause ≠ 4) :
    s.doColdBoot false x = u.bootFrom x s.aon.cause s.aon.exitCode 0 := by
  subst powered
  simp only [State.doColdBoot, held, ref, OfNat.ofNat_ne_zero, OfNat.ofNat_ne_one, Nat.reduceEqDiff, and_false, false_and, or_self,
    Bool.false_eq_true, ↓reduceIte]

end

theorem State.doXtalFail_runs (runs : s.aon.mode = 0) (ticks : s.aon.xtal = true) : s.doXtalFail = (({ s with
    aon := { s.aon with xtal := false, calValid := false } } : State).setFld R.CLK_STAT F.CLK_STAT_XTAL_OK 0).raise
      Flt.CLK_XTAL_FAIL := if_pos ⟨runs, ticks⟩

theorem State.doXtalRestart_runs (runs : s.aon.mode = 0) :
    s.doXtalRestart = ({ s with aon := { s.aon with xtal := true } } : State).setFld R.CLK_STAT F.CLK_STAT_XTAL_OK 1 := if_pos runs

theorem State.doMainLoss_off (off : s.aon.mode ≠ 0) : s.doMainLoss = { s with aon := { s.aon with main := false } } := if_neg off

theorem State.doMainLoss_runs (runs : s.aon.mode = 0) (noDecant : s.dct.active = false) (heeded : s.aon.ignored = false) :
    s.doMainLoss = ({ s with aon := { s.aon with main := false } } : State).goOff 0 := by
  simp [State.doMainLoss, runs, noDecant, heeded]

theorem State.doVauxDrop_keepWarm (keepWarm : s.aon.mode = 1) : s.doVauxDrop = { s with aon := { s.aon with vauxDrop := true } } :=
  if_pos keepWarm

theorem State.doRefReturn_runs (runs : s.aon.mode = 0) (x : BootIn) : s.doRefReturn x = s.relock := if_pos runs

/-- After a holdover that ended in reset, the part starts again with that cause. -/
theorem State.doRefReturn_reset (held : s.aon.mode = 3) (ref : s.aon.cause = 4) (x : BootIn) :
    s.doRefReturn x = s.bootFrom x 4 s.aon.exitCode 0 :=
  (if_neg (by omega)).trans (if_pos ⟨held, ref⟩)

section
variable (locked : s.clk.holdover = none)
include locked

theorem State.doRefLost_ref : s.doRefLost false = { ((s.setFld R.CLK_STAT F.CLK_STAT_HOLDOVER 1).setFld R.CLK_STAT
    F.CLK_STAT_REF_OK 0).raise Flt.CLK_REF_LOST with clk := { s.clk with holdover := some s.now } } := by
  rw [State.doRefLost, locked]; rfl

theorem State.doRefLost_pll : s.doRefLost true = { ((s.setFld R.CLK_STAT F.CLK_STAT_HOLDOVER 1).setFld R.CLK_STAT
    F.CLK_STAT_PLL_LOCK 0).raise Flt.CLK_PLL_UNLOCK with clk := { s.clk with holdover := some s.now } } := by
  rw [State.doRefLost, locked]; rfl

end

theorem State.doHoldoverEnd_due {b : Nat} (begun : s.clk.holdover = some b) (due : s.now - b ≥ 1000000) :
    s.doHoldoverEnd = s.holdReset 4 0 := by
  rw [State.doHoldoverEnd, begun]
  exact if_pos due

/-! ### Stopping and waking domains (R366 to R372) -/

section
variable {c : PwrCmd} {d : Nat} {rest : List Nat} (cmd : s.pwr.cmd = some c)
include cmd

section
variable (stops : c.stops = d :: rest)
include stops

/-- An answer that comes too late is a refusal for the time. -/
theorem State.doStopAnswer_late (late : s.now - c.since > 1000 * s.fld R.PWR_CFG F.PWR_CFG_STOP_TMO_US) :
    s.doStopAnswer = s.pwrRefuse c d 7 := by
  simp only [State.doStopAnswer, cmd, stops, late, ↓reduceIte]

theorem State.doStopTimeout_due (due : s.now - c.since ≥ 1000 * s.fld R.PWR_CFG F.PWR_CFG_STOP_TMO_US) :
    s.doStopTimeout = s.pwrRefuse c d 7 := by
  simp only [State.doStopTimeout, cmd, stops, due, ↓reduceIte]

section
variable (inTime : ¬ s.now - c.since > 1000 * s.fld R.PWR_CFG F.PWR_CFG_STOP_TMO_US)
include inTime

theorem State.doStopAnswer_refuses {r : Nat} (reason : s.refusal d = some r) : s.doStopAnswer = s.pwrRefuse c d r := by
  simp only [State.doStopAnswer, cmd, stops, inTime, reason, ↓reduceIte]

variable (agrees : s.refusal d = none)
include agrees

theorem State.doStopAnswer_next (more : rest ≠ []) : s.doStopAnswer = { s with
    pwr := { s.pwr with cmd := some { c with stops := rest, stopped := c.stopped ++ [d], since := s.now } } } := by
  simp only [State.doStopAnswer, cmd, stops, inTime, agrees, more, ↓reduceIte]

/-- With the last agreement every stopped domain is switched off; a command that wakes none is complete. -/
theorem State.doStopAnswer_last (last : rest = []) (wakesNone : c.wakes = []) : s.doStopAnswer =
    ((c.stopped ++ [d]).foldl State.domainOff s).pwrDone c.slot c.desc true c.quiet (pwrResult 0xFF 0 0 c.target) := by
  simp only [State.doStopAnswer, cmd, stops, inTime, agrees, last, State.pwrSwitch, wakesNone, ↓reduceIte]

end
end

section
variable (stopped : c.stops = []) (wakes : c.wakes = d :: rest)
include stopped wakes

section
variable (inTime : s.now - c.since ≤ 1000 * wakeBound d c.stage) (noDie : ¬ (56 ≤ d ∧ d ≤ 59)) (test : Bool)
include inTime noDie

/-- A stage before the last is followed by the next. -/
theorem State.doWakeReady_next (more : c.stage < 3) : s.doWakeReady test =
    { s with pwr := { s.pwr with cmd := some { c with stage := c.stage + 1, since := s.now } } } := by
  simp only [State.doWakeReady, cmd, stopped, wakes, inTime.not_gt, noDie, more, decide_false, Bool.false_eq_true, false_and,
    or_self, ↓reduceIte]

theorem State.doWakeReady_last (last : c.stage ≥ 3) (alone : rest = []) : s.doWakeReady test =
    (s.domainOn d test).pwrDone c.slot c.desc true c.quiet (pwrResult 0xFF 0 0 c.target) := by
  simp only [State.doWakeReady, cmd, stopped, wakes, inTime.not_gt, noDie, last.not_gt, alone, decide_false, Bool.false_eq_true,
    false_and, or_self, ↓reduceIte]

end

theorem State.doWakeTimeout_late (late : s.now - c.since > 1000 * wakeBound d c.stage) : s.doWakeTimeout = s.wakeFailed c d := by
  simp only [State.doWakeTimeout, cmd, stopped, wakes, late, ↓reduceIte]

end
end

/-! ### Wake events (R376, R379) -/

section
variable (off : s.aon.mode = 1 ∨ s.aon.mode = 2)
include off

theorem State.doWakeGpio_off (on : F.PWR_WAKE_CFG_WAKE_EN.get s.aon.wakeCfg = 1) :
    s.doWakeGpio = { s with aon := { s.aon with wake := true } } := by
  have notRunning : s.aon.mode ≠ 0 := by omega
  exact if_pos ⟨by rwa [if_neg notRunning], off.imp_right .inl⟩

theorem State.doPwrfailRise_off (low : s.aon.pwrfail = false) :
    s.doPwrfailRise = { s with aon := { s.aon with pwrfail := true, wake := true } } := by
  rcases off with mode | mode <;> simp [State.doPwrfailRise, low, mode]

end

theorem State.doCalendarWake_due (keepWarm : s.aon.mode = 1) (byCmd : s.aon.byCmd = true) (timed : s.aon.wakeAfter ≠ 0)
    (due : s.aon.ns - s.aon.entered ≥ s.aon.wakeAfter * 1000000000) :
    s.doCalendarWake = { s with aon := { s.aon with wake := true } } := if_pos ⟨keepWarm, byCmd, timed, due⟩

end
end Sys2Proof.Machine

namespace Sys2Proof
open Machine

/-- Settles O39: a PTM dialogue of the chosen port, and a sample by where its reading lies. -/
theorem sensorSteps : Obligations.SensorSteps := by
  unfold Obligations.SensorSteps
  refine ⟨fun s t dt p master hf on chosen pcie upstream up => ?_, fun s t u dt n l j peak w y hf read hpeak shown hw hy => ?_⟩
  · rw [exec_ptmCapture hf, State.doPtm_chosen on chosen pcie upstream up]
  · subst hpeak hw hy
    refine ⟨fun below cool => ?_, fun above on first cool v raised => ?_, fun below hot first v raised => ?_⟩
    · rw [exec_thermalSample hf, State.doThermal_cool read shown below cool]
      rfl
    · rw [exec_thermalSample hf, State.doThermal_warns read shown above on first cool raised]
      rfl
    · rw [exec_thermalSample hf, State.doThermal_alarms read shown below hot first raised]
      rfl

/-- Settles O37: a dump that is due, and a sample that finds room or none. -/
theorem counterSteps : Obligations.CounterSteps := by
  unfold Obligations.CounterSteps
  refine ⟨fun s t dt hf on live due => ?_,
    fun s t dt skid work addr k e c r per hf counter engine period on live due works role => ⟨fun room => ?_, fun full => ?_⟩⟩
  · rw [exec_periodicDump hf, State.doPeriodicDump_due on live due]
  · rw [exec_engineSample hf, State.doEngineSample_queues counter engine period on live due works _ _ _ role room]
  · rw [exec_engineSample hf, State.doEngineSample_lost counter engine period on live due works _ _ _ full]

/-- Settles O38: each event of the resets, supplies and clocks by the lemma of what it does in the mode that it finds; a core
that is off sets nothing off. -/
theorem clockAndSupplySteps : Obligations.ClockAndSupplySteps := by
  unfold Obligations.ClockAndSupplySteps
  refine ⟨fun s t dt ht => ?_, fun s t dt hf => ⟨fun locked => ?_, fun locked => ?_, fun b begun due => ?_⟩⟩
  · subst ht
    refine ⟨fun low held runs noDecant => ?_, fun low held keepWarm => ?_, fun x off => ?_,
      fun x u powered => ⟨fun off comes => ?_, fun held ref => ?_⟩, fun runs ticks => ?_, fun runs => ?_, fun off => ?_,
      fun runs noDecant heeded => ?_, fun keepWarm => ?_, fun x runs => ?_, fun x held ref => ?_⟩
    · exact (exec_resetN ..).trans (next_settle (State.doResetN_runs held runs noDecant))
    · exact (exec_resetN ..).trans (next_settle (State.doResetN_keepWarm held keepWarm))
    · exact (exec_coldBoot ..).trans (next_settle (State.doColdBoot_first off x))
    · exact (exec_coldBoot ..).trans (next_settle (State.doColdBoot_off powered x off comes))
    · exact (exec_coldBoot ..).trans (next_settle (State.doColdBoot_reset powered x held ref))
    · exact (exec_xtalFail ..).trans (next_settle (State.doXtalFail_runs runs ticks))
    · exact (exec_xtalRestart ..).trans (next_settle (State.doXtalRestart_runs runs))
    · exact (exec_mainSupplyLoss ..).trans (next_settle_off (State.doMainLoss_off off) off)
    · exact (exec_mainSupplyLoss ..).trans (next_settle (State.doMainLoss_runs runs noDecant heeded))
    · exact (exec_vauxDrop ..).trans (next_settle_off (State.doVauxDrop_keepWarm keepWarm) (keepWarm.trans_ne (by decide)))
    · exact (exec_refReturn ..).trans (next_settle (State.doRefReturn_runs runs x))
    · exact (exec_refReturn ..).trans (next_settle (State.doRefReturn_reset held ref x))
  · rw [exec_refLost hf, State.doRefLost_ref locked]
  · rw [exec_refLost hf, State.doRefLost_pll locked]
  · rw [exec_holdoverEnd hf, State.doHoldoverEnd_due begun due]

/-- Settles O31: an answer to STOP, a stage of a wake and a wake event, each by the lemma of what it does. -/
theorem domainSteps : Obligations.DomainSteps := by
  unfold Obligations.DomainSteps
  refine ⟨fun s t dt d c rest late hf cmd stops hlate => ?_, fun s t dt d c rest hf cmd stopped wakes => ?_,
    fun s t dt ht off => ?_⟩
  · have inTime : late = false → ¬ t.now - c.since > 1000 * t.fld R.PWR_CFG F.PWR_CFG_STOP_TMO_US := fun h =>
      of_decide_eq_false (hlate.symm.trans h)
    refine ⟨fun h => ?_, fun r h reason => ?_, fun h agrees more => ?_, fun h agrees last wakesNone => ?_, fun due => ?_⟩
    · rw [exec_stopAnswer hf, State.doStopAnswer_late cmd stops (of_decide_eq_true (hlate.symm.trans h)), State.pwrRefuse]
    · rw [exec_stopAnswer hf, State.doStopAnswer_refuses cmd stops (inTime h) reason, State.pwrRefuse]
    · rw [exec_stopAnswer hf, State.doStopAnswer_next cmd stops (inTime h) agrees more]
    · rw [exec_stopAnswer hf, State.doStopAnswer_last cmd stops (inTime h) agrees last wakesNone]
    · rw [exec_stopTimeout hf, State.doStopTimeout_due cmd stops due, State.pwrRefuse]
  · refine ⟨fun test inTime noDie => ⟨fun more => ?_, fun last alone => ?_⟩, fun late => ?_⟩
    · rw [exec_domainWakeReady hf, State.doWakeReady_next cmd stopped wakes inTime noDie test more]
    · rw [exec_domainWakeReady hf, State.doWakeReady_last cmd stopped wakes inTime noDie test last alone]
    · rw [exec_wakeTimeout hf, State.doWakeTimeout_late cmd stopped wakes late, State.wakeFailed]
  · subst ht
    have notRunning : (s.elapse dt).aon.mode ≠ 0 := by omega
    refine ⟨fun on => ?_, fun keepWarm byCmd timed due => ?_, fun low => ?_⟩
    · exact (exec_wakeGpio ..).trans (next_settle_off (State.doWakeGpio_off off on) notRunning)
    · exact (exec_calendarWake ..).trans (next_settle_off (State.doCalendarWake_due keepWarm byCmd timed due) notRunning)
    · exact (exec_pwrfailRise ..).trans (next_settle_off (State.doPwrfailRise_off off low) notRunning)

end Sys2Proof

namespace Sys2Proof.Machine
section
variable {s : State}

/-! ### Cupping (R488) -/

theorem State.cupSlack_only (s : State) (l : List (Nat × Int)) : s.OnlyRegs (s.cupSlack l) := by
  refine foldl_keeps State.OnlyRegs _ (fun _ => rfl) State.OnlyRegs.trans (fun u k => ?_) _ s
  split
  · rfl
  · split <;> rfl

theorem State.cupRings_only (s : State) (l : List (Nat × Nat)) : s.OnlyRegs (s.cupRings l) := by
  refine foldl_keeps State.OnlyRegs _ (fun _ => rfl) State.OnlyRegs.trans (fun u k => ?_) _ s
  split
  · rfl
  · split <;> rfl

theorem State.OnlyRegs.age {u : State} (h : s.OnlyRegs u) : u.age = s.age := by rw [h]

/-- What a round whose worst slack is `w` shows in AGE_STAT. -/
def State.roundShown (u : State) (w : Int) : State :=
  (u.setFld R.AGE_STAT F.AGE_STAT_ROUNDS ((u.fld R.AGE_STAT F.AGE_STAT_ROUNDS + 1) % 2 ^ 30)).setFld
    R.AGE_STAT F.AGE_STAT_WORST_SLACK (BitVec.ofInt 8 w).toNat

theorem State.roundShown_age (u : State) (w : Int) : (u.roundShown w).age = u.age := rfl

theorem State.roundShown_fld (u : State) (w : Int) (f : Fld) :
    (u.roundShown w).fld R.AGE_MARGIN_CFG f = u.fld R.AGE_MARGIN_CFG f := by
  have other : R.AGE_MARGIN_CFG ≠ R.AGE_STAT := by decide
  simp only [State.fld, State.roundShown, State.raw_setFld_ne _ _ _ other]

/-- A round in which no eye is measured touches no port and no lane. -/
theorem State.cupPorts_noEyes (s : State) (ports : List Nat) : ports.foldl (fun u p => u.cupPort [] p) s = s :=
  foldl_keep _ _ _ fun _ _ => rfl

/-- A round that measures slack alone, and finds enough of it, stores its readings and counts itself. -/
theorem State.doCupping_slack {c : Cup} {e : Nat × Int} {es : List (Nat × Int)} {w : Int} {u : State}
    (on : s.flag R.AGE_CFG F.AGE_CFG_CUP_EN = true) (live : s.dct.quiet = false)
    (due : s.now - s.age.roundAt ≥ 60000000000 * s.fld R.AGE_CFG F.AGE_CFG_PERIOD_MIN) (noEyes : c.eyes = [])
    (slack : c.slack = e :: es) (worst : w = es.foldl (fun m x => min m x.2) e.2)
    (stored : u = ((s.onAge fun a => { a with roundAt := s.now }).cupSlack c.slack).cupRings c.rings) (noClear : s.age.clr = false)
    (enough : w ≥ (u.fld R.AGE_MARGIN_CFG F.AGE_MARGIN_CFG_SLACK_MIN : Int)) (ok : Bool) : s.doCupping c ok = u.roundShown w := by
  have clr : (u.roundShown w).age.clr = false := by
    rw [State.roundShown_age, stored, (State.cupRings_only _ _).age, (State.cupSlack_only _ _).age]
    exact noClear
  have margin : ¬ w < ((u.roundShown w).fld R.AGE_MARGIN_CFG F.AGE_MARGIN_CFG_SLACK_MIN : Int) := by
    rw [State.roundShown_fld]; exact enough.not_gt
  simp only [State.doCupping, on, live, due.not_gt, noEyes, Bool.not_true, Bool.false_eq_true, or_self, ↓reduceIte, List.filter_nil,
    ← stored, State.cupPorts_noEyes, List.foldl_nil]
  simp only [slack, ← worst, ← State.roundShown.eq_def, clr, margin, Option.getD_some, Option.isSome_some, and_false,
    Bool.false_eq_true, ↓reduceIte]

/-! ### The guardband (R489) -/

theorem State.doSlackSample_enough {worst : Int} (enough : worst ≥ (s.fld R.AGE_MARGIN_CFG F.AGE_MARGIN_CFG_SLACK_CRIT : Int))
    (ok : Bool) : s.doSlackSample worst ok = s := if_neg fun h => enough.not_gt h.1

section
variable {worst : Int} (critical : worst < (s.fld R.AGE_MARGIN_CFG F.AGE_MARGIN_CFG_SLACK_CRIT : Int))
  (first : s.age.lastFast = none) (ok : Bool)
include critical first

theorem State.doSlackSample_critical : s.doSlackSample worst ok = s.gbStep 1 worst ok := by
  simp only [State.doSlackSample, critical, first, and_self, ↓reduceIte]

theorem State.doSlackSample_raises (fits : s.age.gb + 5 ≤ s.fld R.AGE_MARGIN_CFG F.AGE_MARGIN_CFG_GB_MAX)
    (volts : s.vcore (s.age.gb + 5) ≤ 800) : s.doSlackSample worst ok =
      (s.onAge fun a => { a with lastFast := some s.now }).setGb (s.age.gb + 5) 1 worst ok :=
  (State.doSlackSample_critical critical first ok).trans (if_neg (by omega))

theorem State.doSlackSample_low (past : s.age.gb + 5 > s.fld R.AGE_MARGIN_CFG F.AGE_MARGIN_CFG_GB_MAX) :
    s.doSlackSample worst ok = s.raise Flt.AGE_MARGIN_LOW :=
  (State.doSlackSample_critical critical first ok).trans (if_pos (.inl past))

end

/-! ### Engines, rows and the ledger (R492, R493, R495, R498) -/

theorem State.doEngineWatchdog_stops {e : Nat} (works : s.engRetired e = false) (runs : s.age.stopped.contains e = false) :
    s.doEngineWatchdog e = (s.raise Flt.EC_WATCHDOG e).stopEngine e 2 := if_neg (by rw [works, runs]; decide)

theorem State.doEngineStop_replaces {e : Nat} (lowest : (List.range 144).find? s.age.stopped.contains = some e) :
    s.doEngineStop true = ((s.onAge fun a => { a with fwBad := false }).replaceEngine e).ageRecord 3 1 e 0
      (faultId Flt.EC_MEM_COR.source (tget 2 s.age.stopWhy e)) := by
  simp only [State.doEngineStop, lowest, Bool.not_true, Bool.false_eq_true, and_false, ↓reduceIte]

section
variable (flips : s.tbm.flips = []) (poison : s.tbm.poison = [])
include flips poison

theorem State.wordBad_clean (a : Nat) : s.wordBad a = false := by simp [State.wordBad, flips, poison]

/-- Of a table memory without errors, no word is corrected or marked while its row is copied. -/
theorem State.rowWords_clean (words : List Nat) : words.foldl (init := s) (fun s w =>
    if s.wordBad (32 * w) then (s.readWord 15 w).poisonWord w
    else if s.wordCor w then (s.readWord 15 w).rewriteWord w else s) = s :=
  foldl_keep _ _ _ fun w _ => by
    simp only [State.wordBad_clean flips poison, State.wordCor, flips, List.any_nil, Bool.false_eq_true, ↓reduceIte]

/-- The first row that waits is copied into the next spare row of its die. -/
theorem State.doRowRepair_copies {row f : Nat} {rest : List (Nat × Nat)} (waits : s.age.rowDue = (row, f) :: rest)
    (noDecant : s.decanting = false) (inService : s.tbm.out = none) (spare : s.rowsUsed (row / 65536) < 128) :
    s.doRowRepair = ((((s.setFld (R.AGE_ROWS (row / 65536)) F.AGE_ROWS_USED (s.rowsUsed (row / 65536) + 1)).onAge fun a => { a with
      rowDue := a.rowDue.filter (·.1 ≠ row), rowCor := tdel a.rowCor row
      remap := tput a.remap row (s.rowsUsed (row / 65536)) }).raise Flt.AGE_ROW_SPARED 0
        (ageInfo (row / 65536) (row % 65536))).ageRecord 2 3 (row / 65536) (row % 65536) f) := by
  have found : (s.age.rowDue.find? fun e => s.tbm.out ≠ some (e.1 / 65536) ∧ s.rowsUsed (e.1 / 65536) < 128) = some (row, f) := by
    rw [waits, List.find?_cons_of_pos]
    simp [inService, spare]
  simp only [State.doRowRepair, found, noDecant, State.rowWords_clean flips poison, Bool.false_eq_true, ↓reduceIte]

end

theorem State.doLedgerSummary_due (due : s.age.onNs - s.age.lastSum ≥ 86400000000000) :
    s.doLedgerSummary = (s.onAge fun a => { a with lastSum := a.onNs }).ledgerPut 1 s.summaryBody := if_pos due

end
end Sys2Proof.Machine

namespace Sys2Proof
open Machine

/-- Settles O36: a round, a slack sample, an engine that stops or is replaced, a row that is copied and a summary that is due. -/
theorem ageingSteps : Obligations.AgeingSteps := by
  unfold Obligations.AgeingSteps
  refine ⟨fun s t u dt c e es w ok hf on live due noEyes slack worst stored noClear enough => ?_,
    fun s t dt worst ok hf => ⟨fun enough => ?_, fun critical first => ⟨fun fits volts => ?_, fun past => ?_⟩⟩,
    fun s t dt e hf works runs => ?_, fun s t dt e hf lowest => ?_,
    fun s t dt row f d n rest hf waits die noDecant inService used spare flips poison => ?_, fun s t dt hf due => ?_⟩
  · rw [exec_cuppingRound hf, State.doCupping_slack on live due noEyes slack worst stored noClear enough, State.roundShown]
  · rw [exec_slackSample hf, State.doSlackSample_enough enough]
  · rw [exec_slackSample hf, State.doSlackSample_raises critical first ok fits volts]
  · rw [exec_slackSample hf, State.doSlackSample_low critical first ok past]
  · rw [exec_engineWatchdog hf, State.doEngineWatchdog_stops works runs]
  · rw [exec_engineStop hf, State.doEngineStop_replaces lowest]
  · subst die used
    rw [exec_rowRepairDone hf, State.doRowRepair_copies flips poison waits noDecant inService spare]
  · rw [exec_ledgerSummary hf, State.doLedgerSummary_due due]

end Sys2Proof

namespace Sys2Proof.Machine
section
variable {s : State}

/-! ### What a record of the EVR leaves as it was (R37 to R44) -/

/-- Records may be written, with the interrupts that follow, and nothing else. -/
def State.OnlyRecords (s u : State) : Prop :=
  u = { s with out := u.out, ctl := u.ctl, xbc := u.xbc, cfg := { s.cfg with regs := u.cfg.regs } }

theorem State.OnlyRecords.trans {a b c : State} (h : a.OnlyRecords b) (g : b.OnlyRecords c) : a.OnlyRecords c := by
  unfold State.OnlyRecords at *; rw [g, h]

theorem State.OnlyRecords.spc {u : State} (h : s.OnlyRecords u) : u.spc = s.spc := by rw [h]

theorem State.OnlyRecords.tbm {u : State} (h : s.OnlyRecords u) : u.tbm = s.tbm := by rw [h]

theorem State.fire_only (s : State) (r : RingId) : s.OnlyRecords (s.fire r) := by
  unfold State.fire
  split <;> rfl

theorem State.moderate_only (s : State) (r : RingId) (force : Bool) : s.OnlyRecords (s.moderate r force) := by
  unfold State.moderate
  dsimp only
  split
  · exact State.OnlyRecords.trans (b := s.setRing r _) rfl (State.fire_only _ r)
  · rfl

theorem State.writeRecord_only (s : State) (r : RingId) (bytes : List Byte) (force : Bool) :
    s.OnlyRecords (s.writeRecord r bytes force) := by
  unfold State.writeRecord
  dsimp only
  refine State.OnlyRecords.trans ?_ (State.moderate_only _ r force)
  rfl

theorem State.event_only (s : State) (e : Rec) : s.OnlyRecords (s.event e) := by
  unfold State.event
  split
  · exact s.writeRecord_only _ _ _
  · split
    · rfl
    · dsimp only [State.loseRecord]
      split <;> rfl

/-! ### The arbiter of a die (R438 to R443) -/

/-- Whether a request is a member of E. -/
def TmReq.inE (r : TmReq) : Bool := r.backoff == 0 || r.urgent.isSome

section
variable {v : State} {d cycles l : Nat} {asks : List TmAsk} {y x : TmDie} {e : List TmReq}
  (passed : y = (s.die d).pass cycles) (up : y.up = true) (filled : y.filling = false)
  (adopted : v = if asks ≠ [] ∨ (heads y.waiting).any TmReq.inE = true then (s.setDie d y).adoptArb d else s.setDie d y)
  (joined : x = v.join d asks (v.die d)) (members : e = (heads x.waiting).filter TmReq.inE)
  (lfsr : l = lfsrStep (v.fld (R.TM_LFSR d) F.TM_LFSR_STATE))

@[simp] theorem State.die_setDie (s : State) (d : Nat) (x : TmDie) : (s.setDie d x).die d = x := by
  simp [State.die, State.setDie]

theorem State.adoptArb_phase (s : State) (d : Nat) : ((s.adoptArb d).die d).owner = (s.die d).owner ∧
    ((s.adoptArb d).die d).left = (s.die d).left ∧ (s.adoptArb d).decanting = s.decanting := by
  unfold State.adoptArb
  dsimp only
  split
  · exact ⟨rfl, rfl, rfl⟩
  · exact ⟨by rw [State.die_setDie], by rw [State.die_setDie], rfl⟩

include adopted joined in
/-- The requests that join leave the owner and its data phase. -/
theorem State.phase_owner : x.owner = y.owner ∧ x.left = y.left ∧ v.decanting = s.decanting := by
  subst joined adopted
  change (State.die _ d).owner = _ ∧ (State.die _ d).left = _ ∧ _
  split
  · obtain ⟨owner, left, decant⟩ := (s.setDie d y).adoptArb_phase d
    rw [State.die_setDie] at owner left
    exact ⟨owner, left, decant⟩
  · rw [State.die_setDie]; exact ⟨rfl, rfl, rfl⟩

theorem State.phase_opens (opened : y.owner = none ∨ y.left = 0 ∨ (s.decanting = true ∧ ∃ o, y.owner = some o ∧ o.num ≠ 31)) :
    (y.owner.isNone || y.left == 0 || s.tbm.out.isSome || (s.decanting && (y.owner.any fun o => o.num ≠ 31))) = true := by
  rcases opened with none | last | ⟨decant, o, owned, other⟩
  · simp [none]
  · simp [last]
  · simp [decant, owned, other]

section
variable (free : y.owner = none ∨ y.left = 0)
include passed up filled adopted joined members free

/-- With no member of E no phase is taken, and the LFSR stands. -/
theorem State.doArbPhase_noMember (alone : e = []) : s.doArbPhase d cycles asks = v.setDie d x := by
  have opens := State.phase_opens (s := s) (y := y) (free.imp_right .inl)
  have noYield : ∀ o, x.yields o [] = false := fun o => Bool.and_false _
  simp only [State.doArbPhase, ← passed, up, filled, opens, and_true, Bool.not_true, Bool.false_eq_true, or_self, ↓reduceIte,
    ← TmReq.inE.eq_def, ← adopted, ← joined, ← members, alone, noYield]
  cases x.owner with
  | none => simp only [ne_eq, not_true_eq_false, and_false, ↓reduceIte]
  | some o => simp only [ne_eq, not_true_eq_false, and_false, ↓reduceIte, ite_self]

include lfsr in
theorem State.doArbPhase_wins {w : TmReq} (some : e ≠ []) (wins : v.arbWin d l e = .some w) :
    s.doArbPhase d cycles asks = (v.setFld (R.TM_LFSR d) F.TM_LFSR_STATE l).grant d x w e := by
  have opens := State.phase_opens (s := s) (y := y) (free.imp_right .inl)
  obtain ⟨owner, left, -⟩ := State.phase_owner adopted joined
  have idle : (if x.left = 0 ∧ e ≠ [] then none else x.owner) = none := by
    rw [owner, left]
    rcases free with unowned | last
    · rw [unowned, ite_self]
    · exact if_pos ⟨last, some⟩
  simp only [State.doArbPhase, ← passed, up, filled, opens, and_true, Bool.not_true, Bool.false_eq_true, or_self, ↓reduceIte,
    ← TmReq.inE.eq_def, ← adopted, ← joined, ← members, ← lfsr, idle, some, wins]

end

include passed up filled adopted joined members lfsr in
theorem State.doArbPhase_takes {o w : TmReq} (decant : s.decanting = true) (owned : y.owner = some o) (busy : y.left ≠ 0)
    (yields : x.yields o e = true) (dct : e.find? (fun r => r.num == 31) = some w) :
    s.doArbPhase d cycles asks =
      ((v.setFld (R.TM_LFSR d) F.TM_LFSR_STATE l).grant d x w e [{ o with done := 0 }]).count (R.TM_CNT d 2) := by
  have other : o.num ≠ 31 := fun h => by rw [TmDie.yields, h] at yields; exact Bool.false_ne_true yields
  have opens := State.phase_opens (s := s) (y := y) (.inr (.inr ⟨decant, o, owned, other⟩))
  obtain ⟨owner, left, active⟩ := State.phase_owner adopted joined
  have held : (if x.left = 0 ∧ e ≠ [] then none else x.owner) = some o := by
    rw [owner, left, if_neg fun h => busy h.1, owned]
  simp only [State.doArbPhase, ← passed, up, filled, opens, and_true, Bool.not_true, Bool.false_eq_true, or_self, ↓reduceIte,
    ← TmReq.inE.eq_def, ← adopted, ← joined, ← members, ← lfsr, held]
  simp only [active, decant, yields, dct, and_self, ↓reduceIte]

end

section
variable {d r cycles : Nat} {x : TmDie} {q : TmReq}

theorem State.doUrgent_starved (passed : x = (s.die d).pass cycles)
    (waits : (heads x.waiting).find? (fun q => q.num == r) = some q)
    (first : q.urgent = none) (starved : x.cycle - q.since ≥ s.fld (R.TM_ARB_CFG d) F.TM_ARB_CFG_STARVE) : s.doUrgent d r cycles =
      ((s.setDie d { x with waiting := putHead { q with urgent := some x.cycle } x.waiting }).count (R.TM_CNT d 4)).raise
        Flt.TBM_STARVE 0 (atBits r 29 5) d := by
  subst passed
  simp only [State.doUrgent, waits, first, starved, and_self, ↓reduceIte]

end

/-! ### Reads of table words (R430, R431, R435) -/

/-- A read of a word in force, with no bit upset before it. -/
theorem State.doWordRead_served {a : Nat} (r : Nat) (serves : s.dieServes a = true) (inForce : a < 2 ^ 29) :
    s.doWordRead r a [] = s.readWord r (a / 32) := by
  have notShadow : bitAt a 30 = false := Nat.testBit_lt_two_pow (by omega)
  have place : flipPlace a = a := by
    rw [flipPlace, notShadow, if_neg Bool.false_ne_true, Nat.mod_eq_of_lt inForce]
  rw [State.doWordRead, place, if_pos serves]
  rfl

theorem State.readWord_bad {w : Nat} (r : Nat) (bad : s.wordBad (32 * w) = true) : s.readWord r w =
    ((s.count (R.TBM_CNT 1)).tbmRaise Flt.TBM_UNCORR r (32 * w)).rowCount (s.phys (32 * w)) true := if_pos bad

section
variable {w : Nat} (r : Nat) (good : s.wordBad (32 * w) = false)
include good

theorem State.readWord_good (clean : s.tbm.flips.filter (fun e => e.1 / 32 == w && (eccOf e.2).fixes) = []) : s.readWord r w = s := by
  simp only [State.readWord, good, clean, List.length_nil, Bool.false_eq_true, ↓reduceIte]

/-- A correctable bit is counted, the word joins the revisit list, and the correction is reported. -/
theorem State.readWord_corrects {u : State} (one : (s.tbm.flips.filter fun e => e.1 / 32 == w && (eccOf e.2).fixes).length = 1)
    (fresh : s.tbm.revisit.contains w = false) (room : s.tbm.revisit.length < 64)
    (counted : u = s.count (R.TM_CNT (s.phys (32 * w) / 2 ^ 27 % 4) 5)) : s.readWord r w =
      (({ u with tbm := { u.tbm with revisit := u.tbm.revisit ++ [w] } } : State).tbmRaise Flt.TBM_COR r (32 * w)).rowCount
        (s.phys (32 * w)) false := by
  subst counted
  simp only [State.readWord, good, one, State.count_tbm, fresh, room.not_ge, one_ne_zero, Bool.false_eq_true, ↓reduceIte]

end

/-! ### The scrubs and the fill (R434, R436, R437) -/

section
variable (flips : s.tbm.flips = []) (poison : s.tbm.poison = [])
include flips poison

/-- A scrub of words without errors changes nothing. -/
theorem State.scrubWord_clean (r w : Nat) : s.scrubWord r w = s := by
  simp only [State.scrubWord, State.wordBad_clean flips poison, State.wordCor, flips, List.any_nil, Bool.false_eq_true, ↓reduceIte]

theorem State.scrubWords_clean (r : Nat) (word : Nat → Nat) (l : List Nat) : l.foldl (fun u k => u.scrubWord r (word k)) s = s :=
  foldl_keep _ _ _ fun k _ => State.scrubWord_clean flips poison r (word k)

omit flips poison in
theorem State.relocBusy_of {d : Nat} (out : s.tbm.out = some d) (readable : s.tbm.gone.contains d = false)
    (more : s.tbm.copied < s.relocBlocks) : s.relocBusy = true := by
  rw [State.relocBusy, out, Option.any_some, readable, decide_eq_true more]
  rfl

/-- The copier passes to the next block. -/
theorem State.doRelocBlock_passes {d : Nat} (out : s.tbm.out = some d) (noDecant : s.decanting = false)
    (noRevisit : s.tbm.revisit = []) (readable : s.tbm.gone.contains d = false) (more : s.tbm.copied + 1 < s.relocBlocks) :
    s.doRelocBlock = { s with tbm := { s.tbm with copied := s.tbm.copied + 1 } } := by
  have busy : s.relocBusy = true := State.relocBusy_of out readable (Nat.lt_of_succ_lt more)
  simp only [State.doRelocBlock, out, busy, noDecant, State.rowWords_clean flips poison, noRevisit, List.filter_nil]
  rw [if_neg (by decide)]
  rw [State.relocBlocks, out] at more
  refine if_pos (State.relocBusy_of (d := d) ?_ ?_ ?_)
  · rfl
  · exact readable
  · exact more

end

section
variable {d : Nat} (on : s.flag R.TBM_CFG F.TBM_CFG_SCRUB_EN = true) (noDecant : s.decanting = false)
  (powered : s.pdOn (56 + d) = true) (up : (s.die d).up = true) (filled : (s.die d).filling = false) (inService : s.tbm.out = none)
  (noRevisit : s.tbm.revisit = [])
include on noDecant powered up filled inService noRevisit

theorem State.doPatrol_early (early : s.patrolDue d = false) : s.doPatrol d [] = s := by
  simp only [State.doPatrol, State.upsetBits, List.foldl_nil, on, noDecant, powered, up, filled, inService, noRevisit, early,
    List.find?_nil, Bool.not_true, Bool.not_false, Bool.false_eq_true, reduceCtorEq, or_self, ↓reduceIte]

theorem State.doPatrol_due (flips : s.tbm.flips = []) (poison : s.tbm.poison = []) (due : s.patrolDue d = true) :
    s.doPatrol d [] = s.setDie d { s.die d with
      patrol := ((s.die d).patrol + 256) % 2 ^ 27, patrolAt := some s.now } := by
  simp only [State.doPatrol, State.upsetBits, List.foldl_nil, on, noDecant, powered, up, filled, inService, noRevisit, due,
    List.find?_nil, State.scrubWords_clean flips poison, Bool.not_true, Bool.false_eq_true, reduceCtorEq, or_self, ↓reduceIte]

end

theorem State.doOndieScrub_early (early : s.ondieDue = false) : s.doOndieScrub = s := if_neg (by rw [early]; decide)

section
variable {e : Nat × Nat} {u : State} (due : s.ondieDue = true) (started : u = { s with tbm := { s.tbm with ondieAt := some s.now } })
  (single : s.cfg.faulty = [e])
include due started single

theorem State.doOndieScrub_repairs {n a : Nat} (size : n = entrySize e.1) (place : a = onDieBase e.1 + n * e.2)
    (clean : s.shadowClean e.1 e.2 = true) (good : s.cfg.faultySh.contains e = false) :
    s.doOndieScrub = ({ u with
      tmg := { u.tmg with found := u.tmg.found.filter (· ≠ e) }
      cfg := { u.cfg with faulty := [], onDie := Mem.wrN 0 u.cfg.onDie a (Mem.rdN 0 u.cfg.onDieSh a n) } } : State).count
        (R.TBM_CNT 4) := by
  subst started size place
  rw [State.doOndieScrub, if_pos due, State.ondiePass]
  simp only [single, List.foldl_cons, List.foldl_nil]
  exact (if_pos ⟨clean, by rw [good]; rfl⟩).trans (by rw [List.filter_singleton, decide_eq_false (not_not.2 rfl)]; rfl)

theorem State.doOndieScrub_reports (bad : s.shadowClean e.1 e.2 = false ∨ s.cfg.faultySh.contains e = true) :
    s.doOndieScrub = u.raise Flt.TBM_ONDIE_PARITY 0 (atBits e.1 32 8 ||| atBits e.2 0 16) := by
  subst started
  rw [State.doOndieScrub, if_pos due, State.ondiePass]
  simp only [single, List.foldl_cons, List.foldl_nil]
  refine if_neg fun h => bad.elim (fun dirty => Bool.false_ne_true (dirty.symm.trans h.1)) fun faulty => ?_
  rw [faulty] at h
  exact Bool.false_ne_true h.2

end

theorem State.doFillDone_filling {d : Nat} (filling : (s.die d).filling = true) :
    s.doFillDone d = (s.zeroDie d).setDie d { s.die d with filling := false } := if_pos filling

/-! ### The failure of a die (R445, R447) -/

/-- Neither the dies nor which of them are gone or spared out change. -/
def State.SameDies (s u : State) : Prop := u.tbm.gone = s.tbm.gone ∧ u.tbm.dies = s.tbm.dies ∧ u.tbm.out = s.tbm.out

theorem State.allCtxLost_tbm (s : State) : s.allCtxLost.tbm = s.tbm :=
  foldl_keeps (fun a b : State => b.tbm = a.tbm) State.ctxLost (fun _ => rfl) (fun _ _ _ h g => g.trans h) (fun _ _ => rfl) _ s

theorem State.regionsMoved_tbm (s : State) (d dst : Nat) : (s.regionsMoved d dst).tbm = s.tbm := by
  refine foldl_keeps (fun a b : State => b.tbm = a.tbm) _ (fun _ => rfl) (fun _ _ _ h g => g.trans h) (fun u k => ?_) _ s
  dsimp only
  split <;> rfl

/-- A failed die loses its contents, and no other die fails with it. -/
theorem State.dieLost_dies (s : State) (d : Nat) : s.SameDies (s.dieLost d) := by
  unfold State.dieLost
  dsimp only
  split
  · rw [State.SameDies, State.allCtxLost_tbm]
    exact ⟨rfl, rfl, rfl⟩
  · exact ⟨rfl, rfl, rfl⟩

section
variable {d : Nat} (powered : s.pdOn (56 + d) = true) (inService : s.tbm.gone.contains d = false)
include powered inService

/-- DIE_FAIL takes the die out of service; one die is then spared out. -/
theorem State.doDieFail_fails : (s.doDieFail d).tbm.gone = s.tbm.gone ++ [d] ∧ ((s.doDieFail d).die d).up = false ∧
    (s.doDieFail d).tbm.out.isSome = true := by
  unfold State.doDieFail
  rw [if_neg (by rw [powered, inService]; decide)]
  dsimp only
  generalize lost : State.dieLost _ d = l
  obtain ⟨gone, dies, out⟩ := lost ▸ State.dieLost_dies _ d
  have down : (l.die d).up = false := by rw [State.die, dies, tget_tput]
  split
  · rw [State.die, State.regionsMoved_tbm]
    exact ⟨gone, down, rfl⟩
  · by_cases spared : l.tbm.out.isNone = true
    · rw [if_pos spared]
      exact ⟨gone, down, rfl⟩
    · rw [if_neg spared]
      exact ⟨gone, down, Option.isSome_iff_ne_none.2 fun h => spared (Option.isNone_iff_eq_none.2 h)⟩

end

theorem State.ledgerPut_tbm (s : State) (typ : Nat) (body : List Byte) : (s.ledgerPut typ body).tbm = s.tbm := by
  have turn : s.ledgerTurn.tbm = s.tbm :=
    foldl_keeps (fun a b : State => b.tbm = a.tbm) (fun u r => u.ledgerAppend (leAt r 0 2) ((r.drop 24).take 32)) (fun _ => rfl)
      (fun _ _ _ h g => g.trans h) (fun _ _ => rfl) _ _
  unfold State.ledgerPut
  split
  · split <;> rfl
  · split
    · exact turn
    · rfl

theorem State.ageRecord_tbm (s : State) (typ kind unit row fault : Nat) : (s.ageRecord typ kind unit row fault).tbm = s.tbm := by
  unfold State.ageRecord
  dsimp only
  rw [(State.event_only _ _).tbm, State.ledgerPut_tbm]
  split <;> rfl

/-- The ledger's record of the retirement leaves the dies as they are. -/
theorem State.doDieRetire_fails {d : Nat} (powered : s.pdOn (56 + d) = true) (inService : s.tbm.gone.contains d = false) :
    (s.doDieRetire d).tbm.gone = s.tbm.gone ++ [d] ∧ ((s.doDieRetire d).die d).up = false ∧
      (s.doDieRetire d).tbm.out.isSome = true := by
  have same : (s.doDieRetire d).tbm = (s.doDieFail d).tbm := by
    unfold State.doDieRetire
    dsimp only
    split
    · exact State.ageRecord_tbm _ _ _ _ _ _
    · rfl
  rw [State.die, same]
  exact State.doDieFail_fails powered inService

end
end Sys2Proof.Machine

namespace Sys2Proof
open Machine

/-- Settles O35: a phase that may run, a read, each scrub, the fill, a die that fails and the copier, each by the lemma of the
case. -/
theorem tableMemorySteps : Obligations.TableMemorySteps := by
  unfold Obligations.TableMemorySteps
  refine ⟨fun s t v dt d cycles asks y x e l hf passed up filled adopted joined members lfsr =>
      ⟨fun free alone => ?_, fun w free wins some => ?_, fun o w decant owned busy yields dct => ?_⟩,
    fun s t dt d r cycles x q hf passed waits first starved => ?_,
    fun s t dt r a hf serves inForce => ⟨fun bad => ?_, fun good clean => ?_, fun good one fresh room u counted => ?_⟩,
    fun s t dt d hf on noDecant powered up filled inService flips poison noRevisit => ⟨fun due => ?_, fun early => ?_⟩,
    fun s t dt hf early => ?_,
    fun s t u dt e hf single due started => ⟨fun n a size place clean good => ?_, fun bad => ?_⟩,
    fun s t dt d hf filling => ?_, fun s t dt d hf powered inService => ?_,
    fun s t dt d hf out noDecant flips poison noRevisit readable more => ?_⟩
  · rw [exec_arbitrationPhase hf, State.doArbPhase_noMember passed up filled adopted joined members free alone]
  · rw [exec_arbitrationPhase hf, State.doArbPhase_wins passed up filled adopted joined members lfsr free some wins]
  · rw [exec_arbitrationPhase hf,
      State.doArbPhase_takes passed up filled adopted joined members lfsr decant owned busy yields dct]
  · rw [exec_urgent hf, State.doUrgent_starved passed waits first starved]
  · rw [exec_tableWordRead hf, State.doWordRead_served r serves inForce, State.readWord_bad r bad]
  · rw [exec_tableWordRead hf, State.doWordRead_served r serves inForce, State.readWord_good r good clean]
  · rw [exec_tableWordRead hf, State.doWordRead_served r serves inForce, State.readWord_corrects r good one fresh room counted]
  · rw [exec_patrolScrub hf, State.doPatrol_due on noDecant powered up filled inService noRevisit flips poison due]
  · rw [exec_patrolScrub hf, State.doPatrol_early on noDecant powered up filled inService noRevisit early]
  · rw [exec_ondieScrub hf, State.doOndieScrub_early early]
  · rw [exec_ondieScrub hf, State.doOndieScrub_repairs due started single size place clean good]
  · rw [exec_ondieScrub hf, State.doOndieScrub_reports due started single bad]
  · rw [exec_fillDone hf, State.doFillDone_filling filling]
  · exact ⟨_, exec_dieFail hf d, State.doDieRetire_fails powered inService⟩
  · rw [exec_relocBlock hf, State.doRelocBlock_passes flips poison out noDecant noRevisit readable more]

end Sys2Proof

namespace Sys2Proof.Machine
section
variable {s : State}

/-! ### The balls of the slots (R342 step 7, R390, R393) -/

/-- Balls may move, and what the ports show of them, and nothing else. -/
def State.OnlyPins (s u : State) : Prop := u = { s with out := u.out, pcp := u.pcp }

theorem State.OnlyPins.trans {a b c : State} (h : a.OnlyPins b) (g : b.OnlyPins c) : a.OnlyPins c := by
  unfold State.OnlyPins at *; rw [g, h]

theorem State.OnlyPins.spc {u : State} (h : s.OnlyPins u) : u.spc = s.spc := by rw [h]

theorem State.setPerst_only (s : State) (p : Nat) (asserted : Bool) : s.OnlyPins (s.setPerst p asserted) := by
  unfold State.setPerst
  dsimp only
  split
  · rfl
  · split <;> rfl

theorem State.slotPg_only (s : State) (p : Nat) (good : Bool) : s.OnlyPins (s.slotPg p good) := by
  unfold State.slotPg
  dsimp only
  split
  · rfl
  · refine State.OnlyPins.trans ?_ (State.setPerst_only _ p true)
    rfl

theorem State.gates_only (s : State) (n : Nat) (on : Bool) : s.OnlyPins (s.gates n on) := by
  refine foldl_keeps State.OnlyPins _ (fun _ => rfl) (fun _ _ _ => State.OnlyPins.trans) (fun u r => ?_) _ s
  dsimp only
  split <;> rfl

/-- Slots and the registers of the pads may change, and nothing else. -/
def State.OnlySlots (s u : State) : Prop :=
  u = { s with out := u.out, pcp := u.pcp, spc := u.spc, pwr := u.pwr, cfg := { s.cfg with regs := u.cfg.regs } }

theorem State.OnlySlots.trans {a b c : State} (h : a.OnlySlots b) (g : b.OnlySlots c) : a.OnlySlots c := by
  unfold State.OnlySlots at *; rw [g, h]

theorem State.OnlyPins.slots {u : State} (h : s.OnlyPins u) : s.OnlySlots u := by
  unfold State.OnlySlots; rw [h]

theorem State.spcOff_only (s : State) (n cause next : Nat) : s.OnlySlots (s.spcOff n cause next) := by
  have off : s.OnlySlots ((s.setSpc n { s.spcSt n with
      st := next, pg := false, cause := cause, offAt := some (s.now : Int) }).gates n false) := by
    refine State.OnlySlots.trans ?_ (State.gates_only _ n false).slots
    rfl
  unfold State.spcOff
  dsimp only
  split
  · exact off.trans (State.slotPg_only _ _ false).slots
  · exact off

theorem State.spcDevice_only (s : State) : s.OnlySlots s.spcDevice := by
  refine foldl_keeps State.OnlySlots _ (fun _ => rfl) (fun _ _ _ => State.OnlySlots.trans) (fun u n => ?_) _ s
  dsimp only
  split
  · exact u.spcOff_only n 7 0
  · rfl

theorem State.slotsAndPads_only (s : State) : s.OnlySlots s.slotsAndPads := by
  have perst : s.spcDevice.OnlySlots (((s.cfg.ports.map (·.1)).filter s.hasSlot).foldl (fun u p => u.setPerst p true) s.spcDevice) :=
    foldl_keeps State.OnlySlots _ (fun _ => rfl) (fun _ _ _ => State.OnlySlots.trans) (fun u p => (u.setPerst_only p true).slots) _ _
  refine s.spcDevice_only.trans (perst.trans ?_)
  rfl

/-- Driving MAIN_EN moves a ball alone. -/
theorem State.mainEn_only (s : State) (w : Word) (on : Bool) : s.OnlyPins (s.mainEn w on) := by
  unfold State.mainEn
  split <;> rfl

/-! ### The seal, keep-warm and its list (R342, R349 to R353) -/

/-- The carafe that the seal saves is sealed, of format 1, with the next counter value, and holds the epoch, the tables, the
list and the fences' numbers as they stand. -/
theorem State.doSeal_saves (active : s.dct.active = true) (phase : s.dct.phase = 4) :
    ∃ c : Carafe, s.doSeal.dct = { s.dct with phase := 5 } ∧
      s.doSeal.aon = { s.aon with saveCtr := (s.aon.saveCtr + 1) % 2 ^ 64, carafe := some c } ∧ c.sealed = true ∧ c.format = 1 ∧
      c.counter = (s.aon.saveCtr + 1) % 2 ^ 64 ∧ c.epoch = s.cfg.epoch ∧ c.onDie = s.cfg.onDie ∧ c.list = s.dct.list ∧
      c.nextFence = s.mce.nextFence ∧ c.draining = s.dct.draining := by
  rw [State.doSeal, if_neg (by rw [active, phase]; decide)]
  exact ⟨_, rfl, rfl, rfl, rfl, rfl, rfl, rfl, rfl, rfl, rfl⟩

theorem State.doKeepWarmEntry_enters (active : s.dct.active = true) (phase : s.dct.phase = 5) :
    s.doKeepWarmEntry.aon.mode = 1 ∧ s.doKeepWarmEntry.aon.entered = s.aon.ns ∧
      s.doKeepWarmEntry.aon.byCmd = s.dct.cmd.isSome ∧ s.doKeepWarmEntry.aon.keepExpired = false ∧
      s.doKeepWarmEntry.aon.tsRec = s.now := by
  have slots : s.OnlySlots (if s.slotsAndPads.dct.cmd.isSome = true then
      s.slotsAndPads.mainEn (s.slotsAndPads.raw R.PWR_WAKE_CFG) false else s.slotsAndPads) := by
    split
    · exact s.slotsAndPads_only.trans (State.mainEn_only _ _ false).slots
    · exact s.slotsAndPads_only
  rw [State.doKeepWarmEntry, if_neg (by rw [active, phase]; decide)]
  dsimp only
  generalize (if s.slotsAndPads.dct.cmd.isSome = true then
      s.slotsAndPads.mainEn (s.slotsAndPads.raw R.PWR_WAKE_CFG) false else s.slotsAndPads) = u at slots ⊢
  rw [slots]
  exact ⟨rfl, rfl, rfl, rfl, rfl⟩

theorem State.doKeepExpired_due (keepWarm : s.aon.mode = 1) (limited : s.aon.keepMax ≠ 0)
    (due : s.aon.ns - s.aon.entered ≥ s.aon.keepMax * 3600000000000) :
    s.doKeepExpired = { s with aon := { s.aon with carafe := none, keepExpired := true } } := if_pos ⟨keepWarm, limited, due⟩

section
variable (noDecant : s.decanting = false) (room : s.ringRoom .evr ≠ 0) (noHeld : s.ctl.held = [])
include noDecant room noHeld

theorem State.doDecantAbandoned_entry {e : Nat × List Byte} {l : List (Nat × List Byte)} (next : s.dct.list = e :: l) :
    s.doDecantAbandoned = ({ s with dct := { s.dct with list := l } } : State).putEvr { code := 0x0500, data := e.2 } := by
  simp only [State.doDecantAbandoned, noDecant, room, noHeld, next, Bool.false_eq_true, ne_eq, not_true_eq_false, or_self, ↓reduceIte]

theorem State.doDecantAbandoned_ends (noEntry : s.dct.list = []) (noSummary : s.dct.summ = []) (due : s.dct.exitDue = true) :
    s.doDecantAbandoned = ({ s with dct := { s.dct with exitDue := false, phase := 0 } } : State).putEvr
      { code := 0x0501, data := leBytes 1 s.dct.lost } := by
  simp only [State.doDecantAbandoned, noDecant, room, noHeld, noEntry, noSummary, due, Bool.false_eq_true, ne_eq,
    not_true_eq_false, or_self, ↓reduceIte]

end

/-! ### The exit (R354, R355) -/

section
variable (x : BootIn) (mac : Bool) (keepWarm : s.aon.mode = 1) (high : s.aon.pwrfail = true)
  (woken : s.aon.byCmd = true → s.aon.wake = true)
include keepWarm high woken

theorem State.exit_starts : ¬ (s.aon.mode ≠ 1 ∨ (!s.aon.pwrfail) = true ∨ (s.aon.byCmd = true ∧ (!s.aon.wake) = true)) := by
  rintro (mode | low | ⟨byCmd, asleep⟩)
  · exact mode keepWarm
  · rw [high] at low; exact Bool.false_ne_true low
  · rw [woken byCmd] at asleep; exact Bool.false_ne_true asleep

theorem State.doKeepWarmExit_falls :
    s.doKeepWarmExit x mac true = { s with aon := { s.aon with pwrfail := false, fellAt := s.now } } :=
  (if_neg (State.exit_starts keepWarm high woken)).trans (if_pos rfl)

section
variable {u : State} (powered : u = ({ s with aon := { s.aon with
    main := true, carafe := s.aon.carafe.map (·.upset x.kept) } } : State).mainEn s.aon.wakeCfg true)
include powered

/-- An exit whose carafe a check refuses boots afresh, with what failed as LAST_EXIT. -/
theorem State.doKeepWarmExit_refused (refused : u.exitCheck (u.sec.otp.bootChain x) (mac && sramGood x.sram) ≠ 1) :
    s.doKeepWarmExit x mac false =
      u.bootFrom x 0 (u.exitCheck (u.sec.otp.bootChain x) (mac && sramGood x.sram)) u.resumeTime := by
  rw [State.doKeepWarmExit, if_neg (State.exit_starts keepWarm high woken), if_neg Bool.false_ne_true, ← powered]
  dsimp only
  split
  next ok _ => exact absurd ok refused
  next ok _ => exact absurd ok refused
  next => rfl

section
variable {c : Carafe} (carafe : u.aon.carafe = some c)
  (accepted : u.exitCheck (u.sec.otp.bootChain x) (mac && sramGood x.sram) = 1)
include carafe accepted

/-- A domain that does not wake at its second try leaves the part in reset. -/
theorem State.doKeepWarmExit_noWake (stays : (u.wakes x).1 = false) : s.doKeepWarmExit x mac false =
    { (u.wakes x).2 with aon := { (u.wakes x).2.aon with exitCode := 0, carafe := none } } := by
  rw [State.doKeepWarmExit, if_neg (State.exit_starts keepWarm high woken), if_neg Bool.false_ne_true, ← powered]
  simp only [accepted, carafe, stays, Bool.not_false, ↓reduceIte]

/-- The part with the carafe's contents given back, up to the milestones of the start. -/
def State.exitRestored (u : State) (x : BootIn) (c : Carafe) : State :=
  let w := (((({ u.coreOff with spc := u.spcAfter u.resumeTime (u.resumeTime - u.now) false } : State).coreStart x
    (u.sec.otp.bootChain x) u.aon.cause false u.resumeTime).restoreCarafe c).setFld
      R.DCT_STAT F.DCT_STAT_LAST_EXIT 1).setFld R.DCT_STAT F.DCT_STAT_TM_LOST c.lostDies
  w.setRaw (R.DCT_CNT 7) (BitVec.ofNat 64 (min w.aon.fallbacks (2 ^ 48 - 1)))

/-- An accepted carafe gives back its parts; an exit from a keep-warm by command completes that command besides. -/
theorem State.doKeepWarmExit_resumes (wakes : (u.wakes x).1 = true) {v : State} (restored : v = u.exitRestored x c) :
    s.doKeepWarmExit x mac false = ((if s.aon.byCmd = true then
      ((v.count (R.PWR_CNT 2)).count (R.PWR_CNT 0)).setRaw R.PWR_LAST (BitVec.ofNat 64 (pwrResult 0xFF 0 0 2)) else v).coreReady x
        (u.sec.otp.bootChain x) u.resumeTime).owedAfter c := by
  have byCmd : u.aon.byCmd = s.aon.byCmd := by rw [powered, (State.mainEn_only _ _ true)]
  subst restored
  rw [State.doKeepWarmExit, if_neg (State.exit_starts keepWarm high woken), if_neg Bool.false_ne_true, ← powered]
  simp only [accepted, carafe, wakes, byCmd, Bool.not_true, Bool.false_eq_true, ↓reduceIte]
  rfl

end
end
end

end
end Sys2Proof.Machine

namespace Sys2Proof
open Machine

/-- Settles O30: the seal, the entry, the expiry, each outcome of an exit and the delivery of the list, by the lemma of the case. -/
theorem keepWarmSteps : Obligations.KeepWarmSteps := by
  unfold Obligations.KeepWarmSteps
  refine ⟨fun s t dt hf active phase => ?_, fun s t dt hf active phase => ?_, fun s t dt ht keepWarm limited due => ?_,
    fun s t dt x mac ht keepWarm high woken => ?_, fun s t dt x mac ht keepWarm high woken u powered refused => ?_,
    fun s t dt x mac c ht keepWarm high u w r ts powered chain resumed carafe accepted wakes restored v restored' =>
      ⟨fun byFail => ?_, fun byCmd woken => ?_⟩,
    fun s t dt hf noDecant room noHeld => ⟨fun e l next => ?_, fun noEntry noSummary due => ?_⟩,
    fun s t dt x mac c ht keepWarm high woken u powered carafe accepted stays => ?_⟩
  · obtain ⟨c, saved⟩ := State.doSeal_saves active phase
    exact ⟨t.doSeal, c, exec_seal hf, saved⟩
  · have enters := State.doKeepWarmEntry_enters active phase
    exact ⟨t.doKeepWarmEntry, (exec_keepWarmEntry hf).trans (next_settle_off rfl (by rw [enters.1]; decide)), enters⟩
  · subst ht
    exact (exec_keepExpired ..).trans (next_settle_off (State.doKeepExpired_due keepWarm limited due) (keepWarm.trans_ne (by decide)))
  · subst ht
    exact (exec_keepWarmExit ..).trans
      (next_settle_off (State.doKeepWarmExit_falls x mac keepWarm high woken) (keepWarm.trans_ne (by decide)))
  · subst ht
    exact (exec_keepWarmExit ..).trans (next_settle (State.doKeepWarmExit_refused x mac keepWarm high woken powered refused))
  · subst ht chain resumed restored
    exact (exec_keepWarmExit ..).trans (next_settle ((State.doKeepWarmExit_resumes x mac keepWarm high
      (fun h => absurd (byFail.symm.trans h) Bool.false_ne_true) powered carafe accepted wakes restored').trans
        (by rw [byFail, if_neg Bool.false_ne_true])))
  · subst ht chain resumed restored
    exact (exec_keepWarmExit ..).trans (next_settle ((State.doKeepWarmExit_resumes x mac keepWarm high
      (fun _ => woken) powered carafe accepted wakes restored').trans (by rw [if_pos byCmd])))
  · rw [exec_decantAbandoned hf, State.doDecantAbandoned_entry noDecant room noHeld next]
  · rw [exec_decantAbandoned hf, State.doDecantAbandoned_ends noDecant room noHeld noEntry noSummary due]
  · subst ht
    exact (exec_keepWarmExit ..).trans
      (next_settle (State.doKeepWarmExit_noWake x mac keepWarm high woken powered carafe accepted stays))

end Sys2Proof

namespace Sys2Proof.Machine
section

/-! ### What leaves the slot power controllers as they are

Only the rows of 14_slot_power.md change them: a surprise removal (R239) takes a link down and clears its packets, its trackers
and its locks, and none of that touches a slot. One frame lemma for each operation on that way. -/

theorem foldl_spc {β : Type} {f : State → β → State} (h : ∀ u x, (f u x).spc = u.spc) (l : List β) (s : State) :
    (l.foldl f s).spc = s.spc :=
  foldl_keeps (fun a b : State => b.spc = a.spc) f (fun _ => rfl) (fun _ _ _ h g => g.trans h) h l s

theorem ite_spc {c : Prop} [Decidable c] (a b : State) : (if c then a else b).spc = if c then a.spc else b.spc :=
  apply_ite State.spc c a b

section
variable (s : State)

@[simp] theorem State.event_spc (e : Rec) : (s.event e).spc = s.spc := (s.event_only e).spc

@[simp] theorem State.writeRecord_spc (r : RingId) (bytes : List Byte) (force : Bool) :
    (s.writeRecord r bytes force).spc = s.spc := (s.writeRecord_only r bytes force).spc

/-! The lanes, keys and events of a port (R239). -/

@[simp] theorem State.unpin_spc (p : Nat) : (s.unpin p).spc = s.spc := by
  refine foldl_spc (fun u n => ?_) _ s
  rfl

@[simp] theorem State.clearKeys_spc (p : Nat) : (s.clearKeys p).spc = s.spc := by
  simp [State.clearKeys, ite_spc]

@[simp] theorem State.cntPcp_spc (p k : Nat) (n : Nat) : (s.cntPcp p k n).spc = s.spc := by
  unfold State.cntPcp
  split <;> rfl

@[simp] theorem State.cfgOr_spc (f : Fn) (dw m : Nat) : (s.cfgOr f dw m).spc = s.spc := rfl

@[simp] theorem State.cfgClear_spc (f : Fn) (dw m : Nat) : (s.cfgClear f dw m).spc = s.spc := rfl

@[simp] theorem State.sbCount_spc (part : Nat) : (s.sbCount part).spc = s.spc := rfl

@[simp] theorem State.makeJob_spc (h : Hdr) (port : Option Nat) (payload : List Byte) :
    (s.makeJob h port payload).spc = s.spc := rfl

@[simp] theorem State.loseRecord_spc (r : RingId) (n : Nat) : (s.loseRecord r n).2.spc = s.spc := rfl

@[simp] theorem State.sbEmit_spc (port id code : Nat) (data : List Byte) : (s.sbEmit port id code data).spc = s.spc := by
  simp [State.sbEmit, ite_spc]

@[simp] theorem State.sbForward_spc (e port code reqId : Nat) (data : List Byte) :
    (s.sbForward e port code reqId data).spc = s.spc := by
  simp [State.sbForward, ite_spc]

@[simp] theorem State.sideband_spc (e port code reqId : Nat) (data : List Byte) :
    (s.sideband e port code reqId data).spc = s.spc := by
  simp [State.sideband, ite_spc]

@[simp] theorem State.dllChange_spc (p : Nat) (up : Bool) : (s.dllChange p up).spc = s.spc := by
  simp [State.dllChange, ite_spc]

/-! What a packet holds in queues, links and resequencers. -/

@[simp] theorem State.unq_spc (i d : Nat) : (s.unq i d).spc = s.spc := rfl

@[simp] theorem State.slotDue_spc (p which bytes : Nat) : (s.slotDue p which bytes).spc = s.spc := rfl

@[simp] theorem State.cntSgl_spc (p k : Nat) (n : Nat) : (s.cntSgl p k n).spc = s.spc := by
  unfold State.cntSgl
  split <;> rfl

@[simp] theorem State.abortSend_spc (i d : Nat) : (s.abortSend i d).spc = s.spc := by
  unfold State.abortSend
  split <;> simp [ite_spc]

@[simp] theorem State.unstall_spc (i : Nat) : (s.unstall i).spc = s.spc := rfl

@[simp] theorem State.unwait_spc (i n : Nat) : (s.unwait i n).spc = s.spc := by
  simp [State.unwait, ite_spc]

@[simp] theorem State.unplace_spc (i d : Nat) : (s.unplace i d).spc = s.spc := by
  unfold State.unplace
  split <;> simp

/-! Abandoned writes and failed posted writes. -/

@[simp] theorem State.listEntry_spc (source : Nat) (write : Bool) (e : List Byte) :
    (s.listEntry source write e).spc = s.spc := by
  simp [State.listEntry, ite_spc]

@[simp] theorem State.abandon_spc (source kind code : Nat) (f : Pwf) : (s.abandon source kind code f).spc = s.spc := by
  simp [State.abandon, ite_spc]

@[simp] theorem State.failRecord_spc (v : Nat) (bytes : List Byte) : (s.failRecord v bytes).spc = s.spc := by
  simp [State.failRecord, ite_spc]

@[simp] theorem State.aer_spc (fn : Fn) (e : AerErr) (msg : Nat) (h : Option Hdr) : (s.aer fn e msg h).spc = s.spc := rfl

@[simp] theorem State.logHeader_spc (f : Fn) (bit : Nat) (h : Option Hdr) : (s.logHeader f bit h).spc = s.spc := by
  refine foldl_spc (fun u k => ?_) _ s
  rfl

@[simp] theorem State.logAer_spc (f : Fn) (e : AerErr) (h : Option Hdr) : (s.logAer f e h).spc = s.spc := by
  simp [State.logAer, ite_spc]

@[simp] theorem State.pwfRecord_spc (v : Nat) (f : Pwf) : (s.pwfRecord v f).spc = s.spc := by
  simp [State.pwfRecord, ite_spc]

@[simp] theorem State.returnCrema_spc (l : Option Nat) : (s.returnCrema l).spc = s.spc := by
  unfold State.returnCrema
  split <;> rfl

@[simp] theorem State.putCrema_spc (l : Nat) (msg : List Byte) (arr : Option Nat) (made : Bool) :
    (s.putCrema l msg arr made).spc = s.spc := by
  simp [State.putCrema, ite_spc]

@[simp] theorem State.sendCrema_spc (dst : Nat) (msg : List Byte) (arr : Option Nat) (made : Bool) :
    (s.sendCrema dst msg arr made).2.spc = s.spc := by
  unfold State.sendCrema
  split
  · exact State.putCrema_spc ..
  · rfl

@[simp] theorem State.pwf_spc (idx : Option Nat) (f : Pwf) : (s.pwf idx f).spc = s.spc := by
  unfold State.pwf
  dsimp only
  split
  · exact State.abandon_spc ..
  · split <;> simp

@[simp] theorem State.pwfPkt_spc (p : Pkt) (h : Hdr) (cause : Nat) (mirror : Option (Nat × Nat)) :
    (s.pwfPkt p h cause mirror).spc = s.spc := by
  simp [State.pwfPkt]

/-! Counts of flows and the buffer. -/

@[simp] theorem State.checkFlow_spc (k : Nat) : (s.checkFlow k).spc = s.spc := by
  unfold State.checkFlow
  split
  · dsimp only
    split <;> rfl
  · rfl

@[simp] theorem State.cmtResolve_spc (f : Option (Nat × Nat)) (cause : Nat) (dec : Bool) :
    (s.cmtResolve f cause dec).spc = s.spc := by
  unfold State.cmtResolve
  split
  · rfl
  · dsimp only
    split <;> simp

@[simp] theorem State.sealSamples_spc (i : Nat) : (s.sealSamples i).spc = s.spc := rfl

@[simp] theorem State.toScan_spc (i : Nat) : (s.toScan i).spc = s.spc := rfl

@[simp] theorem State.setOcc_spc (a t : Nat) (o : Occ) : (s.setOcc a t o).spc = s.spc := rfl

@[simp] theorem State.returnCredits_spc (ing : Ingress) (pool cells life : Nat) :
    (s.returnCredits ing pool cells life).spc = s.spc := by
  unfold State.returnCredits
  split <;> simp [ite_spc]

@[simp] theorem State.uncharge_spc (p : Pkt) : (s.uncharge p).spc = s.spc := by
  simp [State.uncharge, ite_spc]

@[simp] theorem State.admission_spc (a t n e : Nat) : (s.admission a t n e).2.spc = s.spc := by
  unfold State.admission
  dsimp only
  split
  · rfl
  · split <;> rfl

@[simp] theorem State.pmcAdd_spc (i n : Nat) : (s.pmcAdd i n).spc = s.spc := by
  simp [State.pmcAdd, ite_spc]

@[simp] theorem State.ev_spc (g e unit tc : Nat) (n : Nat) : (s.ev g e unit tc n).spc = s.spc := by
  simp [State.ev, foldl_spc]

@[simp] theorem State.tryMove_spc (i : Nat) : (s.tryMove i).2.spc = s.spc := by
  unfold State.tryMove
  dsimp only
  split
  · rfl
  next u admitted =>
    have kept := s.admission_spc (s.pkt i).acct (s.pkt i).tc (s.pkt i).ncells (s.pkt i).epoch
    rw [admitted] at kept
    simpa using kept

@[simp] theorem State.retryList_spc (blocked : List Nat) (y : List Nat) : (s.retryList blocked y).spc = s.spc := by
  induction y generalizing s blocked with
  | nil => rfl
  | cons i is ih =>
    unfold State.retryList
    dsimp only
    split
    · exact ih ..
    · have kept := s.tryMove_spc i
      split
      next u moved =>
        rw [moved] at kept
        exact (ih ..).trans kept
      · exact ih ..

@[simp] theorem State.retryAdmission_spc : s.retryAdmission.spc = s.spc := by
  simp [State.retryAdmission]

@[simp] theorem State.freePkt_spc (i : Nat) : (s.freePkt i).spc = s.spc := by
  simp [State.freePkt, ite_spc]

@[simp] theorem State.destDone_spc (i d : Nat) : (s.destDone i d).spc = s.spc := by
  simp [State.destDone, ite_spc]

@[simp] theorem State.copyFail_spc (i d cause : Nat) : (s.copyFail i d cause).spc = s.spc := by
  simp [State.copyFail, ite_spc]

/-! Answers and packets that end. -/

@[simp] theorem State.freeTrk_spc (t : Option Nat) : (s.freeTrk t).spc = s.spc := by
  unfold State.freeTrk
  split <;> rfl

@[simp] theorem State.paint_spc (i : Nat) : (s.paint i).spc = s.spc := rfl

@[simp] theorem State.notify_spc (o : Origin) (status : Nat) (data : List Byte) (lost : Bool) :
    (s.notify o status data lost).spc = s.spc := by
  cases o <;> rfl

@[simp] theorem State.answerAs_spc (i st id : Nat) : (s.answerAs i st id).spc = s.spc := by
  unfold State.answerAs
  dsimp only
  split
  · simp
  · split <;> simp

@[simp] theorem State.answer_spc (i st : Nat) : (s.answer i st).spc = s.spc := by
  simp [State.answer]

@[simp] theorem State.undeliverable_spc (i d cause : Nat) : (s.undeliverable i d cause).spc = s.spc := by
  unfold State.undeliverable
  dsimp only
  split
  · exact State.copyFail_spc ..
  · split <;> simp

@[simp] theorem State.endPacket_spc (i : Nat) : (s.endPacket i).spc = s.spc := by
  simp [State.endPacket, ite_spc, foldl_spc]

@[simp] theorem State.deadCopy_spc (i d port : Nat) : (s.deadCopy i d port).spc = s.spc := by
  simp [State.deadCopy]

@[simp] theorem State.refusePosted_spc (p : Pkt) : (s.refusePosted p).spc = s.spc := by
  unfold State.refusePosted
  split <;> simp [ite_spc]

@[simp] theorem State.answerRx_spc (i st : Nat) : (s.answerRx i st).spc = s.spc := by
  simp [State.answerRx]

@[simp] theorem State.deadPort_spc (i port : Nat) : (s.deadPort i port).spc = s.spc := by
  unfold State.deadPort
  dsimp only
  split <;> simp [ite_spc]

@[simp] theorem State.dropAt_spc (i d port : Nat) : (s.dropAt i d port).spc = s.spc := by
  simp [State.dropAt, ite_spc]

@[simp] theorem State.endRxTx_spc (p : Nat) : (s.endRxTx p).spc = s.spc := by
  unfold State.endRxTx
  dsimp only
  rw [foldl_spc fun u x => by simp]
  split <;> simp

@[simp] theorem State.dropQueues_spc (p : Nat) : (s.dropQueues p).spc = s.spc := by
  simp [State.dropQueues, ite_spc, foldl_spc]

/-! Trackers. -/

@[simp] theorem State.quarantine_spc (t : Trk) (tmo : Nat) : (s.quarantine t tmo).spc = s.spc := rfl

@[simp] theorem State.checkTrk_spc (k : Nat) : (s.checkTrk k).2.spc = s.spc := by
  unfold State.checkTrk
  split <;> rfl

@[simp] theorem State.closeWhere_spc (pick : Trk → Bool) (f : State → Nat → State) (h : ∀ u k, (f u k).spc = u.spc) :
    (s.closeWhere pick f).spc = s.spc := by
  simp [State.closeWhere, ite_spc, foldl_spc, h]

@[simp] theorem State.dropTrk_spc (k : Nat) : (s.dropTrk k).spc = s.spc := by
  unfold State.dropTrk
  dsimp only
  split
  · simp
  · split <;> simp

@[simp] theorem State.closeVs_spc (v : Nat) : (s.closeVs v).spc = s.spc := by
  simp [State.closeVs]

@[simp] theorem State.completeIn_spc (k st : Nat) : (s.completeIn k st).spc = s.spc := rfl

@[simp] theorem State.completeOut_spc (k st : Nat) (lost : Bool) : (s.completeOut k st lost).spc = s.spc := by
  unfold State.completeOut
  dsimp only
  split
  · split <;> simp
  · simp

@[simp] theorem State.closeTrk_spc (k st : Nat) (lost : Bool) : (s.closeTrk k st lost).spc = s.spc := by
  simp [State.closeTrk, ite_spc]

@[simp] theorem State.closeEp_spc (p : Nat) : (s.closeEp p).spc = s.spc := by
  simp [State.closeEp]

/-! Locks (R200 to R202). -/

@[simp] theorem State.lockSend_spc (dst ty reason owner target id : Nat) (here : State → State) (h : ∀ u, (here u).spc = u.spc) :
    (s.lockSend dst ty reason owner target id here).spc = s.spc := by
  simp [State.lockSend, ite_spc, h]

@[simp] theorem State.setLock_spc (v : Nat) (x : Lock) : (s.setLock v x).spc = s.spc := rfl

@[simp] theorem State.failLocked_spc (v : Nat) : (s.failLocked v).spc = s.spc := by
  simp [State.failLocked, foldl_spc]

@[simp] theorem State.lockBroken_spc (owner target id : Nat) : (s.lockBroken owner target id).spc = s.spc := by
  unfold State.lockBroken
  dsimp only
  split <;> simp [ite_spc]

@[simp] theorem State.lockGranted_spc (owner target id : Nat) : (s.lockGranted owner target id).spc = s.spc := by
  unfold State.lockGranted
  split
  · rfl
  · dsimp only
    split
    · refine (foldl_spc (fun u i => ?_) _ _).trans rfl
      rfl
    · rfl

@[simp] theorem State.arbNext_spc : s.arbNext.spc = s.spc := by
  unfold State.arbNext
  split <;> simp

@[simp] theorem State.arbFree_spc (owner target id : Nat) : (s.arbFree owner target id).spc = s.spc := by
  unfold State.arbFree
  dsimp only
  split <;> simp [ite_spc]

@[simp] theorem State.lockBreak_spc (reason owner target id : Nat) : (s.lockBreak reason owner target id).spc = s.spc := by
  simp [State.lockBreak, ite_spc]

@[simp] theorem State.linkDown_spc (p : Nat) : (s.linkDown p).spc = s.spc := by
  unfold State.linkDown
  split
  · rfl
  · lift_lets
    intro v r c stat s1 s2 s3 s4 s5 s6 mine
    have cleared : s3.spc = s.spc := by simp [s3, s2, s1]
    have closed : s4.spc = s3.spc := by simp [s4, ite_spc]
    have unlocked : s5.spc = s4.spc := by
      simp only [s5]
      split <;> simp [ite_spc]
    have freed : s6.spc = s5.spc := by simp [s6, ite_spc]
    have all := freed.trans (unlocked.trans (closed.trans cleared))
    split <;> exact all

/-! The slot's own events (R386, R393). -/

@[simp] theorem State.fresh_spc : s.fresh.2.spc = s.spc := rfl

@[simp] theorem State.slotEvent_spc (n bit code : Nat) : (s.slotEvent n bit code).spc = s.spc := by
  unfold State.slotEvent
  split <;> simp [ite_spc]

@[simp] theorem State.showPresence_spc (n : Nat) (on : Bool) : (s.showPresence n on).spc = s.spc := by
  unfold State.showPresence
  split <;> simp [ite_spc]

end
end
end Sys2Proof.Machine

namespace Sys2Proof.Machine
section
variable {s : State} {n : Nat}

/-! ### What a controller holds after its gates have turned off (R393, R398) -/

@[simp] theorem State.gates_spc (s : State) (n : Nat) (on : Bool) : (s.gates n on).spc = s.spc := (s.gates_only n on).spc

@[simp] theorem State.slotPg_spc (s : State) (p : Nat) (good : Bool) : (s.slotPg p good).spc = s.spc := (s.slotPg_only p good).spc

/-- What a controller holds depends on the slot controllers alone. -/
theorem State.spcSt_of_spc {u : State} (h : u.spc = s.spc) (n : Nat) : u.spcSt n = s.spcSt n := by
  rw [State.spcSt, State.spcSt, h]

@[simp] theorem State.spcSt_count (s : State) (k m n : Nat) : (s.count k m).spcSt n = s.spcSt n := rfl

@[simp] theorem State.spcSt_raise (s : State) (k : FaultKind) (i j b n : Nat) : (s.raise k i j b).spcSt n = s.spcSt n := rfl

@[simp] theorem State.spcSt_gates (s : State) (m : Nat) (on : Bool) (n : Nat) : (s.gates m on).spcSt n = s.spcSt n :=
  State.spcSt_of_spc (s.gates_spc m on) n

theorem State.spcOff_spcSt (s : State) (n cause next : Nat) : (s.spcOff n cause next).spcSt n =
    { s.spcSt n with st := next, pg := false, cause := cause, offAt := some (s.now : Int) } := by
  have off : (s.spcOff n cause next).spc = (s.setSpc n { s.spcSt n with
      st := next, pg := false, cause := cause, offAt := some (s.now : Int) }).spc := by
    unfold State.spcOff
    dsimp only
    split <;> simp
  rw [State.spcSt_of_spc off, State.spcSt_setSpc]

theorem State.spcTrip_spcSt (s : State) (n cause : Nat) : (s.spcTrip n cause).spcSt n =
    { s.spcSt n with st := 4, pg := false, cause := cause, offAt := some (s.now : Int) } := by
  have trips : (s.spcTrip n cause).spc = (s.spcOff n cause 4).spc := by simp [State.spcTrip]
  rw [State.spcSt_of_spc trips, State.spcOff_spcSt]

/-- The loss of presence of a controller whose gates are off leaves the slot controllers as they are. -/
theorem State.spcGone_spc (off : ¬ ((s.spcSt n).st = 2 ∨ (s.spcSt n).st = 3)) : (s.spcGone n).spc = s.spc := by
  unfold State.spcGone
  dsimp only
  rw [if_neg off]
  split
  · split <;> simp
  · simp

theorem State.spcGone_spcSt {c : SpcSt} (off : c.st = 0 ∨ c.st = 4) : ((s.setSpc n c).spcGone n).spcSt n = c := by
  rw [State.spcSt_of_spc (State.spcGone_spc ?_), State.spcSt_setSpc]
  rw [State.spcSt_setSpc]
  omega

/-! ### The parts of a sample (R386 to R393) -/

section
variable {c : SpcSt} {fast lim pg : Bool}

section
variable (on : c.st = 2 ∨ c.st = 3)
include on

theorem State.spcInput_inWindow : (s.setSpc n c).spcInput n true true = s.setSpc n { c with outs := (0, 0) } := by
  have powered : ¬ (c.st ≠ 2 ∧ c.st ≠ 3) := by omega
  simp [State.spcInput, powered]

/-- The fourth sample in a row with a rail's input outside its window turns the gates off. -/
theorem State.spcInput_out {in12 in3 : Bool} {o : Nat × Nat}
    (outs : o = (if in12 = true then 0 else c.outs.1 + 1, if in3 = true then 0 else c.outs.2 + 1)) (fourth : o.1 ≥ 4 ∨ o.2 ≥ 4) :
    (s.setSpc n c).spcInput n in12 in3 =
      (((s.setSpc n { c with outs := o }).spcOff n 4 5).count (R.SPC_CNT n 4)).raise Flt.SPC_INPUT n n := by
  have powered : ¬ (c.st ≠ 2 ∧ c.st ≠ 3) := by omega
  simp only [State.spcInput, State.spcSt_setSpc, State.setSpc_setSpc, powered, ← outs, ↓reduceIte]
  exact if_pos (by rw [outs] at fourth; exact fourth)

theorem State.spcCount_fast : (s.setSpc n c).spcCount n true lim pg = (s.setSpc n c).spcTrip n 1 := by
  have powered : ¬ (c.st ≠ 2 ∧ c.st ≠ 3) := by omega
  simp only [State.spcCount, State.spcSt_setSpc, powered, ↓reduceIte]

/-- In limit, the sample at which the count reaches FLT_TMO_US trips. -/
theorem State.spcCount_timer (due : c.count + 1 ≥ s.fld (R.SPC_TIMING n) F.SPC_TIMING_FLT_TMO_US) :
    (s.setSpc n c).spcCount n false true pg = (s.setSpc n { c with count := c.count + 1 }).spcTrip n 2 := by
  have powered : ¬ (c.st ≠ 2 ∧ c.st ≠ 3) := by omega
  simp only [State.spcCount, State.spcSt_setSpc, State.setSpc_setSpc, powered, Bool.false_eq_true, ↓reduceIte]
  exact if_pos due

end

theorem State.spcCount_off (off : (s.spcSt n).st ≠ 2 ∧ (s.spcSt n).st ≠ 3) : s.spcCount n fast lim pg = s := if_pos off

theorem State.spcCount_limits (on : c.st = 3) (below : c.count + 1 < s.fld (R.SPC_TIMING n) F.SPC_TIMING_FLT_TMO_US) :
    (s.setSpc n c).spcCount n false true pg = s.setSpc n { c with count := c.count + 1 } := by
  have powered : ¬ (c.st ≠ 2 ∧ c.st ≠ 3) := by omega
  simp only [State.spcCount, State.spcSt_setSpc, State.setSpc_setSpc, powered, Bool.false_eq_true, ↓reduceIte]
  exact (if_neg below.not_ge).trans (if_neg (by omega))

theorem State.spcCount_rampTmo (ramps : c.st = 2) {k : Nat} (count : k = if c.samples % 8 = 0 then c.count - 1 else c.count)
    (below : k < s.fld (R.SPC_TIMING n) F.SPC_TIMING_FLT_TMO_US)
    (late : s.now - c.rampAt ≥ 1000000 * s.fld (R.SPC_TIMING n) F.SPC_TIMING_PG_TMO_MS) :
    (s.setSpc n c).spcCount n false false false = (s.setSpc n { c with count := k }).spcTrip n 3 := by
  have powered : ¬ (c.st ≠ 2 ∧ c.st ≠ 3) := by omega
  simp only [State.spcCount, State.spcSt_setSpc, State.setSpc_setSpc, powered, ← count, Bool.false_eq_true, ↓reduceIte]
  exact (if_neg below.not_ge).trans ((if_pos ramps).trans ((if_neg fun h => h.2).trans (if_pos late)))

/-- The start conditions together turn the gates on and start the ramp. -/
theorem State.spcStart_ramps (waits : c.st = 1) (en : c.en = true) (present : c.present = true) (idle : c.offAt = none)
    (inserted : s.now - c.gained ≥ 1000000 * s.fld (R.SPC_TIMING n) F.SPC_TIMING_INS_DLY_MS) :
    (s.setSpc n c).spcStart n true = ((s.setSpc n { c with
      st := 2, count := 0, rampAt := s.now, outs := (0, 0) }).gates n true).count (R.SPC_CNT n 0) := by
  simp only [State.spcStart, State.spcSt_setSpc, State.setSpc_setSpc, waits, en, present, idle, OfNat.one_ne_ofNat, true_and,
    Bool.not_false, and_self, and_true, ↓reduceIte]
  exact if_pos inserted

/-- The end of the re-arm hold leads to WAIT, or to OFF while the enable is 0. -/
theorem State.spcStart_rearms {o : Int} (holds : c.st = 5) (offAt : c.offAt = some o)
    (ended : (s.now : Int) - o ≥ 1000000 * (s.fld (R.SPC_TIMING n) F.SPC_TIMING_REARM_MS : Int)) (inWin : Bool) :
    (s.setSpc n c).spcStart n inWin = s.setSpc n { c with st := if c.en = true then 1 else 0 } := by
  simp only [State.spcStart, State.spcSt_setSpc, State.setSpc_setSpc, holds, offAt, ↓reduceIte]
  exact if_neg fun h => ended.not_gt (of_decide_eq_true h)

theorem State.spcStart_rests (rests : (s.spcSt n).st ≠ 5 ∧ (s.spcSt n).st ≠ 1) (inWin : Bool) : s.spcStart n inWin = s :=
  (if_neg rests.1).trans (if_neg fun h => rests.2 h.1)

/-- A sample that finds the card present, as it was, keeps presence. -/
theorem State.spcPresence_kept (present : c.present = true) (noHigh : c.highs = 0) :
    (s.setSpc n c).spcPresence n true = s.setSpc n c := by
  rw [State.spcPresence, State.spcSt_setSpc, if_pos rfl, if_pos present, if_pos ⟨present, noHigh⟩, State.setSpc_setSpc]
  cases c
  cases present
  cases noHigh
  rfl

section
variable {v : State}

/-- A trip is taken by the row of its cause, from every state but LATCHED. -/
theorem State.trip_taken {a : SpcSt} (open' : a.st ≠ 4) (cause : Nat) :
    (a.st != 4 && ((v.spcTrip n cause).spcSt n).st == 4 && ((v.spcTrip n cause).spcSt n).cause == cause) = true := by
  simp [State.spcTrip_spcSt, open']

end

theorem State.spcOnly_taken {x : SpcIn} {p : SpcSt → SpcSt → Bool} {u : State} (ends : s.doSpcSample n x = u)
    (taken : p (s.spcSt n) (u.spcSt n) = true) : s.spcOnly n x p = u := by
  subst ends
  exact if_pos taken

/-! ### A sample (R391) -/

/-- What a sample reads of the rails' inputs, limits and outputs. -/
structure RailsRead (s : State) (n : Nat) (x : SpcIn) (in12 in3 inWin lim fast pg : Bool) : Prop where
  noAvg : x.avg = none
  window12 : in12 = s.railIn n 0 x.r12
  window3 : in3 = s.railIn n 1 x.r3
  windows : inWin = (in12 && in3)
  limit : lim = (s.railLim n 0 x.r12 || s.railLim n 1 x.r3)
  trip : fast = (s.railFast n 0 x.r12.shunt || s.railFast n 1 x.r3.shunt)
  good : pg = (s.railPg n 0 x.r12 && s.railPg n 1 x.r3)

section
variable {x : SpcIn} {d : SpcSt} {in12 in3 inWin : Bool} (state : c = s.spcSt n)
  (rails : RailsRead s n x in12 in3 inWin lim fast pg)
  (sampled : d = { c with samples := c.samples + 1, inWindow := inWin, inLimit := lim })
include state rails sampled

theorem State.doSpcSample_eq {u : State} (seen : u = (s.setSpc n d).spcPresence n x.present) : s.doSpcSample n x =
    if (u.spcSt n).st = 2 ∨ (u.spcSt n).st = 3 then (u.spcInput n in12 in3).spcCount n fast lim pg else u.spcStart n inWin := by
  subst state sampled seen
  obtain ⟨noAvg, window12, window3, windows, limit, trip, good⟩ := rails
  simp only [State.doSpcSample, noAvg, ← window12, ← window3, ← windows, ← limit, ← trip, ← good]

section
variable (low : x.present = true) (present : c.present = true) (noHigh : c.highs = 0)
include low present noHigh

omit state rails in
theorem State.spcPresence_sampled : s.setSpc n d = (s.setSpc n d).spcPresence n x.present := by
  rw [low, State.spcPresence_kept (by rw [sampled]; exact present) (by rw [sampled]; exact noHigh)]

theorem State.doSpcSample_powered (on : c.st = 2 ∨ c.st = 3) :
    s.doSpcSample n x = ((s.setSpc n d).spcInput n in12 in3).spcCount n fast lim pg := by
  rw [State.doSpcSample_eq state rails sampled (State.spcPresence_sampled sampled low present noHigh),
    State.spcSt_setSpc, if_pos (by rw [sampled]; exact on)]

theorem State.doSpcSample_unpowered (off : ¬ (c.st = 2 ∨ c.st = 3)) : s.doSpcSample n x = (s.setSpc n d).spcStart n inWin := by
  rw [State.doSpcSample_eq state rails sampled (State.spcPresence_sampled sampled low present noHigh),
    State.spcSt_setSpc, if_neg (by rw [sampled]; exact off)]

/-- With both inputs inside their windows the sample goes on to the count. -/
theorem State.doSpcSample_inWindow (on : c.st = 2 ∨ c.st = 3) (inside : inWin = true) :
    s.doSpcSample n x = (s.setSpc n { d with outs := (0, 0) }).spcCount n fast lim pg := by
  obtain ⟨h12, h3⟩ : in12 = true ∧ in3 = true := by rw [rails.windows, Bool.and_eq_true] at inside; exact inside
  rw [State.doSpcSample_powered state rails sampled low present noHigh on, h12, h3,
    State.spcInput_inWindow (by rw [sampled]; exact on)]

section
variable (inside : inWin = true) (noFast : fast = false) (limits : lim = true)
include inside noFast limits

theorem State.doTimerTrip_trips (on : c.st = 2 ∨ c.st = 3) (due : c.count + 1 ≥ s.fld (R.SPC_TIMING n) F.SPC_TIMING_FLT_TMO_US) :
    s.doTimerTrip n x = (s.setSpc n { d with outs := (0, 0), count := c.count + 1 }).spcTrip n 2 := by
  have st : d.st = c.st := by rw [sampled]
  have count : d.count = c.count := by rw [sampled]
  rw [← count] at due ⊢
  have trips := State.doSpcSample_inWindow state rails sampled low present noHigh on inside
  rw [noFast, limits, State.spcCount_timer (c := { d with outs := (0, 0) }) (st ▸ on) due] at trips
  exact State.spcOnly_taken trips (State.trip_taken (by rw [← state]; omega) 2)

theorem State.doSpcSample_limits (on : c.st = 3) (below : c.count + 1 < s.fld (R.SPC_TIMING n) F.SPC_TIMING_FLT_TMO_US) :
    s.doSpcSample n x = s.setSpc n { d with outs := (0, 0), count := c.count + 1 } := by
  have st : d.st = c.st := by rw [sampled]
  have count : d.count = c.count := by rw [sampled]
  rw [← count] at below ⊢
  rw [State.doSpcSample_inWindow state rails sampled low present noHigh (.inr on) inside, noFast, limits,
    State.spcCount_limits (c := { d with outs := (0, 0) }) (st.trans on) below]

end

theorem State.doSpcSample_fast (on : c.st = 2 ∨ c.st = 3) (inside : inWin = true) (reached : fast = true) :
    s.doSpcSample n x = (s.setSpc n { d with outs := (0, 0) }).spcTrip n 1 := by
  have st : d.st = c.st := by rw [sampled]
  rw [State.doSpcSample_inWindow state rails sampled low present noHigh on inside, reached,
    State.spcCount_fast (c := { d with outs := (0, 0) }) (st ▸ on)]

/-- The fourth sample in a row with one rail's input outside its window turns the gates off. -/
theorem State.doInputOff_turns (on : c.st = 2 ∨ c.st = 3)
    (fourth : (in12 = false ∧ c.outs.1 ≥ 3) ∨ (in3 = false ∧ c.outs.2 ≥ 3)) : s.doInputOff n x =
      (((s.setSpc n { d with outs := (if in12 = true then 0 else c.outs.1 + 1, if in3 = true then 0 else c.outs.2 + 1) }).spcOff
        n 4 5).count (R.SPC_CNT n 4)).raise Flt.SPC_INPUT n n := by
  have st : d.st = c.st := by rw [sampled]
  have outs : d.outs = c.outs := by rw [sampled]
  have fourth' : (if in12 = true then 0 else d.outs.1 + 1) ≥ 4 ∨ (if in3 = true then 0 else d.outs.2 + 1) ≥ 4 := by
    rw [outs]
    rcases fourth with ⟨h, many⟩ | ⟨h, many⟩
    · rw [h]; exact .inl (Nat.succ_le_succ many)
    · rw [h]; exact .inr (Nat.succ_le_succ many)
  have ends := State.doSpcSample_powered state rails sampled low present noHigh on
  rw [State.spcInput_out (st ▸ on) rfl fourth', outs] at ends
  generalize turned : State.raise _ Flt.SPC_INPUT n n = u at ends ⊢
  have held : (u.spcSt n).st = 5 ∧ (u.spcSt n).cause = 4 := by
    rw [← turned, State.spcSt_raise, State.spcSt_count, State.spcOff_spcSt]
    exact ⟨rfl, rfl⟩
  rw [State.spcCount_off (by omega)] at ends
  refine State.spcOnly_taken ends ?_
  rw [← state, held.1, held.2]
  rcases on with h | h <;> rw [h] <;> rfl

theorem State.doRampTmo_trips (ramps : c.st = 2) (inside : inWin = true) (noFast : fast = false) (noLimit : lim = false)
    (bad : pg = false) {k : Nat} (counts : k = if (c.samples + 1) % 8 = 0 then c.count - 1 else c.count)
    (below : k < s.fld (R.SPC_TIMING n) F.SPC_TIMING_FLT_TMO_US)
    (late : s.now - c.rampAt ≥ 1000000 * s.fld (R.SPC_TIMING n) F.SPC_TIMING_PG_TMO_MS) :
    s.doRampTmo n x = (s.setSpc n { d with outs := (0, 0), count := k }).spcTrip n 3 := by
  have st : d.st = c.st := by rw [sampled]
  have counts' : k = if d.samples % 8 = 0 then d.count - 1 else d.count := by rw [counts, sampled]
  have late' : s.now - d.rampAt ≥ 1000000 * s.fld (R.SPC_TIMING n) F.SPC_TIMING_PG_TMO_MS := by rw [sampled]; exact late
  have trips := State.doSpcSample_inWindow state rails sampled low present noHigh (.inl ramps) inside
  rw [noFast, noLimit, bad, State.spcCount_rampTmo (c := { d with outs := (0, 0) }) (st.trans ramps) counts' below late'] at trips
  exact State.spcOnly_taken trips (State.trip_taken (by rw [← state]; omega) 3)

theorem State.doInsertionEnd_ramps (waits : c.st = 1) (en : c.en = true) (inside : inWin = true) (idle : c.offAt = none)
    (inserted : s.now - c.gained ≥ 1000000 * s.fld (R.SPC_TIMING n) F.SPC_TIMING_INS_DLY_MS) : s.doInsertionEnd n x =
      ((s.setSpc n { d with st := 2, count := 0, rampAt := s.now, outs := (0, 0) }).gates n true).count (R.SPC_CNT n 0) := by
  have starts := State.doSpcSample_unpowered state rails sampled low present noHigh (by omega)
  rw [inside, State.spcStart_ramps (by rw [sampled]; exact waits) (by rw [sampled]; exact en) (by rw [sampled]; exact present)
    (by rw [sampled]; exact idle) (by rw [sampled]; exact inserted)] at starts
  refine State.spcOnly_taken starts ?_
  rw [← state, waits, State.spcSt_count, State.spcSt_gates, State.spcSt_setSpc]
  rfl

theorem State.doRearmEnd_ends {o : Int} (holds : c.st = 5) (offAt : c.offAt = some o)
    (ended : (s.now : Int) - o ≥ 1000000 * (s.fld (R.SPC_TIMING n) F.SPC_TIMING_REARM_MS : Int)) :
    s.doRearmEnd n x = s.setSpc n { d with st := if c.en = true then 1 else 0 } := by
  have en : d.en = c.en := by rw [sampled]
  have ends := State.doSpcSample_unpowered state rails sampled low present noHigh (by omega)
  rw [State.spcStart_rearms (by rw [sampled]; exact holds) (by rw [sampled]; exact offAt) ended] at ends
  rw [← en]
  refine State.spcOnly_taken ends ?_
  rw [← state, holds, State.spcSt_setSpc]
  cases d.en <;> rfl

end

/-- The eighth sample in a row with PRSNT_N high, of a controller whose gates are off. -/
theorem State.doSpcSample_gone (high : x.present = false) (present : c.present = true) (seventh : c.highs ≥ 7)
    (off : c.st = 0 ∨ c.st = 4) : s.doSpcSample n x = (s.setSpc n { d with highs := 8, present := false }).spcGone n := by
  have eighth : d.present = true ∧ min 8 (d.highs + 1) = 8 := by
    rw [sampled]
    exact ⟨present, min_eq_left (Nat.succ_le_succ seventh)⟩
  have lost : (s.setSpc n { d with highs := 8, present := false }).spcGone n = (s.setSpc n d).spcPresence n x.present := by
    rw [high, State.spcPresence, State.spcSt_setSpc, if_neg Bool.false_ne_true, if_pos eighth, State.setSpc_setSpc, eighth.1,
      eighth.2]
    rfl
  have kept : (((s.setSpc n { d with highs := 8, present := false }).spcGone n).spcSt n).st = c.st := by
    rw [State.spcGone_spcSt (by rw [sampled]; exact off), sampled]
  rw [State.doSpcSample_eq state rails sampled lost, kept, if_neg (by omega), State.spcStart_rests (by rw [kept]; omega)]

theorem State.doPresenceLost_loses (high : x.present = false) (present : c.present = true) (seventh : c.highs ≥ 7)
    (off : c.st = 0 ∨ c.st = 4) : s.doPresenceLost n x = (s.setSpc n { d with highs := 8, present := false }).spcGone n := by
  refine State.spcOnly_taken (State.doSpcSample_gone state rails sampled high present seventh off) ?_
  rw [← state, present, State.spcGone_spcSt (by rw [sampled]; exact off)]
  rfl

end
end
end
end Sys2Proof.Machine

namespace Sys2Proof
open Machine

/-- Settles O32: each outcome of a sample by the part of it that decides, and for a row that takes one outcome alone by what the
controller then holds. -/
theorem slotSamples : Obligations.SlotSamples := by
  unfold Obligations.SlotSamples
  intro s t dt n x c d in12 in3 inWin lim fast pg hf state noAvg window12 window3 windows limit trip good sampled
  have rails : RailsRead t n x in12 in3 inWin lim fast pg := ⟨noAvg, window12, window3, windows, limit, trip, good⟩
  refine ⟨fun low present noHigh => ⟨fun on => ⟨fun inside reached => ?_, fun inside noFast limits due => ?_,
      fun inside noFast limits below on3 => ?_, fun fourth => ?_⟩,
    fun k ramps inside noFast noLimit bad counts below late => ?_, fun waits en inside inserted idle => ?_,
    fun o holds offAt ended => ?_⟩, fun high present seventh off => ?_⟩
  · rw [exec_spcSample hf, State.doSpcSample_fast state rails sampled low present noHigh on inside reached]
  · rw [exec_timerTrip hf, State.doTimerTrip_trips state rails sampled low present noHigh inside noFast limits on due]
  · rw [exec_spcSample hf, State.doSpcSample_limits state rails sampled low present noHigh inside noFast limits on3 below]
  · rw [exec_inputTurnOff hf, State.doInputOff_turns state rails sampled low present noHigh on fourth]
  · rw [exec_rampTmo hf,
      State.doRampTmo_trips state rails sampled low present noHigh ramps inside noFast noLimit bad counts below late]
  · rw [exec_insertionDelayEnd hf,
      State.doInsertionEnd_ramps state rails sampled low present noHigh waits en inside idle inserted]
  · rw [exec_rearmHoldEnd hf, State.doRearmEnd_ends state rails sampled low present noHigh holds offAt ended]
  · rw [exec_presenceLost hf, State.doPresenceLost_loses state rails sampled high present seventh off]

end Sys2Proof
